-- ==== Sys2Proof/Word.lean ====
section
/-! DEFINITION. The word types of the Olbrim 6208 and their plainest arithmetic. -/

namespace Sys2Proof

/-- One byte of the board memory or of a message (R198, R199). -/
abbrev Byte := BitVec 8

/-- One 32-bit word: a register, a beat, a stamp, a sequence number, a change number (R163, R169, R181). -/
abbrev Word := BitVec 32

/-- An attempt token (R45) or any other 16-bit field of a link message. -/
abbrev Token := BitVec 16

/-- A number as a 32-bit word. -/
def w32 (n : Nat) : Word := BitVec.ofNat 32 n

/-- A flag as a word: 1 when set. -/
def flagWord (b : Bool) : Word := if b then 1#32 else 0#32

end Sys2Proof
end

