-- ==== Sys2Proof/Syntax.lean ====
section
/-! DEFINITION. The commands of the part: one constructor per row of spec/opcode_table.json. -/

namespace Sys2Proof

/-- The steps a piecer reports in an attempt, in order (R47). -/
inductive AttemptStep
  | approach | brake | find | thread | join | release | verify
deriving DecidableEq, Repr

/-- The outcomes of a RESULT report (R50). -/
inductive Outcome
  | joined | noEnd | threadFail | joinFail | noRoving | abandoned
deriving DecidableEq, Repr

/-- The drive states of a STATE report (R190). -/
inductive DriveState
  | running | stopped | atDoff | doffing | fault
deriving DecidableEq, Repr

/-- The registers of R163 that REGISTER_WRITE reaches (CTL and ATT have rows of their own). -/
inductive HostRegister
  | area | atm | pst | flt
deriving DecidableEq, Repr

/-- The control field of a unit's reply (R188, R189, R199): its ack toggle and its report sequence. -/
structure Reply where
  ack : Bool
  seq : Bool
deriving DecidableEq, Repr

/-- One word the host has written into the board memory: its byte address and its value (R168). -/
abbrev HostWrite := Nat × Word

/-- The commands. An order carries the parameter words of its cell as R198 codes them (11.2.2);
a report carries its reply's control bits and the fields of R190. Frames are numbered 1-8, piecers
1-8, carriers 1-4, sides by their codes 1-16. -/
inductive Instr
  /-- POWER_ON_RESET (R163). -/
  | powerOnReset
  /-- SRST (R163). -/
  | srst
  /-- RUN_SET (R164). -/
  | runSet
  /-- RUN_CLEAR (R164). -/
  | runClear
  /-- LOOK (R172). -/
  | look
  /-- RESUME (R184). -/
  | resume
  /-- ATT_WRITE (R167): the word written. -/
  | attWrite (value : Word)
  /-- REGISTER_WRITE (R163). -/
  | registerWrite (reg : HostRegister) (value : Word)
  /-- SWEEP_TIMER (R2): expiry of a frame's sweep timer. -/
  | sweepTimer (frame : Nat)
  /-- STRIP_READ (R1): the bytes of the reply on the frame's sensor line. -/
  | stripRead (frame : Nat) (reply : List Byte)
  /-- STRIP_NO_REPLY (R1). -/
  | stripNoReply (frame : Nat)
  /-- ROLLER_PULSE (R130). -/
  | rollerPulse (frame : Nat)
  /-- SHIFT_TIMER (R139). -/
  | shiftTimer
  /-- BOARD_SCAN (R172): expiry of the scan timer. -/
  | boardScan
  /-- CUT_OUT (R15). -/
  | cutOut (frame spindle : Word)
  /-- CLEAR_CUTOUT (R16). -/
  | clearCutout (frame first last : Word)
  /-- CLEAR_SLIP (R17). -/
  | clearSlip (frame first last : Word)
  /-- SELF_CHECK (R18). -/
  | selfCheck (frame strip : Word)
  /-- TABLE_READ (R35). -/
  | tableRead
  /-- PIECER_PLACE (R75). -/
  | piecerPlace (piecer target : Word)
  /-- DOFF_NOW (R83). -/
  | doffNow (frame : Word)
  /-- FRAME_STOP (R96). -/
  | frameStop (frame : Word)
  /-- FRAME_START (R100). -/
  | frameStart (frame : Word)
  /-- CREEL_CHANGE (R123). -/
  | creelChange (frame creel : Word)
  /-- SHIFT_CLOSE (R145). -/
  | shiftClose
  /-- PLAN_SWITCH (R154). -/
  | planSwitch (copy mode : Word)
  /-- WITHDRAW (R176). -/
  | withdraw (seq : Word)
  /-- ATTEMPT_TIMEOUT (R49). -/
  | attemptTimeout (piecer : Nat)
  /-- TRAVEL_TIMEOUT (R72). -/
  | travelTimeout (piecer : Nat)
  /-- RETURN_PLACE_TIMEOUT (R78). -/
  | returnPlaceTimeout (piecer : Nat)
  /-- STOP_TIMEOUT (R92). -/
  | stopTimeout (frame : Nat)
  /-- DOFF_TIMEOUT (R92). -/
  | doffTimeout (frame : Nat)
  /-- CHANGE_TIMEOUT (R119). -/
  | changeTimeout (carrier : Nat)
  /-- RETURN_TIMEOUT (R120). -/
  | returnTimeout (carrier : Nat)
  /-- VISIT_START (R187). -/
  | visitStart
  /-- IDLE_CYCLE (R185). -/
  | idleCycle
  /-- REPLY_WINDOW_END (R187). -/
  | replyWindowEnd
  /-- BAD_REPLY (R187): whether the reply began after the window, and its bytes. -/
  | badReply (late : Bool) (message : List Byte)
  /-- NOTHING (R189). -/
  | nothing (reply : Reply)
  /-- STATE (R99): the drive state and the metres since doff. -/
  | state (reply : Reply) (drive : DriveState) (metres : Word)
  /-- AT_DOFF_POSITION (R90). -/
  | atDoffPosition (reply : Reply)
  /-- DOFF_DONE (R91). -/
  | doffDone (reply : Reply)
  /-- DRIVE_FAULT (R98). -/
  | driveFault (reply : Reply)
  /-- AT_SIDE (R71). -/
  | atSide (reply : Reply) (side position : Nat)
  /-- STEP (R47). -/
  | step (reply : Reply) (token : Token) (stage : AttemptStep) (position : Nat)
  /-- RESULT (R50). -/
  | result (reply : Reply) (token : Token) (outcome : Outcome)
  /-- HELD (R117). -/
  | held (reply : Reply) (token : Token)
  /-- REFUSED_HOLD (R117). -/
  | refusedHold (reply : Reply) (token : Token)
  /-- PARKED (R73). -/
  | parked (reply : Reply)
  /-- FAULT (R77). -/
  | fault (reply : Reply)
  /-- LOADED (R114). -/
  | loaded (reply : Reply) (lot : Token)
  /-- ARRIVED (R116). -/
  | arrived (reply : Reply)
  /-- CHANGE_DONE (R118). -/
  | changeDone (reply : Reply)
  /-- CHANGE_FAULT (R119). -/
  | changeFault (reply : Reply)
  /-- RETURNED (R120). -/
  | returned (reply : Reply)
  /-- MEMORY_BEAT (R181): the words the host has written to the board memory before this beat. -/
  | memoryBeat (host : List HostWrite)
  /-- BUS_GRANT (R181). -/
  | busGrant
  /-- BUS_YIELD (R181): the host's words written before the beat that completes. -/
  | busYield (host : List HostWrite)
  /-- BEAT_ERROR (R182). -/
  | beatError
  /-- GRANT_TIMEOUT (R181). -/
  | grantTimeout
deriving DecidableEq, Repr

end Sys2Proof
end

