-- ==== Sys2Proof/WellFormed.lean ====
section
/-! DEFINITION. Which commands name things that exist: the ranges of 5.1 and R190. An order's parameters
are any words (R174 and the owners refuse those out of range), so orders have no check here. -/

namespace Sys2Proof

/-- A frame number (5.1). -/
def frameOk (n : Nat) : Bool := 1 ≤ n && n ≤ 8

/-- A piecer number (5.1). -/
def piecerOk (n : Nat) : Bool := 1 ≤ n && n ≤ 8

/-- A carrier number (5.1). -/
def carrierOk (n : Nat) : Bool := 1 ≤ n && n ≤ 4

/-- A side code (R198). -/
def sideOk (n : Nat) : Bool := 1 ≤ n && n ≤ 16

/-- A spindle number of some side (5.1, R190). -/
def spindleOk (n : Nat) : Bool := 1 ≤ n && n ≤ 1824

/-- The metres since doff of a STATE report (R190). -/
def metresOk (m : Word) : Bool := m.toNat ≤ 4294967

/-- A host write reaches a whole word of the 32-bit board address space. -/
def hostWriteOk (h : HostWrite) : Bool := h.1 % 4 == 0 && h.1 < 4294967296

/-- A command whose operands name things that exist. -/
def Instr.wellFormed : Instr → Bool
  | .sweepTimer f | .stripRead f _ | .stripNoReply f | .rollerPulse f => frameOk f
  | .stopTimeout f | .doffTimeout f => frameOk f
  | .attemptTimeout p | .travelTimeout p | .returnPlaceTimeout p => piecerOk p
  | .changeTimeout c | .returnTimeout c => carrierOk c
  | .state _ _ m => metresOk m
  | .atSide _ side pos => sideOk side && spindleOk pos
  | .step _ _ _ pos => spindleOk pos
  | .memoryBeat h | .busYield h => h.all hostWriteOk
  | .powerOnReset | .srst | .runSet | .runClear | .look | .resume => true
  | .attWrite _ | .registerWrite _ _ => true
  | .shiftTimer | .boardScan => true
  | .cutOut _ _ | .clearCutout _ _ _ | .clearSlip _ _ _ | .selfCheck _ _ | .tableRead => true
  | .piecerPlace _ _ | .doffNow _ | .frameStop _ | .frameStart _ | .creelChange _ _ => true
  | .shiftClose | .planSwitch _ _ | .withdraw _ => true
  | .visitStart | .idleCycle | .replyWindowEnd | .badReply _ _ | .nothing _ => true
  | .atDoffPosition _ | .doffDone _ | .driveFault _ => true
  | .result _ _ _ | .held _ _ | .refusedHold _ _ | .parked _ | .fault _ => true
  | .loaded _ _ | .arrived _ | .changeDone _ | .changeFault _ | .returned _ => true
  | .busGrant | .beatError | .grantTimeout => true

end Sys2Proof
end

