-- ==== Sys2Proof/Decode.lean ====
section
/-! DEFINITION. Words to commands. No row of spec/opcode_table.json gives bits (every row is an event or
a host operation of the block), so no word spells a command. -/

namespace Sys2Proof

/-- The command that an `nbits`-bit word spells by the table's bits: none, since the table gives no row bits. -/
def decodeTableWord (_nbits _w : Nat) : Option Instr := none

end Sys2Proof
end

