-- ==== Sys2Proof/Config.lean ====
section
/-! DEFINITION. What the implementation fixes, and the values the manual leaves open. -/

namespace Sys2Proof.Config

/-- The unit link's reply window (R187), in ms. -/
def replyWindowMs : Nat := 2

/-- The wait for XGNT that is a GRANT_TIMEOUT (R181), in ms. -/
def grantTimeoutMs : Nat := 10

/-- Entries of one end list (R37). -/
def endListRoom : Nat := 64

/-- Entries of the change queue (R110). -/
def changeQueueRoom : Nat := 32

/-- Entries of the order book (R171). -/
def orderBookRoom : Nat := 16

/-- Entries of the pending list of the journal (R179). -/
def pendingListRoom : Nat := 32

/-- Commands of one unit's queue (R191). -/
def unitQueueRoom : Nat := 4

/-- The named values whose code R198 does not settle: they stand in no list of their owning chapter,
or first stand in two (log entry 7). The others are coded by their places. -/
inductive OpenCode
  /-- the result word STOPPED of a FRAME_START (R97) -/
  | stopped
  /-- the result word START of a cell found TAKEN at start (R177) -/
  | start
  /-- the unit kinds of UNIT_LOST and UNIT_BACK (R192, R193) -/
  | driveKind | piecerKind | carrierKind
deriving DecidableEq, Repr

/-- Free values (log entry 7): the code of a name that R198 does not settle. Nothing may rest on it. -/
opaque openCode : OpenCode → Word

/-- A free value (log entry 7): whether the mode takes the low half of PLAN_SWITCHED's F5
(11.2.3 says that mode and boundary cause share it as two halves, not which is which). -/
opaque switchModeLow : Bool

end Sys2Proof.Config
end

