-- ==== Sys2Proof/Machine/State.lean ====
section
/-! DEFINITION. The state of the part, block by block (spec/00_scope.md, 2), as plain data, and its value after
reset. A record kind with many members is a sparse table: a list of (number, record) pairs with rising numbers that
leaves out every record equal to its reset record. -/

namespace Sys2Proof.Machine

/-- The part raises no fault of its own: a memory fault (R182) and a start fault (R165) are states, not stops.
No constructor: no command stops the machine. -/
inductive Fault
deriving DecidableEq, Repr

/-- Why a command has no meaning in this model. -/
inductive Refusal
  /-- raised by `exec` for a command with no meaning yet; safe -/
  | notModelled (mnemonic : String)
deriving DecidableEq, Repr

/-- A timer: whether it runs, and the time left in ms (a paused timer stands with time left). -/
structure Timer where
  running : Bool
  left : Nat
deriving DecidableEq, Repr

/-- A stopped timer with no time left. -/
def Timer.off : Timer := ⟨false, 0⟩

/-! ### Registers and part states (R163, R164) -/

/-- The part states of R164. -/
inductive PartState
  | halted | starting | running | windingDown | stalled
deriving DecidableEq, Repr

/-- The start fault codes of R163. -/
inductive StartFault
  | none | badHeader | planInvalid | memoryFault | noTallyPage
deriving DecidableEq, Repr

/-- The kinds of memory fault shown in FLT (R163). -/
inductive FaultKind
  | grantTimeout | busError
deriving DecidableEq, Repr

/-- The attention causes of R167, in the order of their bits. -/
inductive Cause
  | order | journal | tally | alarm | unit | fault
deriving DecidableEq, Repr

/-- Where STARTING stands among the steps of R165. -/
inductive StartStep
  | header | plan | planFault | census | writes | pages
deriving DecidableEq, Repr

/-- Where RESUME stands among the steps of R184. -/
inductive ResumeStep
  | rewrite | cells | journal
deriving DecidableEq, Repr

/-- Where the end of winding down stands: its steps 3 and 4 (R166). -/
inductive EndStep
  | writing | lostWord
deriving DecidableEq, Repr

/-- The registers and the part state (R163, R164). -/
structure Regs where
  area : Word
  run : Bool
  part : PartState
  resume : Option PartState
  startFault : StartFault
  att : Word
  atm : Word
  flt : Word
  start : Option StartStep
  rewriting : Option ResumeStep
  ending : Option EndStep
deriving DecidableEq, Repr

/-! ### Spindle Watch (chapter 1) -/

/-- The nine states of a spindle (R5). -/
inductive SpindleState
  | absent | settling | running | down | piecing | proving | starved | cutOut | checking
deriving DecidableEq, Repr

/-- Why a spindle is CUT_OUT (R5). -/
inductive CutCause
  | rogue | attempts | manual | noRoving | sensor
deriving DecidableEq, Repr

/-- The classes of a break (R5). -/
inductive BreakClass
  | run | doffStart | proveFail | starve
deriving DecidableEq, Repr

/-- A spindle record (R5). Bit i of history is the result i sweeps back, 1 for high. -/
structure Spindle where
  state : SpindleState
  listed : Bool
  slip : Bool
  attempts : Nat
  cutCause : Option CutCause
  lastClass : Option BreakClass
  history : BitVec 32
  since : Nat
  saved : Option SpindleState
deriving DecidableEq, Repr

/-- The spindle record after reset (R24). -/
def Spindle.reset : Spindle :=
  ⟨.absent, false, false, 0, none, none, 0#32, 0, none⟩

/-- A self-check running on a strip (R18): loop sweeps done, and the positions marked failed (bit i for position i + 1). -/
structure LoopCheck where
  sweeps : Nat
  failed : BitVec 24
deriving DecidableEq, Repr

/-- A strip record (R3, R18). -/
structure Strip where
  blind : Bool
  badRun : Nat
  goodRun : Nat
  check : Option LoopCheck
deriving DecidableEq, Repr

/-- The strip record after reset (R24). -/
def Strip.reset : Strip := ⟨false, 0, 0, none⟩

/-- A frame's sweeping (R2): its timer, the period the timer was last loaded with, and the sections of the sweep in
progress still to be read (the first is the one addressed; empty between sweeps). -/
structure Sweep where
  timer : Timer
  period : Nat
  left : List Nat
deriving DecidableEq, Repr

/-- The sweep record after reset (R24). -/
def Sweep.reset : Sweep := ⟨Timer.off, 0, []⟩

/-- Spindle Watch: spindles by key (R26), strips by section number 1-608, sweeps by frame. -/
structure Watch where
  spindles : List (Nat × Spindle)
  strips : List (Nat × Strip)
  sweeps : List (Nat × Sweep)
deriving DecidableEq, Repr

/-! ### Repeat-Breaker Table (chapter 2) -/

/-- An entry of the table (R25). -/
structure RogueEntry where
  valid : Bool
  key : Nat
  count : Nat
  firstStamp : Word
deriving DecidableEq, Repr

/-- An invalid entry (R25). -/
def RogueEntry.reset : RogueEntry := ⟨false, 0, 0, 0#32⟩

/-- The three recency choices of a set (R27): true is the value 1. -/
structure Recency where
  pair : Bool
  low : Bool
  high : Bool
deriving DecidableEq, Repr

/-- The recency choices after reset (R25). -/
def Recency.reset : Recency := ⟨false, false, false⟩

/-- The table: entries by set × 4 + way, choices by set. -/
structure RogueTable where
  entries : List (Nat × RogueEntry)
  recency : List (Nat × Recency)
deriving DecidableEq, Repr

/-! ### Piecing Dispatcher (chapters 3 and 4) -/

/-- An end list entry (R37). The class is absent for a spindle that has had no break since start. -/
structure EndEntry where
  spindle : Nat
  stamp : Word
  cls : Option BreakClass
deriving DecidableEq, Repr

/-- A side record (R37, R41, R65). -/
structure Side where
  entries : List EndEntry
  backlog : Nat
  oldest : Option Word
  piecer : Option Nat
deriving DecidableEq, Repr

/-- The side record after reset (R63). -/
def Side.reset : Side := ⟨[], 0, none, none⟩

/-- The states of a piecer (R64). -/
inductive PiecerState
  | absent | parked | moving | onSide | attempting | held | lost
deriving DecidableEq, Repr

/-- Who decides where a piecer goes (R64). -/
inductive Placement
  | pool | side | park
deriving DecidableEq, Repr

/-- A piecer record (R42, R45 to R49, R64). `byLink` and `lostStamp` say how and when a LOST piecer was lost (R77, R78). -/
structure Piecer where
  state : PiecerState
  side : Option Nat
  home : Option Nat
  placement : Placement
  atBay : Bool
  parkOwed : Bool
  atFrameEnd : Bool
  returned : Bool
  byLink : Bool
  lostStamp : Word
  travel : Timer
  position : Option Nat
  descending : Bool
  counter : Token
  current : Option Token
  void : Option Token
  spindle : Option Nat
  stage : Option AttemptStep
  attempt : Timer
deriving DecidableEq, Repr

/-- The piecer record after reset (R63, R79). -/
def Piecer.reset : Piecer :=
  ⟨.absent, none, none, .pool, false, false, false, false, false, 0#32, Timer.off, none, false, 0#16, none, none,
    none, none, Timer.off⟩

/-- The Dispatcher: sides by code 1-16, piecers 1-8. -/
structure Dispatcher where
  sides : List (Nat × Side)
  piecers : List (Nat × Piecer)
deriving DecidableEq, Repr

/-! ### Frame Sequencer (chapter 5) -/

/-- The states of a frame (R80). -/
inductive FrameState
  | out | halted | restarting | building | nearing | called | draining | stopping | doffing
deriving DecidableEq, Repr

/-- Why a frame was called (R80). -/
inductive CallCause
  | compare | doffNow | owed | plan
deriving DecidableEq, Repr

/-- How far a doff's finish has come (R80). -/
inductive DoffFinish
  | none | pending | made
deriving DecidableEq, Repr

/-- Why a frame is HALTED (R80). -/
inductive HaltCause
  | order | driveFault | driveStopped | stopTimeout | doffTimeout | census | noDrive | plan
deriving DecidableEq, Repr

/-- A frame record (R80), the frame's attention bits (R167), and what its DOFF_NOW order gives back (R83): the mill
clock of the drive's DOFF_DONE report and build_m when the frame entered DRAINING. -/
structure Frame where
  state : FrameState
  buildM : Nat
  doffOwed : Bool
  slot : Option Nat
  callStamp : Option Word
  callCause : Option CallCause
  doffFinish : DoffFinish
  grace : Option Nat
  stopTimer : Timer
  doffTimer : Timer
  haltCause : Option HaltCause
  alarm : Bool
  unit : Bool
  doneStamp : Word
  drainBuild : Nat
deriving DecidableEq, Repr

/-- The frame record after reset (R104). -/
def Frame.reset : Frame :=
  ⟨.out, 0, false, none, none, none, .none, none, Timer.off, Timer.off, none, false, false, 0#32, 0⟩

/-! ### Roving Supply (chapter 6) -/

/-- The states of a section (R105). -/
inductive SectionState
  | fed | low | queued | changing | lotHold
deriving DecidableEq, Repr

/-- Who holds or waits for a section lock (R105). -/
inductive Holder
  | none
  | piecer (p : Nat)
  | carrier (c : Nat)
deriving DecidableEq, Repr

/-- A section record (R105). -/
structure Creel where
  remaining : Nat
  state : SectionState
  queueStamp : Option Word
  carrier : Option Nat
  lock : Holder
  waiting : Holder
  holdSent : Bool
  orderSeq : Option Word
deriving DecidableEq, Repr

/-- The section record after reset, or out of plan (R105, R128). -/
def Creel.reset : Creel := ⟨0, .fed, none, none, .none, .none, false, none⟩

/-- The states of a carrier (R112). -/
inductive CarrierState
  | absent | idle | loading | travel | waitLock | working | returning | fault | lost
deriving DecidableEq, Repr

/-- A carrier record (R112): the section by its number 1-608, the mill clock of the dispatch (R118), and the time left
shown in the mirror, taken at each change of state (R127). -/
structure Carrier where
  state : CarrierState
  creel : Option Nat
  lotSent : Option Token
  lotLoaded : Option Token
  change : Timer
  back : Timer
  dispatched : Word
  shownLeft : Nat
deriving DecidableEq, Repr

/-- The carrier record after reset (R128). -/
def Carrier.reset : Carrier := ⟨.absent, none, none, none, Timer.off, Timer.off, 0#32, 0⟩

/-- A frame's roving carry and delivery rate, with the sweep period of the rate (R106, R107). -/
structure Feed where
  carry : Nat
  rate : Nat
  period : Nat
deriving DecidableEq, Repr

/-- The carry and rate after reset (R128). -/
def Feed.reset : Feed := ⟨0, 0, 0⟩

/-- Roving Supply: sections by number 1-608, the change queue of section numbers (head first), carriers 1-4, feeds by frame. -/
structure Roving where
  creels : List (Nat × Creel)
  queue : List Nat
  carriers : List (Nat × Carrier)
  feeds : List (Nat × Feed)
deriving DecidableEq, Repr

/-! ### Output Counter (chapter 7) -/

/-- A roller counter (R129). -/
structure Roller where
  prescaler : Nat
  revolutions : Word
  lastCapture : Word
  lengthCarry : Nat
  build : Nat
  nearingValue : Nat
  doffValue : Nat
  lastRunning : Nat
  stopMark : Option Word
deriving DecidableEq, Repr

/-- The roller counter after reset (R129). -/
def Roller.reset : Roller := ⟨0, 0#32, 0#32, 0, 0, 0, 0, 0, none⟩

/-- A frame's tally accumulators and its weight sum (R135, R136). -/
structure Counts where
  frontMm : Nat
  spindleMm : Nat
  weightSum : Nat
  runningSweeps : Nat
  plannedSweeps : Nat
  stopDs : Nat
  breakRun : Nat
  breakDoffStart : Nat
  breakProveFail : Nat
  breakStarve : Nat
  pieced : Nat
  pieceFailures : Nat
  cutRogue : Nat
  cutAttempts : Nat
  cutManual : Nat
  cutNoRoving : Nat
  cutSensor : Nat
  doffs : Nat
  creelChanges : Nat
  lotMismatches : Nat
  slips : Nat
deriving DecidableEq, Repr

/-- Accumulators at the opening of a page (R141). -/
def Counts.reset : Counts := ⟨0, 0, 0, 0, 0, 0, 0, 0, 0, 0, 0, 0, 0, 0, 0, 0, 0, 0, 0, 0, 0⟩

/-- The stages of a tally page (7.5). -/
inductive PageStage
  | free | opened | closed
deriving DecidableEq, Repr

/-- The causes of an opening or closing (R135). -/
inductive PageCause
  | start | shiftTimer | shiftClose | partStop
deriving DecidableEq, Repr

/-- The header of the open page (R135). -/
structure OpenPage where
  number : Nat
  stamp : Word
  cause : PageCause
  merged : Nat
deriving DecidableEq, Repr

/-- A page closed and not yet written CLOSED: its final content (R138). -/
structure ClosedPage where
  page : OpenPage
  closeStamp : Word
  closeCause : PageCause
  counts : List (Nat × Counts)
deriving DecidableEq, Repr

/-- The page writes a SHIFT_CLOSE waits for (R145): the closing write of `page`, and the opening write of `opens`, or for an
absorbed boundary the rewrite of `page`, which `opens` is then. -/
structure ShiftWait where
  absorbed : Bool
  page : Nat
  opens : Nat
  stamp : Word
  merged : Nat
  closeLeft : Bool
  openLeft : Bool
  openBegun : Bool
deriving DecidableEq, Repr

/-- The words read of a page's header at start (R146, R148). -/
structure FoundPage where
  page : Nat
  stamp : Word
  merged : Word
deriving DecidableEq, Repr

/-- The Output Counter: rollers and accumulators by frame, the open page, the view of pages 1-4 (R137), the shift timer,
a SHIFT_CLOSE's waiting, and the pages read so far at start. -/
structure Output where
  rollers : List (Nat × Roller)
  counts : List (Nat × Counts)
  page : Option OpenPage
  view : List (Nat × Option PageStage)
  shift : Timer
  wait : Option ShiftWait
  found : List FoundPage
deriving DecidableEq, Repr

/-! ### Plan Store (chapter 8) -/

/-- The plan copies (R149). -/
inductive PlanCopy
  | p | q
deriving DecidableEq, Repr

/-- The modes of a switch (R154). -/
inductive SwitchMode
  | now | shiftEnd
deriving DecidableEq, Repr

/-- The settings of one frame in a plan (8.3.2). -/
structure FrameSettings where
  inPlan : Bool
  spindles : Nat
  tex : Nat
  draft : Nat
  circumference : Nat
  pulses : Nat
  doffLength : Nat
  nearingMargin : Nat
  grace : Nat
  lot : Nat
  fullRoving : Nat
  lowThreshold : Nat
  starts : List Nat
deriving DecidableEq, Repr

/-- A frame out of plan (R151). -/
def FrameSettings.out : FrameSettings := ⟨false, 0, 0, 0, 0, 0, 0, 0, 0, 0, 0, 0, []⟩

/-- The settings of a plan copy (8.3.1): sweep period and scan interval in ms, timeouts in s, rogue window and shift
length in min, home sides by side code with 0 for NONE, the frames 1 to 8 in order. -/
structure Settings where
  sweepPeriod : Nat
  scanInterval : Nat
  passThreshold : Nat
  kd : Nat
  ku : Nat
  slipLimit : Nat
  rogueLimit : Nat
  rogueWindow : Nat
  attemptLimit : Nat
  attemptTimeout : Nat
  travelTimeout : Nat
  lendThreshold : Nat
  doffSlots : Nat
  stopTimeout : Nat
  doffTimeout : Nat
  changeTimeout : Nat
  shiftLength : Nat
  journalThreshold : Nat
  homes : List Nat
  frames : List FrameSettings
deriving DecidableEq, Repr

/-- What a block would read before the part has a plan; no block works from it (R149). -/
def Settings.absent : Settings := ⟨0, 0, 0, 0, 0, 0, 0, 0, 0, 0, 0, 0, 0, 0, 0, 0, 0, 0, [], []⟩

/-- The plan in force (R149). -/
structure Plan where
  copy : PlanCopy
  id : Word
  settings : Settings
deriving DecidableEq, Repr

/-- A pending switch (R149). -/
structure PendingPlan where
  plan : Plan
  seq : Word
deriving DecidableEq, Repr

/-- The three words of a failed validation (R152). -/
structure PlanFault where
  item : Nat
  frame : Nat
  field : Nat
deriving DecidableEq, Repr

/-- A plan copy being read (R150): which copy, and the words read so far, latest first. -/
structure PlanRead where
  copy : PlanCopy
  words : List Word
deriving DecidableEq, Repr

/-- The Plan Store (R149) with the plan_fault words (R162). -/
structure PlanStore where
  active : Option Plan
  pending : Option PendingPlan
  fault : PlanFault
  read : Option PlanRead
deriving DecidableEq, Repr

/-! ### Order Desk (chapter 9) -/

/-- The stages of an order cell (R171). -/
inductive CellStage
  | empty | posted | taken | done | refused
deriving DecidableEq, Repr

/-- The kinds of order (11.2.2). -/
inductive OrderKind
  | planSwitch | shiftClose | frameStop | frameStart | doffNow | cutOut | clearCutout | clearSlip | selfCheck
  | creelChange | piecerPlace | tableRead | withdraw
deriving DecidableEq, Repr

/-- The refusal reasons of R175. -/
inductive Reason
  | staleSeq | duplicate | invalid | pending | busy | notHalted | notRunning | alreadyCalled | occupied | full
  | tooLate | notFound | withdrawn | outOfRange | notPresent
deriving DecidableEq, Repr

/-- A cell read whole (R172): its number, seq, kind code, parameters, and whether it comes from the deferred list. -/
structure CellRead where
  cell : Nat
  seq : Word
  kind : Word
  p1 : Word
  p2 : Word
  p3 : Word
  p4 : Word
  deferred : Bool
deriving DecidableEq, Repr

/-- An entry of the order book (R174): the target is kept as the order's parameters. -/
structure BookEntry where
  cell : Nat
  seq : Word
  kind : OrderKind
  p1 : Word
  p2 : Word
deriving DecidableEq, Repr

/-- A finished cell and its answer (R175): no reason when DONE. -/
structure Answer where
  cell : Nat
  reason : Option Reason
  words : List Word
  stamp : Word
deriving DecidableEq, Repr

/-- Where a board scan stands among the steps of R172. -/
inductive ScanStep
  /-- step 1: the read mark is being read -/
  | readMark
  /-- step 2: the stage words of these pages are still to be read -/
  | pages (left : List Nat)
  /-- step 3: the stage words of these cells are still to be read, and these were read POSTED -/
  | stages (left posted : List Nat)
  /-- step 4: these cells are still to be read whole; whether the first is being read again; the words of it read so
  far; the cells read whole -/
  | cells (left : List Nat) (again : Bool) (words : List Word) (got : List CellRead)
  /-- step 5: these cells are still to be taken -/
  | taking (left : List CellRead)
deriving DecidableEq, Repr

/-- The Order Desk. `startCells` holds the cells whose stage words step 5 of STARTING has still to read. -/
structure Desk where
  lastTaken : Word
  scanFrom : Word
  view : List (Nat × CellStage)
  deferred : List (Nat × Word)
  book : List BookEntry
  held : List Answer
  scanTimer : Timer
  scan : Option ScanStep
  lookAgain : Bool
  readMark : Nat
  startCells : List Nat
deriving DecidableEq, Repr

/-! ### Report Writer (chapter 9) -/

/-- The kinds of journal entry, in the order of their codes (11.2.3). -/
inductive JournalKind
  | break | pieced | pieceFail | cutOut | cutCleared | slip | stripBlind | stripClear | checkDone | doffCalled
  | doffGranted | doffDone | doffFault | frameHalt | frameRun | sectionLow | sectionEmpty | creelDone | creelFault
  | lotMismatch | piecerMoved | unitLost | unitBack | staleReport | planSwitched | shiftClosed | boundaryAbsorbed | gap
deriving DecidableEq, Repr

/-- A journal entry (R178, 11.2.3). -/
structure JournalEntry where
  kind : JournalKind
  frame : Nat
  unit : Nat
  stamp : Word
  fields : List Word
deriving DecidableEq, Repr

/-- A snapshot of the repeat-breaker table (R35). -/
structure Snapshot where
  clock : Word
  limit : Nat
  window : Nat
  seq : Word
  table : RogueTable
deriving DecidableEq, Repr

/-- An item of the write queue (R170). Units are piecers 1-8 and carriers 9-12; sections and spindle map blocks go by
section number 1-608. -/
inductive WriteItem
  | header
  /-- the plan_fault words alone, at a start that fails (R153) -/
  | planFault
  | frame (n : Nat)
  | unit (n : Nat)
  | creel (n : Nat)
  | block (n : Nat)
  /-- the bytes behind a frame's spindle map blocks, written 0 (11.2) -/
  | mapTail (f : Nat)
  | openPage
  | closedPage (c : ClosedPage)
  /-- the closing of a page found OPEN at start (R146) -/
  | startClose (n : Nat)
  | dump (t : Snapshot)
  /-- a stage TAKEN alone (R171) -/
  | cellTaken (n : Nat)
  /-- a finished cell (R171) -/
  | cellDone (a : Answer)
  | journal (e : JournalEntry)
  /-- not a record: the end of the batch that a start, a RESUME or the end of winding down waits for -/
  | mark
deriving DecidableEq, Repr

/-- The update being written: its item, whether its change number is still being read, and the transfers left after the
one requested (first board offset and words). -/
structure Update where
  item : WriteItem
  readingNumber : Bool
  left : List (Nat × List Word)
deriving DecidableEq, Repr

/-- The Report Writer (R169, R170, R178, R179, R184). -/
structure Writer where
  writeMark : Nat
  capacity : Nat
  pending : List JournalEntry
  drops : Nat
  firstDrop : Word
  lastDrop : Word
  queue : List WriteItem
  current : Option Update
  numbers : List (Nat × Option Word)
  journalLost : Word
  heldPages : List ClosedPage
  heldDumps : List Snapshot
deriving DecidableEq, Repr

/-! ### Memory Port (R181, R182) -/

/-- The blocks that request transfers (R181). -/
inductive Requester
  | reportWriter | orderDesk | planStore | outputCounter
deriving DecidableEq, Repr

/-- A transfer (R181): its first board address, its beats, the next beat, and its words (to be written, or read so far). -/
structure Transfer where
  block : Requester
  write : Bool
  addr : Nat
  beats : Nat
  next : Nat
  words : List Word
deriving DecidableEq, Repr

/-- The Memory Port. -/
structure Port where
  current : Option Transfer
  waiting : List Transfer
  xreq : Bool
  granted : Bool
  grantTimer : Timer
  retried : Bool
deriving DecidableEq, Repr

/-! ### Unit Link (chapter 10) -/

/-- The commands of R190. -/
inductive Cmd
  | run | stop | stopAtDoff | doff | status
  | goto (side : Nat)
  | attempt (spindle : Nat) (token : Token)
  | hold (token : Token)
  | resume (token : Token)
  | abandon (token : Token)
  | park
  | load (lot : Token)
  | gotoCreel (frame creel : Nat)
  | change | ret
deriving DecidableEq, Repr

/-- The reports of R190 other than NOTHING. -/
inductive Report
  | state (d : DriveState) (metres : Nat)
  | atDoffPosition | doffDone | driveFault
  | atSide (side position : Nat)
  | step (token : Token) (stage : AttemptStep) (position : Nat)
  | result (token : Token) (outcome : Outcome)
  | held (token : Token)
  | refusedHold (token : Token)
  | parked | fault
  | loaded (lot : Token)
  | arrived | changeDone | changeFault | returned
deriving DecidableEq, Repr

/-- Whether a unit is visited (R186). -/
inductive Presence
  | absent | present | lost
deriving DecidableEq, Repr

/-- The cause of a miss (R186). -/
inductive Miss
  | noReply | badReply | wrongKind
deriving DecidableEq, Repr

/-- The kinds of unit (5.1). -/
inductive UnitKind
  | drive | piecer | carrier
deriving DecidableEq, Repr

/-- A unit record (R186). `sent` says that the queue's oldest command has been sent and is not yet delivered (R191);
`lostStamp` is the clock of the loss (R193). -/
structure Unit where
  presence : Presence
  misses : Nat
  lastMiss : Miss
  unitSeq : Bool
  resync : Bool
  ack : Bool
  queue : List Cmd
  headSeq : Option Bool
  sent : Bool
  lostStamp : Word
deriving DecidableEq, Repr

/-- The unit record after reset (R186). -/
def Unit.reset : Unit := ⟨.absent, 0, .noReply, false, true, false, [], none, false, 0#32⟩

/-- The visit open (R187): the address, the command carried (none for a POLL), the message sent, the reply window. -/
structure Visit where
  addr : Nat
  cmd : Option Cmd
  message : List Byte
  window : Timer
deriving DecidableEq, Repr

/-- The census (R194): the round, the next address, the addresses that answered round 1, those that gave a WRONG_KIND,
and the drives' results. -/
structure Census where
  round : Nat
  next : Nat
  answered : List Nat
  wrong : List Nat
  drives : List (Nat × DriveState × Nat)
deriving DecidableEq, Repr

/-- What the link does (R185): nothing, the census, or its cycles. -/
inductive LinkMode
  | off
  | census (c : Census)
  | cycling
deriving DecidableEq, Repr

/-- The Unit Link. -/
structure Link where
  units : List (Nat × Unit)
  mode : LinkMode
  cycle : Nat
  next : Nat
  visit : Option Visit
  idle : Option Timer
deriving DecidableEq, Repr

/-! ### The whole -/

/-- What an event has called for and not yet done (the model's own, empty between events; log entry 5): an evaluation of
the piecer arbiter (R66), a refill of the change queue (R111), sides to relist (R39), lost units whose owners are still
to be told (R192). -/
structure Work where
  arbiter : Bool
  refill : Bool
  relist : List Nat
  lost : List Nat
deriving DecidableEq, Repr

/-- Nothing owed. -/
def Work.done : Work := ⟨false, false, [], []⟩

/-- The state of the part, the board memory, and the commands waiting. -/
structure State where
  regs : Regs
  clock : Word
  clockMs : Nat
  watch : Watch
  rogue : RogueTable
  disp : Dispatcher
  frames : List (Nat × Frame)
  roving : Roving
  output : Output
  plan : PlanStore
  desk : Desk
  writer : Writer
  port : Port
  link : Link
  mem : List Host.Cell
  work : Work
  pending : List Instr
deriving DecidableEq, Repr

/-- The machine right after power-on reset: R163 (registers), R24, R25, R63, R79, R104, R128, R129, R146, R149, R171,
R178, R179, R184, R186; board memory with nothing listed; the values no rule gives are those of log entry 3. -/
def State.reset : State where
  regs := ⟨0#32, false, .halted, none, .none, 0#32, 0#32, 0#32, none, none, none⟩
  clock := 0#32
  clockMs := 0
  watch := ⟨[], [], []⟩
  rogue := ⟨[], []⟩
  disp := ⟨[], []⟩
  frames := []
  roving := ⟨[], [], [], []⟩
  output := ⟨[], [], none, [], Timer.off, none, []⟩
  plan := ⟨none, none, ⟨0, 0, 0⟩, none⟩
  desk := ⟨0#32, 0#32, [], [], [], [], Timer.off, none, false, 0, []⟩
  writer := ⟨0, 0, [], 0, 0#32, 0#32, [], none, [], 0#32, [], []⟩
  port := ⟨none, [], false, false, Timer.off, false⟩
  link := ⟨[], .off, 0, 1, none, none⟩
  mem := []
  work := Work.done
  pending := []

end Sys2Proof.Machine
end

