-- ==== Sys2Proof/Machine/Ops.lean ====
section
/-! DEFINITION. The named operations over the board memory, the records and the mirrors that every block uses:
reads, writes that mark the mirror showing the record, and the numbering of 5.1. -/

namespace Sys2Proof.Machine

/-! ### Sparse tables -/

/-- The record of number `n`; `d` where none is listed. -/
def tget {α : Type} (d : α) : List (Nat × α) → Nat → α
  | [], _ => d
  | (k, v) :: r, n => if n = k then v else tget d r n

/-- The table with record `n` set to `v`: numbers stay rising, and no record equal to `d` is listed. -/
def tput {α : Type} [DecidableEq α] (d : α) : List (Nat × α) → Nat → α → List (Nat × α)
  | [], n, v => if v = d then [] else [(n, v)]
  | (k, x) :: r, n, v =>
    if n < k then (if v = d then (k, x) :: r else (n, v) :: (k, x) :: r)
    else if n = k then (if v = d then r else (n, v) :: r)
    else (k, x) :: tput d r n v

/-- The canonical form: numbers rise strictly, and no record equals `d`. -/
def tableWf {α : Type} [DecidableEq α] (d : α) : List (Nat × α) → Bool
  | [] => true
  | [(_, v)] => decide (v ≠ d)
  | (k, v) :: (k', v') :: r => decide (v ≠ d) && decide (k < k') && tableWf d ((k', v') :: r)

/-- The numbers listed between `lo` and `hi`, rising. -/
def keysIn {α : Type} (t : List (Nat × α)) (lo hi : Nat) : List Nat :=
  (t.filter fun e => decide (lo ≤ e.1) && decide (e.1 ≤ hi)).map Prod.fst

/-- The numbers 1 to `n`. -/
def oneTo (n : Nat) : List Nat := (List.range n).map (· + 1)

/-! ### Board memory (R168, R198) -/

/-- The canonical form of the board memory: addresses rising, no byte of value 0 listed. -/
def Memory.wf (m : List Host.Cell) : Bool := tableWf 0#8 m

/-- The byte at a board address; what nothing has written reads 0 (log entry 4). -/
def State.byte (s : State) (a : Nat) : Byte := tget 0#8 s.mem (a % 4294967296)

/-- The memory with one byte written. -/
def putByte (m : List Host.Cell) (a : Nat) (b : Byte) : List Host.Cell := tput 0#8 m (a % 4294967296) b

/-- The word at a board address, least significant byte first (R198). -/
def State.word (s : State) (a : Nat) : Word :=
  (s.byte (a + 3) ++ s.byte (a + 2) ++ s.byte (a + 1) ++ s.byte a : BitVec 32)

/-- The memory with one word written, least significant byte first (R198). -/
def putWord (m : List Host.Cell) (a : Nat) (w : Word) : List Host.Cell :=
  putByte (putByte (putByte (putByte m a (w.extractLsb' 0 8)) (a + 1) (w.extractLsb' 8 8)) (a + 2)
    (w.extractLsb' 16 8)) (a + 3) (w.extractLsb' 24 8)

/-- The host's writes to the board memory, in order (R168). -/
def State.hostWrites (h : List HostWrite) (s : State) : State :=
  { s with mem := h.foldl (fun m x => putWord m x.1 x.2) s.mem }

/-- The board address of an offset in the common area (R163, 9.3). -/
def State.areaAddr (s : State) (offset : Nat) : Nat := (s.regs.area.toNat + offset) % 4294967296

/-! ### Timers and the mill clock -/

/-- A timer loaded with a time in ms and started. -/
def Timer.load (ms : Nat) : Timer := ⟨true, ms⟩

/-- A timer stopped where it stands, to run on later. -/
def Timer.pause (t : Timer) : Timer := { t with running := false }

/-- A paused timer running on. -/
def Timer.runOn (t : Timer) : Timer := { t with running := true }

/-- A timer that has run to its end. -/
def Timer.expired (t : Timer) : Bool := t.running && t.left == 0

/-- One millisecond of a timer. -/
def Timer.tick (t : Timer) : Timer := if t.running then { t with left := t.left - 1 } else t

/-- The time from a stamp to now in ds, modulo 2^32 (R30). -/
def State.since (s : State) (stamp : Word) : Nat := (s.clock - stamp).toNat

/-! ### Numbering (5.1, R26, R198) -/

/-- A spindle's key (R26). -/
def spindleKey (f n : Nat) : Nat := (f - 1) * 2048 + n

/-- The section, 1-76, of a spindle. -/
def sectionOf (n : Nat) : Nat := (n - 1) / 24 + 1

/-- The number, 1-608, of a frame's section. -/
def creelNo (f k : Nat) : Nat := (f - 1) * 76 + k

/-- The frame of a section number. -/
def creelFrame (c : Nat) : Nat := (c - 1) / 76 + 1

/-- The section, 1-76, of a section number. -/
def creelIndex (c : Nat) : Nat := (c - 1) % 76 + 1

/-- The spindles of a section, rising. -/
def spindlesOfSection (k : Nat) : List Nat := (List.range 24).map (· + (24 * (k - 1) + 1))

/-- The side code of a frame's spindle (R198). -/
def sideOf (f n : Nat) : Nat := if n ≤ 912 then 2 * f - 1 else 2 * f

/-- The frame of a side code. -/
def sideFrame (d : Nat) : Nat := (d + 1) / 2

/-- Whether a side code names a side B. -/
def sideIsB (d : Nat) : Bool := d % 2 == 0

/-- The first spindle of a side (R69). -/
def sideFirst (d : Nat) : Nat := if sideIsB d then 913 else 1

/-- Whether a spindle number lies on a side (5.1). -/
def onSideSpindle (d n : Nat) : Bool :=
  if sideIsB d then decide (913 ≤ n) && decide (n ≤ 1824) else decide (1 ≤ n) && decide (n ≤ 912)

/-- The two sides of a frame. -/
def frameSides (f : Nat) : List Nat := [2 * f - 1, 2 * f]

/-- The sections in plan of a frame with `n` spindles per side, in the order of a sweep (R2, R105). -/
def sectionsInPlan (n : Nat) : List Nat := oneTo (n / 24) ++ (oneTo (n / 24)).map (· + 38)

/-- The link address of a piecer and of a carrier (5.1). -/
def piecerAddr (p : Nat) : Nat := 8 + p
def carrierAddr (c : Nat) : Nat := 16 + c

/-- The kind of unit expected at an address (5.1). -/
def unitKind (a : Nat) : UnitKind := if a ≤ 8 then .drive else if a ≤ 16 then .piecer else .carrier

/-- The number of the unit at an address. -/
def unitNumber (a : Nat) : Nat := if a ≤ 8 then a else if a ≤ 16 then a - 8 else a - 16

/-! ### Reading records -/

def State.spindle (s : State) (f n : Nat) : Spindle := tget Spindle.reset s.watch.spindles (spindleKey f n)
def State.strip (s : State) (c : Nat) : Strip := tget Strip.reset s.watch.strips c
def State.sweep (s : State) (f : Nat) : Sweep := tget Sweep.reset s.watch.sweeps f
def State.side (s : State) (d : Nat) : Side := tget Side.reset s.disp.sides d
def State.piecer (s : State) (p : Nat) : Piecer := tget Piecer.reset s.disp.piecers p
def State.frame (s : State) (f : Nat) : Frame := tget Frame.reset s.frames f
def State.creel (s : State) (c : Nat) : Creel := tget Creel.reset s.roving.creels c
def State.carrier (s : State) (c : Nat) : Carrier := tget Carrier.reset s.roving.carriers c
def State.feed (s : State) (f : Nat) : Feed := tget Feed.reset s.roving.feeds f
def State.roller (s : State) (f : Nat) : Roller := tget Roller.reset s.output.rollers f
def State.counts (s : State) (f : Nat) : Counts := tget Counts.reset s.output.counts f
def State.pageView (s : State) (p : Nat) : Option PageStage := tget none s.output.view p
def State.cellView (s : State) (c : Nat) : CellStage := tget .empty s.desk.view c
def State.unit (s : State) (a : Nat) : Unit := tget Unit.reset s.link.units a

/-- The settings of the plan in force (R149). -/
def State.settings (s : State) : Settings :=
  match s.plan.active with
  | some p => p.settings
  | none => Settings.absent

/-- A frame's settings in a plan. -/
def Settings.frame (t : Settings) (f : Nat) : FrameSettings := t.frames.getD (f - 1) FrameSettings.out

/-- A frame's settings in the plan in force. -/
def State.frameSettings (s : State) (f : Nat) : FrameSettings := s.settings.frame f

/-- Spindles per side, 0 for a frame out of plan (5.1). -/
def FrameSettings.perSide (t : FrameSettings) : Nat := if t.inPlan then t.spindles else 0

/-- Whether a section, 1-76, is in plan (R105). -/
def FrameSettings.sectionIn (t : FrameSettings) (k : Nat) : Bool := (sectionsInPlan t.perSide).contains k

/-- Whether a position is in plan (5.1). -/
def FrameSettings.spindleIn (t : FrameSettings) (n : Nat) : Bool :=
  (decide (1 ≤ n) && decide (n ≤ t.perSide)) || (decide (913 ≤ n) && decide (n ≤ 912 + t.perSide))

/-- The start remaining of a section, 1-76, in m (8.3.2). -/
def FrameSettings.start (t : FrameSettings) (k : Nat) : Nat := t.starts.getD (k - 1) 0

/-- A key of a frame's spindles: those listed, rising. A spindle not listed is ABSENT. -/
def State.spindlesOfFrame (s : State) (f : Nat) : List Nat :=
  (keysIn s.watch.spindles (spindleKey f 1) (spindleKey f 1824)).map (· - (f - 1) * 2048)

/-! ### Marking what a mirror shows (R170) -/

/-- A record that changes joins the write queue at its tail unless it is already waiting (R170). -/
def State.markItem (i : WriteItem) (s : State) : State :=
  if i ∈ s.writer.queue then s else { s with writer.queue := s.writer.queue ++ [i] }

/-- Mark when something shown has changed. -/
def State.markIf (b : Bool) (i : WriteItem) (s : State) : State := if b then s.markItem i else s

/-- What the spindle map shows of a spindle (R23). -/
def Spindle.shown (x : Spindle) :
    SpindleState × Bool × Bool × Nat × Option CutCause × Option BreakClass :=
  (x.state, x.listed, x.slip, x.attempts, x.cutCause, x.lastClass)

/-- A DOWN spindle with no entry (R38). -/
def Spindle.unlistedDown (x : Spindle) : Bool := decide (x.state = .down) && !x.listed

/-- Write a spindle record; its block and the frame mirror's unlisted count follow (R23, R61). -/
def State.setSpindle (f n : Nat) (x : Spindle) (s : State) : State :=
  let old := s.spindle f n
  { s with watch.spindles := tput Spindle.reset s.watch.spindles (spindleKey f n) x }
    |>.markIf (decide (x.shown ≠ old.shown)) (.block (creelNo f (sectionOf n)))
    |>.markIf (x.unlistedDown != old.unlistedDown) (.frame f)

/-- Write a strip record; the section mirror shows blindness and self-check (R127). -/
def State.setStrip (c : Nat) (x : Strip) (s : State) : State :=
  let old := s.strip c
  { s with watch.strips := tput Strip.reset s.watch.strips c x }
    |>.markIf (x.blind != old.blind || x.check.isSome != old.check.isSome) (.creel c)

/-- Write a sweep record. -/
def State.setSweep (f : Nat) (x : Sweep) (s : State) : State :=
  { s with watch.sweeps := tput Sweep.reset s.watch.sweeps f x }

/-- What the frame mirror shows of a side (R61). -/
def Side.shown (x : Side) : Nat × Nat × Option Word × Option Nat :=
  (x.entries.length, x.backlog, x.oldest, x.piecer)

/-- Write a side record. -/
def State.setSide (d : Nat) (x : Side) (s : State) : State :=
  let old := s.side d
  { s with disp.sides := tput Side.reset s.disp.sides d x }
    |>.markIf (decide (x.shown ≠ old.shown)) (.frame (sideFrame d))

/-- A piecer record with the fields its mirror does not show put back to reset (R61, R79). -/
def Piecer.shown (x : Piecer) : Piecer :=
  { x with atFrameEnd := false, byLink := false, lostStamp := 0#32, travel := Timer.off, counter := 0#16,
           attempt := Timer.off }

/-- Write a piecer record. -/
def State.setPiecer (p : Nat) (x : Piecer) (s : State) : State :=
  let old := s.piecer p
  { s with disp.piecers := tput Piecer.reset s.disp.piecers p x }
    |>.markIf (decide (x.shown ≠ old.shown)) (.unit p)

/-- A frame record with the fields its mirror does not show put back to reset (R104). -/
def Frame.shown (x : Frame) : Frame :=
  { x with stopTimer := Timer.off, doffTimer := Timer.off, doneStamp := 0#32, drainBuild := 0 }

/-- Write a frame record. -/
def State.setFrame (f : Nat) (x : Frame) (s : State) : State :=
  let old := s.frame f
  { s with frames := tput Frame.reset s.frames f x }
    |>.markIf (decide (x.shown ≠ old.shown)) (.frame f)

/-- What the section mirror shows of a section (R127). -/
def Creel.shown (x : Creel) : Creel :=
  { x with remaining := x.remaining / 1000, orderSeq := none }

/-- Write a section record. -/
def State.setCreel (c : Nat) (x : Creel) (s : State) : State :=
  let old := s.creel c
  { s with roving.creels := tput Creel.reset s.roving.creels c x }
    |>.markIf (decide (x.shown ≠ old.shown)) (.creel c)

/-- The time left, in s, of whichever of a carrier's timers runs (R127). -/
def Carrier.secondsLeft (x : Carrier) : Nat :=
  (if x.change.running then x.change.left else if x.back.running then x.back.left else 0) / 1000

/-- What the carrier's mirror shows of it (R127). -/
def Carrier.shown (x : Carrier) : CarrierState × Option Nat × Option Token × Option Token × Nat :=
  (x.state, x.creel, x.lotSent, x.lotLoaded, x.shownLeft)

/-- Write a carrier record; a change of state takes the time left for the mirror (R127). -/
def State.setCarrier (c : Nat) (x : Carrier) (s : State) : State :=
  let old := s.carrier c
  let y := if x.state = old.state then x else { x with shownLeft := x.secondsLeft }
  { s with roving.carriers := tput Carrier.reset s.roving.carriers c y }
    |>.markIf (decide (y.shown ≠ old.shown)) (.unit (8 + c))

/-- Write a frame's feed. -/
def State.setFeed (f : Nat) (x : Feed) (s : State) : State :=
  { s with roving.feeds := tput Feed.reset s.roving.feeds f x }

/-- Write a roller counter. -/
def State.setRoller (f : Nat) (x : Roller) (s : State) : State :=
  { s with output.rollers := tput Roller.reset s.output.rollers f x }

/-- The mirror that shows a unit's presence (R196). -/
def unitItem (a : Nat) : WriteItem := if a ≤ 8 then .frame a else .unit (a - 8)

/-- Write a unit record: a change of presence, and for piecers and carriers a change of the number of commands waiting,
rewrites the mirror (R196). -/
def State.setUnit (a : Nat) (x : Unit) (s : State) : State :=
  let old := s.unit a
  { s with link.units := tput Unit.reset s.link.units a x }
    |>.markIf (decide (x.presence ≠ old.presence) || (decide (8 < a) && x.queue.length != old.queue.length)) (unitItem a)

/-- Write the desk's view of a cell (R171). -/
def State.setCellView (c : Nat) (x : CellStage) (s : State) : State :=
  { s with desk.view := tput .empty s.desk.view c x }

/-- Write the view of a page (R137). -/
def State.setPageView (p : Nat) (x : PageStage) (s : State) : State :=
  { s with output.view := tput none s.output.view p (some x) }

/-! ### Part states -/

/-- RUNNING, or STALLED with RUNNING to resume: the arbiters, the dispatcher and the choices work (R66, R86, R113, R44).
A part STALLED out of WINDING_DOWN goes on winding down (R183). -/
def State.working (s : State) : Bool :=
  s.regs.part == .running || (s.regs.part == .stalled && s.regs.resume == some .running)

/-- WINDING_DOWN, or STALLED with WINDING_DOWN to resume (R164, R183). -/
def State.winding (s : State) : Bool :=
  s.regs.part == .windingDown || (s.regs.part == .stalled && s.regs.resume == some .windingDown)

/-- RUNNING, WINDING_DOWN or STALLED: the group's work goes on (R183). -/
def State.live (s : State) : Bool := s.working || s.winding

/-- A timer's expiry is taken when it has run to its end and the part is not HALTED (R103, R126). -/
def State.expires (s : State) (t : Timer) : Bool := t.expired && s.regs.part != .halted

/-- The piecing states (5.1). -/
def FrameState.piecing : FrameState → Bool
  | .building | .nearing | .called => true
  | _ => false

/-- The judging states (5.1). -/
def FrameState.judging : FrameState → Bool
  | .building | .nearing | .called | .draining => true
  | _ => false

/-- The running states (5.1). -/
def FrameState.runs : FrameState → Bool
  | .restarting | .building | .nearing | .called | .draining => true
  | _ => false

/-- The stopped states (5.1). -/
def FrameState.stopped : FrameState → Bool
  | .halted | .stopping | .doffing => true
  | _ => false

/-! ### Work an event still owes -/

def State.oweArbiter (s : State) : State := { s with work.arbiter := true }
def State.oweRefill (s : State) : State := { s with work.refill := true }
def State.oweRelist (d : Nat) (s : State) : State :=
  { s with work.relist := if d ∈ s.work.relist then s.work.relist else s.work.relist ++ [d] }

/-- Do `g` for each of a list, in order. -/
def State.each {α : Type} (l : List α) (g : α → State → State) (s : State) : State :=
  l.foldl (fun t x => g x t) s

end Sys2Proof.Machine
end

