-- ==== Sys2Proof/Machine/Operands.lean ====
section
/-! DEFINITION. Every operand form: the sensor line exchange (R1, 11.4), the unit link message (R199), the plan copy
(11.2.7), the order parameters (11.2.2). -/

namespace Sys2Proof.Machine

/-! ### Sensor line (R1, 11.4) -/

/-- The sum of bytes modulo 256. -/
def byteSum (l : List Byte) : Byte := l.foldl (· + ·) 0#8

/-- Two 4-bit values of a byte, the lower-numbered position in the high half (11.4). -/
def nibbles (b : Byte) : List Nat := [b.toNat / 16, b.toNat % 16]

/-- The pass counts of a strip's reply when the read is good (R1): full length, the section addressed, and a check byte
that is the complement of the sum of the bytes before it. -/
def stripCounts (k : Nat) (reply : List Byte) : Option (List Nat) :=
  if reply.length = 14 ∧ reply.head? = some (BitVec.ofNat 8 k) ∧
      reply.getLast? = some (~~~ byteSum (reply.take 13)) then
    some (((reply.drop 1).take 12).flatMap nibbles)
  else none

/-- The pattern value of a loop sweep, 1-4, at a position, 1-24 (R19). -/
def loopPattern (sweep pos : Nat) : Nat :=
  match sweep with
  | 1 => 15
  | 2 => 0
  | 3 => if pos % 2 = 1 then 15 else 0
  | 4 => if pos % 2 = 1 then 0 else 15
  | _ => 0

/-- The 14 bytes the part sends to address a strip (11.4): count mode, or loop mode for a given loop sweep. -/
def stripMessage (k : Nat) (loop : Option Nat) : List Byte :=
  match loop with
  | none => BitVec.ofNat 8 k :: 0#8 :: List.replicate 12 0#8
  | some n => BitVec.ofNat 8 k :: 1#8 ::
      (List.range 12).map fun i => BitVec.ofNat 8 (16 * loopPattern n (2 * i + 1) + loopPattern n (2 * i + 2))

/-- What stands on a frame's sensor line while a sweep is in progress (R1, R2, R19). -/
def State.sensorLine (s : State) (f : Nat) : Option (List Byte) :=
  match (s.sweep f).left with
  | [] => none
  | k :: _ => some (stripMessage k ((s.strip (creelNo f k)).check.map fun c => c.sweeps + 1))

/-! ### Unit link messages (R190, R199) -/

/-- One bit through the CRC-16 register: polynomial x^16 + x^12 + x^5 + 1, most significant bit first. -/
def crcBit (r : BitVec 16) (b : Bool) : BitVec 16 :=
  if (r.getMsbD 0) != b then (r <<< 1) ^^^ 0x1021#16 else r <<< 1

/-- One byte through the CRC-16 register. -/
def crcByte (r : BitVec 16) (x : Byte) : BitVec 16 :=
  [0, 1, 2, 3, 4, 5, 6, 7].foldl (fun t i => crcBit t (x.getMsbD i)) r

/-- The CRC-16 of bytes: initial value all ones, no final inversion (R199). -/
def crc16 (l : List Byte) : BitVec 16 := l.foldl crcByte 0xFFFF#16

/-- A 16-bit field, most significant byte first (R199). -/
def be16 (x : BitVec 16) : List Byte := [x.extractLsb' 8 8, x.extractLsb' 0 8]

/-- A command's kind code (R199). -/
def Cmd.kind : Cmd → Nat
  | .run => 1
  | .stop => 2
  | .stopAtDoff => 3
  | .doff => 4
  | .status => 5
  | .goto _ => 6
  | .attempt _ _ => 7
  | .hold _ => 8
  | .resume _ => 9
  | .abandon _ => 10
  | .park => 11
  | .load _ => 12
  | .gotoCreel _ _ => 13
  | .change => 14
  | .ret => 15

/-- The token field of a command (R190). -/
def Cmd.token : Cmd → Token
  | .attempt _ t | .hold t | .resume t | .abandon t => t
  | .run | .stop | .stopAtDoff | .doff | .status | .goto _ | .park | .load _ | .gotoCreel _ _ | .change | .ret => 0#16

/-- The payload of a command (R199). -/
def Cmd.payload : Cmd → List Byte
  | .goto d => [BitVec.ofNat 8 d]
  | .attempt n _ => be16 (BitVec.ofNat 16 n)
  | .load l => be16 l
  | .gotoCreel f k => [BitVec.ofNat 8 f, BitVec.ofNat 8 k]
  | .run | .stop | .stopAtDoff | .doff | .status | .hold _ | .resume _ | .abandon _ | .park | .change | .ret => []

/-- A message with its CRC (R199): the control field holds the ack toggle in bit 0 and the sequence in bit 1. -/
def linkMessage (addr kind : Nat) (ack seq : Bool) (token : Token) (payload : List Byte) : List Byte :=
  let body := [BitVec.ofNat 8 addr, BitVec.ofNat 8 kind,
      BitVec.ofNat 8 ((if ack then 1 else 0) + (if seq then 2 else 0))] ++ be16 token ++
    [BitVec.ofNat 8 payload.length] ++ payload
  body ++ be16 (crc16 body)

/-- The message of a visit: a command, or a POLL of kind 16 (R187, R199). -/
def visitMessage (addr : Nat) (cmd : Option Cmd) (ack seq : Bool) : List Byte :=
  match cmd with
  | some c => linkMessage addr c.kind ack seq c.token c.payload
  | none => linkMessage addr 16 ack seq 0#16 []

/-- A report's kind code (R199). -/
def Report.kind : Report → Nat
  | .state _ _ => 32
  | .atDoffPosition => 33
  | .doffDone => 34
  | .driveFault => 35
  | .atSide _ _ => 36
  | .step _ _ _ => 37
  | .result _ _ => 38
  | .held _ => 39
  | .refusedHold _ => 40
  | .parked => 41
  | .fault => 42
  | .loaded _ => 43
  | .arrived => 44
  | .changeDone => 45
  | .changeFault => 46
  | .returned => 47

/-- The kind of unit a report kind code belongs to (R190, R199); NOTHING, code 63, belongs to every kind. -/
def kindOwner (code : Nat) : Option UnitKind :=
  if 32 ≤ code ∧ code ≤ 35 then some .drive
  else if 36 ≤ code ∧ code ≤ 42 then some .piecer
  else if 43 ≤ code ∧ code ≤ 47 then some .carrier
  else none

/-- A side code on the line that names a side (R190, R198). -/
def sideByteOk (b : Byte) : Bool := 1 ≤ b.toNat && b.toNat ≤ 16

/-- A position that is a spindle number of some side (R190). -/
def spindleBytesOk (hi lo : Byte) : Bool :=
  let n := hi.toNat * 256 + lo.toNat
  1 ≤ n && n ≤ 1824

/-- Whether a report's payload has its fields in their ranges (R190, R199); a payload that is not of its kind's size, and
NOTHING with a payload, fail here: the model's choice (log entry 55). -/
def payloadOk (code : Nat) (p : List Byte) : Bool :=
  match code, p with
  | 32, [d, a, b, c, e] =>
    (1 ≤ d.toNat && d.toNat ≤ 5) &&
      (((a.toNat * 256 + b.toNat) * 256 + c.toNat) * 256 + e.toNat ≤ 4294967)
  | 36, [d, hi, lo] => sideByteOk d && spindleBytesOk hi lo
  | 37, [t, hi, lo] => (1 ≤ t.toNat && t.toNat ≤ 7) && spindleBytesOk hi lo
  | 38, [o] => 1 ≤ o.toNat && o.toNat ≤ 6
  | 43, [_, _] => true
  | 33, [] | 34, [] | 35, [] | 39, [] | 40, [] | 41, [] | 42, [] | 44, [] | 45, [] | 46, [] | 47, [] | 63, [] => true
  | _, _ => false

/-- How the part judges a reply's bytes (R187): none is a valid reply of the right kind. A report of another unit's kind is
WRONG_KIND whatever its fields are, the model's choice (log entry 54). -/
def judgeReply (addr : Nat) (late : Bool) (m : List Byte) : Option Miss :=
  let n := (m.getD 5 0#8).toNat
  let body := m.take (m.length - 2)
  let code := (m.getD 1 0#8).toNat
  if late || !(decide (8 ≤ m.length) && m.length == 8 + n && decide (n ≤ 16)) || m.drop (m.length - 2) != be16 (crc16 body)
      || m.head? != some (BitVec.ofNat 8 addr) || ((kindOwner code).isNone && code != 63) then some .badReply
  else if (kindOwner code).isSome && kindOwner code != some (unitKind addr) then some .wrongKind
  else if payloadOk code ((m.drop 6).take n) then none
  else some .badReply

/-! ### Order cells (11.2.2) -/

/-- The kind code of an order. -/
def OrderKind.code : OrderKind → Nat
  | .planSwitch => 1
  | .shiftClose => 2
  | .frameStop => 3
  | .frameStart => 4
  | .doffNow => 5
  | .cutOut => 6
  | .clearCutout => 7
  | .clearSlip => 8
  | .selfCheck => 9
  | .creelChange => 10
  | .piecerPlace => 11
  | .tableRead => 12
  | .withdraw => 13

/-- The order that a kind code names (R174). -/
def orderKind (w : Word) : Option OrderKind :=
  match w.toNat with
  | 1 => some .planSwitch
  | 2 => some .shiftClose
  | 3 => some .frameStop
  | 4 => some .frameStart
  | 5 => some .doffNow
  | 6 => some .cutOut
  | 7 => some .clearCutout
  | 8 => some .clearSlip
  | 9 => some .selfCheck
  | 10 => some .creelChange
  | 11 => some .piecerPlace
  | 12 => some .tableRead
  | 13 => some .withdraw
  | _ => none

/-- The stage that a cell's stage word names (11.2.2). -/
def cellStage (w : Word) : Option CellStage :=
  match w.toNat with
  | 0 => some .empty
  | 1 => some .posted
  | 2 => some .taken
  | 3 => some .done
  | 4 => some .refused
  | _ => none

/-- The code of a stage (11.2.2). -/
def CellStage.code : CellStage → Nat
  | .empty => 0
  | .posted => 1
  | .taken => 2
  | .done => 3
  | .refused => 4

/-- The code of a refusal reason (R175, R198). -/
def Reason.code : Reason → Nat
  | .staleSeq => 1
  | .duplicate => 2
  | .invalid => 3
  | .pending => 4
  | .busy => 5
  | .notHalted => 6
  | .notRunning => 7
  | .alreadyCalled => 8
  | .occupied => 9
  | .full => 10
  | .tooLate => 11
  | .notFound => 12
  | .withdrawn => 13
  | .outOfRange => 14
  | .notPresent => 15

/-- The cell read from its first 15 words, offsets 0x00 to 0x38 (R172). -/
def readCell (cell : Nat) (deferred : Bool) (w : List Word) : CellRead :=
  ⟨cell, w.getD 1 0#32, w.getD 2 0#32, w.getD 3 0#32, w.getD 4 0#32, w.getD 5 0#32, w.getD 6 0#32, deferred⟩

/-- Sequence number a is later than b (5.3). -/
def later (a b : Word) : Bool :=
  let d := (a - b).toNat
  1 ≤ d && d ≤ 2147483647

/-! ### Plan copies (11.2.7) -/

/-- The code of a plan copy (11.2.1). -/
def PlanCopy.code : PlanCopy → Nat
  | .p => 1
  | .q => 2

/-- The plan copy that a code names. -/
def planCopy (w : Word) : Option PlanCopy :=
  match w.toNat with
  | 1 => some .p
  | 2 => some .q
  | _ => none

/-- The offset of a plan copy in the common area (R150). -/
def PlanCopy.offset : PlanCopy → Nat
  | .p => 0x1000
  | .q => 0x3000

/-- The code of a switch mode (11.2.2). -/
def SwitchMode.code : SwitchMode → Nat
  | .now => 1
  | .shiftEnd => 2

/-- The mode that a code names. -/
def switchMode (w : Word) : Option SwitchMode :=
  match w.toNat with
  | 1 => some .now
  | 2 => some .shiftEnd
  | _ => none

/-- The sum of words modulo 2^32. -/
def wordSum (l : List Word) : Word := l.foldl (· + ·) 0#32

/-- The check word is the complement of the sum of the 2,047 words before it (R150). -/
def checkWordOk (l : List Word) : Bool := l.length == 2048 && l.getLast? == some (~~~ wordSum (l.take 2047))

/-- Group setting n of a copy's words. -/
def groupSetting (l : List Word) (n : Nat) : Nat := (l.getD n 0#32).toNat

/-- The 88 setting words of frame f. -/
def frameBlock (l : List Word) (f : Nat) : List Word := (l.drop (64 + (f - 1) * 96)).take 88

/-- Setting n of a frame block. -/
def frameSetting (b : List Word) (n : Nat) : Nat := (b.getD (n - 1) 0#32).toNat

/-- The settings of a frame's block; a frame out of plan keeps nothing of its other fields (R151). -/
def parseFrame (b : List Word) : FrameSettings :=
  if frameSetting b 1 = 1 then
    ⟨true, frameSetting b 2, frameSetting b 3, frameSetting b 4, frameSetting b 5, frameSetting b 6, frameSetting b 7,
      frameSetting b 8, frameSetting b 9, frameSetting b 10, frameSetting b 11, frameSetting b 12,
      (b.drop 12).map BitVec.toNat⟩
  else FrameSettings.out

/-- The settings of a copy's words (8.3, 11.2.7). -/
def parseSettings (l : List Word) : Settings where
  sweepPeriod := groupSetting l 1
  scanInterval := groupSetting l 2
  passThreshold := groupSetting l 3
  kd := groupSetting l 4
  ku := groupSetting l 5
  slipLimit := groupSetting l 6
  rogueLimit := groupSetting l 7
  rogueWindow := groupSetting l 8
  attemptLimit := groupSetting l 9
  attemptTimeout := groupSetting l 10
  travelTimeout := groupSetting l 11
  lendThreshold := groupSetting l 12
  doffSlots := groupSetting l 13
  stopTimeout := groupSetting l 14
  doffTimeout := groupSetting l 15
  changeTimeout := groupSetting l 16
  shiftLength := groupSetting l 17
  journalThreshold := groupSetting l 18
  homes := (oneTo 8).map fun p => groupSetting l (18 + p)
  frames := (oneTo 8).map fun f => parseFrame (frameBlock l f)

/-- The plan of a copy's words (R150). -/
def parsePlan (c : PlanCopy) (l : List Word) : Plan := ⟨c, l.headD 0#32, parseSettings l⟩

/-- A piecer's home side in a plan: none for NONE (8.3.1). -/
def Settings.home (t : Settings) (p : Nat) : Option Nat :=
  let d := t.homes.getD (p - 1) 0
  if d = 0 then none else some d

end Sys2Proof.Machine
end

