-- ==== Sys2Proof/Machine/Flags.lean ====
section
/-! DEFINITION. The flags the host sees: the register words of R163 and 11.5, the attention causes and the attention line
(R167), and the journal's attention (R180). -/

namespace Sys2Proof.Machine

/-- The bit of a cause in ATT and ATM (11.5). -/
def Cause.bit : Cause → Word
  | .order => 1#32
  | .journal => 2#32
  | .tally => 4#32
  | .alarm => 8#32
  | .unit => 16#32
  | .fault => 32#32

/-- Raise a cause; one already set stays (R167). -/
def State.raise (c : Cause) (s : State) : State := { s with regs.att := s.regs.att ||| c.bit }

/-- The attention line: ATT and ATM have a cause in common (R167). -/
def State.attentionLine (s : State) : Bool := s.regs.att &&& s.regs.atm != 0#32

/-- The bits of ATT and ATM that exist (11.5). -/
def attMask : Word := 63#32

/-- The code of a part state in PST (11.5). -/
def PartState.code : PartState → Nat
  | .halted => 0
  | .starting => 1
  | .running => 2
  | .windingDown => 3
  | .stalled => 4

/-- The start fault codes in PST (11.5). -/
def StartFault.code : StartFault → Nat
  | .none => 0
  | .badHeader => 1
  | .planInvalid => 2
  | .memoryFault => 3
  | .noTallyPage => 4

/-- The fault kinds in FLT (11.5). -/
def FaultKind.code : FaultKind → Nat
  | .grantTimeout => 1
  | .busError => 2

/-- PST as the host reads it (11.5): the resume state is shown while STALLED. -/
def State.pst (s : State) : Word :=
  w32 (s.regs.part.code +
    16 * (match s.regs.resume with
      | some r => if s.regs.part = .stalled then r.code else 0
      | none => 0) +
    256 * s.regs.startFault.code)

/-- CTL as the host reads it: the actions read 0 (R163). -/
def State.ctl (s : State) : Word := flagWord s.regs.run

/-- FLT at a memory fault: the beat's board address and the kind (R182, 11.5). -/
def fltWord (addr : Nat) (k : FaultKind) : Word := w32 (addr / 4 * 4 + k.code)

/-- Set a frame's ALARM bit and raise ATT ALARM (R3, R92, R97, R109, R114). -/
def State.alarm (f : Nat) (s : State) : State :=
  (s.setFrame f { s.frame f with alarm := true }).raise .alarm

/-- Set a frame's UNIT bit and raise ATT UNIT (R77, R119). -/
def State.unitAlarm (f : Nat) (s : State) : State :=
  (s.setFrame f { s.frame f with unit := true }).raise .unit

end Sys2Proof.Machine
end

