-- ==== Sys2Proof/Machine/Report.lean ====
section
/-! DEFINITION. What a block hands to the Report Writer, the Output Counter's accumulators and the Order Desk: journal
entries (R178 to R180), counts (R135), finished orders (R175). -/

namespace Sys2Proof.Machine

/-! ### Journal -/

/-- The urgent kinds (R180). -/
def JournalKind.urgent : JournalKind → Bool
  | .unitLost | .frameHalt | .sectionEmpty | .lotMismatch | .stripBlind | .doffFault => true
  | _ => false

/-- Whether a write-queue item is a journal entry. -/
def WriteItem.isJournal : WriteItem → Bool
  | .journal _ => true
  | _ => false

/-- Journal entries handed to the write queue and not yet written. -/
def State.journalWaiting (s : State) : Nat :=
  (s.writer.queue.filter WriteItem.isJournal).length +
    (match s.writer.current with
      | some u => if u.item.isJournal then 1 else 0
      | none => 0)

/-- Unread entries (R178). -/
def State.unread (s : State) : Nat :=
  (s.writer.writeMark + s.writer.capacity - s.desk.readMark) % s.writer.capacity

/-- Room for one more entry beside those waiting to be written (R178; log entry 11). -/
def State.journalRoom (s : State) : Bool :=
  decide (s.unread + s.journalWaiting + 1 < s.writer.capacity)

/-- Whether entries go to the write queue at all: not while STALLED (R179), and in STARTING only once step 5 has set the
write mark (R194). -/
def State.journalOpen (s : State) : Bool :=
  match s.regs.part with
  | .running | .windingDown => true
  | .starting => s.regs.start == some .writes || s.regs.start == some .pages
  | .halted | .stalled => false

/-- Keep the pending list within its room by dropping its oldest entries (R179, R183). -/
def dropOldest : Nat → Writer → Writer
  | 0, w => w
  | n + 1, w =>
    if w.pending.length ≤ Config.pendingListRoom then w
    else match w.pending with
      | [] => w
      | e :: r => dropOldest n { w with
          pending := r
          drops := min 4294967295 (w.drops + 1)
          firstDrop := if w.drops = 0 then e.stamp else w.firstDrop
          lastDrop := e.stamp }

/-- An entry joins the pending list; a full list drops its oldest (R179). -/
def State.pend (e : JournalEntry) (s : State) : State :=
  { s with writer := dropOldest 1 { s.writer with pending := s.writer.pending ++ [e] } }

/-- Hand an entry on: to the write queue, or to the pending list (R170, R179). -/
def State.enterJournal (e : JournalEntry) (s : State) : State :=
  if s.journalOpen && s.writer.pending.isEmpty && s.journalRoom then
    { s with writer.queue := s.writer.queue ++ [.journal e] }
  else s.pend e

/-- Generate a journal entry, stamped with the mill clock; an urgent kind raises ATT JOURNAL (R178, R180). -/
def State.journal (k : JournalKind) (frame unit : Nat) (fields : List Word) (s : State) : State :=
  (if k.urgent then s.raise .journal else s).enterJournal ⟨k, frame, unit, s.clock, fields⟩

/-- Move pending entries to the write queue while room lasts. -/
def flushEntries : Nat → State → State
  | 0, s => s
  | n + 1, s =>
    match s.writer.pending with
    | [] => s
    | e :: r =>
      if s.journalRoom then
        flushEntries n { s with writer.pending := r, writer.queue := s.writer.queue ++ [.journal e] }
      else s

/-- Room has returned: a GAP first when entries were dropped, then the pending entries from the oldest (R179). -/
def State.flushJournal (s : State) : State :=
  let s :=
    if 0 < s.writer.drops && s.journalRoom then
      { s with
        writer.queue := s.writer.queue ++
          [.journal ⟨.gap, 0, 0, s.clock, [w32 s.writer.drops, s.writer.firstDrop, s.writer.lastDrop]⟩]
        writer.drops := 0 }
    else s
  if s.writer.drops = 0 then flushEntries Config.pendingListRoom s else s

/-! ### Counts -/

/-- Add to a count that stops at its top (R135). -/
def addTo (top n k : Nat) : Nat := min top (n + k)

/-- The top of a 32-bit count. -/
def top32 : Nat := 4294967295

/-- The top of a 64-bit count. -/
def top64 : Nat := 18446744073709551615

/-- Change a frame's accumulators: only while a page is open, and the open page is then rewritten (R135, R138). -/
def State.count (f : Nat) (g : Counts → Counts) (s : State) : State :=
  match s.output.page with
  | none => s
  | some _ =>
    { s with output.counts := tput Counts.reset s.output.counts f (g (s.counts f)) }.markItem .openPage

/-- One break of a class (R9). -/
def Counts.addBreak (c : BreakClass) (x : Counts) : Counts :=
  match c with
  | .run => { x with breakRun := addTo top32 x.breakRun 1 }
  | .doffStart => { x with breakDoffStart := addTo top32 x.breakDoffStart 1 }
  | .proveFail => { x with breakProveFail := addTo top32 x.breakProveFail 1 }
  | .starve => { x with breakStarve := addTo top32 x.breakStarve 1 }

/-- One cut-out of a cause (R135). -/
def Counts.addCut (c : CutCause) (x : Counts) : Counts :=
  match c with
  | .rogue => { x with cutRogue := addTo top32 x.cutRogue 1 }
  | .attempts => { x with cutAttempts := addTo top32 x.cutAttempts 1 }
  | .manual => { x with cutManual := addTo top32 x.cutManual 1 }
  | .noRoving => { x with cutNoRoving := addTo top32 x.cutNoRoving 1 }
  | .sensor => { x with cutSensor := addTo top32 x.cutSensor 1 }

/-! ### Finished orders -/

/-- Finish an order (R175): its book entry leaves, the view shows DONE or REFUSED, and the answer is written, or held
while STALLED. A stage TAKEN not yet written gives way to the answer (log entry 12). -/
def State.finish (cell : Nat) (reason : Option Reason) (words : List Word) (s : State) : State :=
  let a : Answer := ⟨cell, reason, words, s.clock⟩
  let s := s.setCellView cell (if reason.isSome then .refused else .done)
  let s := { s with desk.book := s.desk.book.filter fun b => decide (b.cell ≠ cell) }
  if s.regs.part = .stalled then { s with desk.held := s.desk.held ++ [a] }
  else { s with writer.queue :=
    (s.writer.queue.filter fun i => decide (i ≠ .cellTaken cell)) ++ [.cellDone a] }

/-- Finish every order in the book that `sel` picks. -/
def State.finishBook (sel : BookEntry → Bool) (reason : Option Reason) (words : List Word) (s : State) : State :=
  s.each ((s.desk.book.filter sel).map BookEntry.cell) fun c t => t.finish c reason words

/-- The book entry of an order on one number (a frame or a piecer). -/
def orderOn (k : OrderKind) (n : Nat) (b : BookEntry) : Bool := b.kind == k && b.p1 == w32 n

/-- The book entry of an order on a frame's section. -/
def orderOnSection (k : OrderKind) (f n : Nat) (b : BookEntry) : Bool :=
  b.kind == k && b.p1 == w32 f && b.p2 == w32 n

end Sys2Proof.Machine
end

