-- ==== Sys2Proof/Machine/Hand.lean ====
section
/-! DEFINITION. The command queues of the Unit Link (R191) and the loss of a unit (R192). -/

namespace Sys2Proof.Machine

/-- RUN, STOP, STOP_AT_DOFF or DOFF (R191). -/
def Cmd.driveFour : Cmd → Bool
  | .run | .stop | .stopAtDoff | .doff => true
  | _ => false

/-- Whether a new command makes a waiting one pointless (R191). -/
def Cmd.supersedes (new old : Cmd) : Bool :=
  match new with
  | .run | .stop | .stopAtDoff | .doff => old.driveFour
  | .goto _ | .park =>
    match old with
    | .goto _ | .park => true
    | _ => false
  | .abandon t =>
    match old with
    | .attempt _ u | .hold u | .resume u => decide (u = t)
    | _ => false
  | .ret =>
    match old with
    | .load _ | .gotoCreel _ _ | .change => true
    | _ => false
  | .status | .attempt _ _ | .hold _ | .resume _ | .load _ | .gotoCreel _ _ | .change => false

/-- The commands of a queue that have not been sent (R191). -/
def Unit.unsent (u : Unit) : List Cmd := if u.sent then u.queue.drop 1 else u.queue

/-- The command sent and not yet delivered, if any (R191). -/
def Unit.inFlight (u : Unit) : List Cmd := if u.sent then u.queue.take 1 else []

/-- A record with its queue emptied (R191): resync is set when a sent command was removed. -/
def Unit.emptied (u : Unit) : Unit :=
  { u with queue := [], headSeq := none, sent := false, resync := u.resync || (u.sent && !u.queue.isEmpty) }

/-- The codes of UNIT_LOST's causes: LINK_MISS, WRONG_KIND and OVERRUN by their places in R192, TRAVEL_TIMEOUT and FAULT by
theirs in R77 (R198; log entry 7). -/
def lostByMiss : Word := 1#32
def lostByWrongKind : Word := 2#32
def lostByOverrun : Word := 3#32
def lostByTravel : Word := 1#32
def lostByFault : Word := 2#32

/-- The code of a unit kind in UNIT_LOST and UNIT_BACK (log entry 7). -/
def UnitKind.code : UnitKind → Word
  | .drive => Config.openCode .driveKind
  | .piecer => Config.openCode .piecerKind
  | .carrier => Config.openCode .carrierKind

/-- Journal the loss of the unit at an address: the address, the unit kind and number, and the cause. The Dispatcher's own UNIT_LOST
has the same layout, the model's choice (R77, R192; log entry 41). -/
def State.journalLost (a : Nat) (cause : Word) (s : State) : State :=
  s.journal .unitLost 0 a [(unitKind a).code, w32 (unitNumber a), cause]

/-- A unit is lost (R192). Its owner is told before the event ends (log entry 5). -/
def State.loseUnit (a : Nat) (cause : Word) (s : State) : State :=
  let u := s.unit a
  let s := s.setUnit a { u.emptied with presence := .lost, misses := 0, resync := true, lostStamp := s.clock }
  let s := { s with work.lost := s.work.lost ++ [a] }
  (s.journalLost a cause).raise .unit

/-- Hand a command for the unit at an address (R191). -/
def State.hand (a : Nat) (c : Cmd) (s : State) : State :=
  let u := s.unit a
  if u.presence ≠ .present then s
  else if c = .status ∧ .status ∈ u.unsent then s
  else
    let q := u.inFlight ++ u.unsent.filter fun o => !c.supersedes o
    if Config.unitQueueRoom ≤ q.length then (s.setUnit a { u with queue := q }).loseUnit a lostByOverrun
    else s.setUnit a { u with queue := q ++ [c] }

/-- Withdraw a drive's waiting commands (R92, R97): those sent and not yet delivered stay. -/
def State.withdrawDrive (f : Nat) (s : State) : State :=
  let u := s.unit f
  s.setUnit f { u with queue := u.inFlight }

/-- Empty a unit's queue at its owner's asking (R77, R191). -/
def State.emptyQueue (a : Nat) (s : State) : State := s.setUnit a (s.unit a).emptied

end Sys2Proof.Machine
end

