-- ==== Sys2Proof/Machine/Lists.lean ====
section
/-! DEFINITION. End lists (R37 to R39), spindle claims (R10 to R12) and the section lock (R115). -/

namespace Sys2Proof.Machine

/-! ### Codes of R198 used in journal entries -/

def SpindleState.code : SpindleState → Nat
  | .absent => 1
  | .settling => 2
  | .running => 3
  | .down => 4
  | .piecing => 5
  | .proving => 6
  | .starved => 7
  | .cutOut => 8
  | .checking => 9

def CutCause.code : CutCause → Nat
  | .rogue => 1
  | .attempts => 2
  | .manual => 3
  | .noRoving => 4
  | .sensor => 5

def BreakClass.code : BreakClass → Nat
  | .run => 1
  | .doffStart => 2
  | .proveFail => 3
  | .starve => 4

def stageCode : AttemptStep → Nat
  | .approach => 1
  | .brake => 2
  | .find => 3
  | .thread => 4
  | .join => 5
  | .release => 6
  | .verify => 7

/-- Past the join point: JOIN, RELEASE or VERIFY recorded (R47). -/
def pastJoin (st : Option AttemptStep) : Bool :=
  match st with
  | some .join | some .release | some .verify => true
  | some .approach | some .brake | some .find | some .thread | none => false

/-! ### End lists -/

/-- A spindle record in another state: every change of state sets since to 0 (R5). -/
def Spindle.to (st : SpindleState) (x : Spindle) : Spindle := { x with state := st, since := 0 }

/-- List an unlisted DOWN spindle at the tail of its side's list, if the list has room (R38). -/
def State.listSpindle (f n : Nat) (s : State) : State :=
  let d := sideOf f n
  let side := s.side d
  if side.entries.length < Config.endListRoom then
    let x := s.spindle f n
    (s.setSide d { side with entries := side.entries ++ [⟨n, s.clock, x.lastClass⟩] }).setSpindle f n
      { x with listed := true }
  else s

/-- A spindle becomes DOWN with listed clear and is handed to the Dispatcher (R9, R38). -/
def State.makeDown (f n : Nat) (s : State) : State :=
  (s.setSpindle f n { (s.spindle f n).to .down with listed := false }).listSpindle f n

/-- An entry leaves its list; the side is relisted after the removals of the event (R39). -/
def State.removeEntry (f n : Nat) (s : State) : State :=
  let d := sideOf f n
  let side := s.side d
  if side.entries.any fun e => e.spindle == n then
    (s.setSide d { side with entries := side.entries.filter fun e => e.spindle != n }).oweRelist d
  else s

/-- The unlisted DOWN spindles of a side, rising (R39). -/
def State.unlisted (s : State) (d : Nat) : List Nat :=
  (s.spindlesOfFrame (sideFrame d)).filter fun n =>
    sideOf (sideFrame d) n == d && (s.spindle (sideFrame d) n).unlistedDown

/-- Relist a side: its unlisted DOWN spindles in ascending order, while the list has room (R39). -/
def State.relist (d : Nat) (s : State) : State :=
  s.each (s.unlisted d) fun n t => t.listSpindle (sideFrame d) n

/-! ### Cut-outs and pieced ends -/

/-- A spindle becomes CUT_OUT with a cause; CUT_OUT is journalled and the cut-out counted (R9, R11, R15, R21). -/
def State.cutSpindle (f n : Nat) (c : CutCause) (s : State) : State :=
  ((s.setSpindle f n { (s.spindle f n).to .cutOut with cutCause := some c, saved := none }).journal .cutOut f 0
    [w32 n, w32 c.code]).count f (Counts.addCut c)

/-- An end is counted as pieced, with PIECED journalled (R8, R13). -/
def State.pieced (f n : Nat) (s : State) : State :=
  (s.journal .pieced f 0 [w32 n]).count f fun x => { x with pieced := addTo top32 x.pieced 1 }

/-- The outcomes of a PIECE_FAIL, in the order R60 lists them (log entry 7). -/
inductive FailKind
  | noEnd | threadFail | joinFail | timeout | noRoving | proveFail
deriving DecidableEq, Repr

def FailKind.code : FailKind → Nat
  | .noEnd => 1
  | .threadFail => 2
  | .joinFail => 3
  | .timeout => 4
  | .noRoving => 5
  | .proveFail => 6

/-- A piece failure is journalled and counted (R60). -/
def State.pieceFail (f n p : Nat) (token : Token) (k : FailKind) (stage : Option AttemptStep) (cut : Bool)
    (s : State) : State :=
  (s.journal .pieceFail f p
    [w32 n, token.setWidth 32, w32 k.code,
      w32 (match stage with
        | some t => stageCode t
        | none => 0),
      w32 (s.spindle f n).attempts, flagWord cut]).count f
    fun x => { x with pieceFailures := addTo top32 x.pieceFailures 1 }

/-- One more attempt on a spindle's account (R11). -/
def Spindle.failed (x : Spindle) : Spindle := { x with attempts := min 7 (x.attempts + 1) }

/-! ### The section lock -/

/-- A carrier in WAIT_LOCK or TRAVEL takes the lock: WORKING, CHANGE handed, the change timer runs (R116, R117). -/
def State.carrierTakes (c k : Nat) (waiting : Holder) (s : State) : State :=
  let x := s.carrier c
  (s.setCreel k { s.creel k with lock := .carrier c, waiting := waiting, holdSent := false }
    |>.setCarrier c { x with state := .working, change := x.change.runOn }).hand (carrierAddr c) .change

/-- A piecer releases the lock it holds: a carrier that waits takes it in the same event (R115). -/
def State.piecerReleases (p k : Nat) (s : State) : State :=
  let x := s.creel k
  if x.lock = .piecer p then
    match x.waiting with
    | .carrier c => s.carrierTakes c k .none
    | .none | .piecer _ => s.setCreel k { x with lock := .none }
  else s

/-- A carrier releases the lock it holds: a held piecer gets it back with RESUME and goes on at its recorded step, its
timer running on (R48, R115, R118). -/
def State.carrierReleases (c k : Nat) (s : State) : State :=
  let x := s.creel k
  if x.lock = .carrier c then
    match x.waiting with
    | .piecer p =>
      let y := s.piecer p
      let s := s.setCreel k { x with lock := .piecer p, waiting := .none }
        |>.setPiecer p { y with state := .attempting, attempt := y.attempt.runOn }
      match y.current with
      | some t => s.hand (piecerAddr p) (.resume t)
      | none => s
    | .none | .carrier _ => s.setCreel k { x with lock := .none, waiting := .none, holdSent := false }
  else s

/-- The part of a section that a frame's spindle lies in, by section number. -/
def creelOfSpindle (f n : Nat) : Nat := creelNo f (sectionOf n)

/-! ### Claims of the Dispatcher (R11) -/

/-- The ABANDONED claim: DOWN in place, or STARVED and off the list if the section is at 0 (R11). -/
def State.claimAbandoned (f n : Nat) (s : State) : State :=
  let x := s.spindle f n
  if x.state = .piecing then
    if (s.creel (creelOfSpindle f n)).remaining = 0 then
      (s.setSpindle f n (x.to .starved)).removeEntry f n
    else s.setSpindle f n { x.to .down with listed := true }
  else s

/-- The JOINED claim: PROVING, and the entry leaves (R11, R50). -/
def State.claimJoined (f n : Nat) (s : State) : State :=
  let x := s.spindle f n
  if x.state = .piecing then (s.setSpindle f n (x.to .proving)).removeEntry f n else s

/-- A failure claim with its limit test, then the failure's journal entry and count (R11, R51, R60). -/
def State.claimFailed (f n p : Nat) (token : Token) (k : FailKind) (stage : Option AttemptStep) (s : State) : State :=
  let x := (s.spindle f n).failed
  if (s.spindle f n).state = .piecing then
    if s.settings.attemptLimit ≤ x.attempts then
      ((s.setSpindle f n x).cutSpindle f n .attempts |>.removeEntry f n).pieceFail f n p token k stage true
    else (s.setSpindle f n { x.to .down with listed := true }).pieceFail f n p token k stage false
  else s

/-- The NO_ROVING claim: CUT_OUT, and the entry leaves; a failure that adds no attempt (R11, R52, R60). -/
def State.claimNoRoving (f n p : Nat) (token : Token) (stage : Option AttemptStep) (s : State) : State :=
  if (s.spindle f n).state = .piecing then
    (s.cutSpindle f n .noRoving |>.removeEntry f n).pieceFail f n p token .noRoving stage true
  else s

end Sys2Proof.Machine
end

