-- ==== Sys2Proof/Machine/Piecers.lean ====
section
/-! DEFINITION. Where piecers go (R70, R73), how the part ends attempts (R54), and the loss of a piecer (R77). -/

namespace Sys2Proof.Machine

/-- The reasons of a PIECER_MOVED (R70). -/
inductive MoveReason
  | home | lend | order | back
deriving DecidableEq, Repr

def MoveReason.code : MoveReason → Nat
  | .home => 1
  | .lend => 2
  | .order => 3
  | .back => 4

/-- The bay's place code in PIECER_MOVED (11.2.3). -/
def bayPlace : Nat := 17

/-- The place a piecer leaves (R70, 11.2.3): its side, the bay, or none. -/
def Piecer.place (x : Piecer) : Nat :=
  match x.side with
  | some d => d
  | none => if x.state = .parked then bayPlace else 0

/-- Journal a move of a piecer (R70, R73). A move that R73 gives no reason carries 0 (R198). -/
def State.journalMove (p left dest : Nat) (r : Option MoveReason) (s : State) : State :=
  s.journal .piecerMoved 0 p [w32 left, w32 dest,
    w32 (match r with
      | some x => x.code
      | none => 0)]

/-- The side a piecer was assigned to becomes unserved (R65), which the arbiter is told of (R66). -/
def State.unserve (p : Nat) (s : State) : State :=
  match (s.piecer p).side with
  | some d => (s.setSide d { s.side d with piecer := none }).oweArbiter
  | none => s

/-- Send a piecer to a side by GOTO (R70). -/
def State.sendToSide (p d : Nat) (r : MoveReason) (s : State) : State :=
  let left := (s.piecer p).place
  let s := s.unserve p
  let s := s.setSide d { s.side d with piecer := some p }
  let s := s.setPiecer p { s.piecer p with
    state := .moving, side := some d, atBay := false, atFrameEnd := false, returned := false
    travel := Timer.load (1000 * s.settings.travelTimeout) }
  (s.hand (piecerAddr p) (.goto d)).journalMove p left d (some r)

/-- Send a piecer to the park bay (R73). -/
def State.sendToBay (p : Nat) (placement : Placement) (r : Option MoveReason) (s : State) : State :=
  let left := (s.piecer p).place
  let s := s.unserve p
  let s := s.hand (piecerAddr p) .park
  let s := s.setPiecer p { s.piecer p with
    state := .parked, side := none, placement := placement, atBay := false, parkOwed := false, atFrameEnd := false
    returned := false, travel := Timer.load (1000 * s.settings.travelTimeout) }
  (s.journalMove p left bayPlace r).oweArbiter

/-- A piecer whose attempt has ended: to the bay when a park is owed (R75) or the part winds down (R166), else idle on
its side, for a choice or the arbiter to take up (R53). -/
def State.attemptOver (p : Nat) (s : State) : State :=
  let x := s.piecer p
  let s := s.setPiecer p { x with
    state := .onSide, current := none, spindle := none, stage := none, attempt := Timer.off }
  if x.parkOwed then s.sendToBay p .park (some .order)
  else if s.winding then s.sendToBay p .pool none
  else s.oweArbiter

/-- The part ends a piecer's attempt by its own decision (R54): the token becomes void, the timer stops, the lock is
released or the waiting claim withdrawn, and the ABANDONED claim is handed on. The piecer's next state is the caller's. -/
def State.voidAttempt (p : Nat) (send : Bool) (s : State) : State :=
  let x := s.piecer p
  match x.current, x.spindle, x.side with
  | some t, some n, some d =>
    let k := creelOfSpindle (sideFrame d) n
    let s := if send then s.hand (piecerAddr p) (.abandon t) else s
    let s := s.setPiecer p { x with current := none, void := some t, attempt := Timer.off, spindle := none, stage := none }
    let s :=
      if (s.creel k).waiting = .piecer p then s.setCreel k { s.creel k with waiting := .none }
      else s.piecerReleases p k
    s.claimAbandoned (sideFrame d) n
  | _, _, _ => s

/-- Abandon a piecer's attempt; the piecer stays on its side (R53, R54). -/
def State.abandon (p : Nat) (s : State) : State :=
  if (s.piecer p).current.isSome then (s.voidAttempt p true).attemptOver p else s

/-- The piecers with an attempt on a frame (R55), side A first, the model's choice (log entry 73). -/
def State.attemptsOn (s : State) (f : Nat) : List Nat :=
  (frameSides f).filterMap fun d =>
    match (s.side d).piecer with
    | some p => if (s.piecer p).current.isSome then some p else none
    | none => none

/-- The piecer whose attempt stands on a spindle. -/
def State.attemptAt (s : State) (f n : Nat) : Option Nat :=
  match (s.side (sideOf f n)).piecer with
  | some p => if (s.piecer p).current.isSome && (s.piecer p).spindle == some n then some p else none
  | none => none

/-- Abandon every attempt on a frame, before or past the join point (R55, R97). -/
def State.abandonAll (f : Nat) (s : State) : State := s.each (s.attemptsOn f) fun p t => t.abandon p

/-- Abandon the attempts of a frame that drains: those before the join point, and those HELD (R55, R88). -/
def State.abandonDrain (f : Nat) (s : State) : State :=
  s.each ((s.attemptsOn f).filter fun p => (s.piecer p).state == .held || !pastJoin (s.piecer p).stage)
    fun p t => t.abandon p

/-- What the Dispatcher does with a piecer that is lost, whatever the cause (R77): no ABANDON is sent, the side becomes
unserved, the placement POOL, a PIECER_PLACE in the book is REFUSED NOT_PRESENT. -/
def State.piecerLost (p : Nat) (byLink : Bool) (s : State) : State :=
  let f := (s.piecer p).side.map sideFrame
  let s := s.voidAttempt p false
  let s := s.unserve p
  let s := s.setPiecer p { s.piecer p with
    state := .lost, side := none, travel := Timer.off, parkOwed := false, atFrameEnd := false, atBay := false
    placement := .pool, returned := false, byLink := byLink, lostStamp := s.clock
    current := none, spindle := none, stage := none, attempt := Timer.off }
  let s := s.finishBook (orderOn .piecerPlace p) (some .notPresent) []
  let s := s.oweArbiter
  match f with
  | some g => s.unitAlarm g
  | none => s.raise .unit

/-- Whether a loss has any effect (R77). -/
def Piecer.losable (x : Piecer) : Bool := x.state != .absent && x.state != .lost

/-- The Dispatcher's own losses, by travel timeout or FAULT: UNIT_LOST is journalled and the queue emptied (R77). -/
def State.losePiecer (p : Nat) (cause : Word) (s : State) : State :=
  if (s.piecer p).losable then
    ((s.piecerLost p false).emptyQueue (piecerAddr p)).journalLost (piecerAddr p) cause
  else s

end Sys2Proof.Machine
end

