-- ==== Sys2Proof/Machine/Roving.lean ====
section
/-! DEFINITION. Roving Supply: consumption and its tests (R106 to R109), the change queue (R110, R111), and how changes
start and end (R113 to R122). -/

namespace Sys2Proof.Machine

def SectionState.code : SectionState → Nat
  | .fed => 1
  | .low => 2
  | .queued => 3
  | .changing => 4
  | .lotHold => 5

def CarrierState.code : CarrierState → Nat
  | .absent => 1
  | .idle => 2
  | .loading => 3
  | .travel => 4
  | .waitLock => 5
  | .working => 6
  | .returning => 7
  | .fault => 8
  | .lost => 9

/-- The causes of a CREEL_FAULT (R119). -/
inductive ChangeEnd
  | changeFault | timeout | unaskedReturn
deriving DecidableEq, Repr

def ChangeEnd.code : ChangeEnd → Nat
  | .changeFault => 1
  | .timeout => 2
  | .unaskedReturn => 3

/-- A section's remaining in m (R105). -/
def Creel.remainingM (x : Creel) : Nat := x.remaining / 1000

/-! ### The change queue -/

/-- A queued section's stamp as a plain number (R110). -/
def State.queueStampOf (s : State) (c : Nat) : Nat :=
  match (s.creel c).queueStamp with
  | some w => w.toNat
  | none => 0

/-- A queue with one more section behind every stamp at or below its own (R110). -/
def placeByStamp (stampOf : Nat → Nat) (c t : Nat) : List Nat → List Nat
  | [] => [c]
  | x :: r => if stampOf x ≤ t then x :: placeByStamp stampOf c t r else c :: x :: r

/-- Queue a section by its stamp (R110); the caller has seen that there is room. -/
def State.queueByStamp (c : Nat) (t : Word) (s : State) : State :=
  { s.setCreel c { s.creel c with state := .queued, queueStamp := some t } with
    roving.queue := placeByStamp s.queueStampOf c t.toNat s.roving.queue }

/-- Room in the change queue (R110). -/
def State.queueRoom (s : State) : Bool := decide (s.roving.queue.length < Config.changeQueueRoom)

/-- The tail of a full queue is displaced: it becomes LOW (R110). -/
def State.displaceTail (s : State) : State :=
  if s.queueRoom then s
  else match s.roving.queue.getLast? with
    | none => s
    | some t =>
      { s.setCreel t { s.creel t with state := .low, queueStamp := none } with
        roving.queue := s.roving.queue.dropLast }

/-- Queue a section at the head (R110). -/
def State.queueAtHead (c : Nat) (s : State) : State :=
  let s := s.displaceTail
  let t := match s.roving.queue with
    | h :: _ => min s.clock.toNat (s.queueStampOf h)
    | [] => s.clock.toNat
  { s.setCreel c { s.creel c with state := .queued, queueStamp := some (w32 t), carrier := none } with
    roving.queue := c :: s.roving.queue }

/-- A section leaves the queue; a refill follows in the event (R111). -/
def State.leaveQueue (c : Nat) (s : State) : State :=
  if c ∈ s.roving.queue then
    { s with roving.queue := s.roving.queue.filter fun x => x != c }.oweRefill
  else s

/-- The stamp predicted from the frame's delivery rate (R107). -/
def State.predictedStamp (s : State) (c : Nat) : Word :=
  let f := creelFrame c
  let g := s.feed f
  let t := s.clock.toNat +
    ((s.creel c).remaining * (s.frameSettings f).draft * g.period) / (g.rate * 1000)
  if g.rate = 0 || 4294967295 < t then w32 4294967295 else w32 t

/-- The LOW sections of the group, by number. -/
def State.lowSections (s : State) : List Nat :=
  (s.roving.creels.filter fun e => decide (e.2.state = .low)).map Prod.fst

/-- The section with the least remaining, ties going to the lower number (R111). -/
def State.leastOf (s : State) : List Nat → Option Nat
  | [] => none
  | c :: r =>
    match s.leastOf r with
    | none => some c
    | some d => if (s.creel d).remaining < (s.creel c).remaining then some d else some c

/-- Queue LOW sections while there is room (R111); the number bounds the repetitions. -/
def refillN : Nat → State → State
  | 0, s => s
  | n + 1, s =>
    if s.queueRoom then
      match s.leastOf s.lowSections with
      | some c => refillN n (s.queueByStamp c (s.predictedStamp c))
      | none => s
    else s

/-- The refill of R111. -/
def State.refill (s : State) : State := refillN Config.changeQueueRoom s

/-! ### Tests and consumption -/

/-- The low test of a section (R108). -/
def State.lowTest (c : Nat) (s : State) : State :=
  let x := s.creel c
  let f := creelFrame c
  if x.state = .fed ∧ x.remainingM ≤ (s.frameSettings f).lowThreshold then
    let s := (s.setCreel c { x with state := .low }).journal .sectionLow f 0 [w32 (creelIndex c), w32 x.remainingM]
    if s.queueRoom then s.queueByStamp c (s.predictedStamp c) else s
  else s

/-- The run-out claim on one spindle of a section (R12). -/
def State.runOutSpindle (f n : Nat) (s : State) : State :=
  let x := s.spindle f n
  match x.state with
  | .down =>
    let s := s.setSpindle f n (x.to .starved)
    if x.listed then s.removeEntry f n else s
  | .piecing =>
    match s.attemptAt f n with
    | some p => s.abandon p
    | none => s
  | .checking =>
    if x.saved = some .down then s.setSpindle f n { x with saved := some .starved } else s
  | .absent | .settling | .running | .proving | .starved | .cutOut => s

/-- The run-out test of a section whose remaining was above 0 before the subtraction (R109). -/
def State.runOutTest (c : Nat) (s : State) : State :=
  let f := creelFrame c
  if (s.creel c).remaining = 0 then
    let s := s.journal .sectionEmpty f 0 [w32 (creelIndex c), w32 (s.creel c).state.code]
    (s.alarm f).each (spindlesOfSection (creelIndex c)) fun n t => t.runOutSpindle f n
  else s

/-- A frame's advance is turned into roving used and taken from every in-plan section, which are then tested in ascending
order (R106, R108, R109). -/
def State.consume (f advance : Nat) (s : State) : State :=
  let t := s.frameSettings f
  let g := s.feed f
  let total := advance * 10 + g.carry
  let used := total / t.draft
  let s := s.setFeed f { g with carry := total % t.draft }
  let all := (sectionsInPlan t.perSide).map (creelNo f)
  let had := all.filter fun c => decide (0 < (s.creel c).remaining)
  let s := s.each all fun c u => u.setCreel c { u.creel c with remaining := (u.creel c).remaining - used }
  s.each all fun c u =>
    let u := u.lowTest c
    if c ∈ had then u.runOutTest c else u

/-! ### Carriers -/

/-- The IDLE carrier of lowest number (R113). -/
def State.idleCarrier (s : State) : Option Nat := [1, 2, 3, 4].find? fun c => (s.carrier c).state == .idle

/-- The dispatcher hands the queue head to the lowest IDLE carrier, again and again (R113). -/
def dispatchN : Nat → State → State
  | 0, s => s
  | n + 1, s =>
    match s.idleCarrier, s.roving.queue with
    | some c, k :: _ =>
      let lot : Token := BitVec.ofNat 16 (s.frameSettings (creelFrame k)).lot
      let s := s.leaveQueue k
      let s := s.setCreel k { s.creel k with state := .changing, queueStamp := none, carrier := some c }
      let s := s.setCarrier c { s.carrier c with
        state := .loading, creel := some k, lotSent := some lot, dispatched := s.clock
        change := Timer.load (1000 * s.settings.changeTimeout) }
      dispatchN n (s.hand (carrierAddr c) (.load lot))
    | _, _ => s

/-- The carrier dispatcher (R113): there are four carriers. -/
def State.dispatch (s : State) : State := if s.working then dispatchN 4 s else s

/-- Send a carrier back as RETURN (R120). -/
def State.sendBack (c : Nat) (s : State) : State :=
  (s.setCarrier c { s.carrier c with
    state := .returning, creel := none, lotSent := none, change := Timer.off
    back := Timer.load (1000 * s.settings.changeTimeout) }).hand (carrierAddr c) .ret

/-- Send a carrier back as FAULT (R120). -/
def State.sendBackFault (c : Nat) (s : State) : State :=
  (s.setCarrier c { s.carrier c with
    state := .fault, creel := none, lotSent := none, change := Timer.off, back := Timer.off }).hand (carrierAddr c) .ret

/-- A carrier with nothing to do (R120). -/
def State.makeIdle (c : Nat) (s : State) : State :=
  s.setCarrier c { s.carrier c with
    state := .idle, creel := none, lotSent := none, lotLoaded := none, change := Timer.off, back := Timer.off }

/-- A change fails, whatever the cause (R119): the lock is released or the wait withdrawn, and the section requeued at the
head with its remaining unchanged. The carrier's next state is the caller's. -/
def State.failChange (c : Nat) (s : State) : State :=
  match (s.carrier c).creel with
  | none => s
  | some k =>
    let s := s.carrierReleases c k
    let s :=
      if (s.creel k).waiting = .carrier c then s.setCreel k { s.creel k with waiting := .none, holdSent := false }
      else s
    s.queueAtHead k

/-- Journal a CREEL_FAULT (R119): frame and section 0 when the carrier served none. -/
def State.creelFault (c : Nat) (k : Option Nat) (left : CarrierState) (e : ChangeEnd) (s : State) : State :=
  match k with
  | some n =>
    (s.journal .creelFault (creelFrame n) c [w32 (creelIndex n), w32 left.code, w32 e.code]).unitAlarm (creelFrame n)
  | none => (s.journal .creelFault 0 c [0#32, w32 left.code, w32 e.code]).raise .unit

/-- A change under way: the states in which a change can fail (R119). -/
def CarrierState.serving : CarrierState → Bool
  | .loading | .travel | .waitLock | .working => true
  | .absent | .idle | .returning | .fault | .lost => false

/-- A change fails by a fault report or a timeout: the carrier becomes FAULT (R119). -/
def State.changeFails (c : Nat) (e : ChangeEnd) (s : State) : State :=
  let x := s.carrier c
  ((s.failChange c).sendBackFault c).creelFault c x.creel x.state e

/-- A change fails because the carrier went home unasked: it becomes IDLE (R119). -/
def State.changeReturned (c : Nat) (s : State) : State :=
  let x := s.carrier c
  ((s.failChange c).makeIdle c).creelFault c x.creel x.state .unaskedReturn

/-- What Roving Supply does with a carrier that is lost (R122). -/
def State.carrierLost (c : Nat) (s : State) : State :=
  let x := s.carrier c
  if x.state = .absent then s
  else
    let s := if x.state.serving then s.failChange c else s
    let s := s.setCarrier c { s.carrier c with
      state := .lost, creel := none, lotSent := none, lotLoaded := none, change := Timer.off, back := Timer.off }
    match x.creel with
    | some k => s.unitAlarm (creelFrame k)
    | none => s

/-- The CHANGE_DONE claim on one spindle of a section (R12). -/
def State.renewSpindle (f n : Nat) (s : State) : State :=
  let x := s.spindle f n
  match x.state with
  | .starved => s.makeDown f n
  | .checking => if x.saved = some .starved then s.setSpindle f n { x with saved := some .down } else s
  | .absent | .settling | .running | .down | .piecing | .proving | .cutOut => s

/-- A lot as a word. -/
def lotWord (l : Option Token) : Word :=
  match l with
  | some t => t.setWidth 32
  | none => 0#32

/-- A CREEL_CHANGE on a section is DONE (R124): completion 1 CHANGED, 2 LOT_HELD. -/
def State.creelOrderDone (c k completion : Nat) (lot : Option Token) (s : State) : State :=
  (s.setCreel k { s.creel k with orderSeq := none }).finishBook
    (orderOnSection .creelChange (creelFrame k) (creelIndex k)) none [w32 completion, w32 c, s.clock, lotWord lot]

/-- A change is done (R118). -/
def State.changeDone (c k : Nat) (s : State) : State :=
  let x := s.carrier c
  let f := creelFrame k
  let s := s.setCreel k { s.creel k with remaining := (s.frameSettings f).fullRoving * 1000 }
  let s := s.each (spindlesOfSection (creelIndex k)) fun n t => t.renewSpindle f n
  let s := s.carrierReleases c k
  let s := s.setCreel k { s.creel k with state := .fed, carrier := none }
  let s := s.sendBack c
  let s := s.journal .creelDone f c [w32 (creelIndex k), lotWord x.lotLoaded, w32 (s.since x.dispatched)]
  let s := s.count f fun y => { y with creelChanges := addTo top32 y.creelChanges 1 }
  s.creelOrderDone c k 1 x.lotLoaded

/-- The lot check of a LOADING carrier's report (R114). -/
def State.lotCheck (c k : Nat) (lot : Token) (s : State) : State :=
  let f := creelFrame k
  let wanted : Token := BitVec.ofNat 16 (s.frameSettings f).lot
  let s := s.setCarrier c { s.carrier c with lotLoaded := some lot, lotSent := none }
  if lot = wanted then
    (s.setCarrier c { s.carrier c with state := .travel }).hand (carrierAddr c) (.gotoCreel f (creelIndex k))
  else
    let s := s.sendBack c
    let s := s.setCreel k { s.creel k with state := .lotHold, carrier := none }
    let s := s.journal .lotMismatch f c [w32 (creelIndex k), lot.setWidth 32, wanted.setWidth 32]
    let s := s.alarm f
    let s := s.count f fun y => { y with lotMismatches := addTo top32 y.lotMismatches 1 }
    s.creelOrderDone c k 2 (some lot)

/-- A carrier in TRAVEL claims the section lock (R116). -/
def State.claimLock (c k : Nat) (s : State) : State :=
  match (s.creel k).lock with
  | .piecer p =>
    let y := s.piecer p
    let x := s.carrier c
    let s := s.setCarrier c { x with state := .waitLock, change := x.change.pause }
    if pastJoin y.stage then s.setCreel k { s.creel k with waiting := .carrier c, holdSent := false }
    else
      let s := s.setCreel k { s.creel k with waiting := .carrier c, holdSent := true }
      match y.current with
      | some t => s.hand (piecerAddr p) (.hold t)
      | none => s
  | .none | .carrier _ => s.carrierTakes c k .none

/-! ### Carrier reports and the return timer (R120, R121) -/

/-- LOADED by the carrier's state (R121). -/
def State.takeLoaded (c : Nat) (lot : Token) (s : State) : State :=
  match (s.carrier c).state, (s.carrier c).creel with
  | .loading, some k => s.lotCheck c k lot
  | _, _ => s

/-- ARRIVED by the carrier's state (R121). -/
def State.takeArrived (c : Nat) (s : State) : State :=
  match (s.carrier c).state, (s.carrier c).creel with
  | .travel, some k => s.claimLock c k
  | _, _ => s

/-- CHANGE_DONE by the carrier's state (R121). -/
def State.takeChangeDone (c : Nat) (s : State) : State :=
  match (s.carrier c).state, (s.carrier c).creel with
  | .working, some k => s.changeDone c k
  | _, _ => s

/-- A RETURN carrier becomes FAULT where it is (R120, R121). -/
def State.returnFails (c : Nat) (e : ChangeEnd) (s : State) : State :=
  (s.setCarrier c { s.carrier c with state := .fault, back := Timer.off }).creelFault c none .returning e

/-- CHANGE_FAULT by the carrier's state (R121). -/
def State.takeChangeFault (c : Nat) (s : State) : State :=
  match (s.carrier c).state with
  | .idle => (s.sendBackFault c).creelFault c none .idle .changeFault
  | .loading | .travel | .waitLock | .working => s.changeFails c .changeFault
  | .returning => s.returnFails c .changeFault
  | .absent | .fault | .lost => s

/-- RETURNED by the carrier's state (R121). -/
def State.takeReturned (c : Nat) (s : State) : State :=
  match (s.carrier c).state with
  | .loading | .travel | .waitLock | .working => s.changeReturned c
  | .returning | .fault => s.makeIdle c
  | .absent | .idle | .lost => s

/-! ### Sections and the plan (R125, R128) -/

/-- A section set up from the plan's start remaining in m: LOW or FED (R125, R128). -/
def Creel.start (m low : Nat) : Creel :=
  { Creel.reset with remaining := m * 1000, state := if m ≤ low then .low else .fed }

/-- Sections in ascending remaining. That ties go to the lower number is the model's choice (R125, R159; log entry 66). -/
def sortByRemaining (remaining : Nat → Nat) : List Nat → List Nat
  | [] => []
  | c :: r => insert c (sortByRemaining remaining r)
where
  insert (c : Nat) : List Nat → List Nat
    | [] => [c]
    | d :: r => if remaining d < remaining c then d :: insert c r else c :: d :: r

/-- Queue these sections in ascending remaining while the queue has room, stamped with the mill clock (R125, R128). -/
def State.queueNow (l : List Nat) (s : State) : State :=
  s.each (sortByRemaining (fun c => (s.creel c).remaining) l) fun c t =>
    if t.queueRoom then t.queueByStamp c t.clock else t

/-- A section leaves the plan (R125): it leaves the queue, its carrier is sent back, its CREEL_CHANGE is refused. -/
def State.creelOut (k : Nat) (s : State) : State :=
  let x := s.creel k
  let s := s.leaveQueue k
  let s := match x.carrier with
    | some c => (s.carrierReleases c k).sendBack c
    | none => s
  let s := s.finishBook (orderOnSection .creelChange (creelFrame k) (creelIndex k)) (some .notPresent) []
  s.setCreel k Creel.reset

end Sys2Proof.Machine
end

