-- ==== Sys2Proof/Machine/Doffing.lean ====
section
/-! DEFINITION. The Frame Sequencer: frame states (R80), the doff slots (R85 to R87), draining, stopping and doffing
(R88 to R92), the restart grace and doff completion (R93 to R95), stops and drive reports (R97 to R101). -/

namespace Sys2Proof.Machine

def FrameState.code : FrameState → Nat
  | .out => 1
  | .halted => 2
  | .restarting => 3
  | .building => 4
  | .nearing => 5
  | .called => 6
  | .draining => 7
  | .stopping => 8
  | .doffing => 9

def CallCause.code : CallCause → Nat
  | .compare => 1
  | .doffNow => 2
  | .owed => 3
  | .plan => 4

def HaltCause.code : HaltCause → Nat
  | .order => 1
  | .driveFault => 2
  | .driveStopped => 3
  | .stopTimeout => 4
  | .doffTimeout => 5
  | .census => 6
  | .noDrive => 7
  | .plan => 8

/-! ### Changes of state -/

/-- The frame's stop time is brought into the open page and the mark taken away (R134). -/
def State.closeStop (f : Nat) (s : State) : State :=
  match (s.roller f).stopMark with
  | some m =>
    (s.count f fun x => { x with stopDs := addTo top32 x.stopDs (s.since m) }).setRoller f
      { s.roller f with stopMark := none }
  | none => s

/-- The stop mark of a stopped frame is set while a page is open (R134). -/
def State.openStop (f : Nat) (s : State) : State :=
  match s.output.page with
  | some _ => s.setRoller f { s.roller f with stopMark := some s.clock }
  | none => s

/-- The piecers of a frame's sides run to the frame end no longer (R69). -/
def State.leaveFrameEnds (f : Nat) (s : State) : State :=
  s.each (frameSides f) fun d t =>
    match (t.side d).piecer with
    | some p => t.setPiecer p { t.piecer p with atFrameEnd := false }
    | none => t

/-- A frame enters a state: its stop time (R134), its delivery rate (R107), the frame ends (R69) and the arbiter (R66)
follow the groups of states it leaves and enters. -/
def State.enterState (f : Nat) (st : FrameState) (s : State) : State :=
  let old := (s.frame f).state
  let s := s.setFrame f { s.frame f with state := st }
  let s :=
    if old.runs && st.stopped then
      (s.openStop f).setFeed f { s.feed f with rate := 0 }
    else if old.stopped && st.runs then s.closeStop f
    else s
  if old.piecing != st.piecing then
    (if st.piecing then s.leaveFrameEnds f else s).oweArbiter
  else s

/-- Hand a drive its command (R190). -/
def State.handDrive (f : Nat) (c : Cmd) (s : State) : State := s.hand f c

/-! ### Doff slots -/

/-- The frames of the group. -/
def allFrames : List Nat := [1, 2, 3, 4, 5, 6, 7, 8]

/-- The frames that hold a doff slot (R85). -/
def State.slotHolders (s : State) : List Nat := allFrames.filter fun f => (s.frame f).slot.isSome

/-- The lowest-numbered free slot under the slots in force, while fewer frames hold slots than that (R86, R160). -/
def State.freeSlot (s : State) : Option Nat :=
  if s.slotHolders.length < s.settings.doffSlots then
    (oneTo s.settings.doffSlots).find? fun k => allFrames.all fun f => (s.frame f).slot != some k
  else none

/-- A CALLED frame's stamp as a plain number. -/
def State.callStampOf (s : State) (f : Nat) : Nat :=
  match (s.frame f).callStamp with
  | some w => w.toNat
  | none => 0

/-- The frame of lowest stamp, ties going to the lowest number (R86). -/
def State.earliestCalled (s : State) : List Nat → Option Nat
  | [] => none
  | f :: r =>
    match s.earliestCalled r with
    | none => some f
    | some g => if s.callStampOf g < s.callStampOf f then some g else some f

/-- The CALLED frame first in the call order (R86). -/
def State.nextCalled (s : State) : Option Nat :=
  s.earliestCalled (allFrames.filter fun f => (s.frame f).state == .called)

/-- A frame is granted a slot and enters DRAINING (R88). Its draining is tested before the event ends (R89). -/
def State.grantSlot (f k : Nat) (s : State) : State :=
  let x := s.frame f
  let waited := match x.callStamp with
    | some w => s.since w
    | none => 0
  let s := s.setFrame f { x with slot := some k, callStamp := none, callCause := none, drainBuild := x.buildM }
  let s := s.enterState f .draining
  let s := s.journal .doffGranted f 0 [w32 k, w32 x.buildM, w32 waited]
  s.abandonDrain f

/-- Grants, again and again (R86). -/
def grantN : Nat → State → State
  | 0, s => s
  | n + 1, s =>
    match s.freeSlot, s.nextCalled with
    | some k, some f => grantN n (s.grantSlot f k)
    | _, _ => s

/-- The doff slot arbiter (R86): there are two slots. -/
def State.doffArbiter (s : State) : State := if s.working then grantN 2 s else s

/-- A frame becomes CALLED (R82). -/
def State.callFrame (f : Nat) (c : CallCause) (s : State) : State :=
  let s := s.enterState f .called
  let s := s.setFrame f { s.frame f with callStamp := some s.clock, callCause := some c }
  (s.journal .doffCalled f 0 [w32 c.code, w32 (s.frame f).buildM]).doffArbiter

/-- A frame releases its slot, and the arbiter is evaluated (R87). -/
def State.releaseSlot (f : Nat) (s : State) : State :=
  if (s.frame f).slot.isSome then (s.setFrame f { s.frame f with slot := none }).doffArbiter else s

/-! ### Doff completion and the restart grace -/

/-- A frame's doff is completed (R95): build reloaded, slot released, doff counted and journalled, a DOFF_NOW DONE with
completion DOFFED, coded 1, the model's choice (log entry 64). The build that DOFF_DONE carries is build_m, the model's
choice (log entry 46). -/
def State.completeDoff (f : Nat) (s : State) : State :=
  let x := s.frame f
  let s := s.setRoller f { s.roller f with build := 0 }
  let s := s.setFrame f { x with buildM := 0 }
  let s := s.releaseSlot f
  let s := s.count f fun y => { y with doffs := addTo top32 y.doffs 1 }
  let s := s.journal .doffDone f 0 [w32 (x.slot.getD 0), w32 x.buildM, x.doneStamp]
  s.finishBook (orderOn .doffNow f) none [1#32, x.doneStamp, w32 x.drainBuild]

/-- The grace-end claim on one spindle (R13). That slip is cleared on a CHECKING spindle too is the model's choice (R13 and
R20; log entry 39). -/
def State.graceSpindle (f n : Nat) (afterDoff : Bool) (s : State) : State :=
  let x := s.spindle f n
  let y := if afterDoff then { x with slip := false } else x
  match x.state with
  | .running => s.setSpindle f n (y.to .settling)
  | .proving => (s.setSpindle f n { y.to .settling with attempts := 0 }).pieced f n
  | .absent | .settling | .down | .piecing | .starved | .cutOut | .checking => s.setSpindle f n y

/-- Put a frame in the state that a build in mm calls for: CALLED, NEARING or BUILDING (R81). -/
def State.placeAt (f build : Nat) (c : CallCause) (s : State) : State :=
  let r := s.roller f
  if r.doffValue ≤ build then s.callFrame f c
  else s.enterState f (if r.nearingValue ≤ build then .nearing else .building)

/-- A frame's build_m in mm: the build that the Frame Sequencer has seen (R80, R81). -/
def Frame.buildMm (x : Frame) : Nat := 1000 * x.buildM

/-- Put a frame in the state its build_m calls for (R84, R94, R102). -/
def State.placeByBuild (f : Nat) (c : CallCause) (s : State) : State := s.placeAt f (s.frame f).buildMm c

/-- The state that a grace end enters (R94, step 3). -/
def State.graceState (s : State) (f : Nat) : FrameState :=
  let r := s.roller f
  let build := (s.frame f).buildMm
  if (s.frame f).doffOwed || decide (r.doffValue ≤ build) then .called
  else if r.nearingValue ≤ build then .nearing else .building

/-- The end of a restart grace (R94). -/
def State.graceEnd (f : Nat) (s : State) : State :=
  let finish := (s.frame f).doffFinish
  let s := if finish = .pending then s.completeDoff f else s
  let s := s.each (s.spindlesOfFrame f) fun n t => t.graceSpindle f n (decide (finish ≠ .none))
  let s := s.setFrame f { s.frame f with doffFinish := .none, grace := none }
  let next := s.graceState f
  let s := if (s.frame f).doffOwed then s.callFrame f .owed else s.placeByBuild f .compare
  let s := s.finishBook (orderOn .frameStart f) none [w32 next.code]
  if finish = .none then s.journal .frameRun f 0 [w32 next.code] else s

/-- The Frame Sequencer takes a sweep-end notice (R81, R93). -/
def State.notice (f : Nat) (s : State) : State :=
  let r := s.roller f
  let s := s.setFrame f { s.frame f with buildM := r.build / 1000 }
  match (s.frame f).state with
  | .building => if r.nearingValue ≤ r.build || r.doffValue ≤ r.build then s.placeAt f r.build .compare else s
  | .nearing => if r.doffValue ≤ r.build then s.callFrame f .compare else s
  | .restarting =>
    match (s.frame f).grace with
    | some g =>
      let s := s.setFrame f { s.frame f with grace := some (g - 1) }
      if g ≤ 1 then s.graceEnd f else s
    | none => s
  | .out | .halted | .called | .draining | .stopping | .doffing => s

/-! ### Stopping, doffing and stops -/

/-- Draining ends when no attempt on the frame remains (R89, R90). -/
def State.drainTest (f : Nat) (s : State) : State :=
  if (s.frame f).state = .draining ∧ s.attemptsOn f = [] then
    let s := s.enterState f .stopping
    (s.setFrame f { s.frame f with stopTimer := Timer.load (1000 * s.settings.stopTimeout) }).handDrive f .stopAtDoff
  else s

/-- What FRAME_HALT carries, and its attention (R92, R97): ALARM and JOURNAL. A drive's fault raises no UNIT beside them, though
R167's table could be read so: read by inference from R97 and R98 (log entry 59). -/
def State.haltReport (f : Nat) (c : HaltCause) (left : FrameState) (s : State) : State :=
  (s.journal .frameHalt f 0 [w32 c.code, w32 left.code, flagWord (s.frame f).doffOwed]).alarm f

/-- A stop of a frame, ordered or not (R97, R98); the arbiter is evaluated at every stop. That an unordered stop too completes
a doff in its restart grace, and with it the DOFF_NOW (R95), is the model's choice (log entry 45). -/
def State.stopFrame (f : Nat) (c : HaltCause) (s : State) : State :=
  let left := (s.frame f).state
  let owed := match left with
    | .called | .draining | .stopping | .doffing => true
    | .out | .halted | .restarting | .building | .nearing => false
  let s := (s.withdrawDrive f).handDrive f .stop
  let s := s.abandonAll f
  let s := s.setFrame f { s.frame f with doffOwed := (s.frame f).doffOwed || owed }
  let s :=
    if (s.frame f).doffFinish = .pending then
      let s := s.completeDoff f
      s.setFrame f { s.frame f with doffFinish := .made }
    else s.releaseSlot f
  let s := s.setFrame f { s.frame f with
    stopTimer := Timer.off, doffTimer := Timer.off, callStamp := none, callCause := none, grace := none
    haltCause := some c }
  let s := (s.enterState f .halted).oweArbiter
  let s := s.haltReport f c left
  s.finishBook (orderOn .frameStart f) none [Config.openCode .stopped]

/-- The stop timer or the doff timer of a frame expires: the doff has failed (R92). DOFF_FAULT carries the phase by its code
as a frame state, the model's choice (log entry 67). -/
def State.doffFails (f : Nat) (c : HaltCause) (s : State) : State :=
  let x := s.frame f
  let s := (s.withdrawDrive f).handDrive f .stop
  let s := s.setFrame f { s.frame f with
    haltCause := some c, doffOwed := true, stopTimer := Timer.off, doffTimer := Timer.off }
  let s := s.enterState f .halted
  let s := s.releaseSlot f
  let s := s.journal .doffFault f 0 [w32 (x.slot.getD 0), w32 x.state.code]
  s.haltReport f c x.state

/-- Start a frame's restart (R91, R100): RUN handed, RESTARTING with the grace loaded. -/
def State.restart (f : Nat) (s : State) : State :=
  let s := s.enterState f .restarting
  (s.setFrame f { s.frame f with
    grace := some (s.frameSettings f).grace, haltCause := none, doffTimer := Timer.off }).handDrive f .run

/-- AT_DOFF_POSITION by the frame's state (R90, R99). -/
def State.takeAtDoff (f : Nat) (s : State) : State :=
  if (s.frame f).state = .stopping then
    let s := s.enterState f .doffing
    (s.setFrame f { s.frame f with
      stopTimer := Timer.off, doffTimer := Timer.load (1000 * s.settings.doffTimeout) }).handDrive f .doff
  else s

/-- DOFF_DONE by the frame's state (R91, R99). -/
def State.takeDoffDone (f : Nat) (s : State) : State :=
  let x := s.frame f
  if x.state = .doffing then
    let s := s.restart f
    s.setFrame f { s.frame f with doffFinish := .pending, doffOwed := false, doneStamp := s.clock }
  else if x.state = .halted ∧ x.haltCause = some .doffTimeout ∧ x.doffOwed = true then
    let s := s.setFrame f { x with doffOwed := false, doneStamp := s.clock }
    let s := s.completeDoff f
    s.setFrame f { s.frame f with doffFinish := .made }
  else s

/-- DRIVE_FAULT, or STATE with fault, by the frame's state (R98, R99). -/
def State.takeDriveFault (f : Nat) (s : State) : State :=
  match (s.frame f).state with
  | .out | .halted => s
  | .restarting | .building | .nearing | .called | .draining | .stopping | .doffing => s.stopFrame f .driveFault

/-- STATE by the frame's state (R99). -/
def State.takeDriveState (f : Nat) (d : DriveState) (s : State) : State :=
  match d with
  | .running => if (s.frame f).state = .halted then s.handDrive f .stop else s
  | .stopped | .atDoff | .doffing => if (s.frame f).state.runs then s.stopFrame f .driveStopped else s
  | .fault => s.takeDriveFault f

/-- What a returning drive is handed (R101). -/
def State.driveBack (f : Nat) (s : State) : State :=
  let s := match (s.frame f).state with
    | .out => s
    | .halted => s.handDrive f .stop |>.handDrive f .status
    | .restarting | .building | .nearing | .called | .draining => s.handDrive f .run |>.handDrive f .status
    | .stopping => s.handDrive f .stopAtDoff |>.handDrive f .status
    | .doffing => s.handDrive f .doff |>.handDrive f .status
  s.setFrame f { s.frame f with unit := false }

/-- A lost drive's frame keeps its state; its UNIT bit is set (R101). -/
def State.driveLost (f : Nat) (s : State) : State := s.setFrame f { s.frame f with unit := true }

end Sys2Proof.Machine
end

