-- ==== Sys2Proof/Machine/Output.lean ====
section
/-! DEFINITION. The Output Counter: captures (R131 to R134) and the tally pages (R135 to R144). -/

namespace Sys2Proof.Machine

/-- A close cause's code (R135). -/
def PageCause.closeCode : PageCause → Nat
  | .shiftTimer => 1
  | .shiftClose => 2
  | .partStop => 3
  | .start => 4

/-- An open cause's code (R135). -/
def PageCause.openCode : PageCause → Nat
  | .start => 1
  | .shiftTimer => 2
  | .shiftClose => 3
  | .partStop => 0

/-! ### Captures -/

/-- One pulse at a counted input (R130): a prescaler of 0 is an input not counted (R129). -/
def Roller.pulse (perRev : Nat) (x : Roller) : Roller :=
  if x.prescaler = 0 then x
  else if x.prescaler = 1 then { x with prescaler := perRev, revolutions := x.revolutions + 1#32 }
  else { x with prescaler := x.prescaler - 1 }

/-- The length since the last capture in 0.01 mm, with the carry (R131). -/
def Roller.length (circumference : Nat) (x : Roller) : Nat :=
  (x.revolutions - x.lastCapture).toNat * circumference + x.lengthCarry

/-- The advance of a capture in mm (R131). -/
def Roller.advance (circumference : Nat) (x : Roller) : Nat := x.length circumference / 100

/-- The counter after a capture: last capture, carry, and the build, which stops at its top (R131, R133). -/
def Roller.captured (circumference : Nat) (x : Roller) : Roller :=
  { x with
    lastCapture := x.revolutions
    lengthCarry := x.length circumference % 100
    build := min top32 (x.build + x.advance circumference) }

/-- The lengths and the weight of a capture (R132, R136). -/
def Counts.addLength (advance running tex : Nat) (x : Counts) : Counts :=
  { x with
    frontMm := addTo top32 x.frontMm advance
    spindleMm := addTo top64 x.spindleMm (advance * running)
    weightSum := x.weightSum + advance * running * tex }

/-- The sweeps of a capture (R132). -/
def Counts.addSweeps (running planned : Nat) (x : Counts) : Counts :=
  { x with
    runningSweeps := addTo top64 x.runningSweeps running
    plannedSweeps := addTo top64 x.plannedSweeps planned }

/-- A stopped frame's stop time is brought up to date (R134). -/
def State.updateStop (f : Nat) (s : State) : State :=
  if (s.frame f).state.stopped then (s.closeStop f).openStop f else s

/-- A capture's work common to sweep ends and boundaries: lengths and weight, stop time, build (R131, R132, R140). -/
def State.captureLengths (f running : Nat) (s : State) : State :=
  let t := s.frameSettings f
  let r := s.roller f
  let s := s.count f (Counts.addLength (r.advance t.circumference) running t.tex)
  let s := s.updateStop f
  s.setRoller f { (s.roller f).captured t.circumference with stopMark := (s.roller f).stopMark }

/-- A frame's capture at its sweep end (R132): running and in-plan counts, and the period the sweep ran under. -/
def State.sweepCapture (f running planned period : Nat) (s : State) : State :=
  let advance := (s.roller f).advance (s.frameSettings f).circumference
  let runs := (s.frame f).state.runs
  let s := if runs then s.count f (Counts.addSweeps running planned) else s
  let s := s.captureLengths f running
  let s := s.setRoller f { s.roller f with lastRunning := running }
  let s :=
    if runs then
      (s.setFeed f { s.feed f with rate := advance, period := period }).consume f advance
    else s
  s.notice f

/-- A frame's capture at a shift boundary (R140): no sweeps and no notice. -/
def State.boundaryCapture (f : Nat) (s : State) : State :=
  let advance := (s.roller f).advance (s.frameSettings f).circumference
  let s := s.captureLengths f (s.roller f).lastRunning
  if (s.frame f).state.runs then s.consume f advance else s

/-! ### Pages -/

/-- The pages the view holds as FREE, lowest first (R137). -/
def State.freePages (s : State) : List Nat := [1, 2, 3, 4].filter fun p => s.pageView p == some .free

/-- The open page's waiting rewrite becomes the closing write, in its place or at the tail (R138). -/
def closeInQueue (c : ClosedPage) : List WriteItem → List WriteItem
  | [] => [.closedPage c]
  | i :: r => if i = .openPage then .closedPage c :: r else i :: closeInQueue c r

/-- Close the open page (R141, R144). -/
def State.closePage (cause : PageCause) (s : State) : State :=
  match s.output.page with
  | none => s
  | some p =>
    let c : ClosedPage := ⟨p, s.clock, cause, s.output.counts⟩
    let s := { s with output.page := none, writer.queue := closeInQueue c s.writer.queue }
    let s := s.setPageView p.number .closed
    let s := s.each allFrames fun f t => t.setRoller f { t.roller f with stopMark := none }
    (s.journal .shiftClosed 0 0 [w32 p.number, w32 cause.closeCode, p.stamp, s.clock, w32 p.merged]).raise .tally

/-- Open a page (R141, R146): counts zeroed, and each stopped frame marked (R134). -/
def State.openNewPage (n : Nat) (cause : PageCause) (s : State) : State :=
  let s := { s with output.page := some ⟨n, s.clock, cause, 0⟩, output.counts := [] }
  let s := s.setPageView n .opened
  let s := s.each allFrames fun f t => if (t.frame f).state.stopped then t.openStop f else t
  s.markItem .openPage

/-- A boundary is absorbed (R142, R143). The cause in BOUNDARY_ABSORBED has its close_cause code, the model's choice (log
entry 51). -/
def State.absorb (cause : PageCause) (s : State) : State :=
  match s.output.page with
  | none => s
  | some p =>
    let m := addTo top32 p.merged 1
    let s := { s with output.page := some { p with merged := m } }.markItem .openPage
    (s.journal .boundaryAbsorbed 0 0 [w32 cause.closeCode, w32 p.number, w32 m]).raise .tally

/-- The page work of a shift boundary (R141, R142, R143). -/
def State.rotatePage (cause : PageCause) (s : State) : State :=
  match s.freePages with
  | n :: _ => if s.regs.part = .stalled then s.absorb cause else (s.closePage cause).openNewPage n cause
  | [] => s.absorb cause

/-- The shift timer is loaded with the shift length, which loads nothing when 0 (R139). -/
def State.loadShift (s : State) : State :=
  let m := s.settings.shiftLength
  { s with output.shift := if m = 0 then Timer.off else Timer.load (60000 * m) }

/-- The captures and the page work of a boundary, and the timer (R140, steps 1 to 3). The frames are captured in ascending
number, the model's choice (log entry 52). -/
def State.boundaryPage (cause : PageCause) (s : State) : State :=
  let s := s.each (allFrames.filter fun f => (s.frame f).state != .out) fun f t => t.boundaryCapture f
  match cause with
  | .partStop => { s.closePage .partStop with output.shift := Timer.off }
  | .start | .shiftTimer | .shiftClose => (s.rotatePage cause).loadShift

/-! ### Roller counters and the plan (R129, R133, R147) -/

/-- The compare values of a frame's settings, in mm (R129). -/
def FrameSettings.nearingValue (t : FrameSettings) : Nat := (t.doffLength - t.nearingMargin) * 1000
def FrameSettings.doffValue (t : FrameSettings) : Nat := t.doffLength * 1000

/-- A counter set up for a frame in plan (R129, R133). -/
def Roller.start (t : FrameSettings) (build : Nat) : Roller :=
  { Roller.reset with
    prescaler := t.pulses, build := build, nearingValue := t.nearingValue, doffValue := t.doffValue }

/-- The compare values loaded from the plan in force (R133). -/
def State.loadCompare (f : Nat) (s : State) : State :=
  let t := s.frameSettings f
  s.setRoller f { s.roller f with nearingValue := t.nearingValue, doffValue := t.doffValue }

end Sys2Proof.Machine
end

