-- ==== Sys2Proof/Machine/Rogue.lean ====
section
/-! DEFINITION. The Repeat-Breaker Table (chapter 2): keys and sets, recency choices, victim choice, lookups. -/

namespace Sys2Proof.Machine

/-- The set of a key (R26). -/
def setOfKey (key : Nat) : Nat := key % 16

/-- The place of a way in the table of entries. -/
def wayIndex (set way : Nat) : Nat := set * 4 + way

def RogueTable.entry (t : RogueTable) (set way : Nat) : RogueEntry := tget RogueEntry.reset t.entries (wayIndex set way)

def RogueTable.choices (t : RogueTable) (set : Nat) : Recency := tget Recency.reset t.recency set

def RogueTable.put (t : RogueTable) (set way : Nat) (e : RogueEntry) : RogueTable :=
  { t with entries := tput RogueEntry.reset t.entries (wayIndex set way) e }

/-- A touch makes a way the most recent (R27). -/
def Recency.touch (way : Nat) (r : Recency) : Recency :=
  match way with
  | 0 => { r with pair := true, low := true }
  | 1 => { r with pair := true, low := false }
  | 2 => { r with pair := false, high := true }
  | _ => { r with pair := false, high := false }

/-- The way the choices name (R28). -/
def Recency.victim (r : Recency) : Nat :=
  if r.pair then (if r.high then 3 else 2) else (if r.low then 1 else 0)

def RogueTable.touch (t : RogueTable) (set way : Nat) : RogueTable :=
  { t with recency := tput Recency.reset t.recency set ((t.choices set).touch way) }

/-- The ways of a set. -/
def ways : List Nat := [0, 1, 2, 3]

/-- The way a miss in a set writes into: the lowest invalid way, else the victim (R28). -/
def RogueTable.target (t : RogueTable) (set : Nat) : Nat :=
  match ways.find? fun w => !(t.entry set w).valid with
  | some w => w
  | none => (t.choices set).victim

/-- The valid way that holds a key (R29). -/
def RogueTable.hit (t : RogueTable) (key : Nat) : Option Nat :=
  ways.find? fun w => (t.entry (setOfKey key) w).valid && (t.entry (setOfKey key) w).key == key

/-- The answer of a lookup: whether ROGUE, and the repeat count (R31, R33). -/
structure Verdict where
  rogue : Bool
  repeats : Nat
deriving DecidableEq, Repr

/-- A lookup, whole (R29 to R33): the window in ds, the limit, the mill clock at the break. -/
def RogueTable.lookup (t : RogueTable) (key : Nat) (clock : Word) (windowDs limit : Nat) : RogueTable × Verdict :=
  let set := setOfKey key
  match t.hit key with
  | some w =>
    let e := t.entry set w
    if windowDs < (clock - e.firstStamp).toNat then
      ((t.put set w { e with count := 1, firstStamp := clock }).touch set w, ⟨false, 1⟩)
    else if limit ≤ e.count + 1 then ((t.put set w RogueEntry.reset).touch set w, ⟨true, e.count + 1⟩)
    else ((t.put set w { e with count := e.count + 1 }).touch set w, ⟨false, e.count + 1⟩)
  | none =>
    let w := t.target set
    ((t.put set w ⟨true, key, 1, clock⟩).touch set w, ⟨false, 1⟩)

/-- The valid entries of the table (R35). -/
def RogueTable.validCount (t : RogueTable) : Nat := (t.entries.filter fun e => e.2.valid).length

end Sys2Proof.Machine
end

