-- ==== Sys2Proof/Machine/Watch.lean ====
section
/-! DEFINITION. Spindle Watch: strip reads and blindness (R1 to R3), judgement and breaks (R4 to R9, R14), the self-check
(R18 to R22), sweeps (R2). -/

namespace Sys2Proof.Machine

/-! ### Judgement -/

/-- A result pushed into the history; since rises to 32 (R4). -/
def Spindle.push (high : Bool) (x : Spindle) : Spindle :=
  { x with history := (x.history <<< 1) ||| (if high then 1#32 else 0#32), since := min 32 (x.since + 1) }

/-- The newest k results, all since the present state was entered, are low (1.3). -/
def Spindle.lowRun (k : Nat) (x : Spindle) : Bool := decide (k ≤ x.since) && x.history.toNat % 2 ^ k == 0

/-- The newest k results, all since the present state was entered, are high (1.3). -/
def Spindle.highRun (k : Nat) (x : Spindle) : Bool := decide (k ≤ x.since) && x.history.toNat % 2 ^ k == 2 ^ k - 1

/-- The low results among the newest `since` entries (R14). -/
def Spindle.lows (x : Spindle) : Nat := ((List.range x.since).filter fun i => !x.history.getLsbD i).length

/-- The slip test (R14). -/
def State.slipTest (f n : Nat) (s : State) : State :=
  let x := s.spindle f n
  if s.settings.slipLimit < x.lows ∧ x.slip = false then
    ((s.setSpindle f n { x with slip := true }).journal .slip f 0 [w32 n]).count f
      fun y => { y with slips := addTo top32 y.slips 1 }
  else s

/-- One judged sweep of one spindle (R4, R6, R7, R8): the state after it, and the class of a break it qualifies. -/
def State.judge (f n count : Nat) (s : State) : State × Option BreakClass :=
  let t := s.settings
  let x := s.spindle f n
  let y := x.push (decide (t.passThreshold ≤ count))
  match x.state with
  | .absent | .checking => (s, none)
  | .settling =>
    if y.highRun t.ku then (s.setSpindle f n (y.to .running), none)
    else (s.setSpindle f n y, if y.lowRun t.kd || y.since == 32 then some .doffStart else none)
  | .running =>
    let s := s.setSpindle f n y
    if y.lowRun t.kd then (s, some .run) else (s.slipTest f n, none)
  | .proving =>
    if y.highRun t.ku then ((s.setSpindle f n { y.to .running with attempts := 0 }).pieced f n, none)
    else (s.setSpindle f n y, if y.lowRun t.kd || y.since == 32 then some .proveFail else none)
  | .down | .piecing | .starved | .cutOut => (s.setSpindle f n y, none)

/-- Judge the spindles of a read in ascending order, and gather the breaks (R2). -/
def judgeAll (f : Nat) : List (Nat × Nat) → State → State × List (Nat × BreakClass)
  | [], s => (s, [])
  | (n, count) :: r, s =>
    let (s, b) := s.judge f n count
    let (s, bs) := judgeAll f r s
    match b with
    | some c => (s, (n, c) :: bs)
    | none => (s, bs)

/-! ### Breaks -/

/-- The outcomes of a BREAK (R9). -/
inductive BreakOutcome
  | downListed | downUnlisted | starved | cutOut
deriving DecidableEq, Repr

def BreakOutcome.code : BreakOutcome → Nat
  | .downListed => 1
  | .downUnlisted => 2
  | .starved => 3
  | .cutOut => 4

/-- The outcome that a spindle's record shows after its break was settled. -/
def breakOutcome (x : Spindle) : BreakOutcome :=
  match x.state with
  | .starved => .starved
  | .cutOut => .cutOut
  | .absent | .settling | .running | .down | .piecing | .proving | .checking =>
    if x.listed then .downListed else .downUnlisted

/-- A break is counted by its class and journalled with its outcome and repeat count (R9, R33). -/
def State.reportBreak (f n : Nat) (c : BreakClass) (repeats : Nat) (s : State) : State :=
  (s.count f (Counts.addBreak c)).journal .break f 0
    [w32 n, w32 c.code, w32 (breakOutcome (s.spindle f n)).code, w32 repeats]

/-- A PROVE_FAIL break is an attempt failure (R9, R11, R59): its PIECE_FAIL carries piecer 0 and token 0. -/
def State.settleProveFail (f n : Nat) (s : State) : State :=
  let x := (s.spindle f n).failed
  let s := s.setSpindle f n x
  if s.settings.attemptLimit ≤ x.attempts then
    (s.cutSpindle f n .attempts).pieceFail f n 0 0#16 .proveFail none true
  else (s.makeDown f n).pieceFail f n 0 0#16 .proveFail none false

/-- A qualified break is settled (R9). -/
def State.settleBreak (f n : Nat) (c : BreakClass) (s : State) : State :=
  let class' := if (s.creel (creelOfSpindle f n)).remaining = 0 then .starve else c
  let s := s.setSpindle f n { s.spindle f n with lastClass := some class' }
  match class' with
  | .starve => (s.setSpindle f n ((s.spindle f n).to .starved)).reportBreak f n .starve 0
  | .run =>
    let t := s.settings
    let (table, v) := s.rogue.lookup (spindleKey f n) s.clock (t.rogueWindow * 600) t.rogueLimit
    let s := { s with rogue := table }
    if v.rogue then (s.cutSpindle f n .rogue).reportBreak f n .run v.repeats
    else (s.makeDown f n).reportBreak f n .run v.repeats
  | .proveFail => (s.settleProveFail f n).reportBreak f n .proveFail 0
  | .doffStart => (s.makeDown f n).reportBreak f n .doffStart 0

/-- Judgement of a strip's read (R2, R4): judge all, then hand the breaks on in ascending spindle order. -/
def State.judgeStrip (f k : Nat) (counts : List Nat) (s : State) : State :=
  let (s, breaks) := judgeAll f ((spindlesOfSection k).zip counts) s
  s.each breaks fun b t => t.settleBreak f b.1 b.2

/-! ### Blindness -/

/-- A strip's runs after a read (R3). -/
def Strip.count (good : Bool) (x : Strip) : Strip :=
  if good then { x with badRun := 0, goodRun := min 3 (x.goodRun + 1) }
  else { x with goodRun := 0, badRun := min 3 (x.badRun + 1) }

/-- A strip's blindness after a read (R3). That STRIP_CLEAR carries the section, as STRIP_BLIND does, is the model's choice
(log entry 38). -/
def State.countRead (f k : Nat) (good : Bool) (s : State) : State :=
  let c := creelNo f k
  let x := (s.strip c).count good
  if !x.blind && x.badRun == 3 then
    ((s.setStrip c { x with blind := true }).journal .stripBlind f 0 [w32 k]).alarm f
  else if x.blind && x.goodRun == 3 then
    (s.setStrip c { x with blind := false }).journal .stripClear f 0 [w32 k]
  else s.setStrip c x

/-! ### The self-check loop -/

/-- CHECK_DONE is journalled and the SELF_CHECK is DONE (R21, R22): completion 1 COMPLETE, 2 CUT_SHORT, coded in the order in
which chapter 1 names them, by inference (log entry 58). -/
def State.checkReport (f k passed failed completion : Nat) (s : State) : State :=
  (s.journal .checkDone f 0 [w32 k, w32 passed, w32 failed]).finishBook (orderOnSection .selfCheck f k) none
    [w32 passed, w32 failed, w32 completion]

/-- One CHECKING position is settled at the end of the check (R21). -/
def State.settleChecked (f n : Nat) (failed : Bool) (s : State) : State :=
  let x := s.spindle f n
  if x.state = .checking then
    if failed then s.cutSpindle f n .sensor
    else
      let y := { x with saved := none }
      match x.saved with
      | some .down => (s.setSpindle f n y).makeDown f n
      | some .starved => s.setSpindle f n (y.to .starved)
      | _ => s.setSpindle f n (y.to .settling)
  else s

/-- The CHECKING positions of a section that the check marked failed, or did not (R21). -/
def State.checkedWith (s : State) (f k : Nat) (m : BitVec 24) (failed : Bool) : List Nat :=
  (spindlesOfSection k).filter fun n =>
    (s.spindle f n).state == .checking && m.getLsbD ((n - 1) % 24) == failed

/-- The self-check of a section ends: COMPLETE, or cut short with every position taken as passed (R21, R22). -/
def State.endCheck (f k : Nat) (cutShort : Bool) (s : State) : State :=
  match (s.strip (creelNo f k)).check with
  | none => s
  | some c =>
    let m := if cutShort then 0#24 else c.failed
    let failed := s.checkedWith f k m true
    let passed := s.checkedWith f k m false
    let s := s.setStrip (creelNo f k) { s.strip (creelNo f k) with check := none }
    let s := s.each (spindlesOfSection k) fun n t => t.settleChecked f n (m.getLsbD ((n - 1) % 24))
    s.checkReport f k passed.length failed.length (if cutShort then 2 else 1)

/-- The self-check of a section that leaves the plan: its positions become ABSENT, none has passed (R22). -/
def State.dropCheck (f k : Nat) (s : State) : State :=
  match (s.strip (creelNo f k)).check with
  | none => s
  | some _ => (s.setStrip (creelNo f k) { s.strip (creelNo f k) with check := none }).checkReport f k 0 0 2

/-- The failed marks after a loop sweep (R19). -/
def loopMarks (s : State) (f k sweep : Nat) (m : BitVec 24) (values : List Nat) : BitVec 24 :=
  (((spindlesOfSection k).zip values).foldl (fun a e =>
    let i := (e.1 - 1) % 24
    if (s.spindle f e.1).state = .checking ∧ e.2 ≠ loopPattern sweep (i + 1) then a ||| (1#24 <<< i) else a) m)

/-- A good read in loop mode on a judging frame counts as a loop sweep (R19, R21). -/
def State.loopSweep (f k : Nat) (c : LoopCheck) (values : List Nat) (s : State) : State :=
  let m := loopMarks s f k (c.sweeps + 1) c.failed values
  let s := s.setStrip (creelNo f k) { s.strip (creelNo f k) with check := some ⟨c.sweeps + 1, m⟩ }
  if c.sweeps + 1 = 4 then s.endCheck f k false else s

/-! ### Reads and sweeps -/

/-- One strip's read is taken whole (R2): the counts of a good read, none for a bad one. A reply is taken in the mode that the
strip record has when it comes, also where the strip was addressed in the other mode before a self-check began or was cut
short: the model's choice (log entry 49). -/
def State.takeRead (f k : Nat) (good : Option (List Nat)) (s : State) : State :=
  let x := s.strip (creelNo f k)
  let judged := (s.frame f).state.judging
  let s := s.countRead f k good.isSome
  match good with
  | none => s
  | some v =>
    match x.check with
    | some c => if judged then s.loopSweep f k c v else s
    | none => if judged && !x.blind then s.judgeStrip f k v else s

/-- The end of a sweep (R2): the running and in-plan counts go to the Output Counter, which captures (R131). -/
def State.sweepEnd (f : Nat) (s : State) : State :=
  let l := s.spindlesOfFrame f
  let running := (l.filter fun n => (s.spindle f n).state == .running).length
  let planned := (l.filter fun n => (s.spindle f n).state != .absent).length
  s.sweepCapture f running planned (s.sweep f).period

/-- The strip addressed has been read, well or badly (R1, R2). A strip whose section has left the plan since the sweep
began changes nothing (log entry 13). -/
def State.readStrip (f : Nat) (good : Nat → Option (List Nat)) (s : State) : State :=
  match (s.sweep f).left with
  | [] => s
  | k :: rest =>
    if s.live then
      let s := if (s.frameSettings f).sectionIn k then s.takeRead f k (good k) else s
      let s := s.setSweep f { s.sweep f with left := rest }
      if rest.isEmpty then s.sweepEnd f else s
    else s

/-- Expiry of a frame's sweep timer: the timer is loaded again, and a sweep begins unless one is in progress (R2; log
entry 13). -/
def State.startSweep (f : Nat) (s : State) : State :=
  let p := s.settings.sweepPeriod
  let x := s.sweep f
  if x.left.isEmpty then
    s.setSweep f ⟨Timer.load p, p, sectionsInPlan (s.frameSettings f).perSide⟩
  else s.setSweep f { x with timer := Timer.load p }

/-! ### Spindles and the plan (R13, R24) -/

/-- A position brought into plan: SETTLING, or STARVED when its section's remaining is 0 (R13, R24). -/
def Spindle.start (remaining : Nat) : Spindle :=
  { Spindle.reset with state := if remaining = 0 then .starved else .settling }

/-- A frame's positions brought into plan. -/
def State.spindlesIn (f : Nat) (l : List Nat) (s : State) : State :=
  s.each l fun n t => t.setSpindle f n (Spindle.start (t.creel (creelOfSpindle f n)).remaining)

/-- Positions that leave the plan become ABSENT (R13, R159). -/
def State.spindlesOut (f : Nat) (l : List Nat) (s : State) : State :=
  s.each l fun n t => t.setSpindle f n Spindle.reset

/-- The positions of a frame with n spindles per side (5.1). -/
def positions (n : Nat) : List Nat := oneTo n ++ (oneTo n).map (· + 912)

/-- Strips put back to clear, in count mode (R13, R159). -/
def State.stripsClear (f : Nat) (l : List Nat) (s : State) : State :=
  s.each l fun k t => t.setStrip (creelNo f k) Strip.reset

end Sys2Proof.Machine
end

