-- ==== Sys2Proof/Machine/Pool.lean ====
section
/-! DEFINITION. Eligible entries and choices (R40 to R46), the assignment arbiter (R66 to R69), and what a piecer's reports
and timers do (R47 to R57, R71 to R78, R117). -/

namespace Sys2Proof.Machine

/-! ### Eligibility and backlog -/

/-- Whether an entry of a frame's list is eligible (R40). -/
def State.eligibleEntry (s : State) (f : Nat) (e : EndEntry) : Bool :=
  let c := creelOfSpindle f e.spindle
  (s.frame f).state.piecing && !(s.strip c).blind &&
    (match (s.creel c).lock with
      | .carrier _ => false
      | .none | .piecer _ => true) &&
    (s.spindle f e.spindle).state == .down

/-- The eligible entries of a side, in listing order (R40). -/
def State.eligible (s : State) (d : Nat) : List EndEntry :=
  (s.side d).entries.filter (s.eligibleEntry (sideFrame d))

/-- Count a side's backlog and its oldest eligible stamp again; a new backlog goes to the arbiter (R41, R66). -/
def State.recount (d : Nat) (s : State) : State :=
  let l := s.eligible d
  let x := s.side d
  let s := s.setSide d { x with backlog := l.length, oldest := l.head?.map EndEntry.stamp }
  if x.backlog = l.length then s else s.oweArbiter

/-- The sixteen sides. -/
def allSides : List Nat := oneTo 16

/-- The eight piecers. -/
def allPiecers : List Nat := oneTo 8

def State.recountAll (s : State) : State := s.each allSides State.recount

/-! ### The next end -/

/-- Distance of two spindle numbers. -/
def distance (a b : Nat) : Nat := (a - b) + (b - a)

/-- The spindle nearest a position (R43). -/
def nearest (pos : Nat) : List Nat → Option Nat
  | [] => none
  | n :: r =>
    match nearest pos r with
    | none => some n
    | some m => if distance m pos < distance n pos then some m else some n

/-- Whether a spindle lies ahead of a position in a direction (R43). -/
def ahead (descending : Bool) (pos n : Nat) : Bool := if descending then decide (n ≤ pos) else decide (pos ≤ n)

/-- The spindle chosen and the patrol direction after the choice (R43). -/
def chooseEnd (descending : Bool) (pos : Nat) (l : List Nat) : Option (Nat × Bool) :=
  match nearest pos (l.filter (ahead descending pos)) with
  | some n => some (n, descending)
  | none =>
    match nearest pos (l.filter (ahead (!descending) pos)) with
    | some n => some (n, !descending)
    | none => none

/-- A fresh token: the counter plus 1, with 65535 followed by 1 (R45). -/
def freshToken (counter : Token) : Token := if counter = 0xFFFF#16 then 1#16 else counter + 1#16

/-- An attempt starts (R46): lock, spindle, record, command. -/
def State.startAttempt (p d n : Nat) (s : State) : State :=
  let f := sideFrame d
  let k := creelOfSpindle f n
  let x := s.piecer p
  let t := freshToken x.counter
  let s := s.setCreel k { s.creel k with lock := .piecer p }
  let s := s.setSpindle f n ((s.spindle f n).to .piecing)
  let s := s.setPiecer p { x with
    state := .attempting, counter := t, current := some t
    void := if x.void = some t then none else x.void
    spindle := some n, stage := none, atFrameEnd := false
    attempt := Timer.load (1000 * s.settings.attemptTimeout) }
  s.hand (piecerAddr p) (.attempt n t)

/-- The choice for a side whose piecer is idle on it (R43, R44): only entries on which the attempt start claim acts. -/
def State.choose (d : Nat) (s : State) : State :=
  match (s.side d).piecer with
  | none => s
  | some p =>
    let x := s.piecer p
    if x.state = .onSide ∧ s.working = true then
      let l := ((s.eligible d).map EndEntry.spindle).filter fun n => (s.spindle (sideFrame d) n).listed
      match chooseEnd x.descending (x.position.getD (sideFirst d)) l with
      | some (n, dir) => (s.setPiecer p { x with descending := dir }).startAttempt p d n
      | none => s
    else s

def State.chooseAll (s : State) : State := s.each allSides State.choose

/-! ### The assignment arbiter -/

/-- A piecer free to the arbiter (R64). -/
def Piecer.free (x : Piecer) : Bool := x.placement == .pool && (x.state == .onSide || x.state == .parked)

/-- The home rule (R67): the home side, when the piecer is to be sent there; `parked` says that it stands as in the bay. -/
def State.homeRule (s : State) (x : Piecer) (parked : Bool) : Option Nat :=
  match x.home with
  | none => none
  | some h =>
    if (s.side h).piecer.isSome then none
    else if parked then (if (s.frame (sideFrame h)).state.piecing then some h else none)
    else match x.side with
      | some d => if d ≠ h ∧ (s.side d).backlog = 0 ∧ 1 ≤ (s.side h).backlog then some h else none
      | none => none

/-- A side's oldest eligible stamp as a plain number. -/
def State.oldestOf (s : State) (d : Nat) : Nat :=
  match (s.side d).oldest with
  | some w => w.toNat
  | none => 0

/-- The unserved side a free piecer is lent to (R68): the largest backlog at or above the threshold, then the older
stamp, then the lower side code. -/
def State.lendTarget (s : State) : List Nat → Option Nat
  | [] => none
  | d :: r =>
    let here := (s.side d).piecer.isNone && decide (s.settings.lendThreshold ≤ (s.side d).backlog)
    match s.lendTarget r with
    | none => if here then some d else none
    | some e =>
      if here && (decide ((s.side e).backlog < (s.side d).backlog) ||
          ((s.side e).backlog == (s.side d).backlog && decide (s.oldestOf d ≤ s.oldestOf e))) then some d
      else some e

/-- Whether the lending rule applies to a free piecer (R68). -/
def State.lendable (s : State) (x : Piecer) : Bool :=
  x.state == .parked ||
    (match x.side with
      | some d => (s.side d).backlog == 0 || !(s.frame (sideFrame d)).state.piecing
      | none => false)

/-- The reason of a lending: HOME when the side is the piecer's home (R68). -/
def lendReason (x : Piecer) (d : Nat) : MoveReason := if x.home = some d then .home else .lend

/-- The first pass for one piecer (R66, R67). -/
def State.homePass (p : Nat) (s : State) : State :=
  let x := s.piecer p
  if x.free then
    match s.homeRule x (x.state == .parked) with
    | some h => s.sendToSide p h .home
    | none => s
  else s

/-- The second pass for one piecer (R66, R68). -/
def State.lendPass (p : Nat) (s : State) : State :=
  let x := s.piecer p
  if x.free && s.lendable x then
    match s.lendTarget allSides with
    | some d => s.sendToSide p d (lendReason x d)
    | none => s
  else s

/-- One evaluation of the arbiter (R66). -/
def State.arbitrate (s : State) : State := (s.each allPiecers State.homePass).each allPiecers State.lendPass

/-- A piecer that waits on a side whose frame is not in a piecing state is sent to the head of its side (R69). -/
def State.frameEnd (p : Nat) (s : State) : State :=
  let x := s.piecer p
  match x.side with
  | some d =>
    if x.state = .onSide ∧ x.atFrameEnd = false ∧ (s.frame (sideFrame d)).state.piecing = false then
      (s.setPiecer p { x with atFrameEnd := true }).hand (piecerAddr p) (.goto d)
    else s
  | none => s

/-! ### Arrival, parking and return -/

/-- The position and direction a piecer has when it first reaches a side (R71). -/
def State.placed (s : State) (d pos : Nat) (x : Piecer) : Piecer :=
  let first := sideFirst d
  if onSideSpindle d pos then
    { x with
      position := some pos
      descending := !decide (pos < first + (s.frameSettings (sideFrame d)).perSide / 2) }
  else { x with position := some first, descending := false }

/-- The result words of a PIECER_PLACE (R76): completion 1 ARRIVED, 2 PARKED, 3 POOLED. -/
def placeWords (completion : Nat) (x : Piecer) : List Word :=
  [w32 completion, w32 (x.side.getD 0), w32 (x.position.getD 0)]

/-- The parameter codes of PIECER_PLACE for PARK and POOL (11.2.2). -/
def parkTarget : Nat := 17
def poolTarget : Nat := 18

/-- A MOVING piecer arrives on its assigned side (R71). -/
def State.arrive (p d pos : Nat) (s : State) : State :=
  let x := s.placed d pos (s.piecer p)
  let s := s.setPiecer p { x with state := .onSide, travel := Timer.off }
  if x.parkOwed then s.sendToBay p .park (some .order)
  else (s.finishBook (fun b => orderOn .piecerPlace p b && b.p2 == w32 d) none (placeWords 1 x)).oweArbiter

/-- A LOST piecer is back (R78): returned is set, and a void token is abandoned. -/
def State.markReturned (p : Nat) (s : State) : State :=
  let x := s.piecer p
  let s := s.setPiecer p { x with returned := true }
  match x.void with
  | some t => s.hand (piecerAddr p) (.abandon t)
  | none => s

/-- Journal that a unit is back: the address, kind and number, and the time it was LOST (R78, R193). -/
def State.journalBack (a : Nat) (lost : Word) (s : State) : State :=
  s.journal .unitBack 0 a [(unitKind a).code, w32 (unitNumber a), w32 (s.since lost)]

/-- The return event brought by an AT_SIDE or PARKED report after a travel timeout or a FAULT (R78). -/
def State.returnByReport (p : Nat) (s : State) : State :=
  let x := s.piecer p
  if x.returned || x.byLink then s else (s.markReturned p).journalBack (piecerAddr p) x.lostStamp

/-- The return told by the Unit Link (R78). -/
def State.returnByLink (p : Nat) (s : State) : State :=
  let x := s.piecer p
  if x.state = .lost ∧ x.byLink = true then
    let s := s.setPiecer p { x with travel := Timer.load (1000 * s.settings.travelTimeout) }
    s.markReturned p
  else s

/-- A returned piecer is placed by its AT_SIDE report (R78). Where the two passes are applied to it first, the evaluation of
R66 follows them (log entry 44). -/
def State.placeReturned (p d pos : Nat) (s : State) : State :=
  if s.winding then s.sendToBay p .pool (some .back)
  else if (s.frame (sideFrame d)).state ≠ .out ∧ (s.side d).piecer = none then
    let s := s.setPiecer p { s.placed d pos (s.piecer p) with
      state := .onSide, side := some d, travel := Timer.off, returned := false, atFrameEnd := false }
    (s.setSide d { s.side d with piecer := some p }).oweArbiter
  else
    let x := s.piecer p
    match (if s.working then s.homeRule x true else none) with
    | some h => (s.sendToSide p h .home).oweArbiter
    | none =>
      match (if s.working then s.lendTarget allSides else none) with
      | some e => (s.sendToSide p e (lendReason x e)).oweArbiter
      | none => s.sendToBay p .pool (some .back)

/-- AT_SIDE by the piecer's state (R42, R71, R78). -/
def State.takeAtSide (p d pos : Nat) (s : State) : State :=
  let x := s.piecer p
  match x.state with
  | .moving => if x.side = some d then s.arrive p d pos else s
  | .onSide | .attempting | .held =>
    if x.side = some d ∧ onSideSpindle d pos = true then s.setPiecer p { x with position := some pos } else s
  | .lost =>
    if x.returned || !x.byLink then (s.returnByReport p).placeReturned p d pos else s
  | .absent | .parked => s

/-- PARKED by the piecer's state (R71, R73, R78). A PARK order that waits is DONE at the report whoever sent the piecer to the
bay, so also one ordered on a MOVING piecer that winding down then sent there, the model's choice (R73, R76 and R177; log
entry 63). -/
def State.takeParked (p : Nat) (s : State) : State :=
  let x := s.piecer p
  match x.state with
  | .parked =>
    if x.atBay then s
    else (s.setPiecer p { x with atBay := true, travel := Timer.off }).finishBook
      (fun b => orderOn .piecerPlace p b && b.p2 == w32 parkTarget) none (placeWords 2 x)
  | .lost =>
    if x.returned || !x.byLink then
      let s := s.returnByReport p
      (s.setPiecer p { s.piecer p with
        state := .parked, atBay := true, placement := .pool, returned := false, travel := Timer.off }).oweArbiter
    else s
  | .absent | .moving | .onSide | .attempting | .held => s

/-! ### Attempt reports -/

/-- The code of a RESULT's outcome (R50, R198). -/
def outcomeCode : Outcome → Nat
  | .joined => 1
  | .noEnd => 2
  | .threadFail => 3
  | .joinFail => 4
  | .noRoving => 5
  | .abandoned => 6

/-- A stale report is journalled and nothing more (R56). -/
def State.stale (p : Nat) (r : Report) (t : Token) (o : Option Outcome) (s : State) : State :=
  s.journal .staleReport 0 p [w32 r.kind, t.setWidth 32,
    (match (s.piecer p).current with
      | some c => c.setWidth 32
      | none => 0#32),
    w32 (match o with
      | some x => outcomeCode x
      | none => 0)]

/-- The later of a recorded step and a reported one (R47). -/
def laterStage (old : Option AttemptStep) (new : AttemptStep) : AttemptStep :=
  match old with
  | none => new
  | some o => if stageCode o < stageCode new then new else o

/-- A STEP report (R47, R48, R56). A STEP that records JOIN leaves hold_sent as it stands until the answer or the attempt's
end, the model's choice (log entry 50). -/
def State.takeStep (p : Nat) (t : Token) (st : AttemptStep) (pos : Nat) (s : State) : State :=
  let x := s.piecer p
  if x.current = some t ∧ x.state = .attempting then
    let here := match x.side with
      | some d => onSideSpindle d pos
      | none => false
    s.setPiecer p { x with
      position := if here then some pos else x.position
      stage := some (laterStage x.stage st) }
  else s.stale p (.step t st pos) t none

/-- The outcome of a result handed to Spindle Watch as its claim (R11, R50 to R52). -/
def State.claimOutcome (f n p : Nat) (t : Token) (stage : Option AttemptStep) (o : Outcome) (s : State) : State :=
  match o with
  | .joined => s.claimJoined f n
  | .noEnd => s.claimFailed f n p t .noEnd stage
  | .threadFail => s.claimFailed f n p t .threadFail stage
  | .joinFail => s.claimFailed f n p t .joinFail stage
  | .noRoving => s.claimNoRoving f n p t stage
  | .abandoned => s.claimAbandoned f n

/-- A RESULT report (R50, R56, R57). -/
def State.takeResult (p : Nat) (t : Token) (o : Outcome) (s : State) : State :=
  let x := s.piecer p
  if x.current = some t ∧ x.state = .attempting then
    match x.spindle, x.side with
    | some n, some d =>
      let f := sideFrame d
      let s := s.setPiecer p { x with current := none, attempt := Timer.off }
      let s := s.piecerReleases p (creelOfSpindle f n)
      (s.claimOutcome f n p t x.stage o).attemptOver p
    | _, _ => s
  else if x.current ≠ some t ∧ x.void = some t ∧ o = .abandoned then s.setPiecer p { x with void := none }
  else s.stale p (.result t o) t (some o)

/-- The attempt timer expires (R49). -/
def State.attemptExpires (p : Nat) (s : State) : State :=
  let x := s.piecer p
  match x.current, x.spindle, x.side with
  | some t, some n, some d =>
    let f := sideFrame d
    let s := s.hand (piecerAddr p) (.abandon t)
    let s := s.setPiecer p { x with current := none, void := some t, attempt := Timer.off }
    let s := s.piecerReleases p (creelOfSpindle f n)
    (s.claimFailed f n p t .timeout x.stage).attemptOver p
  | _, _, _ => s

/-- The section of a piecer's attempt. -/
def Piecer.attemptCreel (x : Piecer) : Nat :=
  match x.side, x.spindle with
  | some d, some n => creelOfSpindle (sideFrame d) n
  | _, _ => 0

/-- The answer is taken as a refusal of the HOLD (R117). -/
def State.holdRefused (k : Nat) (s : State) : State :=
  match (s.creel k).waiting with
  | .carrier _ => s.setCreel k { s.creel k with holdSent := false }
  | .none | .piecer _ => s

/-- A HELD report (R48, R56, R117). One with the current token while the attempt is HELD already changes nothing, the model's
choice (log entry 42). -/
def State.takeHeld (p : Nat) (t : Token) (s : State) : State :=
  let x := s.piecer p
  let k := x.attemptCreel
  if x.current ≠ some t then s.stale p (.held t) t none
  else if x.state ≠ .attempting then s
  else match (s.creel k).waiting with
    | .carrier c =>
      if pastJoin x.stage then (s.holdRefused k).hand (piecerAddr p) (.resume t)
      else
        let s := s.setPiecer p { x with state := .held, attempt := x.attempt.pause }
        s.carrierTakes c k (.piecer p)
    | .none | .piecer _ => s.hand (piecerAddr p) (.resume t)

/-- A REFUSED_HOLD report (R56, R117). -/
def State.takeRefusedHold (p : Nat) (t : Token) (s : State) : State :=
  let x := s.piecer p
  if x.current ≠ some t then s.stale p (.refusedHold t) t none else s.holdRefused x.attemptCreel

end Sys2Proof.Machine
end

