-- ==== Sys2Proof/Machine/Settle.lean ====
section
/-! DEFINITION. What an event brings about before it ends (log entry 5): losses told to their owners (R192), relisting
(R39), draining (R89), choices (R43), the arbiters (R66, R69), the dispatcher and the refill (R111, R113). -/

namespace Sys2Proof.Machine

/-- The owner of a lost unit is told (R77, R101, R122, R192). -/
def State.tellLoss (a : Nat) (s : State) : State :=
  match unitKind a with
  | .drive => s.driveLost a
  | .piecer => if (s.piecer (unitNumber a)).losable then s.piecerLost (unitNumber a) true else s
  | .carrier => s.carrierLost (unitNumber a)

/-- Tell every loss of the event (R192), in the order in which they were found, the model's choice (log entry 73). -/
def State.tellLosses (s : State) : State :=
  { s with work.lost := [] }.each s.work.lost State.tellLoss

/-- Relist every side that lost entries in the event (R39). -/
def State.relistOwed (s : State) : State :=
  { s with work.relist := [] }.each s.work.relist State.relist

/-- The piecer arbiter, when the event calls for it and the part evaluates it (R66), then the frame ends (R69). -/
def State.arbiterOwed (s : State) : State :=
  let owed := s.work.arbiter
  let s := { s with work.arbiter := false }
  if s.working then (if owed then s.arbitrate else s).each allPiecers State.frameEnd else s

/-- The refill of the change queue, when the event has taken entries from it (R111). -/
def State.refillOwed (s : State) : State :=
  if s.work.refill then { s with work.refill := false }.refill else s

/-- One round: each rule whose condition holds is applied once, to the frames, sides or piecers it concerns in ascending
number, the model's choice where the rule gives no order (log entry 73). -/
def State.settleRound (s : State) : State :=
  let s := s.tellLosses.relistOwed
  let s := s.each allFrames State.drainTest
  let s := s.recountAll.chooseAll.recountAll.arbiterOwed
  s.dispatch.refillOwed.dispatch

/-- Rounds while work is owed; the number bounds them. -/
def settleN : Nat → State → State
  | 0, s => s
  | n + 1, s =>
    let t := s.settleRound
    if t.work = Work.done then t else settleN n t

/-- The rounds of one event. -/
def settleRounds : Nat := 32

/-- Everything an event brings about; nothing in HALTED, where the records stand (R62, R103, R126). -/
def State.settle (s : State) : State :=
  if s.regs.part = .halted then { s with work := Work.done } else settleN settleRounds s

end Sys2Proof.Machine
end

