-- ==== Sys2Proof/Machine/Plan.lean ====
section
/-! DEFINITION. The Plan Store: validation (R151 to R153), a switch taking effect (R158 to R161) and what a shift boundary
does with a pending switch (R155, R156). -/

namespace Sys2Proof.Machine

/-! ### Validation -/

/-- The items of R152. -/
inductive PlanItem
  | copy | check | range | relation | home | frameState | slots
deriving DecidableEq, Repr

def PlanItem.code : PlanItem → Nat
  | .copy => 1
  | .check => 2
  | .range => 3
  | .relation => 4
  | .home => 5
  | .frameState => 6
  | .slots => 7

/-- A failure by its item, frame and field (R152). -/
def planFault (i : PlanItem) (frame field : Nat) : PlanFault := ⟨i.code, frame, field⟩

def within (lo hi v : Nat) : Bool := decide (lo ≤ v) && decide (v ≤ hi)

/-- The range of group field n (8.3.1). -/
def groupRangeOk (n v : Nat) : Bool :=
  match n with
  | 1 => within 100 1000 v
  | 2 => within 50 1000 v
  | 3 => within 1 15 v
  | 4 | 5 => within 1 7 v
  | 6 => within 4 31 v
  | 7 => within 2 15 v
  | 8 => within 10 480 v
  | 9 => within 1 7 v
  | 10 => within 10 120 v
  | 11 => within 30 600 v
  | 12 => within 1 64 v
  | 13 => within 1 2 v
  | 14 => within 10 300 v
  | 15 => within 60 900 v
  | 16 => within 60 1200 v
  | 17 => v == 0 || within 60 720 v
  | 18 => within 1 4095 v
  | _ => within 0 16 v

/-- The range test of group field n, then its relation test (R152). -/
def groupFault (capacity : Nat) (l : List Word) (n : Nat) : Option PlanFault :=
  let v := groupSetting l n
  if !groupRangeOk n v then some (planFault .range 0 n)
  else if n = 18 ∧ capacity ≤ v then some (planFault .relation 0 n)
  else none

/-- The range of a frame's fields 2 to 12 (8.3.2). -/
def frameRangeOk (n v : Nat) : Bool :=
  match n with
  | 2 => within 24 912 v && v % 24 == 0
  | 3 => within 400 10000 v
  | 4 => within 100 800 v
  | 5 => within 2000 20000 v
  | 6 => within 1 64 v
  | 7 => within 100 20000 v
  | 8 => within 0 2000 v
  | 9 => within 2 40 v
  | 10 => within 0 65535 v
  | 11 => within 500 6000 v
  | 12 => within 50 1000 v
  | _ => true

/-- The range test of field n of a frame in plan, then its relation test (R151, R152). A section start value above the full
roving length fails RELATION, which names it. -/
def frameFault (b : List Word) (f n : Nat) : Option PlanFault :=
  let v := frameSetting b n
  if n ≤ 12 then
    if !frameRangeOk n v then some (planFault .range f n)
    else if n = 12 ∧ frameSetting b 11 ≤ v then some (planFault .relation f n)
    else none
  else if (sectionsInPlan (frameSetting b 2)).contains (n - 12) && decide (frameSetting b 11 < v) then
    some (planFault .relation f n)
  else none

/-- The fields of one frame (R151): only in_plan is read of a frame out of plan. -/
def frameFaults (b : List Word) (f : Nat) : Option PlanFault :=
  match frameSetting b 1 with
  | 0 => none
  | 1 => ((List.range 87).map (· + 2)).findSome? (frameFault b f)
  | _ => some (planFault .range f 1)

/-- Items RANGE and RELATION, taken field by field together (R152). -/
def fieldFaults (capacity : Nat) (l : List Word) : Option PlanFault :=
  match (oneTo 26).findSome? (groupFault capacity l) with
  | some x => some x
  | none => (oneTo 8).findSome? fun f => frameFaults (frameBlock l f) f

/-- Item HOME (R152): the higher-numbered of two piecers that name one side. -/
def homeFault (t : Settings) : Option PlanFault :=
  (oneTo 8).findSome? fun p =>
    if (t.home p).isSome && (oneTo (p - 1)).any fun q => t.home q == t.home p then some (planFault .home 0 (18 + p))
    else none

/-- The items that look at a copy's words alone, with the journal capacity (R152, R153). -/
def copyFault (capacity : Nat) (l : List Word) : Option PlanFault :=
  if !checkWordOk l then some (planFault .check 0 0)
  else match fieldFaults capacity l with
    | some x => some x
    | none => homeFault (parseSettings l)

/-- Item FRAME_STATE (R152). -/
def State.frameStateFault (s : State) (t : Settings) : Option PlanFault :=
  allFrames.findSome? fun f =>
    let old := s.frameSettings f
    let new := t.frame f
    let st := (s.frame f).state
    if st == .halted || st == .out then none
    else if old.inPlan != new.inPlan then some (planFault .frameState f 1)
    else if old.perSide != new.perSide then some (planFault .frameState f 2)
    else none

/-- Item SLOTS (R152). -/
def State.slotsFault (s : State) (t : Settings) : Option PlanFault :=
  if t.doffSlots < s.slotHolders.length then some (planFault .slots 0 13) else none

/-- The items that depend on the moment (R152, R156). -/
def State.momentFault (s : State) (t : Settings) : Option PlanFault :=
  match s.frameStateFault t with
  | some x => some x
  | none => s.slotsFault t

/-- The three words of a failure. -/
def PlanFault.toWords (x : PlanFault) : List Word := [w32 x.item, w32 x.frame, w32 x.field]

/-! ### Frames that leave, come in and change (R158, stages 2 and 3) -/

/-- The sections of a frame with n spindles per side that m spindles per side do not have. -/
def sectionsOnlyIn (n m : Nat) : List Nat := (sectionsInPlan n).filter fun k => !(sectionsInPlan m).contains k

/-- The positions of a frame with n spindles per side that m spindles per side do not have. -/
def positionsOnlyIn (n m : Nat) : List Nat :=
  (positions n).filter fun x => decide (m < x) && (decide (x ≤ 912) || decide (912 + m < x))

/-- The SIDE-placed piecers of a frame's sides become POOL-placed, and the arbiter is evaluated (R75). -/
def State.poolPiecers (f : Nat) (s : State) : State :=
  s.each (frameSides f) fun d t =>
    match (t.side d).piecer with
    | some p =>
      if (t.piecer p).placement = .side then (t.setPiecer p { t.piecer p with placement := .pool }).oweArbiter else t
    | none => t

/-- A section leaves the plan with its strip (R22, R125, R159). -/
def State.sectionOut (f k : Nat) (s : State) : State :=
  ((s.dropCheck f k).setStrip (creelNo f k) Strip.reset).creelOut (creelNo f k)

/-- A frame of n spindles per side leaves the plan (R13, R102, R125, R147); a DOFF_NOW on it is refused (R83). -/
def State.frameOut (f n : Nat) (s : State) : State :=
  let s := s.closeStop f
  let s := s.setSweep f Sweep.reset
  let s := s.each (sectionsInPlan n) fun k t => t.sectionOut f k
  let s := s.spindlesOut f (s.spindlesOfFrame f)
  let s := s.each (frameSides f) fun d t => t.setSide d { t.side d with entries := [] }
  let s := (s.setFeed f Feed.reset).setRoller f Roller.reset
  let s := s.enterState f .out
  let s := s.setFrame f { s.frame f with doffOwed := false, doffFinish := .none, haltCause := none, buildM := 0 }
  (s.poolPiecers f).finishBook (orderOn .doffNow f) (some .notPresent) []

/-- Sections brought into plan from the start table, the LOW ones queued (R125, R159). -/
def State.sectionsIn (f : Nat) (l : List Nat) (s : State) : State :=
  let t := s.frameSettings f
  let s := s.each l fun k u =>
    (u.setStrip (creelNo f k) Strip.reset).setCreel (creelNo f k) (Creel.start (t.start k) t.lowThreshold)
  s.queueNow ((l.map (creelNo f)).filter fun c => (s.creel c).state == .low)

/-- A frame comes into the plan (R13, R102, R125, R147). -/
def State.frameIn (f : Nat) (s : State) : State :=
  let t := s.frameSettings f
  let s := s.setFrame f { s.frame f with state := .halted, haltCause := some .plan, buildM := 0 }
  let s := s.setRoller f (Roller.start t 0)
  let s := s.openStop f
  let s := s.sectionsIn f (sectionsInPlan t.perSide)
  let s := s.spindlesIn f (positions t.perSide)
  s.setSweep f ⟨Timer.load s.settings.sweepPeriod, s.settings.sweepPeriod, []⟩

/-- A frame that stays in plan with n spindles per side changed to m (R159). -/
def State.frameResized (f n m : Nat) (s : State) : State :=
  let gone := positionsOnlyIn n m
  let s := s.each gone fun x t => t.removeEntry f x
  let s := s.spindlesOut f gone
  let s := s.each (frameSides f) State.oweRelist
  let s := s.each (sectionsOnlyIn n m) fun k t => t.sectionOut f k
  let s := s.sectionsIn f (sectionsOnlyIn m n)
  s.spindlesIn f (positionsOnlyIn m n)

/-- The frames in plan in one set of settings and not in another. -/
def framesOnlyIn (t u : Settings) : List Nat :=
  allFrames.filter fun f => (t.frame f).inPlan && !(u.frame f).inPlan

/-- Stages 2 and 3 of a switch from settings `old` to those in force (R158). In stage 3 the frames that come in and those that
change their spindles per side are taken together, in ascending number, the model's choice (log entry 71). -/
def State.switchFrames (old : Settings) (s : State) : State :=
  let new := s.settings
  let s := s.each (framesOnlyIn old new) fun f t => t.frameOut f (old.frame f).perSide
  s.each allFrames fun f t =>
    let n := (old.frame f).perSide
    let m := (new.frame f).perSide
    if n = 0 ∧ 0 < m then t.frameIn f
    else if 0 < n ∧ 0 < m ∧ n ≠ m then t.frameResized f n m
    else t

/-! ### The other stages of a switch (R158) -/

/-- Stage 4: compare values, and the frames placed by them (R102, R133), each placed CALLED being offered to the arbiter before
the next is placed (R82, R86). The frames are taken in ascending number, the model's choice (log entry 70). -/
def State.switchCompare (s : State) : State :=
  s.each (allFrames.filter fun f => (s.frameSettings f).inPlan) fun f t =>
    let t := t.loadCompare f
    match (t.frame f).state with
    | .building | .nearing => t.placeByBuild f .plan
    | .out | .halted | .restarting | .called | .draining | .stopping | .doffing => t

/-- A LOT_HOLD section of a frame whose lot changes (R125). -/
def State.lotRequeue (c : Nat) (s : State) : State :=
  if (s.creel c).state = .lotHold then
    if s.queueRoom then s.queueByStamp c s.clock else s.setCreel c { s.creel c with state := .low }
  else s

/-- Stage 6, lots and drafts of the frames that stay in plan (R125). The frames are taken in ascending number, the model's
choice (log entry 65). -/
def State.switchRoving (old : Settings) (s : State) : State :=
  s.each (allFrames.filter fun f => (old.frame f).inPlan && (s.frameSettings f).inPlan) fun f t =>
    let a := old.frame f
    let b := t.frameSettings f
    let t := if a.lot = b.lot then t else t.each ((sectionsInPlan b.perSide).map (creelNo f)) State.lotRequeue
    if a.draft = b.draft then t else t.setFeed f { t.feed f with carry := 0 }

/-- Stage 6, the shift timer (R139). At PART_STOP it stays stopped (R139, R140). -/
def State.switchShift (old : Settings) (cause : Option PageCause) (s : State) : State :=
  if old.shiftLength = 0 ∧ s.settings.shiftLength ≠ 0 ∧ cause ≠ some .partStop then s.loadShift
  else if old.shiftLength ≠ 0 ∧ s.settings.shiftLength = 0 then { s with output.shift := Timer.off }
  else s

/-- A set of frames as bits (11.2.3). -/
def frameBits (l : List Nat) : Nat := l.foldl (fun a f => a + 2 ^ (f - 1)) 0

/-- The boundary cause of a switch, 0 for NOW (R154). -/
def boundaryCode (cause : Option PageCause) : Nat :=
  match cause with
  | some c => c.closeCode
  | none => 0

/-- The mode that a boundary cause says. -/
def modeOf (cause : Option PageCause) : SwitchMode := if cause.isSome then .shiftEnd else .now

/-- The two halves of PLAN_SWITCHED's F5 (11.2.3; log entry 7). -/
def switchedHalves (cause : Option PageCause) : Word :=
  let m := (modeOf cause).code
  let b := boundaryCode cause
  if Config.switchModeLow then w32 (m + 65536 * b) else w32 (b + 65536 * m)

/-- The copy and id of a plan, 0 when there is none. -/
def planWords (p : Option Plan) : List Word :=
  match p with
  | some x => [w32 x.copy.code, x.id]
  | none => [0#32, 0#32]

/-- Stage 7: the header's words and PLAN_SWITCHED (R158, 11.2.3); the high half of its sixth word is 0, the model's choice (log
entry 69). -/
def State.switchReport (left : Option Plan) (old : Settings) (cause : Option PageCause) (s : State) : State :=
  let a := planWords left
  let b := planWords s.plan.active
  let new := s.settings
  (s.markItem .header).journal .planSwitched 0 0 [a.headD 0#32, b.headD 0#32, a.getD 1 0#32, b.getD 1 0#32,
    switchedHalves cause, w32 (frameBits (framesOnlyIn new old) + 256 * frameBits (framesOnlyIn old new))]

/-- Home sides are the plan's (R64). -/
def State.takeHomes (s : State) : State :=
  s.each allPiecers fun p t => t.setPiecer p { t.piecer p with home := t.settings.home p }

/-- A switch takes effect (R158); nothing is pending afterwards. The order's end is the caller's. -/
def State.applySwitch (p : Plan) (cause : Option PageCause) (s : State) : State :=
  let left := s.plan.active
  let old := s.settings
  let s := { s with plan.active := some p, plan.pending := none }.takeHomes
  let s := (s.switchFrames old).switchCompare
  let s := if old.doffSlots < s.settings.doffSlots then s.doffArbiter else s
  ((s.switchRoving old).switchShift old cause).switchReport left old cause

/-- The result words of a DONE PLAN_SWITCH (R154). -/
def switchWords (p : Plan) (clock : Word) (cause : Option PageCause) : List Word :=
  [w32 p.copy.code, p.id, clock, w32 (boundaryCode cause)]

/-- Whether a book entry is a PLAN_SWITCH. -/
def isSwitch (b : BookEntry) : Bool := b.kind == .planSwitch

/-- The Plan Store is told of a boundary (R156). -/
def State.planBoundary (cause : PageCause) (s : State) : State :=
  match s.plan.pending with
  | none => s
  | some q =>
    match s.momentFault q.plan.settings with
    | none => (s.applySwitch q.plan (some cause)).finishBook isSwitch none (switchWords q.plan s.clock (some cause))
    | some x =>
      ({ s with plan.pending := none }.markItem .header).finishBook isSwitch (some .invalid) x.toWords

/-- A shift boundary (R140). -/
def State.boundary (cause : PageCause) (s : State) : State := (s.boundaryPage cause).planBoundary cause

end Sys2Proof.Machine
end

