-- ==== Sys2Proof/Machine/Formats.lean ====
section
/-! DEFINITION. The layouts of the common area (11.2): where each record stands and the words that show it. -/

namespace Sys2Proof.Machine

/-! ### Bytes and words (R198) -/

/-- A value as bytes, least significant first. -/
def bytes1 (n : Nat) : List Nat := [n % 256]
def bytes2 (n : Nat) : List Nat := [n % 256, n / 256 % 256]
def bytes4 (n : Nat) : List Nat := [n % 256, n / 256 % 256, n / 65536 % 256, n / 16777216 % 256]

/-- One word of up to four bytes. -/
def wordOf (l : List Nat) : Word :=
  w32 (l.getD 0 0 + 256 * l.getD 1 0 + 65536 * l.getD 2 0 + 16777216 * l.getD 3 0)

/-- The first n words of bytes; bytes that are not given are 0. -/
def wordsOf : Nat → List Nat → List Word
  | 0, _ => []
  | n + 1, l => wordOf l :: wordsOf n (l.drop 4)

/-- The two words of a 64-bit value. -/
def words64 (n : Nat) : List Word := [w32 (n % 4294967296), w32 (n / 4294967296)]

/-- A 32-bit value that stops at its top. -/
def topped (n : Nat) : Word := w32 (min top32 n)

/-- A flag as a number. -/
def flagNat (b : Bool) : Nat := if b then 1 else 0

/-- A code for a value that may be absent: 0 for absent (R198). -/
def codeOr {α : Type} (f : α → Nat) (o : Option α) : Nat :=
  match o with
  | some x => f x
  | none => 0

/-- A word that may be absent, 0 when it is. -/
def wordNat (o : Option Word) : Nat := codeOr BitVec.toNat o

/-- A 16-bit field that may be absent, 0 when it is. -/
def tokenNat (o : Option Token) : Nat := codeOr BitVec.toNat o

/-! ### Codes (R198) -/

def PiecerState.code : PiecerState → Nat
  | .absent => 1
  | .parked => 2
  | .moving => 3
  | .onSide => 4
  | .attempting => 5
  | .held => 6
  | .lost => 7

/-- The placement by its place in R64's list; that R198's rule takes in a placement is read by inference (log entry 61). -/
def Placement.code : Placement → Nat
  | .pool => 1
  | .side => 2
  | .park => 3

/-- The link presence by its place in R186's list; that R198's rule takes it in is read by inference (log entry 61). -/
def Presence.code : Presence → Nat
  | .absent => 1
  | .present => 2
  | .lost => 3

def Miss.code : Miss → Nat
  | .noReply => 1
  | .badReply => 2
  | .wrongKind => 3

/-- NONE is coded 0, the others by their place (log entry 7). -/
def DoffFinish.code : DoffFinish → Nat
  | .none => 0
  | .pending => 2
  | .made => 3

/-- A lock holder or a waiting claim (R198). -/
def Holder.code : Holder → Nat
  | .none => 0
  | .piecer p => p
  | .carrier c => 8 + c

def PageStage.code : PageStage → Nat
  | .free => 0
  | .opened => 1
  | .closed => 2

def JournalKind.code : JournalKind → Nat
  | .break => 1
  | .pieced => 2
  | .pieceFail => 3
  | .cutOut => 4
  | .cutCleared => 5
  | .slip => 6
  | .stripBlind => 7
  | .stripClear => 8
  | .checkDone => 9
  | .doffCalled => 10
  | .doffGranted => 11
  | .doffDone => 12
  | .doffFault => 13
  | .frameHalt => 14
  | .frameRun => 15
  | .sectionLow => 16
  | .sectionEmpty => 17
  | .creelDone => 18
  | .creelFault => 19
  | .lotMismatch => 20
  | .piecerMoved => 21
  | .unitLost => 22
  | .unitBack => 23
  | .staleReport => 24
  | .planSwitched => 25
  | .shiftClosed => 26
  | .boundaryAbsorbed => 27
  | .gap => 28

/-! ### Places (11.2) -/

def cellOffset (n : Nat) : Nat := 0x100 + 64 * (n - 1)
def dumpOffset : Nat := 0x900
def frameOffset (f : Nat) : Nat := 0x5000 + 256 * (f - 1)
def unitOffset (u : Nat) : Nat := 0x5800 + 64 * (u - 1)
def creelOffset (c : Nat) : Nat := 0x6000 + 16 * (c - 1)
def pageOffset (p : Nat) : Nat := 0x8800 + 1024 * (p - 1)
def blockOffset (c : Nat) : Nat := 0xA000 + 5120 * (creelFrame c - 1) + 64 * (creelIndex c - 1)
def journalOffset (w : Nat) : Nat := 0x14000 + 32 * w

/-! ### Mirrors (11.2.6): the words after the change number -/

/-- The unlisted DOWN spindles of a side (R61). -/
def State.unlistedCount (s : State) (d : Nat) : Nat := (s.unlisted d).length

/-- A side's block of a frame mirror. -/
def State.sideBytes (s : State) (d : Nat) : List Nat :=
  let x := s.side d
  bytes1 x.entries.length ++ bytes1 x.backlog ++ bytes2 (s.unlistedCount d) ++ bytes1 (x.piecer.getD 0) ++ bytes1 0 ++
    bytes4 (wordNat x.oldest) ++ List.replicate 6 0

/-- A frame mirror (R61, R104, R196). -/
def State.frameWords (s : State) (f : Nat) : List Word :=
  let x := s.frame f
  wordsOf 63
    (bytes1 x.state.code ++ bytes1 (x.slot.getD 0) ++ bytes1 (flagNat x.doffOwed) ++
      bytes1 (codeOr CallCause.code x.callCause) ++ bytes1 x.doffFinish.code ++
      bytes1 (codeOr HaltCause.code x.haltCause) ++ bytes1 (x.grace.getD 0) ++ bytes1 (s.unit f).presence.code ++
      bytes4 x.buildM ++ bytes4 (wordNat x.callStamp) ++ bytes4 (flagNat x.alarm + 2 * flagNat x.unit) ++
      s.sideBytes (2 * f - 1) ++ s.sideBytes (2 * f))

/-- The link bytes of a unit mirror (R196). -/
def State.linkBytes (s : State) (a : Nat) : List Nat :=
  let u := s.unit a
  bytes1 u.presence.code ++ bytes1 u.misses ++ bytes1 u.lastMiss.code ++ bytes1 u.queue.length

/-- A piecer's unit mirror (R61, R79, R196). The patrol direction is coded ASCENDING 1, DESCENDING 2, the order in which R42
names them, by inference (log entry 57); so is that the fields stand with no byte between them (log entry 68). -/
def State.piecerWords (s : State) (p : Nat) : List Word :=
  let x := s.piecer p
  wordsOf 6
    (bytes1 x.state.code ++ bytes1 (x.side.getD 0) ++ bytes1 x.placement.code ++ bytes1 (flagNat x.atBay) ++
      bytes1 (flagNat x.parkOwed) ++ bytes1 (flagNat x.returned) ++ bytes1 (if x.descending then 2 else 1) ++
      bytes1 (codeOr stageCode x.stage) ++ bytes1 (x.home.getD 0) ++ s.linkBytes (piecerAddr p) ++
      bytes2 (x.position.getD 0) ++ bytes2 (x.spindle.getD 0) ++ bytes2 (tokenNat x.current) ++
      bytes2 (tokenNat x.void))

/-- A carrier's unit mirror (R127, R196), its fields with no byte between them, by inference (log entry 68). -/
def State.carrierWords (s : State) (c : Nat) : List Word :=
  let x := s.carrier c
  wordsOf 4
    (bytes1 x.state.code ++ bytes1 (codeOr creelFrame x.creel) ++ bytes1 (codeOr creelIndex x.creel) ++
      s.linkBytes (carrierAddr c) ++ bytes2 (tokenNat x.lotSent) ++ bytes2 (tokenNat x.lotLoaded) ++ bytes4 x.shownLeft)

/-- A unit mirror: piecers 1-8, then carriers 1-4. -/
def State.unitWords (s : State) (u : Nat) : List Word := if u ≤ 8 then s.piecerWords u else s.carrierWords (u - 8)

/-- A section mirror (R127). -/
def State.creelWords (s : State) (c : Nat) : List Word :=
  let x := s.creel c
  let t := s.strip c
  wordsOf 3
    (bytes1 x.state.code ++ bytes1 (x.carrier.getD 0) ++ bytes1 x.lock.code ++ bytes1 x.waiting.code ++
      bytes1 (flagNat x.holdSent + 2 * flagNat t.blind + 4 * flagNat t.check.isSome) ++ bytes1 0 ++
      bytes2 x.remainingM ++ bytes4 (wordNat x.queueStamp))

/-- A spindle's entry in the map (R23, 11.2.6). -/
def Spindle.entry (x : Spindle) : Nat :=
  x.state.code + 16 * flagNat x.listed + 32 * flagNat x.slip + 64 * x.attempts + 512 * codeOr CutCause.code x.cutCause +
    4096 * codeOr BreakClass.code x.lastClass

/-- A spindle map block (R23). -/
def State.blockWords (s : State) (c : Nat) : List Word :=
  wordsOf 15 ((spindlesOfSection (creelIndex c)).flatMap fun n => bytes2 (s.spindle (creelFrame c) n).entry)

/-! ### Header (11.2.1) -/

/-- The header's words from 0x0C to 0x28. -/
def State.headerWords (s : State) : List Word :=
  [w32 s.writer.writeMark] ++ planWords s.plan.active ++ planWords (s.plan.pending.map PendingPlan.plan) ++
    s.plan.fault.toWords

/-- The header's words at 0x2C and 0x30. -/
def State.headerTail (s : State) : List Word := [s.desk.lastTaken, s.writer.journalLost]

/-! ### Tally pages (11.2.4) -/

/-- weight_g (R136). -/
def Counts.weightG (x : Counts) : Word := topped (x.weightSum / 100000000)

/-- running_share in per mille (R136). -/
def Counts.runningShare (x : Counts) : Word := w32 (if x.plannedSweeps = 0 then 0 else x.runningSweeps * 1000 / x.plannedSweeps)

/-- A frame's block of a page. -/
def Counts.toWords (x : Counts) : List Word :=
  words64 x.spindleMm ++ words64 x.runningSweeps ++ words64 x.plannedSweeps ++
    [w32 x.frontMm, x.weightG, w32 x.stopDs, x.runningShare,
      w32 x.breakRun, w32 x.breakDoffStart, w32 x.breakProveFail, w32 x.breakStarve,
      w32 x.pieced, w32 x.pieceFailures,
      w32 x.cutRogue, w32 x.cutAttempts, w32 x.cutManual, w32 x.cutNoRoving, w32 x.cutSensor,
      w32 x.doffs, w32 x.creelChanges, w32 x.lotMismatches, w32 x.slips, 0#32, 0#32, 0#32, 0#32, 0#32]

/-- A page's words from 0x08 on: the header's rest and the eight blocks. -/
def pageWords (p : OpenPage) (closeStamp : Word) (close : Option PageCause) (counts : List (Nat × Counts)) : List Word :=
  [p.stamp, w32 p.cause.openCode, closeStamp, w32 (codeOr PageCause.closeCode close), w32 p.merged, 0#32] ++
    allFrames.flatMap fun f => (tget Counts.reset counts f).toWords

/-! ### Table dump (R36, 11.2.5) -/

/-- The frame and the spindle of a key (R26). -/
def keyFrame (k : Nat) : Nat := k / 2048 + 1
def keySpindle (k : Nat) : Nat := k % 2048

/-- One entry of the dump. -/
def RogueEntry.dumpBytes (e : RogueEntry) : List Nat :=
  if e.valid then
    bytes1 1 ++ bytes1 e.count ++ bytes1 (keyFrame e.key) ++ bytes1 0 ++ bytes2 e.key ++ bytes2 (keySpindle e.key) ++
      bytes4 e.firstStamp.toNat
  else List.replicate 12 0

/-- One set record of the dump. -/
def RogueTable.setBytes (t : RogueTable) (set : Nat) : List Nat :=
  let r := t.choices set
  bytes1 (flagNat r.pair) ++ bytes1 (flagNat r.low) ++ bytes1 (flagNat r.high) ++ bytes1 (t.target set)

/-- The dump's words after the change number. -/
def Snapshot.toWords (x : Snapshot) : List Word :=
  [x.clock, w32 x.table.validCount, w32 x.limit, w32 x.window, x.seq, 0#32, 0#32] ++
    wordsOf 208 ((List.range 16).flatMap (fun set => ways.flatMap fun w => (x.table.entry set w).dumpBytes) ++
      (List.range 16).flatMap x.table.setBytes)

/-! ### Cells and journal entries (11.2.2, 11.2.3) -/

/-- The answer of a finished cell, from 0x1C to 0x38. -/
def Answer.toWords (a : Answer) : List Word :=
  w32 (codeOr Reason.code a.reason) :: (a.words ++ List.replicate 6 0#32).take 6 ++ [a.stamp]

/-- The stage of a finished cell. -/
def Answer.stage (a : Answer) : CellStage := if a.reason.isSome then .refused else .done

/-- A journal entry's eight words. The field words F1 to F6 that its kind does not use, which 11.2.3 shows as a dash and does
not say are written 0, are written 0: the model's choice (log entry 69). -/
def JournalEntry.toWords (e : JournalEntry) : List Word :=
  wordOf (bytes2 e.kind.code ++ bytes1 e.frame ++ bytes1 e.unit) :: e.stamp :: (e.fields ++ List.replicate 6 0#32).take 6

end Sys2Proof.Machine
end

