-- ==== Sys2Proof/Machine/Port.lean ====
section
/-! DEFINITION. The Memory Port (R181): requests in turn, the bus request, and the giving up of everything it holds. -/

namespace Sys2Proof.Machine

/-- The port with XREQ asserted and its grant timeout started (R181). -/
def Port.assert (p : Port) : Port :=
  { p with xreq := true, granted := false, grantTimer := Timer.load Config.grantTimeoutMs, retried := false }

/-- The port with XREQ released (R181). -/
def Port.release (p : Port) : Port := { p with xreq := false, granted := false, grantTimer := Timer.off, retried := false }

/-- The port takes a transfer up at once, or behind those requested before it (R181). -/
def Port.request (t : Transfer) (p : Port) : Port :=
  match p.current with
  | none => { p with current := some t }.assert
  | some _ => { p with waiting := p.waiting ++ [t] }

/-- The port after its transfer has ended: XREQ released, and asserted again when another transfer waits (R181). -/
def Port.finish (p : Port) : Port :=
  match p.waiting with
  | [] => { p with current := none }.release
  | t :: r => { p with current := some t, waiting := r }.assert

/-- The port with nothing to do (R184). -/
def Port.idle : Port := ⟨none, [], false, false, Timer.off, false⟩

/-- Request a read of words at an offset of the common area. -/
def State.requestRead (b : Requester) (offset beats : Nat) (s : State) : State :=
  { s with port := s.port.request ⟨b, false, s.areaAddr offset, beats, 0, []⟩ }

/-- Request a write of words at an offset of the common area. -/
def State.requestWrite (offset : Nat) (l : List Word) (s : State) : State :=
  { s with port := s.port.request ⟨.reportWriter, true, s.areaAddr offset, l.length, 0, l⟩ }

/-- The board address of a transfer's next beat. -/
def Transfer.beatAddr (t : Transfer) : Nat := (t.addr + 4 * t.next) % 4294967296

/-- A transfer with its next beat moved: a write puts its word in memory, a read takes one from it. -/
def Transfer.moved (t : Transfer) (w : Word) : Transfer :=
  { t with next := t.next + 1, words := if t.write then t.words else t.words ++ [w] }

/-- The next beat of the transfer is moved (R181). -/
def State.moveBeat (t : Transfer) (s : State) : State :=
  let a := t.beatAddr
  let w := s.word a
  let s := if t.write then { s with mem := putWord s.mem a (t.words.getD t.next 0#32) } else s
  { s with port.current := some (t.moved w), port.retried := false }

/-- Whether every beat of the transfer has been moved. -/
def Transfer.done (t : Transfer) : Bool := decide (t.beats ≤ t.next)

/-- The offset in the common area of a transfer's first word. -/
def State.transferOffset (s : State) (t : Transfer) : Nat :=
  (t.addr + 4294967296 - s.regs.area.toNat) % 4294967296

end Sys2Proof.Machine
end

