-- ==== Sys2Proof/Machine/Writer.lean ====
section
/-! DEFINITION. The Report Writer's updates (R169, R170): where a record's change number stands, the transfers of an update,
and what the end of an update brings about (R145, R175, R178, R180). -/

namespace Sys2Proof.Machine

/-! ### Change numbers (R169) -/

/-- The next odd value above a change number. -/
def nextOdd (w : Word) : Word := if w.getLsbD 0 then w + 2#32 else w + 1#32

/-- The change number held for the record whose number stands at an offset. -/
def State.numberHeld (s : State) (offset : Nat) : Option Word := tget none s.writer.numbers offset

/-- Hold a change number. -/
def State.holdNumber (offset : Nat) (w : Word) (s : State) : State :=
  { s with writer.numbers := tput none s.writer.numbers offset (some w) }

/-- The offset of an item's change number; none for a cell, a journal entry and the bytes behind a spindle map. -/
def State.numberPlace (s : State) (i : WriteItem) : Option Nat :=
  match i with
  | .header | .planFault => some 0
  | .frame f => some (frameOffset f)
  | .unit u => some (unitOffset u)
  | .creel c => some (creelOffset c)
  | .block c => some (blockOffset c)
  | .openPage => s.output.page.map fun p => pageOffset p.number + 4
  | .closedPage c => some (pageOffset c.page.number + 4)
  | .startClose n => some (pageOffset n + 4)
  | .dump _ => some dumpOffset
  | .mapTail _ | .cellTaken _ | .cellDone _ | .journal _ | .mark => none

/-! ### The transfers of an update -/

/-- A run of words cut into transfers of at most 8 beats (R181); the number bounds them. -/
def cutRun : Nat → Nat → List Word → List (Nat × List Word)
  | 0, _, _ => []
  | n + 1, a, l => if l.isEmpty then [] else (a, l.take 8) :: cutRun n (a + 32) (l.drop 8)

/-- The transfers of one run. -/
def transfersOf (r : Nat × List Word) : List (Nat × List Word) := cutRun r.2.length r.1 r.2

/-- The runs of fields of an item, taken from the records as they stand (R170). -/
def State.fieldRuns (s : State) (i : WriteItem) : List (Nat × List Word) :=
  match i with
  | .header => [(0x0C, s.headerWords), (0x2C, s.headerTail)]
  | .planFault => [(0x20, s.plan.fault.toWords)]
  | .frame f => [(frameOffset f + 4, s.frameWords f)]
  | .unit u => [(unitOffset u + 4, s.unitWords u)]
  | .creel c => [(creelOffset c + 4, s.creelWords c)]
  | .block c => [(blockOffset c + 4, s.blockWords c)]
  | .mapTail f => [(blockOffset (creelNo f 76) + 64, List.replicate 64 0#32)]
  | .openPage =>
    match s.output.page with
    | some p => [(pageOffset p.number, [w32 PageStage.opened.code]),
        (pageOffset p.number + 8, pageWords p 0#32 none s.output.counts)]
    | none => []
  | .closedPage c => [(pageOffset c.page.number, [w32 PageStage.closed.code]),
      (pageOffset c.page.number + 8, pageWords c.page c.closeStamp (some c.closeCause) c.counts)]
  | .startClose n => [(pageOffset n, [w32 PageStage.closed.code]),
      (pageOffset n + 0x10, [0#32, w32 PageCause.start.closeCode]), (pageOffset n + 0x1C, [0#32])] ++
      allFrames.map fun f => (pageOffset n + 0x20 + 0x78 * (f - 1) + 0x64, List.replicate 5 0#32)
  | .dump t => [(dumpOffset + 4, t.toWords)]
  | .cellTaken n => [(cellOffset n, [w32 CellStage.taken.code])]
  | .cellDone a => [(cellOffset a.cell + 0x1C, a.toWords), (cellOffset a.cell, [w32 a.stage.code])]
  | .journal e => [(journalOffset s.writer.writeMark, e.toWords)]
  | .mark => []

/-- Runs with the odd change number before them, in one run with fields that follow it at once (9.6.1). -/
def withOdd (offset : Nat) (odd : Word) (runs : List (Nat × List Word)) : List (Nat × List Word) :=
  match runs with
  | (a, l) :: r => if a = offset + 4 then (offset, odd :: l) :: r else (offset, [odd]) :: (a, l) :: r
  | [] => [(offset, [odd])]

/-- Request the first of an update's transfers, keeping the rest. -/
def State.sendTransfers (i : WriteItem) (l : List (Nat × List Word)) (s : State) : State :=
  match l with
  | [] => { s with writer.current := none }
  | (a, w) :: r => { s with writer.current := some ⟨i, false, r⟩ }.requestWrite a w

/-- An opening or a rewrite of the open page that a SHIFT_CLOSE waits for has begun (R145). -/
def State.noteOpenBegun (i : WriteItem) (s : State) : State :=
  if i = .openPage then { s with output.wait := s.output.wait.map fun w => { w with openBegun := true } } else s

/-- Begin the writing of an item whose change number is known: odd, fields, even (R169). The odd value is held from here on,
whether or not it reaches memory, the model's choice (log entry 48). -/
def State.beginNumbered (i : WriteItem) (offset : Nat) (held : Word) (s : State) : State :=
  let odd := nextOdd held
  let runs := withOdd offset odd (s.fieldRuns i) ++ [(offset, [odd + 1#32])]
  ((s.holdNumber offset odd).noteOpenBegun i).sendTransfers i (runs.flatMap transfersOf)

/-- Begin an item (R169, R170): a change number that the part does not hold is read first. -/
def State.beginItem (i : WriteItem) (s : State) : State :=
  match s.numberPlace i with
  | none => s.sendTransfers i ((s.fieldRuns i).flatMap transfersOf)
  | some offset =>
    match s.numberHeld offset with
    | some v => s.beginNumbered i offset v
    | none => { s with writer.current := some ⟨i, true, []⟩ }.requestRead .reportWriter offset 1

/-! ### The end of an update -/

/-- A SHIFT_CLOSE is DONE when the page writes of its boundary have ended (R145): completion 1 CLOSED, 2 ABSORBED. Tested at
the end of a page write and, for the page writes of RESUME's rewriting, at the beginning of its step 2 (R184). -/
def State.shiftTest (s : State) : State :=
  match s.output.wait with
  | none => s
  | some w =>
    if w.closeLeft || w.openLeft then s
    else { s with output.wait := none }.finishBook (fun b => b.kind == OrderKind.shiftClose) none
      [w32 (if w.absorbed then 2 else 1), w32 w.page, w.stamp, w32 w.merged]

/-- What a SHIFT_CLOSE waits for after the closing write of page n (R145). The page whose opening or rewrite is awaited may
have been closed by a later boundary before that write began: its closing write then shows it (log entry 33). -/
def ShiftWait.closed (n : Nat) (w : ShiftWait) : ShiftWait :=
  { w with closeLeft := w.closeLeft && n != w.page, openLeft := w.openLeft && n != w.opens }

/-- What a SHIFT_CLOSE waits for after the open page's write. -/
def ShiftWait.opened (w : ShiftWait) : ShiftWait := if w.openBegun then { w with openLeft := false } else w

/-- A page write has ended, and leaves of what a SHIFT_CLOSE waits for what `left` says (R145). During the rewriting of RESUME
the order waits on in the book until step 2, whichever writes have ended (R145, R184). -/
def State.pageWritten (left : ShiftWait → ShiftWait) (s : State) : State :=
  let s := { s with output.wait := s.output.wait.map left }
  if s.regs.rewriting = some .rewrite then s else s.shiftTest

/-- A journal entry has been written: W advances, the header follows, the threshold is tested (R178, R180). -/
def State.journalWritten (s : State) : State :=
  let before := s.unread
  let s := { s with writer.writeMark := (s.writer.writeMark + 1) % s.writer.capacity }.markItem .header
  if before < s.settings.journalThreshold ∧ s.settings.journalThreshold ≤ s.unread then s.raise .journal else s

/-- An item has been written whole. -/
def State.itemWritten (i : WriteItem) (s : State) : State :=
  let s := { s with writer.current := none }
  match i with
  | .journal _ => s.journalWritten
  | .cellDone _ => s.raise .order
  | .closedPage c => s.pageWritten (ShiftWait.closed c.page.number)
  | .openPage => s.pageWritten ShiftWait.opened
  | .header | .planFault | .frame _ | .unit _ | .creel _ | .block _ | .mapTail _ | .startClose _ | .dump _ | .cellTaken _
  | .mark => s

/-- Whether an item's writing is bracketed by a change number (R169). -/
def WriteItem.numbered : WriteItem → Bool
  | .header | .planFault | .frame _ | .unit _ | .creel _ | .block _ | .openPage | .closedPage _ | .startClose _ | .dump _ => true
  | .mapTail _ | .cellTaken _ | .cellDone _ | .journal _ | .mark => false

/-- A write of the Report Writer at an offset has ended: the next transfer of its update, or the update's end, whose last
word is the even change number (R169). -/
def State.writeEnded (offset : Nat) (last : Word) (s : State) : State :=
  match s.writer.current with
  | none => s
  | some u =>
    match u.left with
    | [] => (if u.item.numbered then s.holdNumber offset last else s).itemWritten u.item
    | l => s.sendTransfers u.item l

/-- A change number has been read (R169). The page that was open when its number was asked for may have closed since: its
closing write is then in the queue. -/
def State.numberRead (offset : Nat) (w : Word) (s : State) : State :=
  match s.writer.current with
  | none => s
  | some u =>
    if s.numberPlace u.item = some offset then s.beginNumbered u.item offset w
    else { s.holdNumber offset w with writer.current := none }

end Sys2Proof.Machine
end

