-- ==== Sys2Proof/Machine/Orders.lean ====
section
/-! DEFINITION. What the owner of each order does with it when it is taken (R15 to R18, R35, R74, R75, R83, R84, R96, R100,
R123, R124, R145, R154, R157, R176). -/

namespace Sys2Proof.Machine

/-! ### Answers and the book -/

/-- The order is DONE at its taking (R175). -/
def State.orderDone (c : CellRead) (words : List Word) (s : State) : State := s.finish c.cell none words

/-- The order is REFUSED at its taking (R175). -/
def State.orderRefused (c : CellRead) (r : Reason) (s : State) : State := s.finish c.cell (some r) []

/-- A long order enters the book, its cell is written TAKEN (R174). -/
def State.enterBook (k : OrderKind) (c : CellRead) (s : State) : State :=
  let s := s.setCellView c.cell .taken
  { s with
    desk.book := s.desk.book ++ [⟨c.cell, c.seq, k, c.p1, c.p2⟩]
    writer.queue := s.writer.queue ++ [.cellTaken c.cell] }

/-! ### Orders on spindles (1.5) -/

/-- The spindles of a frame from first to last that are not ABSENT by record. -/
def State.spindlesFrom (s : State) (f first last : Nat) : List Nat :=
  (s.spindlesOfFrame f).filter fun n => decide (first ≤ n) && decide (n ≤ last)

/-- CUT_OUT's steps before the spindle is cut out (R15). -/
def State.cutOutFirst (f n : Nat) (s : State) : State :=
  match (s.spindle f n).state with
  | .piecing =>
    match s.attemptAt f n with
    | some p => (s.abandon p).removeEntry f n
    | none => s.removeEntry f n
  | .down => if (s.spindle f n).listed then s.removeEntry f n else s
  | .absent | .settling | .running | .proving | .starved | .cutOut | .checking => s

/-- CUT_OUT (R15). -/
def State.orderCutOut (c : CellRead) (s : State) : State :=
  let f := c.p1.toNat
  let n := c.p2.toNat
  if !frameOk f || !spindleOk n then s.orderRefused c .outOfRange
  else
    let st := (s.spindle f n).state
    match st with
    | .absent => s.orderRefused c .notPresent
    | .cutOut => s.orderDone c [w32 st.code]
    | .settling | .running | .down | .piecing | .proving | .starved | .checking =>
      ((s.cutOutFirst f n).cutSpindle f n .manual).orderDone c [w32 st.code]

/-- Whether a range order names a frame and a range (1.5). -/
def rangeOk (c : CellRead) : Bool :=
  frameOk c.p1.toNat && spindleOk c.p2.toNat && spindleOk c.p3.toNat && decide (c.p2.toNat ≤ c.p3.toNat)

/-- A spindle brought back (R16). -/
def State.uncut (f n : Nat) (s : State) : State :=
  s.setSpindle f n { (s.spindle f n).to .settling with attempts := 0, cutCause := none }

/-- CLEAR_CUTOUT (R16). -/
def State.orderClearCutout (c : CellRead) (s : State) : State :=
  if !rangeOk c then s.orderRefused c .outOfRange
  else
    let f := c.p1.toNat
    let l := (s.spindlesFrom f c.p2.toNat c.p3.toNat).filter fun n => (s.spindle f n).state == .cutOut
    ((s.each l fun n t => t.uncut f n).journal .cutCleared f 0 [c.p2, c.p3, w32 l.length]).orderDone c [w32 l.length]

/-- CLEAR_SLIP (R17). -/
def State.orderClearSlip (c : CellRead) (s : State) : State :=
  if !rangeOk c then s.orderRefused c .outOfRange
  else
    let f := c.p1.toNat
    let l := (s.spindlesFrom f c.p2.toNat c.p3.toNat).filter fun n => (s.spindle f n).slip
    (s.each l fun n t => t.setSpindle f n { t.spindle f n with slip := false }).orderDone c [w32 l.length]

/-- A spindle goes into a self-check (R18). -/
def State.checkSpindle (f n : Nat) (s : State) : State :=
  let x := s.spindle f n
  match x.state with
  | .absent | .cutOut => s
  | .down =>
    let s := if x.listed then s.removeEntry f n else s
    s.setSpindle f n { x.to .checking with saved := some .down }
  | .settling | .running | .piecing | .proving | .starved | .checking =>
    s.setSpindle f n { x.to .checking with saved := some x.state }

/-- What makes a section BUSY for a self-check (R18). -/
def State.checkBusy (s : State) (f k : Nat) : Bool :=
  ((spindlesOfSection k).any fun n =>
    (s.spindle f n).state == .piecing || (s.spindle f n).state == .proving) || (s.creel (creelNo f k)).lock != .none

/-- Whether an order names a frame and a section (1.5, R123). -/
def sectionParamsOk (c : CellRead) : Bool := frameOk c.p1.toNat && within 1 76 c.p2.toNat

/-- Whether a frame is not OUT and a section of it is in plan (R18, R123). -/
def State.sectionPresent (s : State) (f k : Nat) : Bool := (s.frame f).state != .out && (s.frameSettings f).sectionIn k

/-- SELF_CHECK (R18). -/
def State.orderSelfCheck (c : CellRead) (s : State) : State :=
  let f := c.p1.toNat
  let k := c.p2.toNat
  if !sectionParamsOk c then s.orderRefused c .outOfRange
  else if !s.sectionPresent f k then s.orderRefused c .notPresent
  else if s.checkBusy f k then s.orderRefused c .busy
  else
    let s := s.each (spindlesOfSection k) fun n t => t.checkSpindle f n
    (s.setStrip (creelNo f k) { s.strip (creelNo f k) with check := some ⟨0, 0#24⟩ }).enterBook .selfCheck c

/-! ### TABLE_READ -/

/-- TABLE_READ (R35): the snapshot is written before the cell. -/
def State.orderTableRead (c : CellRead) (s : State) : State :=
  let x : Snapshot := ⟨s.clock, s.settings.rogueLimit, s.settings.rogueWindow, c.seq, s.rogue⟩
  { s with writer.queue := s.writer.queue ++ [WriteItem.dump x] }.orderDone c [w32 x.table.validCount, s.clock]

/-! ### PIECER_PLACE -/

/-- The refusals of R74, in order. -/
def State.placeRefusal (s : State) (p d : Nat) : Option Reason :=
  let x := s.piecer p
  if !piecerOk p || !within 1 poolTarget d then some .outOfRange
  else if x.state = .absent ∨ x.state = .lost then some .notPresent
  else if d ≤ 16 then
    if (s.frame (sideFrame d)).state = .out then some .notPresent
    else if (s.side d).piecer.isSome ∧ (s.side d).piecer ≠ some p then some .occupied
    else if x.side ≠ some d ∧ (x.state = .moving ∨ (x.state = .attempting ∧ pastJoin x.stage = true)) then some .busy
    else none
  else none

/-- The effect on a piecer ordered to a side (R75). -/
def State.placeOnSide (c : CellRead) (p d : Nat) (s : State) : State :=
  let x := s.piecer p
  let s := s.setPiecer p { x with placement := .side }
  if x.side = some d then
    if x.state = .moving then s.enterBook .piecerPlace c else s.orderDone c (placeWords 1 (s.piecer p))
  else ((s.enterBook .piecerPlace c).voidAttempt p true).sendToSide p d .order

/-- The effect on a piecer ordered to the bay (R75). Its PIECER_MOVED carries the reason ORDER, the model's choice (R73; log
entry 43). -/
def State.placeInBay (c : CellRead) (p : Nat) (s : State) : State :=
  let x := s.piecer p
  match x.state with
  | .parked =>
    let s := s.setPiecer p { x with placement := .park }
    if x.atBay then s.orderDone c (placeWords 2 (s.piecer p)) else s.enterBook .piecerPlace c
  | .moving => (s.enterBook .piecerPlace c).setPiecer p { x with parkOwed := true }
  | .attempting =>
    if pastJoin x.stage then (s.enterBook .piecerPlace c).setPiecer p { x with parkOwed := true }
    else ((s.enterBook .piecerPlace c).voidAttempt p true).sendToBay p .park (some .order)
  | .onSide | .held => ((s.enterBook .piecerPlace c).voidAttempt p true).sendToBay p .park (some .order)
  | .absent | .lost => s

/-- The effect on a piecer ordered back to the pool (R75). -/
def State.placeInPool (c : CellRead) (p : Nat) (s : State) : State :=
  let s := s.setPiecer p { s.piecer p with placement := .pool }
  s.orderDone c (placeWords 3 (s.piecer p))

/-- PIECER_PLACE (R74, R75); an order taken evaluates the arbiter (R66). -/
def State.orderPiecerPlace (c : CellRead) (s : State) : State :=
  let p := c.p1.toNat
  let d := c.p2.toNat
  match s.placeRefusal p d with
  | some r => s.orderRefused c r
  | none =>
    (if d ≤ 16 then s.placeOnSide c p d
    else if d = parkTarget then s.placeInBay c p
    else s.placeInPool c p).oweArbiter

/-! ### Orders on frames -/

/-- DOFF_NOW (R83). -/
def State.orderDoffNow (c : CellRead) (s : State) : State :=
  let f := c.p1.toNat
  if !frameOk f then s.orderRefused c .outOfRange
  else match (s.frame f).state with
    | .out => s.orderRefused c .notPresent
    | .called | .draining | .stopping | .doffing => s.orderRefused c .alreadyCalled
    | .halted | .restarting => s.orderRefused c .notRunning
    | .building | .nearing => (s.enterBook .doffNow c).callFrame f .doffNow

/-- FRAME_STOP (R96). -/
def State.orderFrameStop (c : CellRead) (s : State) : State :=
  let f := c.p1.toNat
  if !frameOk f then s.orderRefused c .outOfRange
  else
    let st := (s.frame f).state
    match st with
    | .out => s.orderRefused c .notPresent
    | .halted => (s.handDrive f .stop).orderDone c [w32 st.code]
    | .restarting | .building | .nearing | .called | .draining | .stopping | .doffing =>
      (s.stopFrame f .order).orderDone c [w32 st.code]

/-- FRAME_START (R100). -/
def State.orderFrameStart (c : CellRead) (s : State) : State :=
  let f := c.p1.toNat
  if !frameOk f then s.orderRefused c .outOfRange
  else if (s.frame f).state = .out ∨ (s.unit f).presence = .absent then s.orderRefused c .notPresent
  else if (s.frame f).state ≠ .halted then s.orderRefused c .notHalted
  else (s.enterBook .frameStart c).restart f

/-! ### CREEL_CHANGE -/

/-- CREEL_CHANGE (R123). -/
def State.orderCreelChange (c : CellRead) (s : State) : State :=
  let f := c.p1.toNat
  let k := creelNo f c.p2.toNat
  if !sectionParamsOk c then s.orderRefused c .outOfRange
  else if !s.sectionPresent f c.p2.toNat then s.orderRefused c .notPresent
  else match (s.creel k).state with
    | .queued | .changing => s.orderRefused c .duplicate
    | .fed | .low | .lotHold =>
      if !s.queueRoom then s.orderRefused c .full
      else
        let s := (s.enterBook .creelChange c).queueByStamp k s.clock
        s.setCreel k { s.creel k with orderSeq := some c.seq }

/-! ### SHIFT_CLOSE -/

/-- What a SHIFT_CLOSE waits for, from the FREE pages and the page open before its boundary (R145). -/
def shiftWait (free : List Nat) (p : OpenPage) (clock : Word) : ShiftWait :=
  match free with
  | n :: _ => ⟨false, p.number, n, clock, p.merged, true, true, false⟩
  | [] => ⟨true, p.number, p.number, clock, addTo top32 p.merged 1, false, true, false⟩

/-- SHIFT_CLOSE (R145). -/
def State.orderShiftClose (c : CellRead) (s : State) : State :=
  let w := s.output.page.map fun p => shiftWait s.freePages p s.clock
  { s.enterBook .shiftClose c with output.wait := w }.boundary .shiftClose

/-! ### PLAN_SWITCH -/

/-- The first two decisions of R154, and the reading of the copy. -/
def State.orderPlanSwitch (c : CellRead) (s : State) : Option Reason × State :=
  match planCopy c.p1, switchMode c.p2 with
  | some copy, some _ =>
    if s.plan.pending.isSome then (some .pending, s)
    else (none, { s with plan.read := some ⟨copy, []⟩ }.requestRead .planStore copy.offset 8)
  | _, _ => (some .outOfRange, s)

/-- Every item of R152 for a copy read by a PLAN_SWITCH. -/
def State.switchFault (s : State) (copy : PlanCopy) (l : List Word) : Option PlanFault :=
  if s.plan.active.map Plan.copy = some copy then some (planFault .copy 0 0)
  else match copyFault s.writer.capacity l with
    | some x => some x
    | none => s.momentFault (parseSettings l)

/-- The copy has been read whole: the decisions 3 to 5 of R154. -/
def State.decideSwitch (c : CellRead) (copy : PlanCopy) (l : List Word) (s : State) : State :=
  match s.switchFault copy l with
  | some x => s.finish c.cell (some .invalid) x.toWords
  | none =>
    let p := parsePlan copy l
    match switchMode c.p2 with
    | some .shiftEnd => ({ s with plan.pending := some ⟨p, c.seq⟩ }.markItem .header).enterBook .planSwitch c
    | _ => (s.applySwitch p none).orderDone c (switchWords p s.clock none)

/-! ### WITHDRAW -/

/-- A DOFF_NOW withdrawn from a CALLED frame (R84). -/
def State.withdrawDoff (f : Nat) (s : State) : State :=
  (s.setFrame f { s.frame f with doffOwed := false, callStamp := none, callCause := none }).placeByBuild f .compare

/-- A CREEL_CHANGE withdrawn from a QUEUED or LOW section (R124). -/
def State.withdrawCreel (k : Nat) (s : State) : State :=
  let s := s.leaveQueue k
  let x := s.creel k
  (s.setCreel k { x with
    state := if x.remainingM ≤ (s.frameSettings (creelFrame k)).lowThreshold then .low else .fed
    queueStamp := none, orderSeq := none }).oweRefill

/-- A PIECER_PLACE withdrawn from a MOVING piecer (R76). -/
def State.withdrawPlace (p : Nat) (s : State) : State :=
  s.setPiecer p { s.piecer p with placement := .pool, parkOwed := false }

/-- Whether an order in the book can be withdrawn (R176). -/
def State.withdrawable (s : State) (b : BookEntry) : Bool :=
  match b.kind with
  | .planSwitch => s.plan.pending.isSome
  | .doffNow => (s.frame b.p1.toNat).state == .called
  | .creelChange =>
    let st := (s.creel (creelNo b.p1.toNat b.p2.toNat)).state
    st == .queued || st == .low
  | .piecerPlace => (s.piecer b.p1.toNat).state == .moving
  | .shiftClose | .frameStop | .frameStart | .cutOut | .clearCutout | .clearSlip | .selfCheck | .tableRead | .withdraw =>
    false

/-- The owner's effects of a withdrawal (R176). -/
def State.withdrawEffect (b : BookEntry) (s : State) : State :=
  match b.kind with
  | .planSwitch => { s with plan.pending := none }.markItem .header
  | .doffNow => s.withdrawDoff b.p1.toNat
  | .creelChange => s.withdrawCreel (creelNo b.p1.toNat b.p2.toNat)
  | .piecerPlace => s.withdrawPlace b.p1.toNat
  | .shiftClose | .frameStop | .frameStart | .cutOut | .clearCutout | .clearSlip | .selfCheck | .tableRead | .withdraw => s

/-- A cell leaves the deferred list (R174). -/
def State.undefer (cell : Nat) (s : State) : State :=
  { s with desk.deferred := s.desk.deferred.filter fun e => e.1 != cell }

/-- WITHDRAW (R176). -/
def State.orderWithdraw (c : CellRead) (s : State) : State :=
  match s.desk.deferred.find? fun e => e.2 == c.p1 with
  | some (cell, _) => ((s.undefer cell).finish cell (some .withdrawn) []).orderDone c [w32 cell]
  | none =>
    match s.desk.book.find? fun b => b.seq == c.p1 with
    | some b =>
      if s.withdrawable b then ((s.finish b.cell (some .withdrawn) []).withdrawEffect b).orderDone c [w32 b.cell]
      else s.orderRefused c .tooLate
    | none => s.orderRefused c .notFound

end Sys2Proof.Machine
end

