-- ==== Sys2Proof/Machine/Desk.lean ====
section
/-! DEFINITION. The Order Desk's board scan (R172), the order of taking (R173), and the taking of an order (R174). -/

namespace Sys2Proof.Machine

/-! ### Beginning and ending a scan -/

/-- A board scan begins: step 1, the read mark (R172). -/
def State.beginScan (s : State) : State :=
  { s with
    desk.scan := some .readMark
    desk.scanFrom := s.desk.lastTaken
    desk.scanTimer := Timer.off
    desk.lookAgain := false }.requestRead .orderDesk 0x08 1

/-- A scan ends: the timer is loaded, or one more scan begins for a LOOK written meanwhile (R172). -/
def State.endScan (s : State) : State :=
  if s.desk.lookAgain then s.beginScan
  else { s with desk.scan := none, desk.scanTimer := Timer.load s.settings.scanInterval }

/-- A board scan asked for (R172): one more after a scan in progress. -/
def State.lookNow (s : State) : State :=
  if s.desk.scan.isSome then { s with desk.lookAgain := true } else s.beginScan

/-! ### Step 5: taking -/

/-- The cells still to be taken, when the scan has come to its taking. -/
def State.taking (s : State) : List CellRead :=
  match s.desk.scan with
  | some (.taking l) => l
  | _ => []

/-- A new cell's test against last_taken, and last_taken's new value (R173): none when the cell is stale. -/
def State.freshCell (c : CellRead) (s : State) : Option State :=
  if c.deferred then some s
  else if later c.seq s.desk.lastTaken then some ({ s with desk.lastTaken := c.seq }.markItem .header)
  else none

/-- The cells of unknown kind at the head of the list are answered (R173, R174); the number bounds them. -/
def skipUnknown : Nat → State → State
  | 0, s => s
  | n + 1, s =>
    match s.taking with
    | [] => s
    | c :: r =>
      match orderKind c.kind with
      | some _ => s
      | none =>
        let s := { s with desk.scan := some (.taking r) }
        skipUnknown n (match s.freshCell c with
          | none => s.finish c.cell (some .staleSeq) []
          | some t => (t.undefer c.cell).finish c.cell (some .outOfRange) [])

/-- Go on with the taking: unknown kinds are answered, and with no cell left the scan ends. -/
def State.goOnTaking (s : State) : State :=
  let s := skipUnknown 32 s
  match s.desk.scan with
  | some (.taking []) => s.endScan
  | _ => s

/-- The cell at the head has been dealt with. -/
def State.dropTaken (s : State) : State :=
  { s with desk.scan := some (.taking (s.taking.drop 1)) }.goOnTaking

/-- A long order by its kind, and a PLAN_SWITCH by its mode (R174). -/
def isLong (k : OrderKind) (c : CellRead) : Bool :=
  match k with
  | .shiftClose | .frameStart | .doffNow | .selfCheck | .creelChange | .piecerPlace => true
  | .planSwitch => switchMode c.p2 == some .shiftEnd
  | .frameStop | .cutOut | .clearCutout | .clearSlip | .tableRead | .withdraw => false

/-- Whether the book holds a long order of this kind with this target (R174). -/
def State.duplicate (s : State) (k : OrderKind) (c : CellRead) : Bool :=
  s.desk.book.any fun b => b.kind == k &&
    (match k with
      | .shiftClose => true
      | .frameStart | .doffNow | .piecerPlace => b.p1 == c.p1
      | .selfCheck | .creelChange => b.p1 == c.p1 && b.p2 == c.p2
      | .planSwitch | .frameStop | .cutOut | .clearCutout | .clearSlip | .tableRead | .withdraw => false)

/-- A cell joins the deferred list, or keeps its place there (R174). -/
def State.defer (c : CellRead) (s : State) : State :=
  if s.desk.deferred.any fun e => e.1 == c.cell then s
  else { s with desk.deferred := s.desk.deferred ++ [(c.cell, c.seq)] }

/-- An order past the tests of the Order Desk goes to its owner; only a PLAN_SWITCH does not end its taking here. -/
def State.handOrder (k : OrderKind) (c : CellRead) (s : State) : State :=
  match k with
  | .cutOut => (s.orderCutOut c).dropTaken
  | .clearCutout => (s.orderClearCutout c).dropTaken
  | .clearSlip => (s.orderClearSlip c).dropTaken
  | .selfCheck => (s.orderSelfCheck c).dropTaken
  | .tableRead => (s.orderTableRead c).dropTaken
  | .piecerPlace => (s.orderPiecerPlace c).dropTaken
  | .doffNow => (s.orderDoffNow c).dropTaken
  | .frameStop => (s.orderFrameStop c).dropTaken
  | .frameStart => (s.orderFrameStart c).dropTaken
  | .creelChange => (s.orderCreelChange c).dropTaken
  | .shiftClose => (s.orderShiftClose c).dropTaken
  | .withdraw => (s.orderWithdraw c).dropTaken
  | .planSwitch =>
    match s.orderPlanSwitch c with
    | (some r, t) => (t.orderRefused c r).dropTaken
    | (none, t) => t

/-- The taking of the cell at the head (R173, R174). A deferred cell that is handed on leaves the deferred list, a PLAN_SWITCH
already before its copy is read, the model's choice (log entry 72). -/
def State.takeCell (k : OrderKind) (c : CellRead) (s : State) : State :=
  match s.freshCell c with
  | none => (s.finish c.cell (some .staleSeq) []).dropTaken
  | some t =>
    if isLong k c && t.duplicate k c then ((t.undefer c.cell).orderRefused c .duplicate).dropTaken
    else if isLong k c && decide (Config.orderBookRoom ≤ t.desk.book.length) then (t.defer c).dropTaken
    else (t.undefer c.cell).handOrder k c

/-- Whether the next cell to be taken is this order, and orders are taken now (R166, R172, R173). -/
def State.orderIsNext (s : State) (k : OrderKind) (ps : List Word) : Option CellRead :=
  match s.taking with
  | [] => none
  | c :: _ =>
    if s.regs.part = .running ∧ s.plan.read = none ∧ orderKind c.kind = some k ∧
        [c.p1, c.p2, c.p3, c.p4].take ps.length = ps then some c
    else none

/-- An order is taken in its turn; out of its turn the command changes nothing (log entry 6). -/
def State.takeOrder (k : OrderKind) (ps : List Word) (s : State) : State :=
  match s.orderIsNext k ps with
  | some c => s.takeCell k c
  | none => s

/-! ### The steps of a scan -/

/-- Sequence distance from the scan's last_taken (R173). -/
def State.seqDistance (s : State) (c : CellRead) : Nat := (c.seq - s.desk.scanFrom).toNat

/-- A cell into a list in rising distance, behind those of equal distance (R173). -/
def State.insertBySeq (s : State) (c : CellRead) : List CellRead → List CellRead
  | [] => [c]
  | d :: r => if s.seqDistance d ≤ s.seqDistance c then d :: s.insertBySeq c r else c :: d :: r

/-- New cells, read in rising cell number, in the order of taking (R173). -/
def State.sortBySeq (s : State) (l : List CellRead) : List CellRead := l.foldl (fun a c => s.insertBySeq c a) []

/-- The order of taking: deferred cells as they were deferred, then the new ones (R173). -/
def State.takingOrder (s : State) (l : List CellRead) : List CellRead :=
  (s.desk.deferred.filterMap fun e => l.find? fun c => c.cell == e.1 && c.deferred) ++
    s.sortBySeq (l.filter fun c => !c.deferred)

/-- Step 5 (R172). -/
def State.goTaking (l : List CellRead) (s : State) : State :=
  { s with desk.scan := some (.taking (s.takingOrder l)) }.goOnTaking

/-- Step 4, from the first of these cells on (R172). -/
def State.goCells (left : List Nat) (again : Bool) (got : List CellRead) (s : State) : State :=
  match left with
  | [] => s.goTaking got
  | c :: _ => { s with desk.scan := some (.cells left again [] got) }.requestRead .orderDesk (cellOffset c) 8

/-- Step 3, from the first of these cells on (R172). -/
def State.goStages (left posted : List Nat) (s : State) : State :=
  match left with
  | [] => s.goCells posted false []
  | c :: _ => { s with desk.scan := some (.stages left posted) }.requestRead .orderDesk (cellOffset c) 1

/-- The cells whose stage step 3 reads (R172). -/
def State.cellsToRead (s : State) : List Nat := (oneTo 32).filter fun c => s.cellView c != .taken

/-- After step 2: the stages, in RUNNING only (R166, R172). -/
def State.afterPages (s : State) : State :=
  if s.regs.part = .running then s.goStages s.cellsToRead [] else s.endScan

/-- Step 2, from the first of these pages on (R172). -/
def State.goPages (left : List Nat) (s : State) : State :=
  match left with
  | [] => s.afterPages
  | p :: _ => { s with desk.scan := some (.pages left) }.requestRead .outputCounter (pageOffset p) 1

/-- The read mark read (R178): taken when it lies between the last one and the write mark; room returns with it (R179). -/
def State.takeReadMark (w : Word) (s : State) : State :=
  let c := s.writer.capacity
  let r := w.toNat
  if r < c ∧ (r + c - s.desk.readMark) % c ≤ s.unread then { s with desk.readMark := r }.flushJournal else s

/-- A cell held POSTED is read with another stage: EMPTY, and no longer deferred (R171, R174). -/
def State.unpost (c : Nat) (s : State) : State :=
  (if s.cellView c = .posted then s.setCellView c .empty else s).undefer c

/-- A cell's stage word read at step 3 (R171, R172). -/
def State.stageRead (c : Nat) (left posted : List Nat) (w : Word) (s : State) : State :=
  if cellStage w = some .posted then (s.setCellView c .posted).goStages left (posted ++ [c])
  else (s.unpost c).goStages left posted

/-- The cell read whole is a deferred one: still with the seq recorded (R174). -/
def State.isDeferred (s : State) (c : Nat) (seq : Word) : Bool := s.desk.deferred.any fun e => e.1 == c && e.2 == seq

/-- A cell read whole and its stage read again: 16 words (R172). -/
def State.cellRead (c : Nat) (left : List Nat) (again : Bool) (w : List Word) (got : List CellRead) (s : State) : State :=
  if w.getD 0 0#32 = w.getD 15 0#32 then
    if cellStage (w.getD 0 0#32) = some .posted then
      let d := s.isDeferred c (w.getD 1 0#32)
      (if d then s else s.undefer c).goCells left false (got ++ [readCell c d w])
    else (s.unpost c).goCells left false got
  else if again then s.goCells left false got
  else s.goCells (c :: left) true got

/-- The words of a cell read so far, with what is read next (R172): 8 words, 7 words, then the stage again; the split into
transfers is the model's choice (log entry 9). -/
def State.cellWords (c : Nat) (left : List Nat) (again : Bool) (w : List Word) (got : List CellRead) (s : State) : State :=
  if w.length < 15 then
    { s with desk.scan := some (.cells (c :: left) again w got) }.requestRead .orderDesk (cellOffset c + 0x20) 7
  else if w.length < 16 then
    { s with desk.scan := some (.cells (c :: left) again w got) }.requestRead .orderDesk (cellOffset c) 1
  else s.cellRead c left again w got

/-- A read of a board scan by the Order Desk has ended (R172). A part no longer RUNNING reads no more cells (R166). -/
def State.scanRead (w : List Word) (s : State) : State :=
  match s.desk.scan with
  | some .readMark =>
    let s := s.takeReadMark (w.headD 0#32)
    s.goPages ([1, 2, 3, 4].filter fun p => s.pageView p == some .closed)
  | some (.stages (c :: left) posted) =>
    if s.regs.part = .running then s.stageRead c left posted (w.headD 0#32) else s.endScan
  | some (.cells (c :: left) again words got) =>
    if s.regs.part = .running then s.cellWords c left again (words ++ w) got else s.endScan
  | _ => s

/-- The stage word of a CLOSED page has been read (R137). -/
def State.scanPage (w : Word) (s : State) : State :=
  match s.desk.scan with
  | some (.pages (p :: left)) =>
    (if w = w32 PageStage.free.code then s.setPageView p .free else s).goPages left
  | _ => s

/-- A transfer of a PLAN_SWITCH's copy has ended (R150, R154). A copy is read in 256 transfers of 8 words, the model's choice
(log entry 9). -/
def State.switchRead (c : CellRead) (r : PlanRead) (s : State) : State :=
  if r.words.length < 2048 then
    { s with plan.read := some r }.requestRead .planStore (r.copy.offset + 4 * r.words.length) 8
  else ({ s with plan.read := none }.decideSwitch c r.copy r.words.reverse).dropTaken

end Sys2Proof.Machine
end

