-- ==== Sys2Proof/Machine/Winding.lean ====
section
/-! DEFINITION. Winding down (R166): its entry effects, the test of its end, the end's steps, and the entry into HALTED. -/

namespace Sys2Proof.Machine

/-- The sections whose strip is in self-check (R22). -/
def State.sectionsInCheck (s : State) : List Nat := (s.watch.strips.filter fun e => e.2.check.isSome).map Prod.fst

/-- The piecers that an entry into winding down sends to the bay (R166). -/
def Piecer.toBay (x : Piecer) : Bool :=
  x.state == .onSide || x.state == .moving || (x.state == .parked && x.placement != .park)

/-- No order is taken from here on: the taking of a scan and the reading of a copy for it are given up (R166). -/
def State.giveUpTaking (s : State) : State :=
  let s := { s with plan.read := none }
  match s.desk.scan with
  | some (.taking _) => s.endScan
  | _ => s

/-- The entry effects of winding down (R166). The self-checks are cut short in ascending section, then the piecers are sent in
ascending number, the model's choice (log entry 73). -/
def State.windDown (s : State) : State :=
  let s := s.giveUpTaking
  let s := s.each s.sectionsInCheck fun c t => t.endCheck (creelFrame c) (creelIndex c) true
  s.each allPiecers fun p t => if (t.piecer p).toBay then t.sendToBay p .pool none else t

/-- A carrier at rest (R126, R166). -/
def CarrierState.parked : CarrierState → Bool
  | .absent | .idle | .fault | .lost => true
  | .loading | .travel | .waitLock | .working | .returning => false

/-- A piecer at rest (R166). -/
def Piecer.atRest (x : Piecer) : Bool := (x.state == .parked && x.atBay) || x.state == .lost || x.state == .absent

/-- Whether the winding down is finished (R166). -/
def State.atRest (s : State) : Bool :=
  s.slotHolders.isEmpty && [1, 2, 3, 4].all (fun c => (s.carrier c).state.parked) &&
    allPiecers.all fun p => (s.piecer p).atRest

/-- Step 3 of the end (R166): what waits is written, as far as the journal has room. -/
def State.endWrites (s : State) : State := { s with regs.ending := some .writing }.flushJournal

/-- No CREEL_CHANGE stands any more: the sections keep no order_seq (R105). -/
def State.dropCreelOrders (s : State) : State :=
  s.each ((s.roving.creels.filter fun e => e.2.orderSeq.isSome).map Prod.fst) fun c t =>
    t.setCreel c { t.creel c with orderSeq := none }

/-- Steps 1 to 3 of the end of winding down (R144, R166, R177). The relisting and the refill that the boundary's run-outs
and its switch call for are made in its event (R39, R111). The orders left are refused in the order in which they entered
the book, the model's choice (log entry 73). -/
def State.beginEnd (s : State) : State :=
  let s := (s.boundary .partStop).settle.dropCreelOrders
  let s := s.finishBook (fun _ => true) (some .withdrawn) [w32 PageCause.partStop.closeCode]
  { s with output.wait := none }.endWrites

/-- The end test (R166), made in every event. -/
def State.windTest (s : State) : State :=
  if s.regs.part = .windingDown ∧ s.regs.ending = none ∧ s.atRest = true then s.beginEnd else s

/-- The part enters HALTED: the link and the port are at rest, and no scan goes on (R181, R185). A sweep in progress stands
unread, the model's choice (log entry 40). -/
def State.halt (s : State) : State :=
  { s with
    regs.part := .halted
    regs.resume := none
    regs.start := none
    regs.rewriting := none
    regs.ending := none
    link.mode := .off
    link.idle := none
    desk.scan := none
    desk.scanTimer := Timer.off
    desk.lookAgain := false
    desk.startCells := []
    plan.read := none
    writer.current := none
    port := Port.idle
    work := Work.done }

/-- The end of winding down goes on when nothing is left to write: step 4, then step 5 (R166). journal_lost stops at 2^32 - 1,
the model's choice (log entry 53). -/
def State.endGoesOn (s : State) : State :=
  match s.regs.ending with
  | some .writing =>
    { s with
      regs.ending := some .lostWord
      writer.journalLost := w32 (min top32 (s.writer.pending.length + s.writer.drops)) }.markItem .header
  | some .lostWord => s.halt
  | none => s

end Sys2Proof.Machine
end

