-- ==== Sys2Proof/Machine/Start.lean ====
section
/-! DEFINITION. The start (R165): header, plan (R153), census results (R194, R195), tables (R24, R79, R104, R128, R129),
writes (R171, R177), tally page (R146), and its completion. -/

namespace Sys2Proof.Machine

/-! ### Entry and failure -/

/-- The token counters and void tokens stand at a start (R45). -/
def State.keptTokens (s : State) : List (Nat × Piecer) :=
  allPiecers.foldl (fun t p =>
    tput Piecer.reset t p { Piecer.reset with counter := (s.piecer p).counter, void := (s.piecer p).void }) []

/-- STARTING is entered (R164, R165; log entry 10): the header's reading begins. The unit records stand until the census
(R197). -/
def State.enterStarting (s : State) : State :=
  { State.reset with
    regs := { s.regs with
      run := true, part := .starting, resume := none, startFault := .none, start := some .header, rewriting := none
      ending := none }
    disp := ⟨[], s.keptTokens⟩
    link := { s.link with mode := .off, idle := none }
    mem := s.mem
    pending := s.pending }.requestRead .orderDesk 0 8

/-- The start fails (R165). -/
def State.failStart (c : StartFault) (s : State) : State :=
  { s.halt with regs.run := false, regs.startFault := c }.raise .fault

/-! ### Steps 1 and 2 -/

/-- The journal capacity that a size code names (11.2.1). -/
def capacityOf (code : Word) : Option Nat :=
  match code.toNat with
  | 0 => some 256
  | 1 => some 512
  | 2 => some 1024
  | 3 => some 2048
  | 4 => some 4096
  | _ => none

/-- The header's first eight words (R165, step 1): size code, read mark, active copy. -/
def State.headerFirst (w : List Word) (s : State) : State :=
  match capacityOf (w.getD 1 0#32) with
  | none => s.failStart .badHeader
  | some c =>
    if (w.getD 2 0#32).toNat < c then
      { s with
        writer.capacity := c
        desk.readMark := (w.getD 2 0#32).toNat
        plan.read := (planCopy (w.getD 4 0#32)).map fun x => ⟨x, []⟩ }.requestRead .orderDesk 0x20 5
    else s.failStart .badHeader

/-- The plan is invalid: the three words are written to the header before the start ends (R153). -/
def State.planInvalid (x : PlanFault) (s : State) : State :=
  { s with
    regs.start := some .planFault
    plan.fault := x
    plan.read := none
    writer.queue := [.planFault, .mark] }

/-- The header's last words (R165, step 1): last_taken; then step 2 begins. -/
def State.headerRest (w : List Word) (s : State) : State :=
  let s := { s with desk.lastTaken := w.getD 3 0#32, regs.start := some .plan }
  match s.plan.read with
  | none => s.planInvalid (planFault .copy 0 0)
  | some r => s.requestRead .planStore r.copy.offset 8

/-- A read of the header has ended. -/
def State.headerRead (offset : Nat) (w : List Word) (s : State) : State :=
  if offset = 0 then s.headerFirst w else s.headerRest w

/-- Step 3 begins (R194): the unit records are set afresh (R197). -/
def State.beginCensus (s : State) : State :=
  { s with regs.start := some .census, link := { State.reset.link with mode := .census ⟨1, 1, [], [], []⟩ } }

/-- A transfer of the active copy has ended (R150, R153). -/
def State.startPlanRead (r : PlanRead) (s : State) : State :=
  if r.words.length < 2048 then
    { s with plan.read := some r }.requestRead .planStore (r.copy.offset + 4 * r.words.length) 8
  else
    let l := r.words.reverse
    match copyFault s.writer.capacity l with
    | some x => s.planInvalid x
    | none =>
      { s with
        plan.read := none
        plan.active := some (parsePlan r.copy l)
        plan.fault := ⟨0, 0, 0⟩ }.beginCensus

/-! ### Step 4: tables -/

/-- A frame's state from the census (R104). -/
def censusState : DriveState → FrameState × Option HaltCause × Bool
  | .running => (.restarting, none, false)
  | .stopped => (.halted, some .census, false)
  | .atDoff | .doffing => (.halted, some .census, true)
  | .fault => (.halted, some .driveFault, false)

/-- The census result of a drive (R194). -/
def Census.drive (c : Census) (f : Nat) : Option (DriveState × Nat) := (c.drives.find? fun x => x.1 == f).map Prod.snd

/-- A frame in plan from its drive (R104, R195). -/
def State.frameFromDrive (c : Census) (f : Nat) (s : State) : State :=
  let x := s.frame f
  match c.drive f with
  | some (d, m) =>
    let (st, cause, owed) := censusState d
    s.setFrame f { x with
      state := st, haltCause := cause, doffOwed := owed, buildM := m
      grace := if st = .restarting then some (s.frameSettings f).grace else none }
  | none =>
    if (s.unit f).presence = .present then
      (s.setFrame f { x with state := .halted, haltCause := some .census }).handDrive f .status
    else s.setFrame f { x with state := .halted, haltCause := some .noDrive }

/-- A frame in plan with its counter, sections and spindles (R24, R104, R128, R129). -/
def State.buildFrame (c : Census) (f : Nat) (s : State) : State :=
  let t := s.frameSettings f
  if t.inPlan then
    let s := s.each (sectionsInPlan t.perSide) fun k u =>
      u.setCreel (creelNo f k) (Creel.start (t.start k) t.lowThreshold)
    let s := (s.spindlesIn f (positions t.perSide)).frameFromDrive c f
    s.setRoller f (Roller.start t (1000 * (s.frame f).buildM))
  else s

/-- A piecer from the census (R79, R195). -/
def State.buildPiecer (p : Nat) (s : State) : State :=
  let s := s.setPiecer p { s.piecer p with home := s.settings.home p }
  if (s.unit (piecerAddr p)).presence = .present then s.sendToBay p .pool none else s

/-- A carrier from the census (R128, R195). -/
def State.buildCarrier (c : Nat) (s : State) : State :=
  if (s.unit (carrierAddr c)).presence = .present then s.sendBack c else s

/-- Step 4 (R165). -/
def State.buildTables (c : Census) (s : State) : State :=
  let s := s.each allFrames (State.buildFrame c)
  let s := s.queueNow s.lowSections
  (s.each allPiecers State.buildPiecer).each [1, 2, 3, 4] State.buildCarrier

/-! ### Step 5: writes -/

/-- The header and every mirror (R165, R184), with the bytes written 0 behind each frame's spindle map (11.2; log entry
9). The kinds stand in R184's order, each kind by ascending number, the model's choice (log entry 73). -/
def allMirrors : List WriteItem :=
  .header :: (allFrames.map .frame ++ (oneTo 12).map .unit ++ (oneTo 608).map .creel ++ (oneTo 608).map .block ++
    allFrames.map .mapTail)

/-- Step 5 begins: the write mark, the header and the mirrors, the entries that waited, the cells (R165, R171, R194). -/
def State.startWrites (s : State) : State :=
  let s := { s with
    regs.start := some .writes
    writer.writeMark := s.desk.readMark
    writer.queue := allMirrors
    desk.startCells := oneTo 32 }
  s.flushJournal.requestRead .orderDesk (cellOffset 1) 1

/-- A cell's stage word read at step 5 (R171, R177). -/
def State.startCell (c : Nat) (w : Word) (s : State) : State :=
  match cellStage w with
  | some .taken => s.finish c (some .withdrawn) [Config.openCode .start]
  | some st => s.setCellView c st
  | none => s.setCellView c .empty

/-- The stage word of the next cell has been read; after the last the batch is marked. -/
def State.startCellRead (w : Word) (s : State) : State :=
  match s.desk.startCells with
  | [] => s
  | c :: r =>
    let s := { s.startCell c w with desk.startCells := r }
    match r with
    | d :: _ => s.requestRead .orderDesk (cellOffset d) 1
    | [] => { s with writer.queue := s.writer.queue ++ [.mark] }

/-! ### Step 6: the page -/

/-- Step 6 begins: the stage word of page 1 (R146). -/
def State.startPages (s : State) : State :=
  { s with regs.start := some .pages, output.found := [] }.requestRead .outputCounter (pageOffset 1) 1

/-- A page left OPEN by an earlier run is closed (R146). -/
def State.closeFound (x : FoundPage) (s : State) : State :=
  let s := s.setPageView x.page .closed
  let s := { s with writer.queue := s.writer.queue ++ [WriteItem.startClose x.page] }
  (s.journal .shiftClosed 0 0 [w32 x.page, w32 PageCause.start.closeCode, x.stamp, 0#32, x.merged]).raise .tally

/-- Every page's stage is known: OPEN ones are closed, in ascending number, the model's choice (log entry 73), and the lowest
FREE one is opened (R146). -/
def State.settlePages (s : State) : State :=
  let s := s.each s.output.found State.closeFound
  let s := match s.freePages with
    | n :: _ => (s.openNewPage n .start).loadShift
    | [] => s
  { s with writer.queue := s.writer.queue ++ [.mark] }

/-- The header of the next page found OPEN is read for its journal entry; none left: the pages are settled. -/
def State.nextFound (s : State) : State :=
  match [1, 2, 3, 4].find? fun p => s.pageView p == some .opened && !(s.output.found.any fun x => x.page == p) with
  | some p => s.requestRead .outputCounter (pageOffset p + 8) 5
  | none => s.settlePages

/-- The stage that a page's stage word names at start (R146). -/
def pageStage (w : Word) : PageStage :=
  match w.toNat with
  | 0 => .free
  | 1 => .opened
  | _ => .closed

/-- A read of the Output Counter at start has ended: a stage word, or the header of a page found OPEN. -/
def State.startPageRead (offset : Nat) (w : List Word) (s : State) : State :=
  let p := (offset - pageOffset 1) / 1024 + 1
  if w.length = 1 then
    let s := s.setPageView p (pageStage (w.headD 0#32))
    if p < 4 then s.requestRead .outputCounter (pageOffset (p + 1)) 1 else s.nextFound
  else { s with output.found := s.output.found ++ [FoundPage.mk p (w.getD 0 0#32) (w.getD 4 0#32)] }.nextFound

/-! ### Completion -/

/-- A frame in plan starts its sweep timer (R2). -/
def State.startSweeping (f : Nat) (s : State) : State :=
  if (s.frame f).state = .out then s
  else s.setSweep f ⟨Timer.load s.settings.sweepPeriod, s.settings.sweepPeriod, []⟩

/-- STARTING ends (R165). -/
def State.completeStart (s : State) : State :=
  let s := { s with
    regs.part := if s.regs.run then .running else .windingDown
    regs.start := none
    output.found := []
    desk.scanTimer := Timer.load s.settings.scanInterval }
  let s := s.each allFrames State.startSweeping
  if s.regs.run then s.oweArbiter else s.windDown

/-- Whether an item is a journal entry, or the header, whose write_mark takes an entry in (R178). -/
def WriteItem.ofJournal : WriteItem → Bool
  | .header | .journal _ => true
  | .planFault | .frame _ | .unit _ | .creel _ | .block _ | .mapTail _ | .openPage | .closedPage _ | .startClose _ | .dump _
  | .cellTaken _ | .cellDone _ | .mark => false

/-- Step 6 has ended (R146, R165). Without a page the start fails, after the closings' journal entries and the write_mark behind
them have been written (R178; log entry 62): until then the write queue is marked again. -/
def State.pagesWritten (s : State) : State :=
  if s.output.page.isSome then s.completeStart
  else if s.writer.queue.any WriteItem.ofJournal then { s with writer.queue := s.writer.queue ++ [.mark] }
  else s.failStart .noTallyPage

end Sys2Proof.Machine
end

