-- ==== Sys2Proof/Machine/Serve.lean ====
section
/-! DEFINITION. RESUME (R184), the serving of the write queue (R170), and what every event ends with. -/

namespace Sys2Proof.Machine

/-! ### RESUME (R184) -/

/-- RESUME begins: step 1 replaces the write queue. -/
def State.beginResume (s : State) : State :=
  { s with
    regs.rewriting := some .rewrite
    writer.queue := allMirrors ++ s.writer.heldPages.map .closedPage ++
      (if s.output.page.isSome then [.openPage] else []) ++ s.writer.heldDumps.map .dump ++ [.mark]
    writer.heldPages := []
    writer.heldDumps := [] }

/-- The held cells are handed to the write queue, in the order they finished. -/
def State.queueHeld (s : State) : State :=
  { s with writer.queue := s.writer.queue ++ s.desk.held.map .cellDone, desk.held := [] }

/-- The end of a batch of step 3 and the rest is marked. -/
def State.queueMark (s : State) : State := { s with writer.queue := s.writer.queue ++ [.mark] }

/-- Step 2: the held cells, and those that finish while they are written. -/
def State.resumeCells (s : State) : State := { s with regs.rewriting := some .cells }.queueHeld.queueMark

/-- Step 3. -/
def State.resumeJournal (s : State) : State := { s with regs.rewriting := some .journal }.flushJournal.queueMark

/-- Step 4. Cells that finished after step 2 are written now; an end of winding down that was cut off goes on from its
step 3 (R166). -/
def State.resumeReturn (s : State) : State :=
  let s := { s with
    regs.part := s.regs.resume.getD .running
    regs.resume := none
    regs.rewriting := none
    desk.scanTimer := Timer.load s.settings.scanInterval }.queueHeld
  if s.regs.ending.isSome then s.endWrites else s

/-- The mark of a batch has been reached. The end of RESUME's rewriting is the beginning of its step 2: a SHIFT_CLOSE whose
page writes are complete becomes DONE there, behind the cells held before it (R145, R184). -/
def State.markReached (s : State) : State :=
  match s.regs.start, s.regs.rewriting with
  | some .planFault, _ => s.failStart .planInvalid
  | some .writes, _ => s.startPages
  | some .pages, _ => s.pagesWritten
  | some .header, _ | some .plan, _ | some .census, _ => s
  | none, some .rewrite => s.shiftTest.resumeCells
  | none, some .cells => if s.desk.held.isEmpty then s.resumeJournal else s.resumeCells
  | none, some .journal => s.resumeReturn
  | none, none => s

/-! ### Serving the queue -/

/-- Whether the write queue is served (R165, R170, R183): in STARTING from the writing of the plan_fault words or of step 5
on, in STALLED during RESUME only. In HALTED it is served (R167); a reset leaves nothing in it (R163). -/
def State.served (s : State) : Bool :=
  match s.regs.part with
  | .halted | .running | .windingDown => true
  | .stalled => s.regs.rewriting.isSome
  | .starting => s.regs.start == some .planFault || s.regs.start == some .writes || s.regs.start == some .pages

/-- Begin items until one is being written; a mark moves the part on. The number bounds the repetitions. -/
def serveN : Nat → State → State
  | 0, s => s
  | n + 1, s =>
    if s.served && s.writer.current.isNone then
      match s.writer.queue with
      | [] => if s.regs.ending.isSome && s.regs.part == .windingDown then serveN n s.endGoesOn else s
      | i :: r =>
        let s := { s with writer.queue := r }
        if i = .mark then serveN n s.markReached.settle.windTest else serveN n (s.beginItem i)
    else s

/-- The bound of one event's serving. -/
def serveRounds : Nat := 16

/-- What every event ends with: the rules it has brought into play, the end test of winding down, the write queue. -/
def State.conclude (s : State) : State := serveN serveRounds s.settle.windTest

end Sys2Proof.Machine
end

