-- ==== Sys2Proof/Machine/Link.lean ====
section
/-! DEFINITION. The Unit Link: visits (R185, R187), misses and losses (R192), valid replies (R188, R189), returns (R193),
the census (R194). -/

namespace Sys2Proof.Machine

/-! ### Beginning a visit -/

/-- Open a visit: the command carried, if any, and the message sent (R187, R188). -/
def State.openVisit (a : Nat) (cmd : Option Cmd) (seq : Bool) (s : State) : State :=
  { s with link.visit := some ⟨a, cmd, visitMessage a cmd (s.unit a).ack seq, Timer.load Config.replyWindowMs⟩ }

/-- The command a visit carries: the oldest, when resync is clear or it is STATUS? (R187). -/
def Unit.toSend (u : Unit) : Option Cmd :=
  match u.queue with
  | c :: _ => if !u.resync || c == .status then some c else none
  | [] => none

/-- A unit record with its oldest command sent (R188): the first sending of a sequenced one gives it its sequence. -/
def Unit.sending (c : Cmd) (u : Unit) : Unit :=
  if c = .status then { u with sent := true }
  else { u with sent := true, headSeq := some (u.headSeq.getD (!u.unitSeq)) }

/-- Visit a unit of the cycle (R187). -/
def State.visitUnit (a : Nat) (s : State) : State :=
  let u := s.unit a
  match u.toSend with
  | some c =>
    let v := u.sending c
    (s.setUnit a v).openVisit a (some c) (v.headSeq.getD false)
  | none => s.openVisit a none false

/-- Whether a unit is visited in this cycle (R185). -/
def State.due (s : State) (a : Nat) : Bool :=
  match (s.unit a).presence with
  | .present => true
  | .lost => s.link.cycle == 0
  | .absent => false

/-- The next address of the cycle to be visited. -/
def State.nextDue (s : State) : Option Nat := (oneTo 20).find? fun a => decide (s.link.next ≤ a) && s.due a

/-- The cycle ends (R185). -/
def State.endCycle (s : State) : State := { s with link.cycle := (s.link.cycle + 1) % 16, link.next := 1 }

/-- The next visit of the cycles, or the idle window of a cycle in which no unit is visited (R185). -/
def State.visitNext (s : State) : State :=
  match s.nextDue with
  | some a => s.visitUnit a
  | none =>
    let s := if s.link.next = 1 then s else s.endCycle
    match s.nextDue with
    | some a => s.visitUnit a
    | none => { s with link.idle := some (Timer.load Config.replyWindowMs) }

/-- A visit of the census (R194). -/
def State.censusVisit (c : Census) (s : State) : State :=
  s.openVisit c.next (if c.round = 2 ∧ c.next ≤ 8 ∧ c.next ∈ c.answered then some .status else none) false

/-- A visit begins when none is open and no idle window runs (R185). -/
def State.startVisit (s : State) : State :=
  if s.link.visit.isSome || s.link.idle.isSome || s.regs.part == .halted then s
  else match s.link.mode with
    | .off => s
    | .census c => s.censusVisit c
    | .cycling => s.visitNext

/-! ### The end of a visit -/

/-- The visit at an address is closed. -/
def State.closeVisit (a : Nat) (s : State) : State := { s with link.visit := none, link.next := a + 1 }

/-- After the census the tables are built and the writes begin; the cycles begin (R165, R195). -/
def State.endCensus (c : Census) (s : State) : State :=
  ({ s with link.mode := .cycling, link.cycle := 0, link.next := 1 }.buildTables c).startWrites

/-- A unit absent after both rounds that gave a reply of the wrong kind (R194). -/
def State.censusAbsent (c : Census) (a : Nat) (s : State) : State :=
  if c.round = 2 ∧ (s.unit a).presence = .absent ∧ a ∈ c.wrong then
    (s.journalLost a lostByWrongKind).raise .unit
  else s

/-- The census goes on to the next address, to round 2, or to its end (R194). -/
def State.censusNext (c : Census) (s : State) : State :=
  let s := s.censusAbsent c c.next
  if c.next < 20 then { s with link.mode := .census { c with next := c.next + 1 } }
  else if c.round = 1 then { s with link.mode := .census { c with round := 2, next := 1 } }
  else s.endCensus c

/-- A miss of the unit at an address, in the cycles or in the census (R192). A miss of an address still ABSENT is not recorded
in last_miss either, by inference (log entry 60). -/
def State.cycleMiss (a : Nat) (m : Miss) (s : State) : State :=
  let u := s.unit a
  if u.presence = .present then
    let s := s.setUnit a { u with misses := u.misses + 1, lastMiss := m }
    if u.misses + 1 = 3 then s.loseUnit a (if m = .wrongKind then lostByWrongKind else lostByMiss) else s
  else s

/-- The open visit ends in a miss (R187, R192, R194). -/
def State.missVisit (v : Visit) (m : Miss) (s : State) : State :=
  let s := s.closeVisit v.addr
  match s.link.mode with
  | .off => s
  | .census c =>
    (s.cycleMiss v.addr m).censusNext { c with wrong := if m = .wrongKind then c.wrong ++ [v.addr] else c.wrong }
  | .cycling => s.cycleMiss v.addr m

/-! ### Valid replies -/

/-- A report handed to its owner (R189, R190). -/
def State.giveReport (a : Nat) (r : Report) (s : State) : State :=
  let n := unitNumber a
  match r with
  | .state d _ => s.takeDriveState n d
  | .atDoffPosition => s.takeAtDoff n
  | .doffDone => s.takeDoffDone n
  | .driveFault => s.takeDriveFault n
  | .atSide d pos => s.takeAtSide n d pos
  | .step t st pos => s.takeStep n t st pos
  | .result t o => s.takeResult n t o
  | .held t => s.takeHeld n t
  | .refusedHold t => s.takeRefusedHold n t
  | .parked => s.takeParked n
  | .fault => s.losePiecer n lostByFault
  | .loaded lot => s.takeLoaded n lot
  | .arrived => s.takeArrived n
  | .changeDone => s.takeChangeDone n
  | .changeFault => s.takeChangeFault n
  | .returned => s.takeReturned n

/-- The unit record after a valid reply (R188): sequences, misses, and the delivery of the command carried. -/
def Unit.replied (cmd : Option Cmd) (r : Reply) (u : Unit) : Unit :=
  let v := { u with misses := 0, unitSeq := r.ack, resync := false }
  match cmd with
  | some c =>
    if u.sent && (c == .status || u.headSeq == some r.ack) then
      { v with queue := u.queue.drop 1, headSeq := none, sent := false }
    else v
  | none => v

/-- The owner is told that a unit answers again (R78, R101, R122). -/
def State.ownerBack (a : Nat) (s : State) : State :=
  let n := unitNumber a
  match unitKind a with
  | .drive => s.driveBack n
  | .piecer => s.returnByLink n
  | .carrier => if (s.carrier n).state = .lost then s.sendBack n else s

/-- A new report is acknowledged and handed on (R189). -/
def State.newReport (a : Nat) (r : Reply) (rep : Report) (s : State) : State :=
  (s.setUnit a { s.unit a with ack := r.seq }).giveReport a rep

/-- A valid reply from a PRESENT unit (R188, R189). -/
def State.presentReply (v : Visit) (r : Reply) (rep : Option Report) (s : State) : State :=
  let u := s.unit v.addr
  let s := s.setUnit v.addr (u.replied v.cmd r)
  match rep with
  | some x => if r.seq = u.ack then s else s.newReport v.addr r x
  | none => s

/-- A valid reply from a LOST unit (R193). -/
def State.lostReply (v : Visit) (r : Reply) (rep : Option Report) (s : State) : State :=
  let u := s.unit v.addr
  let s := s.setUnit v.addr { u with presence := .present, misses := 0, unitSeq := r.ack, resync := false }
  let s := (s.journalBack v.addr u.lostStamp).ownerBack v.addr
  match rep with
  | some x => s.newReport v.addr r x
  | none => s

/-- A STATE's result for a drive in round 2 of the census (R194). -/
def Census.withResult (c : Census) (a : Nat) (rep : Option Report) : Census :=
  match rep with
  | some (.state d m) => if c.round = 2 ∧ a ≤ 8 ∧ a ∈ c.answered then { c with drives := c.drives ++ [(a, d, m)] } else c
  | _ => c

/-- A valid reply in the census (R194). -/
def State.censusReply (c : Census) (v : Visit) (r : Reply) (rep : Option Report) (s : State) : State :=
  let u := s.unit v.addr
  let s := s.setUnit v.addr { u with
    presence := .present, misses := 0, unitSeq := r.ack, resync := false
    ack := if rep.isSome then r.seq else u.ack }
  let c := c.withResult v.addr rep
  s.censusNext (if c.round = 1 then { c with answered := c.answered ++ [v.addr] } else c)

/-- A valid reply of the right kind ends the open visit (R187). Events may fall between the message and the reply, and the
reply is taken by the record as it then stands: the model's choice (log entry 56). -/
def State.validReply (v : Visit) (r : Reply) (rep : Option Report) (s : State) : State :=
  let s := s.closeVisit v.addr
  match s.link.mode with
  | .off => s
  | .census c => s.censusReply c v r rep
  | .cycling =>
    match (s.unit v.addr).presence with
    | .present => s.presentReply v r rep
    | .lost => s.lostReply v r rep
    | .absent => s

/-- Whether a report's fields are in their ranges (R190). -/
def Report.inRange : Report → Bool
  | .state _ m => decide (m ≤ 4294967)
  | .atSide d pos => within 1 16 d && within 1 1824 pos
  | .step _ _ pos => within 1 1824 pos
  | .atDoffPosition | .doffDone | .driveFault | .result _ _ | .held _ | .refusedHold _ | .parked | .fault | .loaded _
  | .arrived | .changeDone | .changeFault | .returned => true

/-- How a reply with a report of the line's kinds is judged at an address (R187, R190): none when it is valid. -/
def judgeReport (a : Nat) (r : Report) : Option Miss :=
  if kindOwner r.kind ≠ some (unitKind a) then some .wrongKind
  else if r.inRange then none
  else some .badReply

/-- The visit open whose window has not closed. -/
def State.awaiting (s : State) : Option Visit := s.link.visit.filter fun v => !v.window.expired

/-- A reply carrying a report (R187 to R189, R192 to R194). With no visit awaiting it changes nothing (log entry 6). -/
def State.takeReport (r : Reply) (rep : Report) (s : State) : State :=
  match s.awaiting with
  | none => s
  | some v =>
    match judgeReport v.addr rep with
    | some m => s.missVisit v m
    | none => s.validReply v r (some rep)

/-- A reply of NOTHING (R189). -/
def State.takeNothing (r : Reply) (s : State) : State :=
  match s.awaiting with
  | none => s
  | some v => s.validReply v r none

/-- The reply window has closed with no reply (R187). -/
def State.windowEnd (s : State) : State :=
  match s.link.visit with
  | some v => if v.window.expired then s.missVisit v .noReply else s
  | none => s

/-- A reply judged by its bytes (R187): one that is valid and of the right kind belongs to the report's own command and
changes nothing here (log entry 6). -/
def State.badReply (late : Bool) (m : List Byte) (s : State) : State :=
  match s.link.visit with
  | some v =>
    match judgeReply v.addr late m with
    | some x => s.missVisit v x
    | none => s
  | none => s

/-- The idle window of an empty cycle has closed (R185). -/
def State.idleEnd (s : State) : State :=
  match s.link.idle with
  | some t => if t.expired then { s with link.idle := none }.endCycle else s
  | none => s

end Sys2Proof.Machine
end

