-- ==== Sys2Proof/Machine/Transfers.lean ====
section
/-! DEFINITION. The end of a transfer by the block that asked for it, and the memory fault (R182 to R184). -/

namespace Sys2Proof.Machine

/-! ### The end of a transfer -/

/-- A read of the Order Desk has ended: at start the header or a stage word, else a board scan's read. -/
def State.deskRead (offset : Nat) (w : List Word) (s : State) : State :=
  match s.regs.start with
  | some .header => s.headerRead offset w
  | some .writes => s.startCellRead (w.headD 0#32)
  | some .plan | some .planFault | some .census | some .pages => s
  | none => s.scanRead w

/-- A read of the Plan Store has ended. -/
def State.planRead (w : List Word) (s : State) : State :=
  match s.plan.read with
  | none => s
  | some r =>
    let r := { r with words := w.reverse ++ r.words }
    if s.regs.start = some .plan then s.startPlanRead r
    else match s.taking with
      | c :: _ => s.switchRead c r
      | [] => s

/-- A read of the Output Counter has ended. -/
def State.pageRead (offset : Nat) (w : List Word) (s : State) : State :=
  if s.regs.start = some .pages then s.startPageRead offset w else s.scanPage (w.headD 0#32)

/-- A transfer has ended: XREQ is released and the block goes on (R181). -/
def State.transferEnded (t : Transfer) (s : State) : State :=
  let s := { s with port := s.port.finish }
  let offset := s.transferOffset t
  match t.block with
  | .reportWriter =>
    if t.write then s.writeEnded offset (t.words.getLastD 0#32) else s.numberRead offset (t.words.headD 0#32)
  | .orderDesk => s.deskRead offset t.words
  | .planStore => s.planRead t.words
  | .outputCounter => s.pageRead offset t.words

/-- A beat is moved; after the last the transfer ends and the event with it (R181). -/
def State.beat (t : Transfer) (s : State) : State :=
  let s := s.moveBeat t
  match s.port.current with
  | some u => if u.done then (s.transferEnded u).conclude else s
  | none => s

/-! ### The memory fault -/

/-- The items of the write queue, the one being written first. -/
def Writer.items (w : Writer) : List WriteItem :=
  (match w.current with
    | some u => [u.item]
    | none => []) ++ w.queue

/-- The journal entries among items (R183). -/
def itemEntries (l : List WriteItem) : List JournalEntry :=
  l.filterMap fun i => match i with
    | .journal e => some e
    | _ => none

/-- The finished cells among items (R183). -/
def itemAnswers (l : List WriteItem) : List Answer :=
  l.filterMap fun i => match i with
    | .cellDone a => some a
    | _ => none

/-- The closed pages among items (R138). -/
def itemPages (l : List WriteItem) : List ClosedPage :=
  l.filterMap fun i => match i with
    | .closedPage c => some c
    | _ => none

/-- The snapshots among items (R184). -/
def itemDumps (l : List WriteItem) : List Snapshot :=
  l.filterMap fun i => match i with
    | .dump t => some t
    | _ => none

/-- What a memory fault leaves of the Report Writer's queue (R138, R183, R184): entries go to the head of the pending list,
finished cells, closed pages and snapshots are held. -/
def State.holdBack (s : State) : State :=
  let l := s.writer.items
  let p := itemEntries l ++ s.writer.pending
  { s with
    writer := dropOldest p.length { s.writer with
      pending := p
      queue := []
      current := none
      heldPages := itemPages l ++ s.writer.heldPages
      heldDumps := itemDumps l ++ s.writer.heldDumps }
    desk.held := itemAnswers l ++ s.desk.held
    output.wait := s.output.wait.map fun w => { w with openBegun := false } }

/-- A PLAN_SWITCH whose copy was being read joins the deferred list (R150, R174). One deferred before has left it when it was
handed on (State.takeCell) and joins it again at the tail, the model's choice (log entry 72). -/
def State.deferSwitch (s : State) : State :=
  match s.plan.read, s.taking with
  | some _, c :: _ => s.defer c
  | _, _ => s

/-- No board scan goes on in STALLED (R183). -/
def State.dropScan (s : State) : State :=
  { s.deferSwitch with
    plan.read := none, desk.scan := none, desk.scanTimer := Timer.off, desk.lookAgain := false }

/-- The part stalls (R182). -/
def State.stall (s : State) : State :=
  { s.dropScan.holdBack with regs.resume := some s.regs.part, regs.part := .stalled }

/-- The Report Writer gives up what it had to write: a start that ends, or the mirrors written in HALTED (log entry 47). The
next start writes every mirror. -/
def State.dropWrites (s : State) : State := { s with writer.queue := [], writer.current := none }

/-- A memory fault at a beat (R182). -/
def State.memoryFault (addr : Nat) (k : FaultKind) (s : State) : State :=
  let s := { s with regs.flt := fltWord addr k, port := Port.idle }.raise .fault
  match s.regs.part with
  | .running | .windingDown => s.stall
  | .starting => s.dropWrites.failStart .memoryFault
  | .stalled => { s.holdBack with regs.rewriting := none }
  | .halted => s.dropWrites

end Sys2Proof.Machine
end

