-- ==== Sys2Proof/Machine/Ticking.lean ====
section
/-! DEFINITION. One millisecond (log entry 2): the mill clock and every timer. -/

namespace Sys2Proof.Machine

/-- The mill clock after one millisecond (5.2). -/
def State.tickClock (s : State) : State :=
  if s.clockMs = 99 then { s with clock := s.clock + 1#32, clockMs := 0 } else { s with clockMs := s.clockMs + 1 }

/-- A table with every record changed. -/
def mapTable {α : Type} (g : α → α) (t : List (Nat × α)) : List (Nat × α) := t.map fun e => (e.1, g e.2)

def Sweep.tick (x : Sweep) : Sweep := { x with timer := x.timer.tick }
def Piecer.tick (x : Piecer) : Piecer := { x with travel := x.travel.tick, attempt := x.attempt.tick }
def Frame.tick (x : Frame) : Frame := { x with stopTimer := x.stopTimer.tick, doffTimer := x.doffTimer.tick }
def Carrier.tick (x : Carrier) : Carrier := { x with change := x.change.tick, back := x.back.tick }
def Visit.tick (x : Visit) : Visit := { x with window := x.window.tick }

/-- Every timer of the part after one millisecond. -/
def State.tickTimers (s : State) : State :=
  { s with
    watch.sweeps := mapTable Sweep.tick s.watch.sweeps
    disp.piecers := mapTable Piecer.tick s.disp.piecers
    frames := mapTable Frame.tick s.frames
    roving.carriers := mapTable Carrier.tick s.roving.carriers
    output.shift := s.output.shift.tick
    desk.scanTimer := s.desk.scanTimer.tick
    port.grantTimer := s.port.grantTimer.tick
    link.visit := s.link.visit.map Visit.tick
    link.idle := s.link.idle.map Timer.tick }

/-- One millisecond. In HALTED the clock stands still and no timer runs (R103, R164) but the window of the visit that is
being finished (R185) and the grant timeout of a transfer that the rewriting of a mirror asks for (R167, R181). -/
def State.tick (s : State) : State :=
  if s.regs.part = .halted then
    { s with link.visit := s.link.visit.map Visit.tick, port.grantTimer := s.port.grantTimer.tick }
  else s.tickTimers.tickClock

end Sys2Proof.Machine
end

