-- ==== Sys2Proof/Machine/Control.lean ====
section
/-! DEFINITION. The meanings of the part control commands: the resets and the host's register writes (R163, R164, R167,
R172, R184). -/

namespace Sys2Proof.Machine

/-- What a command answers: always a next state. -/
abbrev Answered := Host.Outcome State Fault Refusal

/-- The state after power-on reset with the board memory and the commands waiting as they are (R163). -/
def State.powerOn (s : State) : State := { State.reset with mem := s.mem, pending := s.pending }

/-- POWER_ON_RESET (R163). -/
def execPowerOnReset (s : State) : Answered := .next s.powerOn

/-- SRST (R163): a power-on reset that leaves AREA as it was. -/
def execSrst (s : State) : Answered := .next { s.powerOn with regs.area := s.regs.area }

/-- RUN_SET (R164). -/
def execRunSet (s : State) : Answered :=
  match s.regs.part with
  | .halted => .next s.enterStarting
  | .starting => .next { s with regs.run := true }
  | .running | .windingDown | .stalled => .next s

/-- RUN_CLEAR (R164): winding down is entered, or becomes what a start or a RESUME ends in. -/
def execRunClear (s : State) : Answered :=
  if s.regs.run then
    match s.regs.part with
    | .starting => .next { s with regs.run := false }
    | .running => .next { s with regs.run := false, regs.part := .windingDown }.windDown.conclude
    | .stalled => .next { s with regs.run := false, regs.resume := some .windingDown }.windDown.conclude
    | .halted | .windingDown => .next s
  else .next s

/-- LOOK (R164, R172). -/
def execLook (s : State) : Answered :=
  match s.regs.part with
  | .running | .windingDown => .next s.lookNow
  | .halted | .starting | .stalled => .next s

/-- RESUME (R164, R184). -/
def execResume (s : State) : Answered :=
  if s.regs.part = .stalled ∧ s.regs.rewriting = none then .next s.beginResume.conclude else .next s

/-- The frames' attention bits after a write to ATT (R167). -/
def State.clearFrameBits (value : Word) (s : State) : State :=
  s.each allFrames fun f t =>
    t.setFrame f { t.frame f with
      alarm := (t.frame f).alarm && (value &&& Cause.alarm.bit == 0#32)
      unit := (t.frame f).unit && (value &&& Cause.unit.bit == 0#32) }

/-- ATT_WRITE (R163, R167). -/
def execAttWrite (value : Word) (s : State) : Answered :=
  .next ({ s with regs.att := s.regs.att &&& ~~~value }.clearFrameBits value).conclude

/-- AREA as a write leaves it: its low 16 bits read 0 (R163). -/
def areaMask : Word := 0xFFFF0000#32

/-- REGISTER_WRITE (R163): AREA in HALTED, ATM at any time; PST and FLT ignore writes. -/
def execRegisterWrite (reg : HostRegister) (value : Word) (s : State) : Answered :=
  match reg with
  | .area => if s.regs.part = .halted then .next { s with regs.area := value &&& areaMask } else .next s
  | .atm => .next { s with regs.atm := value &&& attMask }
  | .pst | .flt => .next s

end Sys2Proof.Machine
end

