-- ==== Sys2Proof/Machine/Sensors.lean ====
section
/-! DEFINITION. The meanings of the events of the sensor lines, the roller inputs and the shift timer (R1, R2, R130,
R139). -/

namespace Sys2Proof.Machine

/-- SWEEP_TIMER (R2). -/
def execSweepTimer (frame : Nat) (s : State) : Answered :=
  if s.expires (s.sweep frame).timer then .next (s.startSweep frame) else .next s

/-- Whether a strip of the frame stands addressed (R1, R2). -/
def State.stripAddressed (s : State) (frame : Nat) : Bool := s.live && !(s.sweep frame).left.isEmpty

/-- STRIP_READ (R1): the reply is good or bad by its bytes. -/
def execStripRead (frame : Nat) (reply : List Byte) (s : State) : Answered :=
  if s.stripAddressed frame then .next (s.readStrip frame fun k => stripCounts k reply).conclude else .next s

/-- STRIP_NO_REPLY (R1): a bad read. -/
def execStripNoReply (frame : Nat) (s : State) : Answered :=
  if s.stripAddressed frame then .next (s.readStrip frame fun _ => none).conclude else .next s

/-- ROLLER_PULSE (R130): not counted in HALTED, nor from the PART_STOP boundary on (R144). -/
def execRollerPulse (frame : Nat) (s : State) : Answered :=
  if s.regs.part = .halted ∨ s.regs.ending.isSome = true then .next s
  else .next (s.setRoller frame ((s.roller frame).pulse (s.frameSettings frame).pulses))

/-- SHIFT_TIMER (R139): a boundary. -/
def execShiftTimer (s : State) : Answered :=
  if s.expires s.output.shift then .next (s.boundary .shiftTimer).conclude else .next s

end Sys2Proof.Machine
end

