-- ==== Sys2Proof/Machine/Board.lean ====
section
/-! DEFINITION. The meanings of the board scan and of the taking of each order (R172 to R176 and the owners' rules). An
order's command acts when the scan has come to a cell that holds it. -/

namespace Sys2Proof.Machine

/-- BOARD_SCAN (R172): expiry of the scan timer. -/
def execBoardScan (s : State) : Answered :=
  if s.desk.scanTimer.expired ∧ s.desk.scan = none ∧ (s.regs.part = .running ∨ s.regs.part = .windingDown) then
    .next s.beginScan
  else .next s

/-- An order's taking in its turn; nothing out of its turn (log entry 6). -/
def State.orderEvent (k : OrderKind) (ps : List Word) (s : State) : State :=
  if (s.orderIsNext k ps).isSome then (s.takeOrder k ps).conclude else s

/-- CUT_OUT (R15). -/
def execCutOut (frame spindle : Word) (s : State) : Answered := .next (s.orderEvent .cutOut [frame, spindle])

/-- CLEAR_CUTOUT (R16). -/
def execClearCutout (frame first last : Word) (s : State) : Answered :=
  .next (s.orderEvent .clearCutout [frame, first, last])

/-- CLEAR_SLIP (R17). -/
def execClearSlip (frame first last : Word) (s : State) : Answered :=
  .next (s.orderEvent .clearSlip [frame, first, last])

/-- SELF_CHECK (R18). -/
def execSelfCheck (frame strip : Word) (s : State) : Answered := .next (s.orderEvent .selfCheck [frame, strip])

/-- TABLE_READ (R35). -/
def execTableRead (s : State) : Answered := .next (s.orderEvent .tableRead [])

/-- PIECER_PLACE (R74, R75). -/
def execPiecerPlace (piecer target : Word) (s : State) : Answered := .next (s.orderEvent .piecerPlace [piecer, target])

/-- DOFF_NOW (R83). -/
def execDoffNow (frame : Word) (s : State) : Answered := .next (s.orderEvent .doffNow [frame])

/-- FRAME_STOP (R96). -/
def execFrameStop (frame : Word) (s : State) : Answered := .next (s.orderEvent .frameStop [frame])

/-- FRAME_START (R100). -/
def execFrameStart (frame : Word) (s : State) : Answered := .next (s.orderEvent .frameStart [frame])

/-- CREEL_CHANGE (R123). -/
def execCreelChange (frame creel : Word) (s : State) : Answered := .next (s.orderEvent .creelChange [frame, creel])

/-- SHIFT_CLOSE (R145). -/
def execShiftClose (s : State) : Answered := .next (s.orderEvent .shiftClose [])

/-- PLAN_SWITCH (R154). -/
def execPlanSwitch (copy mode : Word) (s : State) : Answered := .next (s.orderEvent .planSwitch [copy, mode])

/-- WITHDRAW (R176). -/
def execWithdraw (seq : Word) (s : State) : Answered := .next (s.orderEvent .withdraw [seq])

end Sys2Proof.Machine
end

