-- ==== Sys2Proof/Machine/Timeouts.lean ====
section
/-! DEFINITION. The meanings of the timeouts (R49, R72, R78, R92, R119, R120). A command acts when its timer has run out. -/

namespace Sys2Proof.Machine

/-- ATTEMPT_TIMEOUT (R49). -/
def execAttemptTimeout (p : Nat) (s : State) : Answered :=
  if s.expires (s.piecer p).attempt then .next (s.attemptExpires p).conclude else .next s

/-- TRAVEL_TIMEOUT (R72, R73): of a MOVING or parking piecer. -/
def execTravelTimeout (p : Nat) (s : State) : Answered :=
  if s.expires (s.piecer p).travel ∧ ((s.piecer p).state = .moving ∨ (s.piecer p).state = .parked) then
    .next (s.losePiecer p lostByTravel).conclude
  else .next s

/-- RETURN_PLACE_TIMEOUT (R78): of a returned piecer not yet placed. -/
def execReturnPlaceTimeout (p : Nat) (s : State) : Answered :=
  if s.expires (s.piecer p).travel ∧ (s.piecer p).state = .lost ∧ (s.piecer p).returned = true then
    .next (s.sendToBay p .pool (some .back)).conclude
  else .next s

/-- STOP_TIMEOUT (R92). -/
def execStopTimeout (f : Nat) (s : State) : Answered :=
  if s.expires (s.frame f).stopTimer then .next (s.doffFails f .stopTimeout).conclude else .next s

/-- DOFF_TIMEOUT (R92). -/
def execDoffTimeout (f : Nat) (s : State) : Answered :=
  if s.expires (s.frame f).doffTimer then .next (s.doffFails f .doffTimeout).conclude else .next s

/-- CHANGE_TIMEOUT (R119). -/
def execChangeTimeout (c : Nat) (s : State) : Answered :=
  if s.expires (s.carrier c).change then .next (s.changeFails c .timeout).conclude else .next s

/-- RETURN_TIMEOUT (R120). -/
def execReturnTimeout (c : Nat) (s : State) : Answered :=
  if s.expires (s.carrier c).back then .next (s.returnFails c .timeout).conclude else .next s

end Sys2Proof.Machine
end

