-- ==== Sys2Proof/Machine/Replies.lean ====
section
/-! DEFINITION. The meanings of the events of the unit link (R185, R187, R189) and of the reports of the units (R190). -/

namespace Sys2Proof.Machine

/-- VISIT_START (R185, R187). -/
def execVisitStart (s : State) : Answered := .next s.startVisit

/-- IDLE_CYCLE (R185). -/
def execIdleCycle (s : State) : Answered := .next s.idleEnd

/-- Whether the reply window of the open visit has closed (R187). -/
def State.windowClosed (s : State) : Bool :=
  match s.link.visit with
  | some v => v.window.expired
  | none => false

/-- REPLY_WINDOW_END (R187): NO_REPLY. -/
def execReplyWindowEnd (s : State) : Answered := if s.windowClosed then .next s.windowEnd.conclude else .next s

/-- Whether these bytes are a miss of the open visit (R187). -/
def State.replyMisses (late : Bool) (m : List Byte) (s : State) : Bool :=
  match s.link.visit with
  | some v => (judgeReply v.addr late m).isSome
  | none => false

/-- BAD_REPLY (R187). -/
def execBadReply (late : Bool) (message : List Byte) (s : State) : Answered :=
  if s.replyMisses late message then .next (s.badReply late message).conclude else .next s

/-- A reply with a report, while a visit awaits one. -/
def State.reportEvent (r : Reply) (rep : Report) (s : State) : State :=
  if s.awaiting.isSome then (s.takeReport r rep).conclude else s

/-- NOTHING (R189). -/
def execNothing (reply : Reply) (s : State) : Answered :=
  if s.awaiting.isSome then .next (s.takeNothing reply).conclude else .next s

/-- STATE (R99). -/
def execState (reply : Reply) (drive : DriveState) (metres : Word) (s : State) : Answered :=
  .next (s.reportEvent reply (.state drive metres.toNat))

/-- AT_DOFF_POSITION (R90). -/
def execAtDoffPosition (reply : Reply) (s : State) : Answered := .next (s.reportEvent reply .atDoffPosition)

/-- DOFF_DONE (R91). -/
def execDoffDone (reply : Reply) (s : State) : Answered := .next (s.reportEvent reply .doffDone)

/-- DRIVE_FAULT (R98). -/
def execDriveFault (reply : Reply) (s : State) : Answered := .next (s.reportEvent reply .driveFault)

/-- AT_SIDE (R71). -/
def execAtSide (reply : Reply) (side position : Nat) (s : State) : Answered :=
  .next (s.reportEvent reply (.atSide side position))

/-- STEP (R47). -/
def execStep (reply : Reply) (token : Token) (stage : AttemptStep) (position : Nat) (s : State) : Answered :=
  .next (s.reportEvent reply (.step token stage position))

/-- RESULT (R50). -/
def execResult (reply : Reply) (token : Token) (outcome : Outcome) (s : State) : Answered :=
  .next (s.reportEvent reply (.result token outcome))

/-- HELD (R117). -/
def execHeld (reply : Reply) (token : Token) (s : State) : Answered := .next (s.reportEvent reply (.held token))

/-- REFUSED_HOLD (R117). -/
def execRefusedHold (reply : Reply) (token : Token) (s : State) : Answered :=
  .next (s.reportEvent reply (.refusedHold token))

/-- PARKED (R73). -/
def execParked (reply : Reply) (s : State) : Answered := .next (s.reportEvent reply .parked)

/-- FAULT (R77). -/
def execFault (reply : Reply) (s : State) : Answered := .next (s.reportEvent reply .fault)

/-- LOADED (R114). -/
def execLoaded (reply : Reply) (lot : Token) (s : State) : Answered := .next (s.reportEvent reply (.loaded lot))

/-- ARRIVED (R116). -/
def execArrived (reply : Reply) (s : State) : Answered := .next (s.reportEvent reply .arrived)

/-- CHANGE_DONE (R118). -/
def execChangeDone (reply : Reply) (s : State) : Answered := .next (s.reportEvent reply .changeDone)

/-- CHANGE_FAULT (R119). -/
def execChangeFault (reply : Reply) (s : State) : Answered := .next (s.reportEvent reply .changeFault)

/-- RETURNED (R120). -/
def execReturned (reply : Reply) (s : State) : Answered := .next (s.reportEvent reply .returned)

end Sys2Proof.Machine
end

