-- ==== Sys2Proof/Machine/Bus.lean ====
section
/-! DEFINITION. The meanings of the events of the board bus (R181, R182). -/

namespace Sys2Proof.Machine

/-- The transfer whose beats the bus moves: one is current and granted. -/
def State.granted (s : State) : Option Transfer := if s.port.granted then s.port.current else none

/-- MEMORY_BEAT (R181): the host's writes to the board memory, then the next beat of a granted transfer. -/
def execMemoryBeat (host : List HostWrite) (s : State) : Answered :=
  match s.granted with
  | some t => .next ((s.hostWrites host).beat t)
  | none => .next (s.hostWrites host)

/-- BUS_GRANT (R181). -/
def execBusGrant (s : State) : Answered :=
  if s.port.xreq then .next { s with port.granted := true, port.grantTimer := Timer.off } else .next s

/-- XYLD: XREQ released and asserted again, with the grant timeout afresh (R181). -/
def State.yieldBus (s : State) : State := { s with port := s.port.assert }

/-- BUS_YIELD (R181): the beat in progress completes; a transfer with beats left gives the bus up. -/
def execBusYield (host : List HostWrite) (s : State) : Answered :=
  match s.granted with
  | some t =>
    if t.beats ≤ t.next + 1 then .next ((s.hostWrites host).beat t)
    else .next ((s.hostWrites host).beat t).yieldBus
  | none => .next (s.hostWrites host)

/-- BEAT_ERROR (R182): the beat is retried once; a second error is a memory fault. -/
def execBeatError (s : State) : Answered :=
  match s.granted with
  | some t =>
    if s.port.retried then .next (s.memoryFault t.beatAddr .busError).conclude
    else .next { s with port.retried := true }
  | none => .next s

/-- The transfer that waits for XGNT past its time (R181). -/
def State.ungranted (s : State) : Option Transfer :=
  if s.port.xreq && !s.port.granted && s.port.grantTimer.expired then s.port.current else none

/-- GRANT_TIMEOUT (R181, R182). -/
def execGrantTimeout (s : State) : Answered :=
  match s.ungranted with
  | some t => .next (s.memoryFault t.beatAddr .grantTimeout).conclude
  | none => .next s

end Sys2Proof.Machine
end

