-- ==== Sys2Proof/Machine/Dispatch.lean ====
section
/-! DEFINITION. The meaning of every command: one arm per row of the table. -/

namespace Sys2Proof.Machine

/-- The effect of a command on everything but the queue. -/
def exec (i : Instr) (s : State) : Host.Outcome State Fault Refusal :=
  match i with
  | .powerOnReset => Sys2Proof.Machine.execPowerOnReset s
  | .srst => Sys2Proof.Machine.execSrst s
  | .runSet => Sys2Proof.Machine.execRunSet s
  | .runClear => Sys2Proof.Machine.execRunClear s
  | .look => Sys2Proof.Machine.execLook s
  | .resume => Sys2Proof.Machine.execResume s
  | .attWrite value => Sys2Proof.Machine.execAttWrite value s
  | .registerWrite reg value => Sys2Proof.Machine.execRegisterWrite reg value s
  | .sweepTimer frame => Sys2Proof.Machine.execSweepTimer frame s
  | .stripRead frame reply => Sys2Proof.Machine.execStripRead frame reply s
  | .stripNoReply frame => Sys2Proof.Machine.execStripNoReply frame s
  | .rollerPulse frame => Sys2Proof.Machine.execRollerPulse frame s
  | .shiftTimer => Sys2Proof.Machine.execShiftTimer s
  | .boardScan => Sys2Proof.Machine.execBoardScan s
  | .cutOut frame spindle => Sys2Proof.Machine.execCutOut frame spindle s
  | .clearCutout frame first last => Sys2Proof.Machine.execClearCutout frame first last s
  | .clearSlip frame first last => Sys2Proof.Machine.execClearSlip frame first last s
  | .selfCheck frame strip => Sys2Proof.Machine.execSelfCheck frame strip s
  | .tableRead => Sys2Proof.Machine.execTableRead s
  | .piecerPlace piecer target => Sys2Proof.Machine.execPiecerPlace piecer target s
  | .doffNow frame => Sys2Proof.Machine.execDoffNow frame s
  | .frameStop frame => Sys2Proof.Machine.execFrameStop frame s
  | .frameStart frame => Sys2Proof.Machine.execFrameStart frame s
  | .creelChange frame creel => Sys2Proof.Machine.execCreelChange frame creel s
  | .shiftClose => Sys2Proof.Machine.execShiftClose s
  | .planSwitch copy mode => Sys2Proof.Machine.execPlanSwitch copy mode s
  | .withdraw seq => Sys2Proof.Machine.execWithdraw seq s
  | .attemptTimeout piecer => Sys2Proof.Machine.execAttemptTimeout piecer s
  | .travelTimeout piecer => Sys2Proof.Machine.execTravelTimeout piecer s
  | .returnPlaceTimeout piecer => Sys2Proof.Machine.execReturnPlaceTimeout piecer s
  | .stopTimeout frame => Sys2Proof.Machine.execStopTimeout frame s
  | .doffTimeout frame => Sys2Proof.Machine.execDoffTimeout frame s
  | .changeTimeout carrier => Sys2Proof.Machine.execChangeTimeout carrier s
  | .returnTimeout carrier => Sys2Proof.Machine.execReturnTimeout carrier s
  | .visitStart => Sys2Proof.Machine.execVisitStart s
  | .idleCycle => Sys2Proof.Machine.execIdleCycle s
  | .replyWindowEnd => Sys2Proof.Machine.execReplyWindowEnd s
  | .badReply late message => Sys2Proof.Machine.execBadReply late message s
  | .nothing reply => Sys2Proof.Machine.execNothing reply s
  | .state reply drive metres => Sys2Proof.Machine.execState reply drive metres s
  | .atDoffPosition reply => Sys2Proof.Machine.execAtDoffPosition reply s
  | .doffDone reply => Sys2Proof.Machine.execDoffDone reply s
  | .driveFault reply => Sys2Proof.Machine.execDriveFault reply s
  | .atSide reply side position => Sys2Proof.Machine.execAtSide reply side position s
  | .step reply token stage position => Sys2Proof.Machine.execStep reply token stage position s
  | .result reply token outcome => Sys2Proof.Machine.execResult reply token outcome s
  | .held reply token => Sys2Proof.Machine.execHeld reply token s
  | .refusedHold reply token => Sys2Proof.Machine.execRefusedHold reply token s
  | .parked reply => Sys2Proof.Machine.execParked reply s
  | .fault reply => Sys2Proof.Machine.execFault reply s
  | .loaded reply lot => Sys2Proof.Machine.execLoaded reply lot s
  | .arrived reply => Sys2Proof.Machine.execArrived reply s
  | .changeDone reply => Sys2Proof.Machine.execChangeDone reply s
  | .changeFault reply => Sys2Proof.Machine.execChangeFault reply s
  | .returned reply => Sys2Proof.Machine.execReturned reply s
  | .memoryBeat host => Sys2Proof.Machine.execMemoryBeat host s
  | .busGrant => Sys2Proof.Machine.execBusGrant s
  | .busYield host => Sys2Proof.Machine.execBusYield host s
  | .beatError => Sys2Proof.Machine.execBeatError s
  | .grantTimeout => Sys2Proof.Machine.execGrantTimeout s

end Sys2Proof.Machine
end

