-- ==== Sys2Proof/Machine/Step.lean ====
section
/-! DEFINITION. One step: the command at the front of the queue, or a millisecond when none waits. -/

namespace Sys2Proof.Machine

/-- Take the command at the front of the queue and run it; on an empty queue a millisecond passes (log entry 2). -/
def step (s : State) : Host.Outcome State Fault Refusal :=
  match s.pending with
  | [] => .next s.tick
  | c :: r => exec c { s with pending := r }

/-- The state with the command that a word spells put at the front of the queue; no row gives bits, so no word spells
one. Commands reach the machine from outside (log entry 1). -/
def State.withFetchWord (s : State) (nbits w : Nat) : State :=
  match decodeTableWord nbits w with
  | some c => { s with pending := c :: s.pending }
  | none => s

end Sys2Proof.Machine
end

