-- ==== Sys2Proof/Safety.lean ====
section
/-! DEFINITION. What is true of the part in every state it reaches: the reserved bits, the memory's form, the part state and
the steps that go with it, the rooms of its lists, the marks of the journal. And the conditions and the states the
statements speak of: a unit that answers its visit, an order that is taken; and the bytes of words. -/

namespace Sys2Proof.Machine

/-- The board memory in canonical form, within the 32-bit address space. -/
def Memory.ok (m : List Host.Cell) : Bool := Memory.wf m && m.all fun c => decide (c.1 < 4294967296)

/-- The registers agree with the part state (R164, R165, R166, R183, R184): RUN, the resume state, the start fault code and
the steps of a start, of a RESUME and of the end of winding down. -/
def Regs.legal (r : Regs) : Bool :=
  match r.part with
  | .halted => !r.run && r.resume.isNone && r.start.isNone && r.rewriting.isNone && r.ending.isNone
  | .starting =>
    r.resume.isNone && r.start.isSome && r.rewriting.isNone && r.ending.isNone && r.startFault == .none
  | .running =>
    r.run && r.resume.isNone && r.start.isNone && r.rewriting.isNone && r.ending.isNone && r.startFault == .none
  | .windingDown => !r.run && r.resume.isNone && r.start.isNone && r.rewriting.isNone && r.startFault == .none
  | .stalled =>
    r.start.isNone && r.startFault == .none &&
      (match r.resume with
        | some .running => r.run && r.ending.isNone
        | some .windingDown => !r.run
        | _ => false)

/-- The bits that read 0 are 0 (R163, 11.5): the low half of AREA, the bits of ATT and ATM that name no cause. -/
def Regs.reservedClear (r : Regs) : Bool :=
  r.area &&& ~~~areaMask == 0#32 && r.att &&& ~~~attMask == 0#32 && r.atm &&& ~~~attMask == 0#32

/-- Whether the link makes its census (R194). -/
def LinkMode.isCensus : LinkMode → Bool
  | .census _ => true
  | .off | .cycling => false

/-- The invariant of every step. -/
def State.sound (s : State) : Bool :=
  Memory.ok s.mem && s.regs.reservedClear && s.regs.legal && decide (s.clockMs < 100) &&
    (!s.link.mode.isCensus || s.regs.start == some .census)

/-! ### The form of the records -/

/-- Tables in canonical form. -/
def Watch.formed (w : Watch) : Bool :=
  tableWf Spindle.reset w.spindles && tableWf Strip.reset w.strips && tableWf Sweep.reset w.sweeps

/-- Tables in canonical form. -/
def RogueTable.formed (t : RogueTable) : Bool :=
  tableWf RogueEntry.reset t.entries && tableWf Recency.reset t.recency

/-- No end list is over its room (R37). -/
def endListsInRoom (l : List (Nat × Side)) : Bool := l.all fun e => decide (e.2.entries.length ≤ Config.endListRoom)

/-- No command queue is over its room (R191). -/
def queuesInRoom (l : List (Nat × Unit)) : Bool := l.all fun e => decide (e.2.queue.length ≤ Config.unitQueueRoom)

/-- Tables in canonical form, and no end list over its room (R37). -/
def Dispatcher.formed (d : Dispatcher) : Bool :=
  tableWf Side.reset d.sides && endListsInRoom d.sides && tableWf Piecer.reset d.piecers

/-- Tables in canonical form, and the change queue within its room (R110). -/
def Roving.formed (r : Roving) : Bool :=
  tableWf Creel.reset r.creels && decide (r.queue.length ≤ Config.changeQueueRoom) &&
    tableWf Carrier.reset r.carriers && tableWf Feed.reset r.feeds

/-- Tables in canonical form. -/
def Output.formed (o : Output) : Bool :=
  tableWf Roller.reset o.rollers && tableWf Counts.reset o.counts && tableWf none o.view

/-- The pending list within its room (R179), and the change numbers in canonical form. -/
def Writer.formed (w : Writer) : Bool :=
  decide (w.pending.length ≤ Config.pendingListRoom) && tableWf none w.numbers

/-- The units in canonical form, and no command queue over its room (R191). -/
def Link.formed (l : Link) : Bool :=
  tableWf Unit.reset l.units && queuesInRoom l.units

/-- Every table is in canonical form, and no end list, change queue, pending list or command queue is longer than its room
(the order book and the deferred list are not looked at: R173 and R174 keep their rooms where a cell is taken). -/
def State.formed (s : State) : Bool :=
  s.watch.formed && s.rogue.formed && s.disp.formed && tableWf Frame.reset s.frames && s.roving.formed &&
    s.output.formed && tableWf CellStage.empty s.desk.view && s.writer.formed && s.link.formed

/-! ### The order board -/

/-- The cells that a board scan has read POSTED or has still to read or to take (R172). -/
def ScanStep.named : ScanStep → List Nat
  | .readMark | .pages _ => []
  | .stages left posted => posted ++ left
  | .cells left _ _ got => got.map CellRead.cell ++ left
  | .taking left => left.map CellRead.cell

/-- A scan reads the cells in rising number, and takes each once (R172, R173). -/
def ScanStep.inOrder (x : ScanStep) : Bool :=
  match x with
  | .taking _ => decide x.named.Nodup
  | .readMark | .pages _ | .stages _ _ | .cells _ _ _ _ => decide (x.named.Pairwise (· < ·))

/-- The order board agrees with itself (R171, R172, R174): the cells TAKEN in the view are those of the book, each once and
at most 16; the deferred list and the scan in progress name cells 1 to 32 that are not TAKEN, each once. -/
def Desk.booked (d : Desk) : Bool :=
  let book := d.book.map BookEntry.cell
  let deferred := d.deferred.map Prod.fst
  let stage (c : Nat) := tget CellStage.empty d.view c
  let waits (c : Nat) := decide (1 ≤ c) && decide (c ≤ 32) && stage c != .taken
  decide book.Nodup && decide (book.length ≤ Config.orderBookRoom) && book.all (fun c => stage c == .taken) &&
    d.view.all (fun e => e.2 != .taken || book.contains e.1) && decide deferred.Nodup && deferred.all waits &&
    match d.scan with
    | some x => x.inOrder && x.named.all waits
    | none => true

/-- While a plan copy is read for a PLAN_SWITCH its cell is the next to be taken, with room in the book when the switch is to
enter it (R150, R154, R174). -/
def State.switchHasRoom (s : State) : Bool :=
  s.plan.read.isNone || match s.taking with
    | [] => false
    | c :: _ => switchMode c.p2 != some .shiftEnd || decide (s.desk.book.length < Config.orderBookRoom)

/-- The order board agrees with itself and with the part state: no scan and no book in a start, no scan in HALTED (R172). -/
def State.booked (s : State) : Bool :=
  s.desk.booked &&
    match s.regs.part with
    | .halted => s.desk.scan.isNone
    | .starting => s.desk.scan.isNone && s.desk.book.isEmpty &&
        (s.plan.read.isNone || s.regs.start == some .header || s.regs.start == some .plan)
    | .running | .windingDown | .stalled => s.switchHasRoom

/-! ### The journal -/

/-- Nothing is written yet in a start (R165): the header, the plan and the census come before the writes. -/
def Regs.beforeWrites (r : Regs) : Bool :=
  r.part == .starting &&
    (r.start == some .header || r.start == some .plan || r.start == some .planFault || r.start == some .census)

/-- The journal keeps its marks (R178): both stand below the capacity, and the unread entries with those that wait to be
written are fewer than the capacity (log entry 11). While the capacity is not read yet no entry waits, and before the
writes of a start write_mark is 0 and no entry waits (R165, R194). -/
def State.marksKept (s : State) : Bool :=
  let w := s.writer
  (if w.capacity = 0 then decide (s.journalWaiting = 0)
    else decide (w.writeMark < w.capacity ∧ s.desk.readMark < w.capacity ∧ s.unread + s.journalWaiting < w.capacity)) &&
  (!s.regs.beforeWrites || decide (w.writeMark = 0 ∧ s.journalWaiting = 0))

/-! ### Words and bytes -/

/-- The k bytes of a number, the least significant first (11.2). -/
def leBytes (k v : Nat) : List Byte := (List.range k).map fun i => BitVec.ofNat 8 (v / 256 ^ i)

/-- The bytes of words as they stand in memory, the least significant of each first (11.2). -/
def wordBytes (l : List Word) : List Byte := l.flatMap fun w => (List.range 4).map fun i => w.extractLsb' (8 * i) 8

/-! ### Replies and orders -/

/-- A PRESENT unit is being visited in the cycles, and the reply window is open (R187). -/
def State.answering (s : State) (v : Visit) : Prop :=
  s.awaiting = some v ∧ s.link.mode = .cycling ∧ (s.unit v.addr).presence = .present

/-- The visit closed, and the unit's record after a valid reply (R188). -/
def State.replyCounted (v : Visit) (r : Reply) (s : State) : State :=
  (s.closeVisit v.addr).setUnit v.addr (((s.closeVisit v.addr).unit v.addr).replied v.cmd r)

/-- The same with a new report acknowledged (R189): the state in which its owner takes the report. -/
def State.replyTaken (v : Visit) (r : Reply) (s : State) : State :=
  (s.replyCounted v r).setUnit v.addr { (s.replyCounted v r).unit v.addr with ack := r.seq }

/-- A new report from a unit of this kind. -/
def State.reports (s : State) (v : Visit) (r : Reply) (k : UnitKind) : Prop :=
  s.answering v ∧ unitKind v.addr = k ∧ r.seq ≠ (s.unit v.addr).ack

/-- An order with these parameters is taken by its owner: its cell is next, it is not stale, and a long order is no
duplicate and finds room in the book (R173, R174). -/
def State.takes (s : State) (k : OrderKind) (ps : List Word) (c : CellRead) : Prop :=
  s.orderIsNext k ps = some c ∧ (c.deferred = true ∨ later c.seq s.desk.lastTaken = true) ∧
    (isLong k c = true → s.duplicate k c = false ∧ s.desk.book.length < Config.orderBookRoom)

/-- The state in which the owner takes the order: last_taken follows a new cell (R173), which leaves the deferred list
(R174). -/
def State.heard (c : CellRead) (s : State) : State :=
  (if c.deferred then s else { s with desk.lastTaken := c.seq }.markItem .header).undefer c.cell

/-- A cell is answered (R175): its view, and its answer at the tail of the write queue, or held while STALLED. -/
def State.answered (s : State) (cell : Nat) (reason : Option Reason) (words : List Word) : Prop :=
  s.cellView cell = (if reason.isSome then .refused else .done) ∧
    (if s.regs.part = .stalled then s.desk.held.getLast? = some ⟨cell, reason, words, s.clock⟩
      else s.writer.queue.getLast? = some (.cellDone ⟨cell, reason, words, s.clock⟩))

/-- A cell has been answered in the event (R175): its view, and its answer somewhere in the write queue, or held while
STALLED. -/
def State.finished (s : State) (cell : Nat) (reason : Option Reason) (words : List Word) : Prop :=
  s.cellView cell = (if reason.isSome then .refused else .done) ∧
    (if s.regs.part = .stalled then (⟨cell, reason, words, s.clock⟩ : Answer) ∈ s.desk.held
      else .cellDone ⟨cell, reason, words, s.clock⟩ ∈ s.writer.queue)

/-- An entry with the present mill clock stands in the write queue or in the pending list (R178, R179). -/
def State.journalled (s : State) (k : JournalKind) (frame unit : Nat) (fields : List Word) : Prop :=
  .journal ⟨k, frame, unit, s.clock, fields⟩ ∈ s.writer.queue ∨ (⟨k, frame, unit, s.clock, fields⟩ : JournalEntry) ∈ s.writer.pending

/-- The order entered the book and its cell is to be written TAKEN (R174). -/
def State.entered (s : State) (k : OrderKind) (c : CellRead) : Prop :=
  (⟨c.cell, c.seq, k, c.p1, c.p2⟩ : BookEntry) ∈ s.desk.book ∧ s.cellView c.cell = .taken ∧
    .cellTaken c.cell ∈ s.writer.queue

end Sys2Proof.Machine
end

