-- ==== Sys2Proof/Certificates/Slice0/Obligations.lean ====
section
/-! DEFINITION. The statements for the provers. A command whose event ends with work of other blocks answers
`u.conclude`: u is the state after the command's own effect, which the statement describes, and `conclude` is what every
event ends with (log entry 5). -/

open Sys2Proof Sys2Proof.Machine

/-! ### The machine -/

/-- A step takes the command at the front of the queue and runs it on the queue's rest. That the events reach the part
as one queue of commands, first in first out, is the model's choice (log entry 1). -/
def Obligations.StepRunsTheFrontCommand : Prop :=
  ∀ (c : Instr) (r : List Instr) (s : State), s.pending = c :: r → step s = exec c { s with pending := r }

/-- With no command waiting a millisecond passes (the model's choice, log entry 2): the mill clock counts tenths of a
second and stands still in HALTED (5.2, R164), every running timer loses a millisecond, and everything else stands. In
HALTED nothing runs but the window of the visit that is being finished (R185) and the grant timeout of a transfer by
which a mirror is rewritten there (R167, R181). -/
def Obligations.EmptyStepPassesAMillisecond : Prop :=
  (∀ x : Timer, (x.running = true → x.tick = ⟨true, x.left - 1⟩) ∧ (x.running = false → x.tick = x)) ∧
  ∀ s : State, s.pending = [] → ∃ t, step s = .next t ∧
    (s.regs.part = .halted → t = { s with
      link := { s.link with visit := s.link.visit.map fun v => { v with window := v.window.tick } }
      port := { s.port with grantTimer := s.port.grantTimer.tick } }) ∧
    (s.regs.part ≠ .halted →
      t = { s with
        clock := t.clock, clockMs := t.clockMs
        watch := { s.watch with sweeps := t.watch.sweeps }
        disp := { s.disp with piecers := t.disp.piecers }
        frames := t.frames
        roving := { s.roving with carriers := t.roving.carriers }
        output := { s.output with shift := s.output.shift.tick }
        desk := { s.desk with scanTimer := s.desk.scanTimer.tick }
        port := { s.port with grantTimer := s.port.grantTimer.tick }
        link := { s.link with
          visit := s.link.visit.map fun v => { v with window := v.window.tick }
          idle := s.link.idle.map Timer.tick } } ∧
      (s.clockMs = 99 → t.clock = s.clock + 1#32 ∧ t.clockMs = 0) ∧
      (s.clockMs ≠ 99 → t.clock = s.clock ∧ t.clockMs = s.clockMs + 1) ∧
      (∀ f, t.sweep f = { s.sweep f with timer := (s.sweep f).timer.tick }) ∧
      (∀ f, t.frame f = { s.frame f with
        stopTimer := (s.frame f).stopTimer.tick, doffTimer := (s.frame f).doffTimer.tick }) ∧
      (∀ p, t.piecer p = { s.piecer p with
        travel := (s.piecer p).travel.tick, attempt := (s.piecer p).attempt.tick }) ∧
      ∀ c, t.carrier c = { s.carrier c with
        change := (s.carrier c).change.tick, back := (s.carrier c).back.tick })

/-- Every step keeps it: the board memory in canonical form, the reserved bits of AREA, ATT and ATM at 0, the registers
in agreement with the part state, the millisecond phase below 100. -/
def Obligations.EveryStepKeepsSound : Prop :=
  ∀ s t : State, s.sound = true → step s = .next t → t.sound = true

/-- Every step keeps it: every table in canonical form, no end list over 64 entries (R37), the change queue at most 32
(R110), the pending list at most 32 (R179), no command queue over 4 (R191). The order book, the deferred list and the
board scan are those of EveryStepKeepsTheBook. -/
def Obligations.EveryStepKeepsFormed : Prop :=
  ∀ s t : State, s.formed = true → step s = .next t → t.formed = true

/-- Every step keeps it, and it holds after a reset: the order board agrees with itself (State.booked). The cells that
the view holds TAKEN are those of the order book, each once, and at most 16 (R171), so the cells of the book are
pairwise distinct; the deferred list and the board scan name cells from 1 to 32 that are not TAKEN, each once, and a
scan reads them in rising number (R172, R174); an order whose plan copy is being read finds its room in the book kept
(R174); no scan is made and no order is in the book in a start, and no scan is made in HALTED (R172, R177). -/
def Obligations.EveryStepKeepsTheBook : Prop :=
  State.reset.booked = true ∧
  ∀ s t : State, s.sound = true → s.formed = true → s.booked = true → step s = .next t → t.booked = true

/-- What commands leave alone. No command but MEMORY_BEAT and BUS_YIELD changes a byte of the board memory: the host's
writes come only with these two, and a reset leaves the memory (the model's choices, log entry 4). None changes the
commands waiting, the model's queue (log entry 1). The mill clock changes in the resets and in RUN_SET alone, AREA in
POWER_ON_RESET and REGISTER_WRITE alone, ATM in the resets and REGISTER_WRITE alone, FLT in the resets and at a memory
fault alone. -/
def Obligations.WhatCommandsLeaveAlone : Prop :=
  ∀ (c : Instr) (s t : State), exec c s = .next t →
    t.pending = s.pending ∧
    (((∃ h, c = .memoryBeat h) ∨ ∃ h, c = .busYield h) ∨ ∀ a, t.byte a = s.byte a) ∧
    (c = .powerOnReset ∨ c = .srst ∨ c = .runSet ∨ t.clock = s.clock ∧ t.clockMs = s.clockMs) ∧
    (c = .powerOnReset ∨ (∃ v, c = .registerWrite .area v) ∨ t.regs.area = s.regs.area) ∧
    (c = .powerOnReset ∨ c = .srst ∨ (∃ v, c = .registerWrite .atm v) ∨ t.regs.atm = s.regs.atm) ∧
    (c = .powerOnReset ∨ c = .srst ∨ c = .beatError ∨ c = .grantTimeout ∨ t.regs.flt = s.regs.flt)

/-! ### Part control -/

/-- POWER_ON_RESET and SRST (R163): every register reads 0, PST showing HALTED with start fault code NONE, and every
record of every block is at its value after reset (R24, R25, R63, R79, R104, R128, R129, R139, R149, R171, R178, R186;
the values that no rule gives are the model's choice, log entry 3); SRST leaves AREA. The board memory and the commands
waiting stand over a reset (the model's choices, log entries 4 and 1). State.reset itself, the machine that no command
has reached, lists no memory, and both invariants hold of it. -/
def Obligations.ResetsClearThePart : Prop :=
  (State.reset.regs.area = 0#32 ∧ State.reset.ctl = 0#32 ∧ State.reset.pst = 0#32 ∧ State.reset.regs.att = 0#32 ∧
    State.reset.regs.atm = 0#32 ∧ State.reset.regs.flt = 0#32 ∧ State.reset.regs.part = .halted ∧
    State.reset.regs.startFault = .none ∧ State.reset.attentionLine = false ∧ State.reset.mem = [] ∧
    State.reset.pending = [] ∧ State.reset.sound = true ∧ State.reset.formed = true) ∧
  (∀ s : State,
    exec .powerOnReset s = .next { State.reset with mem := s.mem, pending := s.pending } ∧
    exec .srst s = .next { State.reset with
      regs := { State.reset.regs with area := s.regs.area }, mem := s.mem, pending := s.pending }) ∧
  State.reset.clock = 0#32 ∧ State.reset.clockMs = 0 ∧
  (∀ f n, State.reset.spindle f n = ⟨.absent, false, false, 0, none, none, 0#32, 0, none⟩) ∧
  (∀ c, State.reset.strip c = ⟨false, 0, 0, none⟩) ∧ (∀ f, State.reset.sweep f = ⟨⟨false, 0⟩, 0, []⟩) ∧
  (∀ set way, State.reset.rogue.entry set way = ⟨false, 0, 0, 0#32⟩) ∧
  (∀ set, State.reset.rogue.choices set = ⟨false, false, false⟩) ∧
  (∀ d, State.reset.side d = ⟨[], 0, none, none⟩) ∧
  (∀ p, State.reset.piecer p = ⟨.absent, none, none, .pool, false, false, false, false, false, 0#32, ⟨false, 0⟩, none,
    false, 0#16, none, none, none, none, ⟨false, 0⟩⟩) ∧
  (∀ f, State.reset.frame f = ⟨.out, 0, false, none, none, none, .none, none, ⟨false, 0⟩, ⟨false, 0⟩, none, false, false,
    0#32, 0⟩) ∧
  (∀ c, State.reset.creel c = ⟨0, .fed, none, none, .none, .none, false, none⟩) ∧ State.reset.roving.queue = [] ∧
  (∀ c, State.reset.carrier c = ⟨.absent, none, none, none, ⟨false, 0⟩, ⟨false, 0⟩, 0#32, 0⟩) ∧
  (∀ f, State.reset.feed f = ⟨0, 0, 0⟩) ∧ (∀ f, State.reset.roller f = ⟨0, 0#32, 0#32, 0, 0, 0, 0, 0, none⟩) ∧
  (∀ f, State.reset.counts f = Counts.reset) ∧ State.reset.output = ⟨[], [], none, [], ⟨false, 0⟩, none, []⟩ ∧
  State.reset.plan = ⟨none, none, ⟨0, 0, 0⟩, none⟩ ∧ (∀ c, State.reset.cellView c = .empty) ∧
  State.reset.desk = ⟨0#32, 0#32, [], [], [], [], ⟨false, 0⟩, none, false, 0, []⟩ ∧
  State.reset.writer = ⟨0, 0, [], 0, 0#32, 0#32, [], none, [], 0#32, [], []⟩ ∧
  State.reset.port = ⟨none, [], false, false, ⟨false, 0⟩, false⟩ ∧
  (∀ a, State.reset.unit a = ⟨.absent, 0, .noReply, false, true, false, [], none, false, 0#32⟩) ∧
  State.reset.link = ⟨[], .off, 0, 1, none, none⟩

/-- RUN_SET (R164, R165): from HALTED the part enters STARTING with the mill clock at 0 and asks for the header's first
eight words (transfers of 8 and 5 words are the model's choice, log entry 9); the records of an earlier run are cleared
but for the token counters, the void tokens and the unit records, which stand until the census (R45, R197; the rest is
the model's choice, log entry 10). In STARTING it sets RUN. In the other states it changes nothing. Then the steps of
R165, each at the end of the read or of the batch that it waits for: the header's size code and read mark (BAD_HEADER),
last_taken and the active copy, the plan's validation (R153, PLAN_INVALID; that the three plan_fault words are written
as one update before the part enters HALTED is deduced, log entry 22), the beginning of the census, the writing of every
mirror (allMirrors, each kind by ascending number, the model's choice, log entry 73), the cells found TAKEN (R177; the
code of START is a free value, log entry 7), the pages' stages (R146; what is read of a page found OPEN, and ATT TALLY
for its closing, are deduced, log entry 23), NO_TALLY_PAGE once the journal entries of the closings and the write_mark
behind them have been written (R178; that the start waits for them is deduced, log entry 62), and the entry into RUNNING
or WINDING_DOWN. -/
def Obligations.RunSetStartsTheGroup : Prop :=
  ∀ s : State, s.formed = true →
    let failed (c : StartFault) (u : State) : Prop :=
      u.regs.part = .halted ∧ u.regs.startFault = c ∧
      u.regs.run = false ∧ u.regs.start = none ∧ u.regs.att &&& 32#32 = 32#32 ∧ u.link.units = s.link.units
    let planFails (x : PlanFault) (u : State) : Prop :=
      u.regs.start = some .planFault ∧ u.plan.fault = x ∧
      u.writer.queue = [.planFault, .mark] ∧ u.link = s.link
    (s.regs.part = .halted → ∃ t, exec .runSet s = .next t ∧
      t.regs = { s.regs with
        run := true, part := .starting, resume := none, startFault := .none, start := some .header, rewriting := none,
        ending := none } ∧
      t.clock = 0#32 ∧ t.clockMs = 0 ∧ t.mem = s.mem ∧ t.pending = s.pending ∧ t.port.xreq = true ∧
      t.port.current = some ⟨.orderDesk, false, s.areaAddr 0, 8, 0, []⟩ ∧
      t.watch = State.reset.watch ∧ t.frames = [] ∧ t.roving = State.reset.roving ∧ t.output = State.reset.output ∧
      t.link.units = s.link.units ∧ t.link.mode = .off ∧ (∀ d, t.side d = Side.reset) ∧
      ∀ p, 1 ≤ p → p ≤ 8 →
        t.piecer p = { Piecer.reset with counter := (s.piecer p).counter, void := (s.piecer p).void }) ∧
    (s.regs.part = .starting → exec .runSet s = .next { s with regs := { s.regs with run := true } }) ∧
    (s.regs.part ≠ .halted → s.regs.part ≠ .starting → exec .runSet s = .next s) ∧
    (∀ t : Transfer, t.block = .orderDesk → s.regs.start = some .header →
      let u := s.transferEnded t
      let word (n : Nat) := t.words.getD n 0#32
      let capacity := 256 * 2 ^ (word 1).toNat
      (s.transferOffset t = 0 → 4 < (word 1).toNat ∨ capacity ≤ (word 2).toNat → failed .badHeader u) ∧
      (s.transferOffset t = 0 → (word 1).toNat ≤ 4 → (word 2).toNat < capacity →
        u.writer.capacity = capacity ∧ u.desk.readMark = (word 2).toNat ∧ u.regs = s.regs ∧
        u.plan.read = (if word 4 = 1#32 then some ⟨.p, []⟩ else if word 4 = 2#32 then some ⟨.q, []⟩ else none) ∧
        u.port = s.port.finish.request ⟨.orderDesk, false, s.areaAddr 0x20, 5, 0, []⟩) ∧
      (s.transferOffset t ≠ 0 → u.desk.lastTaken = word 3 ∧
        (s.plan.read = none → planFails ⟨1, 0, 0⟩ u) ∧
        ∀ r, s.plan.read = some r → u.regs.start = some .plan ∧ u.plan = s.plan ∧
          u.port = s.port.finish.request ⟨.planStore, false, s.areaAddr r.copy.offset, 8, 0, []⟩)) ∧
    (∀ (t : Transfer) (r : PlanRead), t.block = .planStore → s.regs.start = some .plan → s.plan.read = some r →
      2048 ≤ t.words.length + r.words.length →
      let u := s.transferEnded t
      let l := r.words.reverse ++ t.words
      (∀ x, copyFault s.writer.capacity l = some x → planFails x u) ∧
      (copyFault s.writer.capacity l = none →
        u.plan.active = some ⟨r.copy, l.headD 0#32, parseSettings l⟩ ∧ u.plan.fault = ⟨0, 0, 0⟩ ∧
        u.regs.start = some .census ∧ u.link = ⟨[], .census ⟨1, 1, [], [], []⟩, 0, 1, none, none⟩)) ∧
    (let u := s.startWrites;
      u.regs.start = some .writes ∧ u.writer.writeMark = s.desk.readMark ∧ u.desk.startCells = List.range' 1 32 ∧
        (∃ l, u.writer.queue = allMirrors ++ l ∧ ∀ i, i ∈ l → ∃ e, i = .journal e) ∧
        u.port = s.port.request ⟨.orderDesk, false, s.areaAddr 0x100, 1, 0, []⟩) ∧
    (∀ (t : Transfer) (c : Nat) (r : List Nat), t.block = .orderDesk → s.regs.part = .starting →
      s.regs.start = some .writes → s.desk.startCells = c :: r →
      let u := s.transferEnded t
      let stage := (t.words.headD 0#32).toNat
      u.desk.startCells = r ∧
      (stage = 2 → u.cellView c = .refused ∧
        .cellDone ⟨c, some .withdrawn, [Config.openCode .start], s.clock⟩ ∈ u.writer.queue) ∧
      (stage ≠ 2 → u.cellView c =
        if stage = 1 then .posted else if stage = 3 then .done else if stage = 4 then .refused else .empty)) ∧
    (let u := s.settlePages;
      (∀ x, x ∈ s.output.found → .startClose x.page ∈ u.writer.queue) ∧
      (s.output.found ≠ [] → u.regs.att &&& 4#32 = 4#32) ∧
      (s.output.found = [] → s.freePages = [] → u.output.page = s.output.page) ∧
      ∀ n r, s.output.found = [] → s.freePages = n :: r → u.output.page = some ⟨n, s.clock, .start, 0⟩ ∧
        u.pageView n = some .opened ∧
        u.output.shift =
          if s.settings.shiftLength = 0 then ⟨false, 0⟩ else ⟨true, 60000 * s.settings.shiftLength⟩) ∧
    (∀ n r, s.served = true → s.writer.current = none → s.writer.queue = .mark :: r →
      serveN (n + 1) s =
        serveN n (State.markReached { s with writer := { s.writer with queue := r } }).settle.windTest) ∧
    (s.regs.start = some .planFault → failed .planInvalid s.markReached) ∧
    (s.regs.start = some .writes → s.markReached.regs.start = some .pages ∧
      s.markReached.port = s.port.request ⟨.outputCounter, false, s.areaAddr 0x8800, 1, 0, []⟩) ∧
    (s.regs.start = some .pages → s.output.page = none →
      let left := .header ∈ s.writer.queue ∨ ∃ e, .journal e ∈ s.writer.queue
      (left → s.markReached = { s with writer := { s.writer with queue := s.writer.queue ++ [.mark] } }) ∧
      (¬left → failed .noTallyPage s.markReached)) ∧
    (s.regs.start = some .pages → s.output.page ≠ none →
      let u := s.markReached
      let p := s.settings.sweepPeriod
      u.regs.start = none ∧ u.regs.part = (if s.regs.run = true then .running else .windingDown) ∧
      (∀ f, 1 ≤ f → f ≤ 8 → u.sweep f = if (s.frame f).state = .out then s.sweep f else ⟨⟨true, p⟩, p, []⟩) ∧
      (s.regs.run = true → u.desk.scanTimer = ⟨true, s.settings.scanInterval⟩ ∧ u.work.arbiter = true))

/-- RUN_CLEAR (R164, R166): WINDING_DOWN is entered from RUNNING, becomes the end of a start, or the resume state of a
STALLED part, with the entry effects in that event: no copy is read and no order is taken any more (the giving up of a
taking is the model's choice, log entry 21); every self-check is cut short, its positions settled as passed (R22); every
piecer ON_SIDE, MOVING, or PARKED with placement SIDE or POOL is sent to the bay with placement POOL (R73), and the
others stand. A write that leaves RUN at 0 changes nothing. -/
def Obligations.RunClearWindsDown : Prop :=
  ∀ s : State, s.formed = true →
    let entered (u : State) : Prop :=
      u.plan.read = none ∧ u.taking = [] ∧
      (∀ c, 1 ≤ c → (u.strip c).check = none) ∧
      (∀ c n, 1 ≤ c → c ≤ 608 → (s.strip c).check ≠ none → n ∈ spindlesOfSection (creelIndex c) →
        let x := s.spindle (creelFrame c) n
        let y := u.spindle (creelFrame c) n
        (x.state ≠ .checking → y = x) ∧
        (x.state = .checking → y.saved = none ∧ y.since = 0 ∧ y.slip = x.slip ∧ y.attempts = x.attempts ∧
          y.state = (if x.saved = some .down then .down else if x.saved = some .starved then .starved else .settling))) ∧
      ∀ p, 1 ≤ p → p ≤ 8 →
        let x := s.piecer p
        let y := u.piecer p
        let goes := x.state = .onSide ∨ x.state = .moving ∨ (x.state = .parked ∧ x.placement ≠ .park)
        (goes → y = { x with
            state := .parked, side := none, placement := .pool, atBay := false, parkOwed := false, atFrameEnd := false
            returned := false, travel := ⟨true, 1000 * s.settings.travelTimeout⟩ } ∧
          u.unit (8 + p) = (s.hand (8 + p) .park).unit (8 + p)) ∧
        (¬goes → y = x)
    (s.regs.run = false → exec .runClear s = .next s) ∧
    (s.regs.run = true → s.regs.part = .starting →
      exec .runClear s = .next { s with regs := { s.regs with run := false } }) ∧
    (s.regs.run = true → s.regs.part = .halted ∨ s.regs.part = .windingDown → exec .runClear s = .next s) ∧
    (s.regs.run = true → s.regs.part = .running →
      let u := State.windDown { s with regs := { s.regs with run := false, part := .windingDown } }
      exec .runClear s = .next u.conclude ∧ u.regs.run = false ∧ u.regs.part = .windingDown ∧ entered u) ∧
    (s.regs.run = true → s.regs.part = .stalled →
      let u := State.windDown { s with regs := { s.regs with run := false, resume := some .windingDown } }
      exec .runClear s = .next u.conclude ∧ u.regs.run = false ∧ u.regs.part = .stalled ∧
        u.regs.resume = some .windingDown ∧ entered u)

/-- The end of winding down (R144, R166, R177). It begins in the event in which no frame holds a slot, no carrier is in
LOADING, TRAVEL, WAIT_LOCK, WORKING or RETURN and every piecer is parked at the bay, LOST or ABSENT. The PART_STOP
boundary closes the open page, with SHIFT_CLOSED journalled and ATT TALLY raised, opens none and stops the shift timer;
what it calls for is settled in its event (log entry 5); a pending switch is settled there (R156); then every order left
in the book is REFUSED WITHDRAWN with the one word PART_STOP (coded 3, deduced: log entry 7), and what waits is written
as far as the journal has room. When nothing is left to write, journal_lost takes the entries pending and the drop count
together, up to 2^32 - 1 (the model's choice, log entry 53), in the header, and when that is written the part enters
HALTED with its records as they stand; each step ends when its batch has been written (deduced, log entry 36). After a
memory fault in the end RESUME goes on from the writing: no boundary and no refusal is made again. -/
def Obligations.WindingDownEnds : Prop :=
  (∀ s : State,
    let rests (p : Nat) : Prop := (s.piecer p).state = .absent ∨ (s.piecer p).state = .lost ∨
      ((s.piecer p).state = .parked ∧ (s.piecer p).atBay = true)
    let parked (c : Nat) : Prop := (s.carrier c).state = .absent ∨ (s.carrier c).state = .idle ∨
      (s.carrier c).state = .fault ∨ (s.carrier c).state = .lost
    let ends := s.regs.part = .windingDown ∧ s.regs.ending = none ∧ (∀ f, 1 ≤ f → f ≤ 8 → (s.frame f).slot = none) ∧
      (∀ c, 1 ≤ c → c ≤ 4 → parked c) ∧ ∀ p, 1 ≤ p → p ≤ 8 → rests p
    (ends → s.windTest = s.beginEnd) ∧ (¬ends → s.windTest = s)) ∧
  (∀ s : State, s.formed = true → s.regs.part = .windingDown →
    let v := (s.boundary .partStop).settle
    let u := s.beginEnd
    u.regs.part = .windingDown ∧ u.regs.ending = some .writing ∧ u.output.page = none ∧ u.output.shift = ⟨false, 0⟩ ∧
    u.output.wait = none ∧ u.plan.pending = none ∧ u.desk.book = [] ∧ u.clock = s.clock ∧
    (∀ p, s.output.page = some p → u.pageView p.number = some .closed ∧
      .closedPage ⟨p, s.clock, .partStop, u.output.counts⟩ ∈ u.writer.queue ∧ u.regs.att &&& 4#32 = 4#32) ∧
    (s.plan.pending = none → u.plan = s.plan) ∧
    (∀ b, b ∈ v.desk.book → u.finished b.cell (some .withdrawn) [3#32]) ∧
    (∀ c, (u.creel c).orderSeq = none) ∧ u.frames = v.frames ∧ u.watch = v.watch ∧ u.disp = v.disp ∧
    u.rogue = s.rogue) ∧
  (∀ (s : State) (p : OpenPage), s.output.page = some p →
    let u := s.closePage .partStop
    u.output.page = none ∧ u.regs.att &&& 4#32 = 4#32 ∧
    u.journalled .shiftClosed 0 0 [w32 p.number, 3#32, p.stamp, s.clock, w32 p.merged]) ∧
  (∀ s : State,
    (s.regs.ending = some .writing → s.endGoesOn = State.markItem .header { s with
      regs := { s.regs with ending := some .lostWord }
      writer := { s.writer with
        journalLost := w32 (min 4294967295 (s.writer.pending.length + s.writer.drops)) } }) ∧
    (s.regs.ending = some .lostWord → s.endGoesOn = { s with
      regs := { s.regs with
        part := .halted, resume := none, start := none, rewriting := none, ending := none }
      link := { s.link with mode := .off, idle := none }
      desk := { s.desk with scan := none, scanTimer := ⟨false, 0⟩, lookAgain := false, startCells := [] }
      plan := { s.plan with read := none }
      writer := { s.writer with current := none }
      port := ⟨none, [], false, false, ⟨false, 0⟩, false⟩
      work := ⟨false, false, [], []⟩ }) ∧
    (∀ n, s.regs.part = .windingDown → s.writer.current = none → s.writer.queue = [] →
      (s.regs.ending ≠ none → serveN (n + 1) s = serveN n s.endGoesOn) ∧
      (s.regs.ending = none → serveN (n + 1) s = s))) ∧
  ∀ s : State, s.formed = true → s.regs.part = .stalled → s.regs.start = none →
    s.regs.rewriting = some .journal → s.regs.resume = some .windingDown → s.regs.ending ≠ none →
    let u := s.markReached
    u.regs = { s.regs with part := .windingDown, resume := none, rewriting := none, ending := some .writing } ∧
    u.output = s.output ∧ u.plan = s.plan ∧ u.desk.book = s.desk.book ∧ u.frames = s.frames

/-- LOOK and BOARD_SCAN (R164, R172): a scan begins in RUNNING and WINDING_DOWN with the read mark's read; the scan
timer stands stopped during it, so that no BOARD_SCAN falls in a scan (deduced, log entry 27). A LOOK during a scan asks
for one more; in the other states nothing changes, nor for a timer that has not run out (the model's choice, log entry
6). -/
def Obligations.ScansBegin : Prop :=
  ∀ s : State,
    let scans := s.regs.part = .running ∨ s.regs.part = .windingDown
    let begun : State := { s with
      desk := { s.desk with
        scan := some .readMark, scanFrom := s.desk.lastTaken, scanTimer := Timer.off, lookAgain := false }
      port := s.port.request ⟨.orderDesk, false, s.areaAddr 8, 1, 0, []⟩ }
    (scans → s.desk.scan = none → exec .look s = .next begun) ∧
    (scans → s.desk.scan ≠ none → exec .look s = .next { s with desk := { s.desk with lookAgain := true } }) ∧
    (¬scans → exec .look s = .next s) ∧
    (scans → s.desk.scan = none → s.desk.scanTimer.expired = true → exec .boardScan s = .next begun) ∧
    (¬(scans ∧ s.desk.scan = none ∧ s.desk.scanTimer.expired = true) → exec .boardScan s = .next s)

/-- The steps of a board scan (R172), each at the end of the read before it: the read mark; the stage word of each page
held CLOSED; in RUNNING the stage word of every cell not TAKEN; each cell read POSTED whole, with its stage first and
again at the end, once more when the two differ, and left for the next scan when they differ again. A cell held POSTED
that reads another stage is EMPTY and deferred no longer (R171, R174). A part that no longer runs reads no more cells
(deduced, log entry 21). A scan that ends loads the timer, or begins again for a LOOK. The order of taking (R173): the
deferred cells as they were deferred, then the new ones in rising distance from the scan's last_taken, ties to the lower
cell. A cell whose kind names no order is answered when the taking comes to it (the model's choice, log entry 29). The
split of a cell's read into 8, 7 and 1 words is the model's choice (log entry 9). -/
def Obligations.ScansReadTheBoard : Prop :=
  let reads (v : State) (x : ScanStep) (b : Requester) (offset beats : Nat) : State := { v with
    desk := { v.desk with scan := some x }
    port := v.port.request ⟨b, false, v.areaAddr offset, beats, 0, []⟩ }
  let cellAt (c : Nat) := 0x100 + 64 * (c - 1)
  let ended (v : State) : State :=
    if v.desk.lookAgain then
      reads { v with desk := { v.desk with
        scanFrom := v.desk.lastTaken, scanTimer := ⟨false, 0⟩, lookAgain := false } } .readMark .orderDesk 8 1
    else { v with desk := { v.desk with scan := none, scanTimer := ⟨true, v.settings.scanInterval⟩ } }
  let taking (v : State) (l : List CellRead) : State :=
    State.goOnTaking { v with desk := { v.desk with scan := some (.taking l) } }
  let whole (v : State) (left : List Nat) (again : Bool) (got : List CellRead) : State :=
    match left with
    | [] => taking v (v.takingOrder got)
    | c :: _ => reads v (.cells left again [] got) .orderDesk (cellAt c) 8
  let stages (v : State) (left posted : List Nat) : State :=
    match left with
    | [] => whole v posted false []
    | c :: _ => reads v (.stages left posted) .orderDesk (cellAt c) 1
  let pages (v : State) (left : List Nat) : State :=
    match left with
    | [] => if v.regs.part = .running then stages v ((List.range' 1 32).filter fun c => v.cellView c != .taken) []
      else ended v
    | p :: _ => reads v (.pages left) .outputCounter (0x8800 + 1024 * (p - 1)) 1
  let forgets (v : State) (c : Nat) : State :=
    { v with desk := { v.desk with deferred := v.desk.deferred.filter fun e => e.1 != c } }
  let empties (v : State) (c : Nat) : State :=
    forgets (if v.cellView c = .posted then v.setCellView c .empty else v) c
  (∀ (s : State) (t : Transfer), s.regs.start = none →
    let u := s.transferEnded t
    let v : State := { s with port := s.port.finish }
    let word := t.words.headD 0#32
    (t.block = .orderDesk → s.desk.scan = some .readMark →
      let w := v.takeReadMark word
      u = pages w ([1, 2, 3, 4].filter fun p => w.pageView p == some .closed)) ∧
    (∀ p left, t.block = .outputCounter → s.desk.scan = some (.pages (p :: left)) →
      u = pages (if word = 0#32 then v.setPageView p .free else v) left) ∧
    (∀ c left posted, t.block = .orderDesk → s.desk.scan = some (.stages (c :: left) posted) →
      (s.regs.part ≠ .running → u = ended v) ∧
      (s.regs.part = .running → word = 1#32 → u = stages (v.setCellView c .posted) left (posted ++ [c])) ∧
      (s.regs.part = .running → word ≠ 1#32 → u = stages (empties v c) left posted)) ∧
    ∀ c left again words got, t.block = .orderDesk → s.desk.scan = some (.cells (c :: left) again words got) →
      let all := words ++ t.words
      let word (n : Nat) := all.getD n 0#32
      let known := s.desk.deferred.any fun e => e.1 == c && e.2 == word 1
      (s.regs.part ≠ .running → u = ended v) ∧
      (s.regs.part = .running →
        (all.length < 15 → u = reads v (.cells (c :: left) again all got) .orderDesk (cellAt c + 32) 7) ∧
        (all.length = 15 → u = reads v (.cells (c :: left) again all got) .orderDesk (cellAt c) 1) ∧
        (16 ≤ all.length → word 0 ≠ word 15 → again = false → u = whole v (c :: left) true got) ∧
        (16 ≤ all.length → word 0 ≠ word 15 → again = true → u = whole v left false got) ∧
        (16 ≤ all.length → word 0 = word 15 → word 0 ≠ 1#32 → u = whole (empties v c) left false got) ∧
        (16 ≤ all.length → word 0 = word 15 → word 0 = 1#32 →
          u = whole (if known then v else forgets v c) left false
            (got ++ [⟨c, word 1, word 2, word 3, word 4, word 5, word 6, known⟩])))) ∧
  (∀ (s : State) (got : List CellRead), (s.desk.deferred.map Prod.fst).Nodup →
    (got.map CellRead.cell).Pairwise (fun a b => a < b) →
    let deferred := s.desk.deferred.map Prod.fst
    let distance (c : CellRead) := (c.seq - s.desk.scanFrom).toNat
    let l := s.takingOrder got
    let old := l.filter fun c => c.deferred
    let new := l.filter fun c => !c.deferred
    l = old ++ new ∧ (∀ c, c ∈ l ↔ c ∈ got ∧ (c.deferred = true → c.cell ∈ deferred)) ∧
    (old.map CellRead.cell).Sublist deferred ∧
    new.Pairwise fun a b => distance a < distance b ∨ (distance a = distance b ∧ a.cell < b.cell)) ∧
  (∀ s : State, s.desk.scan = some (.taking []) → s.goOnTaking = ended s) ∧
  ∀ (s : State) (c : CellRead) (r : List CellRead), s.desk.scan = some (.taking (c :: r)) →
    let known := 1 ≤ c.kind.toNat ∧ c.kind.toNat ≤ 13
    let fresh := c.deferred = true ∨ later c.seq s.desk.lastTaken = true
    s.dropTaken = taking s r ∧ (known → s.goOnTaking = s) ∧
    (¬known → r.length < 32 → ∃ u : State, s.goOnTaking = u.goOnTaking ∧ u.desk.scan = some (.taking r) ∧
      (¬fresh → u.answered c.cell (some .staleSeq) [] ∧ u.desk.lastTaken = s.desk.lastTaken) ∧
      (fresh → u.answered c.cell (some .outOfRange) [] ∧
        u.desk.lastTaken = (if c.deferred then s.desk.lastTaken else c.seq) ∧
        ∀ e, e ∈ u.desk.deferred → e.1 ≠ c.cell))

/-- RESUME (R164, R184): while STALLED with none under way it replaces the write queue by the header, every mirror, the
closed pages held, the open page and the dumps held; otherwise it changes nothing. Each step ends with the batch it
queued, at the queue's end mark. After the rewriting a SHIFT_CLOSE whose page writes are complete is DONE
(State.shiftTest, ShiftCloseWaitsForItsPages); then, and as long as cells were held meanwhile, the cells held are queued
in the order in which they finished; then the pending list is flushed, a GAP first when entries were dropped, while room
lasts (State.flushJournal, JournalKeepsItsMarks); then the part returns to the state it stalled in and loads the
board-scan timer, and an end of winding down that was cut off goes on. That a second RESUME during the first changes
nothing, and the end of a step with its batch, is deduced (log entries 27 and 36). The mirrors (allMirrors) take in the
256 bytes behind each frame's spindle map, written 0, the model's choice (log entry 9); within each kind they stand by
ascending number, the model's choice (log entry 73). -/
def Obligations.ResumeRewritesTheArea : Prop :=
  ∀ s : State,
    (s.regs.part = .stalled → s.regs.rewriting = none →
      exec .resume s = .next (State.conclude { s with
        regs := { s.regs with rewriting := some .rewrite }
        writer := { s.writer with
          queue := allMirrors ++ s.writer.heldPages.map .closedPage ++
            (if s.output.page.isSome then [.openPage] else []) ++ s.writer.heldDumps.map .dump ++ [.mark]
          heldPages := [], heldDumps := [] } })) ∧
    (¬(s.regs.part = .stalled ∧ s.regs.rewriting = none) → exec .resume s = .next s) ∧
    (s.regs.part = .stalled → s.regs.rewriting ≠ none → s.writer.current = none → ∀ r, s.writer.queue = .mark :: r →
      ∀ n, serveN (n + 1) s =
        serveN n (State.markReached { s with writer := { s.writer with queue := r } }).settle.windTest) ∧
    (s.regs.start = none →
      let held (t : State) := t.desk.held.map WriteItem.cellDone
      let cells (t : State) : State := { t with
        regs := { t.regs with rewriting := some .cells }
        writer := { t.writer with queue := t.writer.queue ++ held t ++ [.mark] }
        desk := { t.desk with held := [] } }
      let flushed := State.flushJournal { s with regs := { s.regs with rewriting := some .journal } }
      let back : State := { s with
        regs := { s.regs with part := s.regs.resume.getD .running, resume := none, rewriting := none }
        writer := { s.writer with queue := s.writer.queue ++ held s }
        desk := { s.desk with held := [], scanTimer := ⟨true, s.settings.scanInterval⟩ } }
      (s.regs.rewriting = some .rewrite → s.markReached = cells s.shiftTest ∧
        (s.output.wait = none → s.markReached = cells s)) ∧
      (s.regs.rewriting = some .cells → s.desk.held ≠ [] → s.markReached = cells s) ∧
      (s.regs.rewriting = some .cells → s.desk.held = [] →
        s.markReached = { flushed with writer := { flushed.writer with queue := flushed.writer.queue ++ [.mark] } }) ∧
      (s.regs.rewriting = some .journal → s.regs.ending = none → s.markReached = back) ∧
      (s.regs.rewriting = some .journal → s.regs.ending ≠ none →
        s.markReached = State.flushJournal { back with regs := { back.regs with ending := some .writing } }))

/-- ATT_WRITE (R167): a 1 clears its cause and a 0 leaves it; clearing ALARM or UNIT clears those bits of every frame,
also where the ATT bit was not set (deduced, log entry 25). The mirror of every frame so changed joins the write queue,
which is served in HALTED too (what becomes of its rewriting there when a start, a fault or a write of AREA falls into
it is the model's choice, log entry 47). The attention line is asserted while ATT and ATM have a cause in common.
REGISTER_WRITE (R163): AREA is taken in HALTED alone, with its low 16 bits reading 0; ATM at any time, the bits that
name no cause reading 0; PST and FLT ignore writes. -/
def Obligations.RegistersAreWritten : Prop :=
  ((∀ (s : State) (value : Word), s.formed = true →
     let u := State.clearFrameBits value { s with regs := { s.regs with att := s.regs.att &&& ~~~value } }
     exec (.attWrite value) s = .next u.conclude ∧ u.regs = { s.regs with att := s.regs.att &&& ~~~value } ∧
       (∀ f, 1 ≤ f → f ≤ 8 →
         u.frame f = { s.frame f with
           alarm := (s.frame f).alarm && !value.getLsbD 3, unit := (s.frame f).unit && !value.getLsbD 4 }) ∧
       (∀ f, 1 ≤ f → f ≤ 8 → u.frame f ≠ s.frame f → .frame f ∈ u.writer.queue) ∧
       (∀ i, i ∈ s.writer.queue → i ∈ u.writer.queue) ∧
       (∀ i, i ∈ u.writer.queue → i ∈ s.writer.queue ∨ ∃ f, i = .frame f ∧ u.frame f ≠ s.frame f) ∧
       (s.regs.part ≠ .starting → s.regs.part ≠ .stalled → u.served = true) ∧
       u.watch = s.watch ∧ u.rogue = s.rogue ∧ u.disp = s.disp ∧ u.roving = s.roving ∧ u.output = s.output ∧
       u.plan = s.plan ∧ u.desk = s.desk ∧ u.port = s.port ∧ u.link = s.link) ∧
   ∀ s : State, s.regs.att &&& ~~~attMask = 0#32 → (s.attentionLine = true ↔
     ∃ c : Cause, s.regs.att &&& c.bit ≠ 0#32 ∧ s.regs.atm &&& c.bit ≠ 0#32)) ∧
  (∀ (s : State) (value : Word),
     (s.regs.part = .halted →
       exec (.registerWrite .area value) s =
         .next { s with regs := { s.regs with area := value &&& 0xFFFF0000#32 } }) ∧
     (s.regs.part ≠ .halted → exec (.registerWrite .area value) s = .next s) ∧
     exec (.registerWrite .atm value) s = .next { s with regs := { s.regs with atm := value &&& 63#32 } } ∧
     exec (.registerWrite .pst value) s = .next s ∧ exec (.registerWrite .flt value) s = .next s)

/-! ### Memory Port -/

/-- MEMORY_BEAT (R168, R181, R198): the host's words are in memory before the beat (the model's choice, as are addresses
modulo 2^32: log entry 4), each at its own four bytes, least significant first, and nowhere else. A write beat puts its
word at its four bytes, and every other byte stands; a read beat changes no byte and takes the word that stands there.
The next beat is then due, and after the last the event is the transfer's end (State.transferEnded, which releases the
bus and lets the requesting block go on). With no transfer granted there is no beat (the model's choice, log entry 6).
-/
def Obligations.BeatMovesOneWord : Prop :=
  ∀ (s : State) (host : List HostWrite), Memory.ok s.mem = true →
    s.hostWrites [] = s ∧
    (∀ a w,
      (∀ i, i < 4 → (s.hostWrites (host ++ [(a, w)])).byte (a + i) = w.extractLsb' (8 * i) 8) ∧
      ∀ b, (∀ i, i < 4 → b % 4294967296 ≠ (a + i) % 4294967296) →
        (s.hostWrites (host ++ [(a, w)])).byte b = (s.hostWrites host).byte b) ∧
    (s.granted = none → exec (.memoryBeat host) s = .next (s.hostWrites host)) ∧
    ∀ t, s.granted = some t →
      let m := s.hostWrites host
      let moved := t.moved (m.word t.beatAddr)
      ∃ u, exec (.memoryBeat host) s = .next u ∧
        (t.write = false → ∀ a, u.byte a = m.byte a) ∧
        (t.write = true →
          (∀ i, i < 4 → u.byte (t.beatAddr + i) = (t.words.getD t.next 0#32).extractLsb' (8 * i) 8) ∧
          ∀ a, (∀ i, i < 4 → a % 4294967296 ≠ (t.beatAddr + i) % 4294967296) → u.byte a = m.byte a) ∧
        (t.next + 1 < t.beats →
          u = { s with mem := u.mem, port := { s.port with current := some moved, retried := false } }) ∧
        (t.beats ≤ t.next + 1 →
          u = (State.transferEnded moved { s with
            mem := u.mem, port := { s.port with current := some moved, retried := false } }).conclude)

/-- BUS_GRANT, BUS_YIELD and a first BEAT_ERROR (R181, R182). A yield carries the host's writes as a beat does (log
entry 4), and a grant that was not asked for, and a yield or an error with no transfer granted, move nothing (log entry
6): the model's choices. The grant stops its timeout; a yield in mid-transfer lets the beat complete, gives the bus up
and asks for it again with 10 ms afresh; the first error on a beat changes nothing but that the beat has been retried
once. -/
def Obligations.BusGrantYieldAndRetry : Prop :=
  ∀ (s : State) (host : List HostWrite),
    (s.port.xreq = true →
      exec .busGrant s = .next { s with port := { s.port with granted := true, grantTimer := Timer.off } }) ∧
    (s.port.xreq = false → exec .busGrant s = .next s) ∧
    (∀ t, s.granted = some t → t.next + 1 < t.beats →
      ∃ u v, exec (.memoryBeat host) s = .next u ∧ exec (.busYield host) s = .next v ∧
        v = { u with port := { u.port with
          xreq := true, granted := false, grantTimer := ⟨true, 10⟩, retried := false } }) ∧
    (∀ t, s.granted = some t → t.beats ≤ t.next + 1 → exec (.busYield host) s = exec (.memoryBeat host) s) ∧
    (s.granted = none → exec (.busYield host) s = .next (s.hostWrites host) ∧ exec .beatError s = .next s) ∧
    (∀ t, s.granted = some t → s.port.retried = false →
      exec .beatError s = .next { s with port := { s.port with retried := true } })

/-- A memory fault (R182): a second error on a beat, or 10 ms without a grant. The port gives up what it holds, FLT
takes the beat's address and the kind (11.5: 1 GRANT_TIMEOUT, 2 BUS_ERROR), ATT FAULT is raised; RUNNING and
WINDING_DOWN become STALLED with that state to resume, a start ends in HALTED with MEMORY_FAULT, and a RESUME is ended.
When the part stalls, and when a RESUME is ended, nothing that waits is lost (R138, R183, R184): the entries of the
write queue, the one being written first, go to the head of the pending list, which drops its oldest over 32 and counts
them; the finished cells go to the head of those held, the closed pages and the snapshots likewise. A PLAN_SWITCH whose
copy was being read joins the deferred list (R150, R174), at its tail also when it had been deferred before (the model's
choice, log entry 72). The rest of the desk and the other records stand. In HALTED, where mirrors are rewritten (R167),
the part stays HALTED; there and in a start what waits to be written is given up (the model's choice, log entry 47). A
GRANT_TIMEOUT with no request past its time changes nothing (the model's choice, log entry 6). -/
def Obligations.MemoryFaultByPartState : Prop :=
  ∀ (s : State) (t : Transfer),
    (s.granted = some t → s.port.retried = true →
      exec .beatError s = .next (s.memoryFault t.beatAddr .busError).conclude) ∧
    (s.ungranted = some t → exec .grantTimeout s = .next (s.memoryFault t.beatAddr .grantTimeout).conclude) ∧
    (s.ungranted = none → exec .grantTimeout s = .next s) ∧
    ∀ k, let u := s.memoryFault t.beatAddr k
      let items := (s.writer.current.toList.map Update.item) ++ s.writer.queue
      let entries := items.filterMap fun i => match i with | .journal e => some e | _ => none
      let answers := items.filterMap fun i => match i with | .cellDone a => some a | _ => none
      let pages := items.filterMap fun i => match i with | .closedPage c => some c | _ => none
      let dumps := items.filterMap fun i => match i with | .dump x => some x | _ => none
      let all := entries ++ s.writer.pending
      let gone := all.take (all.length - 32)
      let writer : Writer := { s.writer with
        queue := [], current := none, pending := all.drop (all.length - 32)
        drops := if gone = [] then s.writer.drops else min 4294967295 (s.writer.drops + gone.length)
        firstDrop := if s.writer.drops = 0 then (gone.head?.map JournalEntry.stamp).getD s.writer.firstDrop
          else s.writer.firstDrop
        lastDrop := (gone.getLast?.map JournalEntry.stamp).getD s.writer.lastDrop
        heldPages := pages ++ s.writer.heldPages, heldDumps := dumps ++ s.writer.heldDumps }
      let held := answers ++ s.desk.held
      let output := { s.output with wait := s.output.wait.map fun w => { w with openBegun := false } }
      u.clock = s.clock ∧ u.pending = s.pending ∧ (s.regs.part ≠ .starting → u.link = s.link) ∧
      u.regs.flt = w32 (t.beatAddr / 4 * 4 + (if k = .grantTimeout then 1 else 2)) ∧
      u.regs.att &&& 32#32 = 32#32 ∧ u.port = ⟨none, [], false, false, Timer.off, false⟩ ∧ u.mem = s.mem ∧
      u.frames = s.frames ∧ u.watch = s.watch ∧ u.disp = s.disp ∧ u.roving = s.roving ∧ u.rogue = s.rogue ∧
      (s.regs.part = .running ∨ s.regs.part = .windingDown →
        u.regs = { s.regs with
          flt := u.regs.flt, att := s.regs.att ||| 32#32, part := .stalled, resume := some s.regs.part } ∧
        u.writer = writer ∧ u.output = output ∧ u.plan = { s.plan with read := none } ∧
        u.desk = { s.desk with
          scan := none, scanTimer := ⟨false, 0⟩, lookAgain := false, held := held, deferred := u.desk.deferred } ∧
        (s.plan.read = none ∨ s.taking = [] → u.desk.deferred = s.desk.deferred) ∧
        ∀ c r, s.plan.read ≠ none → s.taking = c :: r → u.desk.deferred = s.desk.deferred ++
          (if ∃ x, x ∈ s.desk.deferred ∧ x.1 = c.cell then [] else [(c.cell, c.seq)])) ∧
      (s.regs.part = .starting → u.regs.part = .halted ∧ u.regs.startFault = .memoryFault ∧ u.regs.run = false ∧
        u.writer.queue = [] ∧ u.writer.current = none) ∧
      (s.regs.part = .halted → u.regs.part = .halted ∧ u.regs.startFault = s.regs.startFault ∧ u.writer.queue = [] ∧
        u.writer.current = none ∧ u.writer.pending = s.writer.pending ∧ u.desk = s.desk ∧ u.output = s.output) ∧
      (s.regs.part = .stalled →
        u.regs = { s.regs with flt := u.regs.flt, att := s.regs.att ||| 32#32, rewriting := none } ∧
        u.writer = writer ∧ u.output = output ∧ u.plan = s.plan ∧ u.desk = { s.desk with held := held })

/-! ### Spindle Watch -/

/-- SWEEP_TIMER and ROLLER_PULSE. At the expiry (R2) the frame's timer is loaded with the sweep period, and a sweep of
the sections in plan begins unless one is in progress (the model's choice, log entry 13); a timer that has not run out
changes nothing (the model's choice, log entry 6). At a pulse (R130) the prescaler counts down, and at 1 it is loaded
again and a revolution counted; an input whose prescaler is 0 is not counted (R129), and no pulse is counted in HALTED,
nor from the PART_STOP boundary on (R144). Nothing else changes. -/
def Obligations.SweepTimerAndRollerPulse : Prop :=
  ∀ (s : State) (f : Nat), s.formed = true →
    (s.regs.part = .halted ∨ s.regs.ending ≠ none → exec (.rollerPulse f) s = .next s) ∧
    (s.regs.part ≠ .halted → s.regs.ending = none → ∃ u, exec (.rollerPulse f) s = .next u ∧
      u = { s with output := { s.output with rollers := u.output.rollers } } ∧ (∀ g, g ≠ f → u.roller g = s.roller g) ∧
      ((s.roller f).prescaler = 0 → u.roller f = s.roller f) ∧
      ((s.roller f).prescaler = 1 → u.roller f = { s.roller f with
        prescaler := (s.frameSettings f).pulses, revolutions := (s.roller f).revolutions + 1#32 }) ∧
      (1 < (s.roller f).prescaler → u.roller f = { s.roller f with prescaler := (s.roller f).prescaler - 1 })) ∧
    ((s.regs.part ≠ .halted ∧ (s.sweep f).timer = ⟨true, 0⟩) →
      ∃ u, exec (.sweepTimer f) s = .next u ∧
        u = { s with watch := { s.watch with sweeps := u.watch.sweeps } } ∧
        ((s.sweep f).left = [] → u.sweep f =
          ⟨⟨true, s.settings.sweepPeriod⟩, s.settings.sweepPeriod, sectionsInPlan (s.frameSettings f).perSide⟩) ∧
        ((s.sweep f).left ≠ [] → u.sweep f = { s.sweep f with timer := ⟨true, s.settings.sweepPeriod⟩ }) ∧
        ∀ g, g ≠ f → u.sweep g = s.sweep g) ∧
    (¬(s.regs.part ≠ .halted ∧ (s.sweep f).timer = ⟨true, 0⟩) → exec (.sweepTimer f) s = .next s)

/-- STRIP_READ and STRIP_NO_REPLY (R1 to R4). A reply is good when it has all 14 bytes, the section addressed and the
check byte; its 24 counts are the halves of its 12 middle bytes, the lower position in the high half (11.4). The strip
addressed is taken whole and the next is addressed; after the last the sweep ends; a strip whose section has left the
plan changes nothing (the model's choice, log entry 13), and with no strip addressed nothing changes (the model's
choice, log entry 6). Blindness comes first (R3): a bad read adds 1 to the bad run and clears the good one, a good read
the other way round, both up to 3; a clear strip goes blind at 3 bad reads, with STRIP_BLIND journalled, the frame's
ALARM bit and ATT ALARM and ATT JOURNAL; a blind one clears at 3 good reads, with STRIP_CLEAR journalled (its section is
the model's choice, log entry 38). A bad read changes nothing else. A good read is judged when the strip was not blind
before it and the frame is BUILDING, NEARING, CALLED or DRAINING (R4): its 24 spindles in ascending order, and then the
breaks found are settled in that order (R2); in self-check it is a loop sweep in those four states. The mode is the
strip record's when the reply comes (the model's choice, log entry 49). -/
def Obligations.StripReadIsTakenWhole : Prop :=
  (∀ (k : Nat) (reply : List Byte),
    ((stripCounts k reply).isSome = true ↔
      reply.length = 14 ∧ reply.head? = some (BitVec.ofNat 8 k) ∧
        reply.getLast? = some (~~~ (reply.take 13).foldl (· + ·) 0#8)) ∧
    ∀ v, stripCounts k reply = some v → v.length = 24 ∧
      ∀ i, i < 12 → v.getD (2 * i) 0 = (reply.getD (i + 1) 0#8).toNat / 16 ∧
        v.getD (2 * i + 1) 0 = (reply.getD (i + 1) 0#8).toNat % 16) ∧
  (∀ (s : State) (f k : Nat) (rest : List Nat) (reply : List Byte),
    (s.live = false ∨ (s.sweep f).left = [] →
      exec (.stripRead f reply) s = .next s ∧ exec (.stripNoReply f) s = .next s) ∧
    (s.live = true → (s.sweep f).left = k :: rest →
      let ended (u : State) : State :=
        let v := u.setSweep f { u.sweep f with left := rest }
        if rest = [] then v.sweepEnd f else v
      ((s.frameSettings f).sectionIn k = true →
        exec (.stripRead f reply) s = .next (ended (s.takeRead f k (stripCounts k reply))).conclude ∧
        exec (.stripNoReply f) s = .next (ended (s.takeRead f k none)).conclude) ∧
      ((s.frameSettings f).sectionIn k = false →
        exec (.stripRead f reply) s = .next (ended s).conclude ∧ exec (.stripNoReply f) s = .next (ended s).conclude))) ∧
  (∀ (s : State) (f k : Nat) (v : List Nat),
    let st := (s.frame f).state
    let judges := st = .building ∨ st = .nearing ∨ st = .called ∨ st = .draining
    let x := s.strip (creelNo f k)
    let counted := s.countRead f k true
    s.takeRead f k none = s.countRead f k false ∧
    (x.check = none → judges ∧ x.blind = false → s.takeRead f k (some v) = counted.judgeStrip f k v) ∧
    (x.check = none → ¬(judges ∧ x.blind = false) → s.takeRead f k (some v) = counted) ∧
    (∀ c, x.check = some c → judges → s.takeRead f k (some v) = counted.loopSweep f k c v) ∧
    (x.check ≠ none → ¬judges → s.takeRead f k (some v) = counted)) ∧
  (∀ (s : State) (f k : Nat) (v : List Nat),
    let judged := judgeAll f ((List.range' (24 * (k - 1) + 1) 24).zip v) s
    s.judgeStrip f k v = judged.2.foldl (fun t b => t.settleBreak f b.1 b.2) judged.1) ∧
  (∀ (s : State) (f n count : Nat) (r : List (Nat × Nat)),
    let one := s.judge f n count
    let others := judgeAll f r one.1
    judgeAll f [] s = (s, []) ∧
      judgeAll f ((n, count) :: r) s = (others.1, (one.2.toList.map fun c => (n, c)) ++ others.2)) ∧
  ∀ (s : State) (f k : Nat) (good : Bool), s.formed = true →
    let x := s.strip (creelNo f k)
    let u := s.countRead f k good
    let y := u.strip (creelNo f k)
    y.badRun = (if good then 0 else min 3 (x.badRun + 1)) ∧
    y.goodRun = (if good then min 3 (x.goodRun + 1) else 0) ∧
    y.check = x.check ∧
    (y.blind = true ↔ (x.blind = true ∧ y.goodRun ≠ 3) ∨ (x.blind = false ∧ y.badRun = 3)) ∧
    (x.blind = false → y.blind = true → u.journalled .stripBlind f 0 [w32 k] ∧
      (u.frame f).alarm = true ∧ u.regs.att &&& 8#32 = 8#32 ∧ u.regs.att &&& 2#32 = 2#32) ∧
    (x.blind = true → y.blind = false → u.journalled .stripClear f 0 [w32 k]) ∧
    u.watch.spindles = s.watch.spindles ∧ (∀ c, c ≠ creelNo f k → u.strip c = s.strip c) ∧
    u.disp = s.disp ∧ u.roving = s.roving ∧ u.output = s.output

/-- The judgement of a SETTLING spindle (R6): Ku consecutive high sweeps make it RUNNING; Kd consecutive low sweeps, or
32 sweeps without either run, are a DOFF_START break. -/
def Obligations.SettlingIsJudged : Prop :=
  ∀ (s : State) (f n count : Nat), s.formed = true → (s.spindle f n).state = .settling →
    let y := (s.spindle f n).push (decide (s.settings.passThreshold ≤ count))
    let u := s.judge f n count
    (y.highRun s.settings.ku = true →
      u.2 = none ∧ u.1.spindle f n = { y with state := .running, since := 0 }) ∧
    (y.highRun s.settings.ku = false → u.1.spindle f n = y ∧
      u.2 = if y.lowRun s.settings.kd = true ∨ y.since = 32 then some .doffStart else none)

/-- The judgement of a RUNNING spindle (R7, R14): Kd consecutive low sweeps are a RUN break; else a count of lows above
the slip limit, among the sweeps since the state was entered and at most the last 32, sets slip. When slip was clear
before, and only then, SLIP is journalled with frame and spindle and the frame's slips count of the open page rises by
1, up to its top; nothing else changes. -/
def Obligations.RunningIsJudged : Prop :=
  ∀ (s : State) (f n count : Nat), s.formed = true → (s.spindle f n).state = .running →
    let y := (s.spindle f n).push (decide (s.settings.passThreshold ≤ count))
    let u := s.judge f n count
    (u.2 = if y.lowRun s.settings.kd = true then some .run else none) ∧
    (y.lowRun s.settings.kd = true → u.1.spindle f n = y) ∧
    (y.lowRun s.settings.kd = false →
      u.1.spindle f n = { y with slip := y.slip || decide (s.settings.slipLimit < y.lows) }) ∧
    y.lows = ((List.range y.since).filter fun i => !y.history.getLsbD i).length ∧
    let slips := y.lowRun s.settings.kd = false ∧ s.settings.slipLimit < y.lows ∧ y.slip = false
    let v := (s.setSpindle f n { y with slip := true }).journal .slip f 0 [w32 n]
    (slips → u.1.journalled .slip f 0 [w32 n] ∧
      (s.output.page = none → u.1 = v) ∧
      (s.output.page ≠ none →
        u.1.counts f = { s.counts f with slips := min 4294967295 ((s.counts f).slips + 1) } ∧
        (∀ g, g ≠ f → u.1.counts g = s.counts g) ∧
        u.1.output = { s.output with counts := u.1.output.counts } ∧
        u.1 = State.markItem .openPage { v with output := u.1.output })) ∧
    (¬slips → u.1 = s.setSpindle f n y)

/-- The judgement of a PROVING spindle (R8): Ku consecutive high sweeps make it RUNNING with attempts 0, PIECED
journalled and counted; Kd consecutive low sweeps, or 32 sweeps without either run, are a PROVE_FAIL break. -/
def Obligations.ProvingIsJudged : Prop :=
  ∀ (s : State) (f n count : Nat), s.formed = true → (s.spindle f n).state = .proving →
    let y := (s.spindle f n).push (decide (s.settings.passThreshold ≤ count))
    let u := s.judge f n count
    (y.highRun s.settings.ku = true →
      u.2 = none ∧ u.1.spindle f n = { y with state := .running, since := 0, attempts := 0 } ∧
        u.1.journalled .pieced f 0 [w32 n] ∧
        (s.output.page ≠ none → (u.1.counts f).pieced = min 4294967295 ((s.counts f).pieced + 1))) ∧
    (y.highRun s.settings.ku = false → u.1.spindle f n = y ∧
      u.2 = if y.lowRun s.settings.kd = true ∨ y.since = 32 then some .proveFail else none)

/-- The history takes the newest result and since rises to 32; of the other states of a judged spindle (R4), ABSENT and
CHECKING are left alone, and DOWN, PIECING, STARVED and CUT_OUT have no test. -/
def Obligations.OtherStatesHaveNoTest : Prop :=
  ∀ (s : State) (f n count : Nat), s.formed = true →
    let high := decide (s.settings.passThreshold ≤ count)
    let x := s.spindle f n
    let y := x.push high
    let u := s.judge f n count
    y.history.getLsbD 0 = high ∧ (∀ i, i < 31 → y.history.getLsbD (i + 1) = x.history.getLsbD i) ∧
    y = { x with history := y.history, since := min 32 (x.since + 1) } ∧
    ((s.spindle f n).state = .absent ∨ (s.spindle f n).state = .checking → u = (s, none)) ∧
    ((s.spindle f n).state = .down ∨ (s.spindle f n).state = .piecing ∨ (s.spindle f n).state = .starved ∨
      (s.spindle f n).state = .cutOut → u.2 = none ∧ u.1.spindle f n = y)

/-- A qualified break by its class and its section (R9): at remaining 0 the spindle is STARVED and counted as STARVE;
else a DOFF_START makes it DOWN, listed when the list has room; a RUN break does so unless the table says ROGUE, which
makes it CUT_OUT; a PROVE_FAIL adds an attempt, and below the attempt limit the spindle is DOWN and listed when the list
has room, at the limit CUT_OUT by ATTEMPTS, with PIECE_FAIL journalled and counted (R11, R59, R60). last_class takes the
class, the break is counted by its class, a cut-out by its cause, and BREAK is journalled with its outcome. The outcome
6 of PIECE_FAIL is its place in R60's list (deduced, log entry 7). -/
def Obligations.BreaksAreSettled : Prop :=
  ∀ (s : State) (f n : Nat) (c : BreakClass), s.formed = true →
    let empty := (s.creel (creelNo f ((n - 1) / 24 + 1))).remaining = 0
    let u := s.settleBreak f n c
    let x := s.spindle f n
    let y := u.spindle f n
    let room := (s.side (sideOf f n)).entries.length < 64
    let outcome := if y.state = .starved then 3#32 else if y.state = .cutOut then 4#32 else
      if y.listed = true then 1#32 else 2#32
    let up (k : Nat) := min 4294967295 (k + 1)
    let counts (new : Counts) : Prop := u.counts f = if s.output.page = none then s.counts f else new
    let a := s.counts f
    (empty → y.state = .starved ∧ y.lastClass = some .starve ∧ y.listed = x.listed ∧
      u.rogue = s.rogue ∧ u.disp = s.disp ∧ counts { a with breakStarve := up a.breakStarve } ∧
      u.journalled .break f 0 [w32 n, 4#32, 3#32, 0#32]) ∧
    (¬empty → y.lastClass = some c ∧
      (c = .doffStart → y.state = .down ∧ y.listed = decide room ∧ u.rogue = s.rogue ∧
        counts { a with breakDoffStart := up a.breakDoffStart } ∧
        u.journalled .break f 0 [w32 n, 2#32, outcome, 0#32]) ∧
      (c = .run →
        let v := s.rogue.lookup (spindleKey f n) s.clock (600 * s.settings.rogueWindow) s.settings.rogueLimit
        u.rogue = v.1 ∧ u.journalled .break f 0 [w32 n, 1#32, outcome, w32 v.2.repeats] ∧
        (v.2.rogue = true → y.state = .cutOut ∧ y.cutCause = some .rogue ∧ u.disp = s.disp ∧
          counts { a with breakRun := up a.breakRun, cutRogue := up a.cutRogue }) ∧
        (v.2.rogue = false → y.state = .down ∧ y.listed = decide room ∧
          counts { a with breakRun := up a.breakRun })) ∧
      (c = .proveFail →
        let attempts := min 7 (x.attempts + 1)
        y.attempts = attempts ∧ u.rogue = s.rogue ∧ u.journalled .break f 0 [w32 n, 3#32, outcome, 0#32] ∧
        (attempts < s.settings.attemptLimit → y.state = .down ∧ y.listed = decide room ∧
          u.journalled .pieceFail f 0 [w32 n, 0#32, 6#32, 0#32, w32 attempts, 0#32] ∧
          counts { a with breakProveFail := up a.breakProveFail, pieceFailures := up a.pieceFailures }) ∧
        (s.settings.attemptLimit ≤ attempts → y.state = .cutOut ∧ y.cutCause = some .attempts ∧ u.disp = s.disp ∧
          u.journalled .pieceFail f 0 [w32 n, 0#32, 6#32, 0#32, w32 attempts, 1#32] ∧
          counts { a with
            breakProveFail := up a.breakProveFail, pieceFailures := up a.pieceFailures
            cutAttempts := up a.cutAttempts })))

/-- The end of a sweep (R2, R131, R132): its running and in-plan counts go into the frame's capture. The advance is
taken from the revolutions since the last capture with the carry; the lengths, the weight and, in a running state, the
sweeps are counted in the open page; the build grows; in a running state the advance is handed on as consumption, with
the delivery rate and the period the sweep ran under (R107; log entry 20); the notice follows. Consumption (R106): every
section in plan loses the roving used, and in ascending order takes the low test (R108) and, when its roving had not run
out before, the run-out test (R109). The notice (R81, R93) by the frame's state; the end of a grace (R94): a doff in its
grace is completed, the spindles start afresh (R13; slip of a CHECKING spindle too, log entry 39), the frame goes where
its build_m and doff_owed put it, a FRAME_START is DONE (the cells of the book are distinct, EveryStepKeepsTheBook). A
doff's completion (R95; DOFF_DONE carries build_m, log entry 46; the completion DOFFED of a DOFF_NOW is coded 1,
deduced, log entry 64). -/
def Obligations.SweepsEnd : Prop :=
  let runs (st : FrameState) : Prop :=
    st = .restarting ∨ st = .building ∨ st = .nearing ∨ st = .called ∨ st = .draining
  (∀ (s : State) (f : Nat), s.formed = true →
    let running := ((List.range' 1 1824).filter fun n => decide ((s.spindle f n).state = .running)).length
    let planned := ((List.range' 1 1824).filter fun n => decide ((s.spindle f n).state ≠ .absent)).length
    s.sweepEnd f = s.sweepCapture f running planned (s.sweep f).period) ∧
  (∀ (s : State) (f running planned period : Nat), s.formed = true →
    let x := s.frame f
    let r := s.roller f
    let t := s.frameSettings f
    let length := (r.revolutions - r.lastCapture).toNat * t.circumference + r.lengthCarry
    let advance := length / 100
    let build := min 4294967295 (r.build + advance)
    let a := s.counts f
    let u := s.sweepCapture f running planned period
    let b := u.counts f
    (u.roller f).lastCapture = r.revolutions ∧ (u.roller f).revolutions = r.revolutions ∧
    (u.roller f).prescaler = r.prescaler ∧ (u.roller f).lengthCarry = length % 100 ∧
    (u.roller f).lastRunning = running ∧
    (x.state ≠ .restarting ∨ x.doffFinish ≠ .pending →
      (u.roller f).build = build ∧ (u.frame f).buildM = build / 1000) ∧
    (s.output.page = none → b = a) ∧
    (s.output.page ≠ none →
      b.frontMm = min 4294967295 (a.frontMm + advance) ∧
      b.spindleMm = min 18446744073709551615 (a.spindleMm + advance * running) ∧
      b.weightSum = a.weightSum + advance * running * t.tex ∧
      b.runningSweeps = (if runs x.state then min 18446744073709551615 (a.runningSweeps + running)
        else a.runningSweeps) ∧
      b.plannedSweeps = (if runs x.state then min 18446744073709551615 (a.plannedSweeps + planned)
        else a.plannedSweeps) ∧
      (∀ m, x.state = .halted ∨ x.state = .stopping ∨ x.state = .doffing → r.stopMark = some m →
        b.stopDs = min 4294967295 (a.stopDs + (s.clock - m).toNat) ∧ (u.roller f).stopMark = some s.clock) ∧
      .openPage ∈ u.writer.queue) ∧
    (runs x.state → t.perSide ≤ 912 →
      let total := advance * 10 + (s.feed f).carry
      u.feed f = ⟨total % t.draft, advance, period⟩ ∧
      ∀ k, (u.creel k).remaining = (s.creel k).remaining -
        if k ∈ (sectionsInPlan t.perSide).map (creelNo f) then total / t.draft else 0) ∧
    (¬runs x.state → u.feed f = s.feed f ∧ u.roving = s.roving)) ∧
  (∀ (s : State) (f advance : Nat), s.formed = true → (s.frameSettings f).perSide ≤ 912 →
    let t := s.frameSettings f
    let sections := (sectionsInPlan t.perSide).map (creelNo f)
    let total := advance * 10 + (s.feed f).carry
    ∃ v : State, s.consume f advance = sections.foldl
        (fun w k => if (s.creel k).remaining = 0 then w.lowTest k else (w.lowTest k).runOutTest k) v ∧
      v.feed f = { s.feed f with carry := total % t.draft } ∧ v.watch = s.watch ∧ v.disp = s.disp ∧
      v.frames = s.frames ∧ v.roving.queue = s.roving.queue ∧ v.roving.carriers = s.roving.carriers ∧
      ∀ k, v.creel k = { s.creel k with
        remaining := (s.creel k).remaining - if k ∈ sections then total / t.draft else 0 }) ∧
  (∀ (s : State) (k : Nat), s.formed = true →
    let f := (k - 1) / 76 + 1
    let x := s.creel k
    let g := s.feed f
    let low := x.state = .fed ∧ x.remaining / 1000 ≤ (s.frameSettings f).lowThreshold
    let u := s.lowTest k
    let due := s.clock.toNat + x.remaining * (s.frameSettings f).draft * g.period / (g.rate * 1000)
    (¬low → u = s) ∧
    (low → u.journalled .sectionLow f 0 [w32 ((k - 1) % 76 + 1), w32 (x.remaining / 1000)] ∧
      (32 ≤ s.roving.queue.length → u.creel k = { x with state := .low } ∧ u.roving.queue = s.roving.queue) ∧
      (s.roving.queue.length < 32 → k ∈ u.roving.queue ∧ u.creel k = { x with
        state := .queued
        queueStamp := some (if g.rate = 0 ∨ 4294967295 < due then 4294967295#32 else w32 due) }) ∧
      (∀ e, e ≠ k → u.creel e = s.creel e) ∧ u.watch = s.watch ∧ u.disp = s.disp ∧ u.frames = s.frames)) ∧
  (∀ (s : State) (k : Nat), s.formed = true → 1 ≤ k →
    let f := (k - 1) / 76 + 1
    let x := s.creel k
    let u := s.runOutTest k
    (x.remaining ≠ 0 → u = s) ∧
    (x.remaining = 0 → u.journalled .sectionEmpty f 0 [w32 ((k - 1) % 76 + 1), w32 x.state.code] ∧
      (u.frame f).alarm = true ∧ u.regs.att &&& 8#32 = 8#32 ∧ u.regs.att &&& 2#32 = 2#32 ∧
      (u.creel k).remaining = 0 ∧ (u.creel k).state = x.state ∧
      ∀ n, 24 * ((k - 1) % 76) < n → n ≤ 24 * ((k - 1) % 76) + 24 →
        let z := s.spindle f n
        let y := u.spindle f n
        (z.state = .down → y.state = .starved ∧
          (z.listed = true → ∀ e, e ∈ (u.side (sideOf f n)).entries → e.spindle ≠ n)) ∧
        (z.state = .piecing →
          (∀ p, (s.side (sideOf f n)).piecer = some p → (s.piecer p).side = some (sideOf f n) →
            (s.piecer p).current ≠ none → (s.piecer p).spindle = some n → y.state = .starved ∧
            (u.piecer p).current = none ∧ (u.piecer p).void = (s.piecer p).current)) ∧
        (z.state = .checking → z.saved = some .down → y = { z with saved := some .starved }) ∧
        (z.state ≠ .down → z.state ≠ .piecing → ¬(z.state = .checking ∧ z.saved = some .down) → y = z))) ∧
  (∀ (s : State) (f : Nat), s.formed = true →
    let x := s.frame f
    let r := s.roller f
    let u := s.notice f
    let t := s.setFrame f { x with buildM := r.build / 1000 }
    let calls := (x.state = .building ∨ x.state = .nearing) ∧ r.doffValue ≤ r.build
    let nears := x.state = .building ∧ r.nearingValue ≤ r.build ∧ r.build < r.doffValue
    (calls → s.freeSlot = none →
      u.frame f = { x with
        buildM := r.build / 1000, state := .called, callStamp := some s.clock, callCause := some .compare } ∧
      u.journalled .doffCalled f 0 [1#32, w32 (r.build / 1000)]) ∧
    (calls → (u.frame f).state = .called ∨ ((u.frame f).state = .draining ∧ (u.frame f).slot ≠ none)) ∧
    (nears → u.frame f = { x with buildM := r.build / 1000, state := .nearing }) ∧
    (¬calls → ¬nears → x.state ≠ .restarting ∨ x.grace = none → u = t) ∧
    (x.state = .restarting → ∀ g, x.grace = some g →
      let v := t.setFrame f { x with buildM := r.build / 1000, grace := some (g - 1) }
      (1 < g → u = v) ∧ (g ≤ 1 → u = v.graceEnd f))) ∧
  (∀ (s : State) (f : Nat), s.formed = true →
    let x := s.frame f
    let r := s.roller f
    let pending := x.doffFinish = .pending
    let build := if pending then 0 else 1000 * x.buildM
    let u := s.graceEnd f
    let y := u.frame f
    let called := x.doffOwed = true ∨ r.doffValue ≤ build
    let entered := if called then 6#32 else if r.nearingValue ≤ build then 5#32 else 4#32
    y.doffFinish = .none ∧ y.grace = none ∧ y.buildM = (if pending then 0 else x.buildM) ∧
    (pending → x.state ≠ .called → (u.roller f).build = 0 ∧
      (s.output.page ≠ none → (u.counts f).doffs = min 4294967295 ((s.counts f).doffs + 1)) ∧
      (¬called → y.slot = none)) ∧
    (called → (y.state = .called ∧ y.callCause = some (if x.doffOwed = true then .owed else .compare)) ∨
      (y.state = .draining ∧ y.slot ≠ none)) ∧
    (¬called → y.state = if r.nearingValue ≤ build then .nearing else .building) ∧
    ((s.desk.book.map BookEntry.cell).Nodup → ∀ b, b ∈ s.desk.book → b.kind = .frameStart → b.p1 = w32 f →
      u.finished b.cell none [entered]) ∧
    (x.doffFinish = .none → u.journalled .frameRun f 0 [entered]) ∧
    ∀ n, 1 ≤ n → n ≤ 1824 → (s.spindle f n).state ≠ .piecing →
      let z := s.spindle f n
      let slip := z.slip && decide (x.doffFinish = .none)
      u.spindle f n =
        if z.state = .running then { z with state := .settling, since := 0, slip := slip }
        else if z.state = .proving then { z with state := .settling, since := 0, attempts := 0, slip := slip }
        else { z with slip := slip }) ∧
  ∀ (s : State) (f : Nat), s.formed = true → (s.frame f).state ≠ .called →
    let x := s.frame f
    let u := s.completeDoff f
    u.frame f = { x with buildM := 0, slot := none } ∧ u.roller f = { s.roller f with build := 0 } ∧
    (s.output.page ≠ none →
      u.counts f = { s.counts f with doffs := min 4294967295 ((s.counts f).doffs + 1) }) ∧
    u.journalled .doffDone f 0 [w32 (x.slot.getD 0), w32 x.buildM, x.doneStamp] ∧
    ∀ b, b ∈ s.desk.book → b.kind = .doffNow → b.p1 = w32 f →
      u.finished b.cell none [1#32, x.doneStamp, w32 x.drainBuild]

/-! ### Repeat-Breaker Table -/

/-- Keys and sets (R26): every spindle has one key and no two share one, the keys run from 1 to 16,160, and the set of a
spindle is its number modulo 16 on every frame, 114 positions to a set on each. -/
def Obligations.KeysAndSets : Prop :=
  (∀ f n, spindleKey f n = (f - 1) * 2048 + n ∧ setOfKey (spindleKey f n) = spindleKey f n % 16 ∧
    setOfKey (spindleKey f n) = n % 16) ∧
  (∀ f n g m, 1 ≤ f → f ≤ 8 → 1 ≤ n → n ≤ 1824 → 1 ≤ g → g ≤ 8 → 1 ≤ m → m ≤ 1824 →
    1 ≤ spindleKey f n ∧ spindleKey f n ≤ 16160 ∧ (spindleKey f n = spindleKey g m → f = g ∧ n = m)) ∧
  spindleKey 1 1 = 1 ∧ spindleKey 8 1824 = 16160 ∧
  ∀ k, k < 16 → ((List.range' 1 1824).filter fun n => setOfKey n == k).length = 114

/-- The way a miss writes into and the way a touch leaves most recent (R27, R28): the lowest invalid way, else the one
the choices name; a touch turns the pair choice and its own pair's choice away from the way touched. A lookup (R29 to
R33). A miss makes the set's target way valid with the key, count 1 and the clock; a hit whose window has expired starts
a new window with count 1; a hit with its window open adds 1, and at the rogue limit it answers ROGUE and makes the
entry invalid. The way is touched in each case, and no other entry and no other set's choices change. -/
def Obligations.LookupsAndTargets : Prop :=
  ((∀ r : Recency,
     r.touch 0 = ⟨true, true, r.high⟩ ∧ r.touch 1 = ⟨true, false, r.high⟩ ∧ r.touch 2 = ⟨false, r.low, true⟩ ∧
       r.touch 3 = ⟨false, r.low, false⟩ ∧ ∀ w, w < 4 → (r.touch w).victim ≠ w) ∧
   ∀ (t : RogueTable) (set : Nat),
     (∀ w, w < 4 → (t.entry set w).valid = false → (∀ v, v < w → (t.entry set v).valid = true) → t.target set = w) ∧
     ((∀ w, w < 4 → (t.entry set w).valid = true) →
       let r := t.choices set
       t.target set = if r.pair = true then (if r.high = true then 3 else 2) else if r.low = true then 1 else 0)) ∧
  (∀ (t : RogueTable) (key : Nat) (clock : Word) (window limit : Nat), t.formed = true →
     let set := key % 16
     let u := t.lookup key clock window limit
     let at' (w : Nat) (e : RogueEntry) : Prop := u.1.entry set w = e ∧ u.1.choices set = (t.choices set).touch w ∧
       (∀ set' w', w < 4 → w' < 4 → set' ≠ set ∨ w' ≠ w → u.1.entry set' w' = t.entry set' w') ∧
       ∀ set', set' ≠ set → u.1.choices set' = t.choices set'
     ((∀ w, w < 4 → ¬((t.entry set w).valid = true ∧ (t.entry set w).key = key)) →
       at' (t.target set) ⟨true, key, 1, clock⟩ ∧ u.2 = ⟨false, 1⟩) ∧
     ∀ w, w < 4 → (t.entry set w).valid = true → (t.entry set w).key = key →
       (∀ v, v < w → ¬((t.entry set v).valid = true ∧ (t.entry set v).key = key)) →
       let e := t.entry set w
       let age := (clock - e.firstStamp).toNat
       (window < age → at' w { e with count := 1, firstStamp := clock } ∧ u.2 = ⟨false, 1⟩) ∧
       (age ≤ window → e.count + 1 < limit → at' w { e with count := e.count + 1 } ∧ u.2 = ⟨false, e.count + 1⟩) ∧
       (age ≤ window → limit ≤ e.count + 1 → at' w ⟨false, 0, 0, 0#32⟩ ∧ u.2 = ⟨true, e.count + 1⟩))

/-! ### Lists and queues -/

/-- A spindle handed over (R38) is listed at the tail of its side's list with the mill clock and its last class, and its
listed field set, while the list holds fewer than 64; on a full list nothing is done. -/
def Obligations.ListingTakesTheTail : Prop :=
  ∀ (s : State) (f n : Nat), s.formed = true →
    let d := sideOf f n
    let u := s.listSpindle f n
    ((s.side d).entries.length < 64 →
      u.side d = { s.side d with
        entries := (s.side d).entries ++ [⟨n, s.clock, (s.spindle f n).lastClass⟩] } ∧
      u.spindle f n = { s.spindle f n with listed := true } ∧
      (∀ e, e ≠ d → u.side e = s.side e) ∧
      ∀ g m, spindleKey g m ≠ spindleKey f n → u.spindle g m = s.spindle g m) ∧
    (64 ≤ (s.side d).entries.length → u = s)

/-- The journal (R178 to R180). Unread entries are (W - R) mod C, and an entry has room when it leaves unread below C
beside those that wait to be written (log entry 11). An entry generated goes to the write queue when the part writes its
journal, nothing is pending and there is room, else to the tail of the pending list; a list of 32 drops its oldest
first, with the drop count and the stamps of the first and the last drop kept. An entry is written whole at W; then W
advances and the header follows, and ATT JOURNAL is raised when unread comes to the threshold. A read mark is taken when
it lies between the last one and W; room then returns: a GAP first when entries were dropped, then the pending entries
from the oldest, as many as there is room for and no more. Unread entries with those that wait to be written never
exceed the capacity minus one: it is so after reset, and every step keeps it (State.marksKept, where the registers agree
with the part state). -/
def Obligations.JournalKeepsItsMarks : Prop :=
  (∀ s : State,
    s.unread = (s.writer.writeMark + s.writer.capacity - s.desk.readMark) % s.writer.capacity ∧
    (s.journalRoom = true ↔ s.unread + s.journalWaiting + 1 < s.writer.capacity) ∧
    (s.journalOpen = true ↔ s.regs.part = .running ∨ s.regs.part = .windingDown ∨
      (s.regs.part = .starting ∧ (s.regs.start = some .writes ∨ s.regs.start = some .pages)))) ∧
  (∀ (s : State) (k : JournalKind) (frame unit : Nat) (fields : List Word), s.formed = true →
    let e : JournalEntry := ⟨k, frame, unit, s.clock, fields⟩
    let urgent := k = .unitLost ∨ k = .frameHalt ∨ k = .sectionEmpty ∨ k = .lotMismatch ∨ k = .stripBlind ∨ k = .doffFault
    let regs := if urgent then { s.regs with att := s.regs.att ||| 2#32 } else s.regs
    let w := s.writer
    (s.journalOpen = true → w.pending = [] → s.journalRoom = true →
      s.journal k frame unit fields = { s with regs := regs, writer := { w with queue := w.queue ++ [.journal e] } }) ∧
    (¬(s.journalOpen = true ∧ w.pending = [] ∧ s.journalRoom = true) → w.pending.length < 32 →
      s.journal k frame unit fields = { s with regs := regs, writer := { w with pending := w.pending ++ [e] } }) ∧
    ∀ old r, w.pending = old :: r → w.pending.length = 32 →
      s.journal k frame unit fields = { s with
        regs := regs
        writer := { w with
          pending := r ++ [e], drops := min 4294967295 (w.drops + 1)
          firstDrop := if w.drops = 0 then old.stamp else w.firstDrop, lastDrop := old.stamp } }) ∧
  (∀ (s : State) (e : JournalEntry),
    let u := s.itemWritten (.journal e)
    s.fieldRuns (.journal e) = [(0x14000 + 32 * s.writer.writeMark, e.toWords)] ∧ e.toWords.length = 8 ∧
    u.writer.writeMark = (s.writer.writeMark + 1) % s.writer.capacity ∧ .header ∈ u.writer.queue ∧
    u.writer.current = none ∧
    u.regs = if s.unread < s.settings.journalThreshold ∧ s.settings.journalThreshold ≤ u.unread then
      { s.regs with att := s.regs.att ||| 2#32 } else s.regs) ∧
  (∀ (s : State) (word : Word), s.formed = true →
    let c := s.writer.capacity
    let taken := word.toNat < c ∧ (word.toNat + c - s.desk.readMark) % c ≤ s.unread
    (taken → s.takeReadMark word = State.flushJournal { s with desk := { s.desk with readMark := word.toNat } }) ∧
    (¬taken → s.takeReadMark word = s)) ∧
  (∀ s : State, s.formed = true →
    let w := s.writer
    let u := s.flushJournal
    let gap : WriteItem := .journal ⟨.gap, 0, 0, s.clock, [w32 w.drops, w.firstDrop, w.lastDrop]⟩
    (0 < w.drops → s.journalRoom = false → u = s) ∧
    (w.drops = 0 ∨ s.journalRoom = true →
      let room := w.capacity - 1 - s.unread - s.journalWaiting
      let n := min w.pending.length (room - (if w.drops = 0 then 0 else 1))
      u = { s with writer := { w with
        drops := 0, pending := w.pending.drop n
        queue := w.queue ++ (if w.drops = 0 then [] else [gap]) ++ (w.pending.take n).map .journal } } ∧
      (n < w.pending.length → u.journalRoom = false))) ∧
  State.reset.marksKept = true ∧
  (∀ s : State, s.marksKept = true → 0 < s.writer.capacity →
    s.unread + s.journalWaiting ≤ s.writer.capacity - 1 ∧ s.writer.writeMark < s.writer.capacity ∧
      s.desk.readMark < s.writer.capacity) ∧
  ∀ s t : State, s.sound = true → s.marksKept = true → step s = .next t → t.marksKept = true

/-- The change numbers of the updates (R169) and the serving of the write queue (R170): not in STALLED outside a RESUME
(R183), nor in STARTING before the writes of the plan_fault words or of step 5 (R165). Where each record's number and
fields stand (11.2). The item at the head of the queue is begun when none is being written: at a number that the part
holds at once, else with a read of the record's number first, from which it counts on. An update is one run of writes:
the next odd value above the number, the fields as they stand when it begins, and the next even value, in transfers of
at most 8 words, one after the other (the model's choice of split, log entry 9); the part holds the odd value from its
beginning on (the model's choice, log entry 48) and the even one when the last write has ended, which is the end of the
item. Cells, journal entries and the bytes behind a spindle map carry no number. A cell TAKEN is its stage word alone; a
finished cell is its reason, six result words and stamp first and its stage, DONE or REFUSED, last (R171, R175), and
when it has been written ATT ORDER is raised. What the fields hold (11.2: R23, R36, R61, R79, R104, R127, R136, R153,
R196): the header's words and the page's and its frame blocks' words in their order; the frame, unit and section
mirrors, the blocks of the spindle map, the dump and the head of a journal entry byte by byte, each value least
significant byte first (leBytes), an absent one as 0, and the bytes left over 0. The codes are the places in the lists
of their chapters (R198); those of doff_finish, placement, presence and patrol direction are read so by inference (log
entries 7, 57 and 61), and so is that the fields of a unit mirror stand with no byte between them (log entry 68). The
zeros behind a spindle map are the model's choice (log entry 9), and so are the zeros in the field words that a journal
entry's kind does not use (log entry 69). -/
def Obligations.UpdatesAreNumbered : Prop :=
  let spread (r : Nat × List Word) : List (Nat × Word) :=
    (List.range r.2.length).map fun i => (r.1 + 4 * i, r.2.getD i 0#32)
  let asks (s : State) (write : Bool) (offset : Nat) (l : List Word) (beats : Nat) : Port :=
    s.port.request ⟨.reportWriter, write, s.areaAddr offset, beats, 0, l⟩
  (∀ w : Word, nextOdd w = (if w.toNat % 2 = 0 then w + 1#32 else w + 2#32) ∧ (nextOdd w).toNat % 2 = 1) ∧
  (∀ s : State, s.served = true ↔ (s.regs.part = .stalled → s.regs.rewriting ≠ none) ∧ (s.regs.part = .starting →
    s.regs.start = some .planFault ∨ s.regs.start = some .writes ∨ s.regs.start = some .pages)) ∧
  (∀ (s : State) (n : Nat),
    let block := 0xA000 + 5120 * ((n - 1) / 76) + 64 * ((n - 1) % 76)
    let page := 0x8800 + 1024 * (n - 1)
    s.numberPlace .header = some 0 ∧ s.fieldRuns .header = [(0x0C, s.headerWords), (0x2C, s.headerTail)] ∧
    s.headerWords.length = 8 ∧ s.headerTail.length = 2 ∧ s.numberPlace .planFault = some 0 ∧
    s.fieldRuns .planFault = [(0x20, [w32 s.plan.fault.item, w32 s.plan.fault.frame, w32 s.plan.fault.field])] ∧
    s.numberPlace (.frame n) = some (0x5000 + 256 * (n - 1)) ∧
    s.fieldRuns (.frame n) = [(0x5000 + 256 * (n - 1) + 4, s.frameWords n)] ∧ (s.frameWords n).length = 63 ∧
    s.numberPlace (.unit n) = some (0x5800 + 64 * (n - 1)) ∧
    s.fieldRuns (.unit n) = [(0x5800 + 64 * (n - 1) + 4, s.unitWords n)] ∧
    (s.unitWords n).length = (if n ≤ 8 then 6 else 4) ∧
    s.numberPlace (.creel n) = some (0x6000 + 16 * (n - 1)) ∧
    s.fieldRuns (.creel n) = [(0x6000 + 16 * (n - 1) + 4, s.creelWords n)] ∧ (s.creelWords n).length = 3 ∧
    s.numberPlace (.block n) = some block ∧ s.fieldRuns (.block n) = [(block + 4, s.blockWords n)] ∧
    (s.blockWords n).length = 15 ∧ s.numberPlace (.startClose n) = some (page + 4) ∧
    (∀ p : OpenPage, p.number = n →
      (s.output.page = some p → s.numberPlace .openPage = some (page + 4) ∧
        s.fieldRuns .openPage = [(page, [1#32]), (page + 8, pageWords p 0#32 none s.output.counts)]) ∧
      ∀ stamp cause counts, s.numberPlace (.closedPage ⟨p, stamp, cause, counts⟩) = some (page + 4) ∧
        s.fieldRuns (.closedPage ⟨p, stamp, cause, counts⟩) =
          [(page, [2#32]), (page + 8, pageWords p stamp (some cause) counts)]) ∧
    (∀ x : Snapshot, s.numberPlace (.dump x) = some 0x900 ∧ s.fieldRuns (.dump x) = [(0x904, x.toWords)]) ∧
    (∀ i, s.numberPlace i = none → i = .openPage ∨ i = .mark ∨ (∃ f, i = .mapTail f) ∨ (∃ c, i = .cellTaken c) ∨
      (∃ a, i = .cellDone a) ∨ ∃ e, i = .journal e) ∧
    s.fieldRuns (.startClose n) = [(page, [2#32]), (page + 0x10, [0#32, 4#32]), (page + 0x1C, [0#32])] ++
      (List.range' 1 8).map (fun f => (page + 0x20 + 0x78 * (f - 1) + 0x64, List.replicate 5 0#32)) ∧
    s.numberPlace (.mapTail n) = none ∧
    s.fieldRuns (.mapTail n) = [(0xA000 + 5120 * (n - 1) + 4864, List.replicate 64 0#32)]) ∧
  (∀ (s : State) (n : Nat) (a : Answer),
    let word (i : Nat) : Word := a.words.getD i 0#32
    s.numberPlace (.cellTaken n) = none ∧ s.fieldRuns (.cellTaken n) = [(0x100 + 64 * (n - 1), [2#32])] ∧
    s.itemWritten (.cellTaken n) = { s with writer := { s.writer with current := none } } ∧
    s.numberPlace (.cellDone a) = none ∧
    s.fieldRuns (.cellDone a) = [(0x100 + 64 * (a.cell - 1) + 0x1C,
        [w32 ((a.reason.map Reason.code).getD 0), word 0, word 1, word 2, word 3, word 4, word 5, a.stamp]),
      (0x100 + 64 * (a.cell - 1), [if a.reason = none then 3#32 else 4#32])] ∧
    s.itemWritten (.cellDone a) = { s with
      regs := { s.regs with att := s.regs.att ||| 1#32 }, writer := { s.writer with current := none } }) ∧
  (∀ (s : State) (n : Nat),
    let bytes (l : List Nat) : List Byte := l.map (BitVec.ofNat 8)
    let flag (b : Bool) : Nat := if b then 1 else 0
    let stamp (o : Option Word) : Nat := (o.map BitVec.toNat).getD 0
    let token (o : Option Token) : Nat := (o.map BitVec.toNat).getD 0
    let copy (o : Option Plan) : List Word := [w32 ((o.map fun x => x.copy.code).getD 0), (o.map Plan.id).getD 0#32]
    let side (d : Nat) : List Byte :=
      bytes [(s.side d).entries.length, (s.side d).backlog] ++ leBytes 2 (s.unlisted d).length ++
        bytes [(s.side d).piecer.getD 0, 0] ++ leBytes 4 (stamp (s.side d).oldest) ++ leBytes 6 0
    let link (a : Nat) : List Byte :=
      bytes [(s.unit a).presence.code, (s.unit a).misses, (s.unit a).lastMiss.code, (s.unit a).queue.length]
    let frame := (n - 1) / 76 + 1
    let part := (n - 1) % 76 + 1
    s.headerWords = [w32 s.writer.writeMark] ++ copy s.plan.active ++ copy (s.plan.pending.map PendingPlan.plan) ++
      [w32 s.plan.fault.item, w32 s.plan.fault.frame, w32 s.plan.fault.field] ∧
    s.headerTail = [s.desk.lastTaken, s.writer.journalLost] ∧
    (let x := s.frame n
     wordBytes (s.frameWords n) =
       bytes [x.state.code, x.slot.getD 0, flag x.doffOwed, (x.callCause.map CallCause.code).getD 0, x.doffFinish.code,
         (x.haltCause.map HaltCause.code).getD 0, x.grace.getD 0, (s.unit n).presence.code] ++
       leBytes 4 x.buildM ++ leBytes 4 (stamp x.callStamp) ++ leBytes 4 (flag x.alarm + 2 * flag x.unit) ++
       side (2 * n - 1) ++ side (2 * n) ++ leBytes 200 0) ∧
    (n ≤ 8 → let x := s.piecer n
     wordBytes (s.unitWords n) =
       bytes [x.state.code, x.side.getD 0, x.placement.code, flag x.atBay, flag x.parkOwed, flag x.returned,
         if x.descending then 2 else 1, (x.stage.map stageCode).getD 0, x.home.getD 0] ++ link (8 + n) ++
       leBytes 2 (x.position.getD 0) ++ leBytes 2 (x.spindle.getD 0) ++ leBytes 2 (token x.current) ++
       leBytes 2 (token x.void) ++ leBytes 3 0) ∧
    (8 < n → let x := s.carrier (n - 8)
     wordBytes (s.unitWords n) =
       bytes [x.state.code, (x.creel.map fun k => (k - 1) / 76 + 1).getD 0, (x.creel.map fun k => (k - 1) % 76 + 1).getD 0] ++
       link (8 + n) ++ leBytes 2 (token x.lotSent) ++ leBytes 2 (token x.lotLoaded) ++ leBytes 4 x.shownLeft ++
       leBytes 1 0) ∧
    (let x := s.creel n
     wordBytes (s.creelWords n) =
       bytes [x.state.code, x.carrier.getD 0, x.lock.code, x.waiting.code,
         flag x.holdSent + 2 * flag (s.strip n).blind + 4 * flag (s.strip n).check.isSome, 0] ++
       leBytes 2 (x.remaining / 1000) ++ leBytes 4 (stamp x.queueStamp)) ∧
    wordBytes (s.blockWords n) =
      (List.range' (24 * (part - 1) + 1) 24).flatMap (fun m => leBytes 2 (s.spindle frame m).entry) ++ leBytes 12 0) ∧
  (∀ x : Spindle, x.attempts ≤ 7 →
    x.entry % 16 = x.state.code ∧ x.entry.testBit 4 = x.listed ∧ x.entry.testBit 5 = x.slip ∧
      x.entry / 64 % 8 = x.attempts ∧ x.entry / 512 % 8 = (x.cutCause.map CutCause.code).getD 0 ∧
      x.entry / 4096 = (x.lastClass.map BreakClass.code).getD 0 ∧ x.entry < 32768) ∧
  (∀ (p : OpenPage) (stamp : Word) (close : Option PageCause) (counts : List (Nat × Counts)),
    let wide (v : Nat) : List Word := [w32 (v % 4294967296), w32 (v / 4294967296)]
    let block (x : Counts) : List Word :=
      wide x.spindleMm ++ wide x.runningSweeps ++ wide x.plannedSweeps ++
        [w32 x.frontMm, w32 (min 4294967295 (x.weightSum / 100000000)), w32 x.stopDs,
          w32 (if x.plannedSweeps = 0 then 0 else x.runningSweeps * 1000 / x.plannedSweeps),
          w32 x.breakRun, w32 x.breakDoffStart, w32 x.breakProveFail, w32 x.breakStarve, w32 x.pieced, w32 x.pieceFailures,
          w32 x.cutRogue, w32 x.cutAttempts, w32 x.cutManual, w32 x.cutNoRoving, w32 x.cutSensor,
          w32 x.doffs, w32 x.creelChanges, w32 x.lotMismatches, w32 x.slips] ++ List.replicate 5 0#32
    pageWords p stamp close counts =
      [p.stamp, w32 p.cause.openCode, stamp, w32 ((close.map PageCause.closeCode).getD 0), w32 p.merged, 0#32] ++
        (List.range' 1 8).flatMap fun f => block (tget Counts.reset counts f)) ∧
  (∀ x : Snapshot,
    let bytes (l : List Nat) : List Byte := l.map (BitVec.ofNat 8)
    let flag (b : Bool) : Nat := if b then 1 else 0
    let entry (e : RogueEntry) : List Byte :=
      if e.valid then
        bytes [1, e.count, e.key / 2048 + 1, 0] ++ leBytes 2 e.key ++ leBytes 2 (e.key % 2048) ++
          leBytes 4 e.firstStamp.toNat
      else leBytes 12 0
    wordBytes x.toWords =
      leBytes 4 x.clock.toNat ++ leBytes 4 (x.table.entries.filter fun e => e.2.valid).length ++ leBytes 4 x.limit ++
        leBytes 4 x.window ++ leBytes 4 x.seq.toNat ++ leBytes 8 0 ++
        (List.range 64).flatMap (fun i => entry (tget RogueEntry.reset x.table.entries i)) ++
        (List.range 16).flatMap fun i =>
          let r := tget Recency.reset x.table.recency i
          bytes [flag r.pair, flag r.low, flag r.high, x.table.target i]) ∧
  (∀ e : JournalEntry,
    let field (i : Nat) : Word := e.fields.getD i 0#32
    wordBytes (e.toWords.take 1) = leBytes 2 e.kind.code ++ leBytes 1 e.frame ++ leBytes 1 e.unit ∧
    e.toWords.drop 1 = [e.stamp, field 0, field 1, field 2, field 3, field 4, field 5]) ∧
  (([.out, .halted, .restarting, .building, .nearing, .called, .draining, .stopping, .doffing] : List FrameState).map
      FrameState.code = List.range' 1 9 ∧
    ([.compare, .doffNow, .owed, .plan] : List CallCause).map CallCause.code = List.range' 1 4 ∧
    ([.order, .driveFault, .driveStopped, .stopTimeout, .doffTimeout, .census, .noDrive, .plan] : List HaltCause).map
      HaltCause.code = List.range' 1 8 ∧
    ([.none, .pending, .made] : List DoffFinish).map DoffFinish.code = [0, 2, 3] ∧
    ([.absent, .parked, .moving, .onSide, .attempting, .held, .lost] : List PiecerState).map PiecerState.code =
      List.range' 1 7 ∧
    ([.pool, .side, .park] : List Placement).map Placement.code = List.range' 1 3 ∧
    ([.approach, .brake, .find, .thread, .join, .release, .verify] : List AttemptStep).map stageCode = List.range' 1 7 ∧
    ([.absent, .idle, .loading, .travel, .waitLock, .working, .returning, .fault, .lost] : List CarrierState).map
      CarrierState.code = List.range' 1 9 ∧
    ([.absent, .present, .lost] : List Presence).map Presence.code = List.range' 1 3 ∧
    ([.noReply, .badReply, .wrongKind] : List Miss).map Miss.code = List.range' 1 3 ∧
    ([.fed, .low, .queued, .changing, .lotHold] : List SectionState).map SectionState.code = List.range' 1 5 ∧
    ([.absent, .settling, .running, .down, .piecing, .proving, .starved, .cutOut, .checking] : List SpindleState).map
      SpindleState.code = List.range' 1 9 ∧
    ([.rogue, .attempts, .manual, .noRoving, .sensor] : List CutCause).map CutCause.code = List.range' 1 5 ∧
    ([.run, .doffStart, .proveFail, .starve] : List BreakClass).map BreakClass.code = List.range' 1 4 ∧
    ([.none, .piecer 8, .carrier 4] : List Holder).map Holder.code = [0, 8, 12] ∧
    ([.p, .q] : List PlanCopy).map PlanCopy.code = [1, 2] ∧
    ([.start, .shiftTimer, .shiftClose] : List PageCause).map PageCause.openCode = [1, 2, 3] ∧
    ([.shiftTimer, .shiftClose, .partStop, .start] : List PageCause).map PageCause.closeCode = [1, 2, 3, 4] ∧
    ([.staleSeq, .duplicate, .invalid, .pending, .busy, .notHalted, .notRunning, .alreadyCalled, .occupied, .full, .tooLate,
      .notFound, .withdrawn, .outOfRange, .notPresent] : List Reason).map Reason.code = List.range' 1 15 ∧
    ([.break, .pieced, .pieceFail, .cutOut, .cutCleared, .slip, .stripBlind, .stripClear, .checkDone, .doffCalled,
      .doffGranted, .doffDone, .doffFault, .frameHalt, .frameRun, .sectionLow, .sectionEmpty, .creelDone, .creelFault,
      .lotMismatch, .piecerMoved, .unitLost, .unitBack, .staleReport, .planSwitched, .shiftClosed, .boundaryAbsorbed,
      .gap] : List JournalKind).map JournalKind.code = List.range' 1 28) ∧
  (∀ (s : State) (i : WriteItem) (r : List WriteItem), s.served = true → s.writer.current = none →
    s.writer.queue = i :: r → i ≠ .mark →
    ∀ n, serveN (n + 1) s = serveN n (State.beginItem i { s with writer := { s.writer with queue := r } })) ∧
  (∀ (s : State) (i : WriteItem) (offset : Nat), s.numberPlace i = some offset →
    (∀ v, s.numberHeld offset = some v → s.beginItem i = s.beginNumbered i offset v) ∧
    (s.numberHeld offset = none → s.beginItem i = { s with
      writer := { s.writer with current := some ⟨i, true, []⟩ }, port := asks s false offset [] 1 })) ∧
  (∀ (s : State) (i : WriteItem) (offset : Nat) (held : Word), s.formed = true →
    let odd := nextOdd held
    let u := s.beginNumbered i offset held
    u.numberHeld offset = some odd ∧ (∀ o, o ≠ offset → u.numberHeld o = s.numberHeld o) ∧
    u.output = (if i = .openPage then
      { s.output with wait := s.output.wait.map fun w => { w with openBegun := true } } else s.output) ∧
    ∃ l rest, u = { s with
        writer := { s.writer with numbers := u.writer.numbers, current := some ⟨i, false, rest⟩ }
        output := u.output, port := asks s true offset l l.length } ∧
      ((offset, l) :: rest).flatMap spread =
        (offset, odd) :: (s.fieldRuns i).flatMap spread ++ [(offset, odd + 1#32)] ∧
      rest.getLast? = some (offset, [odd + 1#32]) ∧
      ∀ x, x ∈ (offset, l) :: rest → 1 ≤ x.2.length ∧ x.2.length ≤ 8) ∧
  ∀ (s : State) (x : Update) (t : Transfer), s.formed = true → s.writer.current = some x → t.block = .reportWriter →
    let v : State := { s with port := s.port.finish }
    let offset := s.transferOffset t
    let u := s.transferEnded t
    let numbered := x.item = .openPage ∨ s.numberPlace x.item ≠ none
    (t.write = false →
      (s.numberPlace x.item = some offset → u = v.beginNumbered x.item offset (t.words.headD 0#32)) ∧
      (s.numberPlace x.item ≠ some offset → u.writer.current = none ∧ u.writer.queue = s.writer.queue)) ∧
    (t.write = true →
      (∀ a l r, x.left = (a, l) :: r → u = { v with
        writer := { v.writer with current := some ⟨x.item, false, r⟩ }, port := asks v true a l l.length }) ∧
      (x.left = [] → numbered → u = (v.holdNumber offset (t.words.getLastD 0#32)).itemWritten x.item) ∧
      (x.left = [] → ¬numbered → u = v.itemWritten x.item)) ∧
    (v.holdNumber offset (t.words.getLastD 0#32)).numberHeld offset = some (t.words.getLastD 0#32)

/-- A command handed for a unit (R191): not queued unless the unit is PRESENT; a second STATUS? not sent yet is not
placed; else the unsent commands that it makes pointless leave, and it stands at the tail, unless 4 wait: then the unit
is LOST with its queue emptied and the command is not queued. The pairs: RUN, STOP, STOP_AT_DOFF and DOFF among
themselves, GOTO and PARK among themselves, ABANDON an ATTEMPT, HOLD or RESUME of its token, RETURN a LOAD, GOTO_CREEL
or CHANGE. -/
def Obligations.HandedCommandsQueue : Prop :=
  (∀ new old : Cmd,
    let drives (c : Cmd) : Prop := c = .run ∨ c = .stop ∨ c = .stopAtDoff ∨ c = .doff
    let goes (c : Cmd) : Prop := c = .park ∨ ∃ d, c = .goto d
    new.supersedes old = true ↔ (drives new ∧ drives old) ∨ (goes new ∧ goes old) ∨
      (∃ t, new = .abandon t ∧ (old = .hold t ∨ old = .resume t ∨ ∃ n, old = .attempt n t)) ∨
      (new = .ret ∧ (old = .change ∨ (∃ l, old = .load l) ∨ ∃ f k, old = .gotoCreel f k))) ∧
  ∀ (s : State) (a : Nat) (c : Cmd), s.formed = true →
    let x := s.unit a
    let q := (if x.sent then x.queue.take 1 else []) ++
      (if x.sent then x.queue.drop 1 else x.queue).filter fun o => !c.supersedes o
    let placed := !(c == .status && (if x.sent then x.queue.drop 1 else x.queue).contains .status)
    (x.presence ≠ .present ∨ placed = false → s.hand a c = s) ∧
    (x.presence = .present → placed = true → q.length < 4 → (s.hand a c).unit a = { x with queue := q ++ [c] }) ∧
    (x.presence = .present → placed = true → 4 ≤ q.length →
      ((s.hand a c).unit a).presence = .lost ∧ ((s.hand a c).unit a).queue = [] ∧
        ((s.hand a c).unit a).resync = true ∧ (s.hand a c).regs.att &&& 16#32 = 16#32) ∧
    ∀ b, b ≠ a → (s.hand a c).unit b = s.unit b

/-- What an event brings about before it ends, in the model's order (log entry 5; frames, sides and the losses of one
event among themselves, log entry 73): losses told, lists relisted, draining tested, sides recounted, choices made, the
piecer arbiter, the dispatcher and the refill, until nothing is owed; then the end test of winding down and the write
queue. In HALTED nothing is. The owner of a lost unit is told (R101, R122, R192). Relisting (R39): the unlisted DOWN
spindles of a side in ascending order. Backlog (R40, R41): the eligible entries. The choice (R43): the nearest end
ahead, else the nearest behind with the direction turned; the attempt it starts (R45, R46). The arbiter (R66 to R68):
the home rule, then the lending rule, each for the free piecers in ascending number. Draining (R89, R90). The dispatcher
(R113) and the refill (R111). -/
def Obligations.EventsSettle : Prop :=
  let piecing (st : FrameState) : Prop := st = .building ∨ st = .nearing ∨ st = .called
  (∀ s : State,
    s.conclude = serveN 16 s.settle.windTest ∧
    (s.regs.part = .halted → s.settle = { s with work := ⟨false, false, [], []⟩ }) ∧
    (s.regs.part ≠ .halted → s.settleRound.work = ⟨false, false, [], []⟩ → s.settle = s.settleRound) ∧
    s.settleRound =
      ((((List.range' 1 8).foldl (fun t f => t.drainTest f)
        s.tellLosses.relistOwed).recountAll.chooseAll.recountAll.arbiterOwed).dispatch.refillOwed.dispatch) ∧
    s.relistOwed = s.work.relist.foldl (fun t d => t.relist d) { s with work := { s.work with relist := [] } } ∧
    s.recountAll = (List.range' 1 16).foldl (fun t d => t.recount d) s ∧
    s.chooseAll = (List.range' 1 16).foldl (fun t d => t.choose d) s ∧
    s.arbitrate = (List.range' 1 8).foldl (fun t p => t.lendPass p)
      ((List.range' 1 8).foldl (fun t p => t.homePass p) s) ∧
    (s.working = true → s.work.arbiter = true →
      s.arbiterOwed = (List.range' 1 8).foldl (fun t p => t.frameEnd p)
        (State.arbitrate { s with work := { s.work with arbiter := false } })) ∧
    (s.working = false → s.arbiterOwed = { s with work := { s.work with arbiter := false } } ∧ s.dispatch = s) ∧
    (s.work.refill = true → s.refillOwed = State.refill { s with work := { s.work with refill := false } }) ∧
    (s.work.refill = false → s.refillOwed = s)) ∧
  (∀ (s : State) (a : Nat), s.formed = true →
    let u := s.tellLoss a
    s.tellLosses = s.work.lost.foldl (fun t b => t.tellLoss b) { s with work := { s.work with lost := [] } } ∧
    (a ≤ 8 → u = s.setFrame a { s.frame a with unit := true }) ∧
    (∀ p, a = 8 + p → 1 ≤ p → p ≤ 8 →
      u = if (s.piecer p).state = .absent ∨ (s.piecer p).state = .lost then s else s.piecerLost p true) ∧
    ∀ c, a = 16 + c → 1 ≤ c →
      let x := s.carrier c
      let y := u.carrier c
      (x.state = .absent → u = s) ∧
      (x.state ≠ .absent → y.state = .lost ∧ y.creel = none ∧ y.lotSent = none ∧ y.lotLoaded = none ∧
        y.change = ⟨false, 0⟩ ∧ y.back = ⟨false, 0⟩ ∧
        ∀ k, x.creel = some k → (u.frame ((k - 1) / 76 + 1)).unit = true ∧
          (u.creel k).remaining = (s.creel k).remaining ∧
          (x.state.serving = true → (u.creel k).state = .queued ∧ u.roving.queue.head? = some k))) ∧
  (∀ (s : State) (d : Nat), s.formed = true → 1 ≤ d → d ≤ 16 →
    let f := (d + 1) / 2
    let first := if d % 2 = 0 then 913 else 1
    let unlisted := (List.range' first 912).filter fun n =>
      decide ((s.spindle f n).state = .down ∧ (s.spindle f n).listed = false)
    let room := 64 - (s.side d).entries.length
    let u := s.relist d
    u.side d = { s.side d with
      entries := (s.side d).entries ++
        ((unlisted.take room).map fun n => (⟨n, s.clock, (s.spindle f n).lastClass⟩ : EndEntry)) } ∧
    ∀ n, n ∈ unlisted.take room → u.spindle f n = { s.spindle f n with listed := true }) ∧
  (∀ (s : State) (d : Nat), s.formed = true →
    let f := (d + 1) / 2
    let l := s.eligible d
    let u := s.recount d
    l = ((s.side d).entries.filter fun e =>
      let k := creelNo f ((e.spindle - 1) / 24 + 1)
      decide (piecing (s.frame f).state ∧ (s.strip k).blind = false ∧ (s.spindle f e.spindle).state = .down) &&
        (match (s.creel k).lock with
          | .carrier _ => false
          | .none | .piecer _ => true)) ∧
    u.side d = { s.side d with backlog := l.length, oldest := l.head?.map EndEntry.stamp } ∧
    (u.work.arbiter = true ↔ s.work.arbiter = true ∨ (s.side d).backlog ≠ l.length) ∧
    (∀ e, e ≠ d → u.side e = s.side e) ∧ u.watch = s.watch ∧ u.roving = s.roving ∧ u.frames = s.frames) ∧
  (∀ (descending : Bool) (pos : Nat) (l : List Nat),
    let ahead (n : Nat) : Prop := if descending = true then n ≤ pos else pos ≤ n
    let behind (n : Nat) : Prop := if descending = true then pos ≤ n else n ≤ pos
    let apart (n : Nat) := (n - pos) + (pos - n)
    (l = [] → chooseEnd descending pos l = none) ∧
    (∀ n, n ∈ l → ahead n → (∀ m, m ∈ l → ahead m → apart n ≤ apart m) →
      chooseEnd descending pos l = some (n, descending)) ∧
    ∀ n, n ∈ l → (∀ m, m ∈ l → ¬ahead m) → (∀ m, m ∈ l → behind m → apart n ≤ apart m) →
      chooseEnd descending pos l = some (n, !descending)) ∧
  (∀ (s : State) (d : Nat), s.formed = true → 1 ≤ d → d ≤ 16 →
    let f := (d + 1) / 2
    let u := s.choose d
    (∀ p, (s.side d).piecer = some p →
      let x := s.piecer p
      let l := ((s.eligible d).map EndEntry.spindle).filter fun n => (s.spindle f n).listed
      let chosen := chooseEnd x.descending (x.position.getD (if d % 2 = 0 then 913 else 1)) l
      let token := if x.counter = 65535#16 then 1#16 else x.counter + 1#16
      (x.state ≠ .onSide ∨ s.working = false ∨ chosen = none → u = s) ∧
      ∀ n dir, x.state = .onSide → s.working = true → chosen = some (n, dir) →
        let k := creelNo f ((n - 1) / 24 + 1)
        u.piecer p = { x with
          state := .attempting, descending := dir, counter := token, current := some token
          void := if x.void = some token then none else x.void
          spindle := some n, stage := none, atFrameEnd := false
          attempt := ⟨true, 1000 * s.settings.attemptTimeout⟩ } ∧
        u.creel k = { s.creel k with lock := .piecer p } ∧
        u.spindle f n = { s.spindle f n with state := .piecing, since := 0 } ∧
        u.unit (8 + p) = (s.hand (8 + p) (.attempt n token)).unit (8 + p) ∧ u.disp.sides = s.disp.sides ∧
        u.frames = s.frames) ∧
    ((s.side d).piecer = none → u = s)) ∧
  (∀ (s : State) (p : Nat), s.formed = true →
    let x := s.piecer p
    let free := x.placement = .pool ∧ (x.state = .onSide ∨ x.state = .parked)
    let home (h : Nat) : Prop := x.home = some h ∧ (s.side h).piecer = none ∧
      ((x.state = .parked ∧ piecing (s.frame ((h + 1) / 2)).state) ∨
        (x.state = .onSide ∧ ∃ d, x.side = some d ∧ d ≠ h ∧ (s.side d).backlog = 0 ∧ 1 ≤ (s.side h).backlog))
    let idle := x.state = .parked ∨
      ∃ d, x.side = some d ∧ ((s.side d).backlog = 0 ∨ ¬piecing (s.frame ((d + 1) / 2)).state)
    let offer (d : Nat) : Prop := 1 ≤ d ∧ d ≤ 16 ∧ (s.side d).piecer = none ∧
      s.settings.lendThreshold ≤ (s.side d).backlog
    let stamp (d : Nat) := ((s.side d).oldest.getD 0#32).toNat
    let best (d : Nat) : Prop := offer d ∧ ∀ e, offer e → (s.side e).backlog < (s.side d).backlog ∨
      ((s.side e).backlog = (s.side d).backlog ∧ (stamp d < stamp e ∨ (stamp d = stamp e ∧ d ≤ e)))
    (¬(free ∧ ∃ h, home h) → s.homePass p = s) ∧
    (∀ h, free → home h → s.homePass p = s.sendToSide p h .home) ∧
    (∀ d, s.lendTarget allSides = some d ↔ best d) ∧
    (¬(free ∧ idle ∧ ∃ d, offer d) → s.lendPass p = s) ∧
    (∀ d, free → idle → best d →
      s.lendPass p = s.sendToSide p d (if x.home = some d then .home else .lend))) ∧
  (∀ (s : State) (p d : Nat) (reason : MoveReason), s.formed = true → (s.side d).piecer = none →
    (s.piecer p).side ≠ some d →
    let x := s.piecer p
    let u := s.sendToSide p d reason
    let place := match x.side with
      | some e => e
      | none => if x.state = .parked then 17 else 0
    u.piecer p = { x with
      state := .moving, side := some d, atBay := false, atFrameEnd := false, returned := false
      travel := ⟨true, 1000 * s.settings.travelTimeout⟩ } ∧
    (u.side d).piecer = some p ∧ (∀ e, x.side = some e → (u.side e).piecer = none) ∧
    u.unit (8 + p) = (s.hand (8 + p) (.goto d)).unit (8 + p) ∧
    u.journalled .piecerMoved 0 p [w32 place, w32 d, w32 reason.code] ∧
    ∀ q, q ≠ p → u.piecer q = s.piecer q) ∧
  (∀ (s : State) (f : Nat), s.formed = true →
    let u := s.drainTest f
    ((s.frame f).state = .draining → s.attemptsOn f = [] →
      u.frame f = { s.frame f with state := .stopping, stopTimer := ⟨true, 1000 * s.settings.stopTimeout⟩ } ∧
      u.unit f = (s.hand f .stopAtDoff).unit f) ∧
    (¬((s.frame f).state = .draining ∧ s.attemptsOn f = []) → u = s)) ∧
  (∀ s : State, s.formed = true → s.working = true →
    let idle (t : State) (c : Nat) : Prop := 1 ≤ c ∧ c ≤ 4 ∧ (t.carrier c).state = .idle
    ((∀ c, ¬idle s c) ∨ s.roving.queue = [] → s.dispatch = s) ∧
    ((∀ c, ¬idle s.dispatch c) ∨ s.dispatch.roving.queue = []) ∧
    ∀ c k r, idle s c → (∀ e, e < c → ¬idle s e) → s.roving.queue = k :: r → k ∉ r →
      (∀ n, dispatchN (n + 1) s = dispatchN n (dispatchN 1 s)) ∧
      (let u := dispatchN 1 s;
      let lot : Token := BitVec.ofNat 16 (s.frameSettings ((k - 1) / 76 + 1)).lot
      u.roving.queue = r ∧
      u.creel k = { s.creel k with state := .changing, queueStamp := none, carrier := some c } ∧
      u.carrier c = { s.carrier c with
        state := .loading, creel := some k, lotSent := some lot, dispatched := s.clock
        change := ⟨true, 1000 * s.settings.changeTimeout⟩
        shownLeft := s.settings.changeTimeout } ∧
      u.unit (16 + c) = (s.hand (16 + c) (.load lot)).unit (16 + c) ∧
      (∀ e, e ≠ c → u.carrier e = s.carrier e) ∧ ∀ e, e ≠ k → u.creel e = s.creel e)) ∧
  ∀ s : State, s.formed = true →
    let u := s.refill
    (32 ≤ u.roving.queue.length ∨ ∀ k, (u.creel k).state ≠ .low) ∧
    (∀ k, (u.creel k = s.creel k ∧ (k ∈ u.roving.queue ↔ k ∈ s.roving.queue)) ∨
      ((s.creel k).state = .low ∧ k ∈ u.roving.queue ∧ u.creel k = { s.creel k with
        state := .queued, queueStamp := some (s.predictedStamp k) })) ∧
    (∀ k e, (s.creel k).state = .low → (u.creel k).state = .queued → (u.creel e).state = .low →
      (s.creel k).remaining < (s.creel e).remaining ∨ ((s.creel k).remaining = (s.creel e).remaining ∧ k ≤ e)) ∧
    u.watch = s.watch ∧ u.disp = s.disp ∧ u.frames = s.frames ∧ u.roving.carriers = s.roving.carriers

/-! ### Orders -/

/-- The taking of a cell (R173, R174). Out of its turn an order's command changes nothing (log entry 6). In its turn: a
new cell not later than last_taken is REFUSED STALE_SEQ and last_taken stands; a long order whose target has one of its
kind in the book is REFUSED DUPLICATE; a long order that finds 16 in the book joins the deferred list; any other goes to
its owner. This is what every order command does, with the parameters it carries. -/
def Obligations.CellsAreTakenInTurn : Prop :=
  (∀ (s : State) (a b c : Word),
    exec (.planSwitch a b) s = .next (s.orderEvent .planSwitch [a, b]) ∧
    exec .shiftClose s = .next (s.orderEvent .shiftClose []) ∧
    exec (.frameStop a) s = .next (s.orderEvent .frameStop [a]) ∧
    exec (.frameStart a) s = .next (s.orderEvent .frameStart [a]) ∧
    exec (.doffNow a) s = .next (s.orderEvent .doffNow [a]) ∧
    exec (.cutOut a b) s = .next (s.orderEvent .cutOut [a, b]) ∧
    exec (.clearCutout a b c) s = .next (s.orderEvent .clearCutout [a, b, c]) ∧
    exec (.clearSlip a b c) s = .next (s.orderEvent .clearSlip [a, b, c]) ∧
    exec (.selfCheck a b) s = .next (s.orderEvent .selfCheck [a, b]) ∧
    exec (.creelChange a b) s = .next (s.orderEvent .creelChange [a, b]) ∧
    exec (.piecerPlace a b) s = .next (s.orderEvent .piecerPlace [a, b]) ∧
    exec .tableRead s = .next (s.orderEvent .tableRead []) ∧
    exec (.withdraw a) s = .next (s.orderEvent .withdraw [a])) ∧
  ∀ (s : State) (k : OrderKind) (ps : List Word) (c : CellRead),
    (s.orderIsNext k ps = none → s.orderEvent k ps = s) ∧
    (s.orderIsNext k ps = some c →
      let fresh := c.deferred = true ∨ later c.seq s.desk.lastTaken = true
      let last := if c.deferred then s.desk.lastTaken else c.seq
      (¬fresh → ∃ u : State, s.orderEvent k ps = u.dropTaken.conclude ∧ u.answered c.cell (some .staleSeq) [] ∧
        u.desk.lastTaken = s.desk.lastTaken) ∧
      (fresh → isLong k c = true → s.duplicate k c = true →
        ∃ u : State, s.orderEvent k ps = u.dropTaken.conclude ∧ u.answered c.cell (some .duplicate) [] ∧
          u.desk.lastTaken = last ∧ ∀ x, x ∈ u.desk.deferred → x.1 ≠ c.cell) ∧
      (fresh → isLong k c = true → s.duplicate k c = false → 16 ≤ s.desk.book.length →
        ∃ u : State, s.orderEvent k ps = u.dropTaken.conclude ∧ u.desk.lastTaken = last ∧
          u.desk.view = s.desk.view ∧ (∃ x, x ∈ u.desk.deferred ∧ x.1 = c.cell) ∧
          ((∀ x, x ∈ s.desk.deferred → x.1 ≠ c.cell) → u.desk.deferred = s.desk.deferred ++ [(c.cell, c.seq)])) ∧
      (s.takes k ps c → s.orderEvent k ps = ((s.heard c).handOrder k c).conclude))

/-- CUT_OUT (R15): refused for a spindle that is not there; DONE with the state before the order. The spindle is CUT_OUT
by MANUAL with slip and attempts kept and its entry gone, or left as it is when already CUT_OUT; the fields of its
CUT_OUT entry, spindle and cause, are deduced (log entry 15). No other spindle changes when the side's piecer is
assigned to it. CLEAR_CUTOUT (R16): every CUT_OUT spindle from first to last becomes SETTLING with attempts 0 and no
cause; others are untouched; the order is DONE with their count, and CUT_CLEARED is journalled. -/
def Obligations.CutOutsAreMadeAndCleared : Prop :=
  (∀ (s : State) (c : CellRead), s.formed = true → s.takes .cutOut [c.p1, c.p2] c →
     let f := c.p1.toNat
     let n := c.p2.toNat
     let x := s.spindle f n
     let u := (s.heard c).orderCutOut c
     let named := (1 ≤ f ∧ f ≤ 8) ∧ 1 ≤ n ∧ n ≤ 1824
     exec (.cutOut c.p1 c.p2) s = .next u.dropTaken.conclude ∧
       (¬named → u.answered c.cell (some .outOfRange) [] ∧ u.watch = s.watch) ∧
       (named → x.state = .absent → u.answered c.cell (some .notPresent) [] ∧ u.watch = s.watch) ∧
       (named → x.state = .cutOut → u.answered c.cell none [8#32] ∧ u.watch = s.watch) ∧
       (named → x.state ≠ .absent → x.state ≠ .cutOut →
         u.answered c.cell none [w32 x.state.code] ∧
         u.spindle f n = { x with
           state := .cutOut, since := 0, cutCause := some .manual, saved := none, listed := (u.spindle f n).listed } ∧
         u.journalled .cutOut f 0 [c.p2, 3#32] ∧
         (x.state = .piecing ∨ (x.state = .down ∧ x.listed = true) →
           ∀ e, e ∈ (u.side (sideOf f n)).entries → e.spindle ≠ n) ∧
         ((∀ p, (s.side (sideOf f n)).piecer = some p → (s.piecer p).side = some (sideOf f n)) →
           ∀ g m, spindleKey g m ≠ spindleKey f n → u.spindle g m = s.spindle g m))) ∧
  (∀ (s : State) (c : CellRead), s.formed = true → s.takes .clearCutout [c.p1, c.p2, c.p3] c →
     let f := c.p1.toNat
     let u := (s.heard c).orderClearCutout c
     let inRange (n : Nat) : Prop := c.p2.toNat ≤ n ∧ n ≤ c.p3.toNat
     let count := w32 ((List.range' 1 1824).filter fun n =>
       decide (inRange n) && decide ((s.spindle f n).state = .cutOut)).length
     exec (.clearCutout c.p1 c.p2 c.p3) s = .next u.dropTaken.conclude ∧
       (rangeOk c = false → u.answered c.cell (some .outOfRange) [] ∧ u.watch = s.watch) ∧
       (rangeOk c = true →
         u.answered c.cell none [count] ∧ u.journalled .cutCleared f 0 [c.p2, c.p3, count] ∧
         ∀ g n, 1 ≤ g → 1 ≤ n → n ≤ 1824 → u.spindle g n =
           if g = f ∧ inRange n ∧ (s.spindle f n).state = .cutOut then
             { s.spindle f n with state := .settling, since := 0, attempts := 0, cutCause := none }
           else s.spindle g n) ∧
       u.disp = s.disp ∧ u.roving = s.roving ∧ u.frames = s.frames ∧ u.rogue = s.rogue)

/-- CLEAR_SLIP (R17): slip is cleared on every spindle from first to last, in every state; the order is DONE with the
count of those whose slip was set; no journal entry is written, and the change shows in the spindle map. A range that
names nothing is REFUSED (1.5). -/
def Obligations.ClearSlipClearsTheRange : Prop :=
  ∀ (s : State) (c : CellRead), s.formed = true → s.takes .clearSlip [c.p1, c.p2, c.p3] c →
    let f := c.p1.toNat
    let u := (s.heard c).orderClearSlip c
    let inRange (n : Nat) : Prop := c.p2.toNat ≤ n ∧ n ≤ c.p3.toNat
    exec (.clearSlip c.p1 c.p2 c.p3) s = .next u.dropTaken.conclude ∧
      (rangeOk c = false → u.answered c.cell (some .outOfRange) [] ∧ u.watch = s.watch) ∧
      (rangeOk c = true →
        u.answered c.cell none [w32 ((List.range' 1 1824).filter fun n =>
          decide (inRange n) && (s.spindle f n).slip).length] ∧
        (∀ g n, 1 ≤ g → 1 ≤ n → n ≤ 1824 → u.spindle g n =
          if g = f ∧ inRange n then { s.spindle f n with slip := false } else s.spindle g n) ∧
        (∀ n, inRange n → (s.spindle f n).slip = true → .block (creelNo f ((n - 1) / 24 + 1)) ∈ u.writer.queue) ∧
        u.writer.pending = s.writer.pending ∧
        ∀ e, .journal e ∈ u.writer.queue → .journal e ∈ s.writer.queue) ∧
      u.disp = s.disp ∧ u.roving = s.roving ∧ u.frames = s.frames ∧ u.rogue = s.rogue

/-- SELF_CHECK (R18): REFUSED NOT_PRESENT for a frame that is OUT or a section not in plan, BUSY while a spindle of the
section is PIECING or PROVING or its lock is held; else every spindle of it that is not ABSENT and not CUT_OUT becomes
CHECKING with its state saved and its listed field kept, the strip notes the check, and the order is TAKEN. -/
def Obligations.SelfCheckBegins : Prop :=
  ∀ (s : State) (c : CellRead), s.formed = true → s.takes .selfCheck [c.p1, c.p2] c →
    let f := c.p1.toNat
    let k := c.p2.toNat
    let creel := (f - 1) * 76 + k
    let u := (s.heard c).orderSelfCheck c
    let named := (1 ≤ f ∧ f ≤ 8) ∧ 1 ≤ k ∧ k ≤ 76
    let present := (s.frame f).state ≠ .out ∧ (s.frameSettings f).sectionIn k = true
    let ofSection (n : Nat) : Prop := 24 * (k - 1) < n ∧ n ≤ 24 * k
    let busy := (∃ n, ofSection n ∧ ((s.spindle f n).state = .piecing ∨ (s.spindle f n).state = .proving)) ∨
      (s.creel creel).lock ≠ .none
    exec (.selfCheck c.p1 c.p2) s = .next u.dropTaken.conclude ∧
      (¬named → u.answered c.cell (some .outOfRange) [] ∧ u.watch = s.watch) ∧
      (named → ¬present → u.answered c.cell (some .notPresent) [] ∧ u.watch = s.watch) ∧
      (named → present → busy → u.answered c.cell (some .busy) [] ∧ u.watch = s.watch) ∧
      (named → present → ¬busy →
        u.entered .selfCheck c ∧ u.strip creel = { s.strip creel with check := some ⟨0, 0#24⟩ } ∧
        (∀ n, ofSection n → u.spindle f n =
          if (s.spindle f n).state = .absent ∨ (s.spindle f n).state = .cutOut then s.spindle f n
          else { s.spindle f n with state := .checking, since := 0, saved := some (s.spindle f n).state }) ∧
        ∀ n, ofSection n → (s.spindle f n).state = .down → (s.spindle f n).listed = true →
          ∀ e, e ∈ (u.side (sideOf f n)).entries → e.spindle ≠ n) ∧
      u.roving = s.roving ∧ u.frames = s.frames ∧ u.disp.piecers = s.disp.piecers

/-- The loop sweeps of a self-check (R19) and its end (R21, R22). A loop sweep marks failed every CHECKING position
whose value differs from the pattern sent, and raises the count; at the fourth the check ends in the same event. At the
end every position still CHECKING is settled: one marked failed is CUT_OUT by SENSOR, one passed goes back to DOWN,
STARVED or SETTLING by its saved state; cut short, every position is taken as passed. The strip has no check any more,
CHECK_DONE is journalled, and the SELF_CHECK is DONE with the counts and the completion (1 COMPLETE, 2 CUT_SHORT:
deduced, log entry 58). A section that leaves the plan has none passed and none failed. -/
def Obligations.SelfChecksRunAndEnd : Prop :=
  (∀ p, loopPattern 1 p = 15 ∧ loopPattern 2 p = 0 ∧ loopPattern 3 p = (if p % 2 = 1 then 15 else 0) ∧
    loopPattern 4 p = if p % 2 = 1 then 0 else 15) ∧
  (∀ (s : State) (f k : Nat) (c : LoopCheck) (v : List Nat), s.formed = true → v.length = 24 → 1 ≤ k →
    let marks := loopMarks s f k (c.sweeps + 1) c.failed v
    let t := s.setStrip (creelNo f k) { s.strip (creelNo f k) with check := some ⟨c.sweeps + 1, marks⟩ }
    (∀ i, i < 24 → (marks.getLsbD i = true ↔ c.failed.getLsbD i = true ∨
      ((s.spindle f (24 * (k - 1) + 1 + i)).state = .checking ∧ v.getD i 0 ≠ loopPattern (c.sweeps + 1) (i + 1)))) ∧
    (c.sweeps + 1 ≠ 4 → s.loopSweep f k c v = t) ∧
    (c.sweeps + 1 = 4 → s.loopSweep f k c v = t.endCheck f k false)) ∧
  (∀ (s : State) (f k : Nat) (c : LoopCheck) (cutShort : Bool), s.formed = true → 1 ≤ k →
    (s.strip (creelNo f k)).check = some c →
    let u := s.endCheck f k cutShort
    let ofSection := List.range' (24 * (k - 1) + 1) 24
    let marked (n : Nat) := !cutShort && c.failed.getLsbD ((n - 1) % 24)
    let checking := ofSection.filter fun n => decide ((s.spindle f n).state = .checking)
    let failed := (checking.filter marked).length
    let passed := (checking.filter fun n => !marked n).length
    u.strip (creelNo f k) = { s.strip (creelNo f k) with check := none } ∧
    (∀ n, n ∈ ofSection →
      let x := s.spindle f n
      let y := u.spindle f n
      (x.state ≠ .checking → y = x) ∧
      (x.state = .checking → y.saved = none ∧ y.since = 0 ∧ y.slip = x.slip ∧ y.attempts = x.attempts) ∧
      (x.state = .checking → marked n = true → y.state = .cutOut ∧ y.cutCause = some .sensor) ∧
      (x.state = .checking → marked n = false → y.cutCause = x.cutCause ∧ y.state =
        if x.saved = some .down then .down else if x.saved = some .starved then .starved else .settling)) ∧
    (s.output.page ≠ none → (s.counts f).cutSensor ≤ 4294967295 →
      (u.counts f).cutSensor = min 4294967295 ((s.counts f).cutSensor + failed)) ∧
    u.journalled .checkDone f 0 [w32 k, w32 passed, w32 failed] ∧
    (∀ b, b ∈ s.desk.book → b.kind = .selfCheck → b.p1 = w32 f → b.p2 = w32 k →
      u.finished b.cell none [w32 passed, w32 failed, if cutShort then 2#32 else 1#32]) ∧
    u.frames = s.frames ∧ u.roving = s.roving ∧ u.disp.piecers = s.disp.piecers) ∧
  ∀ (s : State) (f k : Nat), s.formed = true → (s.strip (creelNo f k)).check ≠ none →
    let u := s.dropCheck f k
    u.strip (creelNo f k) = { s.strip (creelNo f k) with check := none } ∧ u.watch.spindles = s.watch.spindles ∧
      u.journalled .checkDone f 0 [w32 k, 0#32, 0#32] ∧
      ∀ b, b ∈ s.desk.book → b.kind = .selfCheck → b.p1 = w32 f → b.p2 = w32 k →
        u.finished b.cell none [0#32, 0#32, 2#32]

/-- TABLE_READ (R35): the table, the mill clock, the limit and the window are copied in the event of the taking; the
dump is queued before the cell, which is DONE with the count of valid entries and the mill clock. The table stands. -/
def Obligations.TableReadTakesASnapshot : Prop :=
  ∀ (s : State) (c : CellRead), s.takes .tableRead [] c →
    let u := (s.heard c).orderTableRead c
    let valid := w32 (s.rogue.entries.filter fun e => e.2.valid).length
    exec .tableRead s = .next u.dropTaken.conclude ∧ u.answered c.cell none [valid, s.clock] ∧
      (∃ l, u.writer.queue = l ++ [
        .dump ⟨s.clock, s.settings.rogueLimit, s.settings.rogueWindow, c.seq, s.rogue⟩,
        .cellDone ⟨c.cell, none, [valid, s.clock], s.clock⟩]) ∧
      u.rogue = s.rogue ∧ u.watch = s.watch ∧ u.disp = s.disp ∧ u.desk.book = s.desk.book.filter (fun b => b.cell ≠ c.cell)

/-- PIECER_PLACE (R74, R75): the refusals in their order, then the effect by target and piecer state. -/
def Obligations.PiecerPlaceByTarget : Prop :=
  ∀ (s : State) (c : CellRead), s.formed = true → s.takes .piecerPlace [c.p1, c.p2] c →
    let p := c.p1.toNat
    let d := c.p2.toNat
    let x := s.piecer p
    let u := (s.heard c).orderPiecerPlace c
    let y := u.piecer p
    let named := (1 ≤ p ∧ p ≤ 8) ∧ 1 ≤ d ∧ d ≤ 18
    let present := x.state ≠ .absent ∧ x.state ≠ .lost ∧ (d ≤ 16 → (s.frame ((d + 1) / 2)).state ≠ .out)
    let occupied := d ≤ 16 ∧ (s.side d).piecer ≠ none ∧ (s.side d).piecer ≠ some p
    let busy := d ≤ 16 ∧ x.side ≠ some d ∧ (x.state = .moving ∨ (x.state = .attempting ∧ pastJoin x.stage = true))
    let words (n : Nat) := [w32 n, w32 (y.side.getD 0), w32 (y.position.getD 0)]
    let toBay := y.state = .parked ∧ y.side = none ∧ y.atBay = false ∧
      y.travel = ⟨true, 1000 * s.settings.travelTimeout⟩ ∧ y.current = none
    exec (.piecerPlace c.p1 c.p2) s = .next u.dropTaken.conclude ∧
      (¬named → u.answered c.cell (some .outOfRange) []) ∧
      (named → ¬present → u.answered c.cell (some .notPresent) []) ∧
      (named → present → occupied → u.answered c.cell (some .occupied) []) ∧
      (named → present → ¬occupied → busy → u.answered c.cell (some .busy) []) ∧
      (¬named ∨ ¬present ∨ occupied ∨ busy → u.disp = s.disp) ∧
      (named → present → ¬occupied → ¬busy →
        (d ≤ 16 → x.side = some d → y = { x with placement := .side } ∧
          (if x.state = .moving then u.entered .piecerPlace c else u.answered c.cell none (words 1))) ∧
        (d ≤ 16 → x.side ≠ some d → (x.current = none ∨ x.spindle ≠ none ∧ x.side ≠ none) →
          u.entered .piecerPlace c ∧ y.placement = .side ∧ y.state = .moving ∧ y.side = some d ∧ y.current = none ∧
          y.travel = ⟨true, 1000 * s.settings.travelTimeout⟩ ∧ (u.side d).piecer = some p) ∧
        (d = 17 → x.state = .parked → y = { x with placement := .park } ∧
          (if x.atBay = true then u.answered c.cell none (words 2) else u.entered .piecerPlace c)) ∧
        (d = 17 → x.state = .moving ∨ (x.state = .attempting ∧ pastJoin x.stage = true) →
          u.entered .piecerPlace c ∧ y = { x with parkOwed := true }) ∧
        (d = 17 → x.state = .onSide ∨ x.state = .held ∨ (x.state = .attempting ∧ pastJoin x.stage = false) →
          (x.current = none ∨ x.spindle ≠ none ∧ x.side ≠ none) →
          u.entered .piecerPlace c ∧ y.placement = .park ∧ toBay) ∧
        (d = 18 → u.answered c.cell none (words 3) ∧ y = { x with placement := .pool })) ∧
      (∀ q, q ≠ p → u.piecer q = s.piecer q) ∧ u.frames = s.frames

/-- DOFF_NOW (R83, R86, R88): the refusals in their order; a frame BUILDING or NEARING becomes CALLED at once by
DOFF_NOW, and with a slot free and no other frame CALLED it is granted that slot in the same event and enters DRAINING,
with DOFF_GRANTED journalled. FRAME_STOP (R96, R97): refused for a frame that is not there; DONE with the state the
frame was in. A HALTED frame keeps its record and STOP is handed to its drive again; any other is HALTED by ORDER, its
slot released, its timers stopped, the piecer arbiter evaluated in its event, a doff that was called or under way owed,
a waiting FRAME_START DONE with STOPPED (a free value, log entry 7; the cells of the book are distinct,
EveryStepKeepsTheBook). A doff in its restart grace is completed (R95): the build is 0, the doff is counted and a
DOFF_NOW is DONE (its completion DOFFED is coded 1, deduced, log entry 64). -/
def Obligations.DoffNowAndFrameStopAct : Prop :=
  (∀ (s : State) (c : CellRead), s.formed = true → s.takes .doffNow [c.p1] c →
    let f := c.p1.toNat
    let x := s.frame f
    let u := (s.heard c).orderDoffNow c
    let named := 1 ≤ f ∧ f ≤ 8
    exec (.doffNow c.p1) s = .next u.dropTaken.conclude ∧
      (¬named → u.answered c.cell (some .outOfRange) [] ∧ u.frames = s.frames) ∧
      (named → x.state = .out → u.answered c.cell (some .notPresent) [] ∧ u.frames = s.frames) ∧
      (named → x.state = .called ∨ x.state = .draining ∨ x.state = .stopping ∨ x.state = .doffing →
        u.answered c.cell (some .alreadyCalled) [] ∧ u.frames = s.frames) ∧
      (named → x.state = .halted ∨ x.state = .restarting →
        u.answered c.cell (some .notRunning) [] ∧ u.frames = s.frames) ∧
      (named → x.state = .building ∨ x.state = .nearing →
        u.entered .doffNow c ∧
        (s.freeSlot = none → u.journalled .doffCalled f 0 [2#32, w32 x.buildM] ∧
          u.frame f = { x with state := .called, callStamp := some s.clock, callCause := some .doffNow } ∧
          ∀ g, g ≠ f → u.frame g = s.frame g) ∧
        (∀ k, s.freeSlot = some k → s.nextCalled = none →
          u.frame f = { x with
            state := .draining, slot := some k, callStamp := none, callCause := none, drainBuild := x.buildM } ∧
          u.journalled .doffGranted f 0 [w32 k, w32 x.buildM, 0#32] ∧ ∀ g, g ≠ f → u.frame g = s.frame g) ∧
        ((u.frame f).state = .called ∨ ((u.frame f).state = .draining ∧ (u.frame f).slot ≠ none)))) ∧
  ∀ (s : State) (c : CellRead), s.formed = true → s.takes .frameStop [c.p1] c →
    let f := c.p1.toNat
    let x := s.frame f
    let u := (s.heard c).orderFrameStop c
    let y := u.frame f
    let named := 1 ≤ f ∧ f ≤ 8
    exec (.frameStop c.p1) s = .next u.dropTaken.conclude ∧
      (¬named → u.answered c.cell (some .outOfRange) [] ∧ u.frames = s.frames) ∧
      (named → x.state = .out → u.answered c.cell (some .notPresent) [] ∧ u.frames = s.frames) ∧
      (named → x.state = .halted → u.answered c.cell none [2#32] ∧ u.frames = s.frames ∧
        u.unit f = (s.hand f .stop).unit f) ∧
      (named → x.state ≠ .out → x.state ≠ .halted →
        u.answered c.cell none [w32 x.state.code] ∧ y.state = .halted ∧ y.haltCause = some .order ∧
        y.stopTimer = ⟨false, 0⟩ ∧ y.doffTimer = ⟨false, 0⟩ ∧ y.callStamp = none ∧ y.callCause = none ∧ y.grace = none ∧
        y.alarm = true ∧ u.regs.att &&& 8#32 = 8#32 ∧ u.regs.att &&& 2#32 = 2#32 ∧ u.work.arbiter = true ∧
        (y.doffOwed = true ↔ x.doffOwed = true ∨ x.state = .called ∨ x.state = .draining ∨ x.state = .stopping ∨
          x.state = .doffing) ∧
        ((s.desk.book.map BookEntry.cell).Nodup → ∀ b, b ∈ s.desk.book → b.kind = .frameStart → b.p1 = w32 f →
          u.finished b.cell none [Config.openCode .stopped]) ∧
        (x.doffFinish = .pending → y.doffFinish = .made ∧ y.buildM = 0 ∧ (u.roller f).build = 0 ∧
          (s.output.page ≠ none → (u.counts f).doffs = min 4294967295 ((s.counts f).doffs + 1)) ∧
          ∀ b, b ∈ s.desk.book → b.kind = .doffNow → b.p1 = w32 f →
            u.finished b.cell none [1#32, x.doneStamp, w32 x.drainBuild]) ∧
        (x.doffFinish ≠ .pending → y.doffFinish = x.doffFinish ∧ y.buildM = x.buildM ∧
          (u.roller f).build = (s.roller f).build ∧ (u.counts f).doffs = (s.counts f).doffs) ∧
        ((x.state = .called → x.slot = none) → y.slot = none))

/-- FRAME_START (R100): the refusals in their order; a HALTED frame whose drive is present or LOST enters RESTARTING
with its grace loaded and no halt cause, RUN is handed to its drive, and the order is TAKEN. doff_owed and doff_finish
stand. -/
def Obligations.FrameStartRestartsAFrame : Prop :=
  ∀ (s : State) (c : CellRead), s.formed = true → s.takes .frameStart [c.p1] c →
    let f := c.p1.toNat
    let x := s.frame f
    let u := (s.heard c).orderFrameStart c
    let named := 1 ≤ f ∧ f ≤ 8
    let present := x.state ≠ .out ∧ (s.unit f).presence ≠ .absent
    exec (.frameStart c.p1) s = .next u.dropTaken.conclude ∧
      (¬named → u.answered c.cell (some .outOfRange) [] ∧ u.frames = s.frames) ∧
      (named → ¬present → u.answered c.cell (some .notPresent) [] ∧ u.frames = s.frames) ∧
      (named → present → x.state ≠ .halted → u.answered c.cell (some .notHalted) [] ∧ u.frames = s.frames) ∧
      (named → present → x.state = .halted →
        u.entered .frameStart c ∧
        u.frame f = { x with
          state := .restarting, grace := some (s.frameSettings f).grace, haltCause := none, doffTimer := ⟨false, 0⟩ } ∧
        u.unit f = (s.hand f .run).unit f ∧ (∀ g, g ≠ f → u.frame g = s.frame g) ∧ u.disp = s.disp ∧
        u.roving = s.roving ∧ u.watch = s.watch)

/-- CREEL_CHANGE (R123): the refusals in their order; else the section is queued by its stamp with the mill clock,
behind every stamp at or before it, the order is kept in the section, and it is TAKEN. -/
def Obligations.CreelChangeQueuesASection : Prop :=
  ∀ (s : State) (c : CellRead), s.formed = true → s.takes .creelChange [c.p1, c.p2] c →
    let f := c.p1.toNat
    let k := c.p2.toNat
    let creel := (f - 1) * 76 + k
    let u := (s.heard c).orderCreelChange c
    let named := (1 ≤ f ∧ f ≤ 8) ∧ 1 ≤ k ∧ k ≤ 76
    let present := (s.frame f).state ≠ .out ∧ (s.frameSettings f).sectionIn k = true
    let waits := (s.creel creel).state = .queued ∨ (s.creel creel).state = .changing
    exec (.creelChange c.p1 c.p2) s = .next u.dropTaken.conclude ∧
      (¬named → u.answered c.cell (some .outOfRange) [] ∧ u.roving = s.roving) ∧
      (named → ¬present → u.answered c.cell (some .notPresent) [] ∧ u.roving = s.roving) ∧
      (named → present → waits → u.answered c.cell (some .duplicate) [] ∧ u.roving = s.roving) ∧
      (named → present → ¬waits → 32 ≤ s.roving.queue.length →
        u.answered c.cell (some .full) [] ∧ u.roving = s.roving) ∧
      (named → present → ¬waits → s.roving.queue.length < 32 →
        u.entered .creelChange c ∧
        u.creel creel = { s.creel creel with
          state := .queued, queueStamp := some s.clock, orderSeq := some c.seq } ∧
        (∃ l r, s.roving.queue = l ++ r ∧ u.roving.queue = l ++ [creel] ++ r ∧
          (∀ e, e ∈ l → s.queueStampOf e ≤ s.clock.toNat) ∧
          ∀ e, r.head? = some e → s.clock.toNat < s.queueStampOf e) ∧
        (∀ e, e ≠ creel → u.creel e = s.creel e) ∧ u.roving.carriers = s.roving.carriers ∧
        u.watch = s.watch ∧ u.disp = s.disp ∧ u.frames = s.frames)

/-- SHIFT_TIMER and SHIFT_CLOSE (R139 to R142, R145): a boundary. With a page the view holds as FREE the open page
closes and the lowest such page opens with the mill clock; with none the boundary is absorbed and counted in the page's
merged count; ATT TALLY is raised. The timer is loaded again, and the cell of SHIFT_CLOSE is TAKEN with its order in the
book: both are said for a boundary with no switch pending, since a switch may change them in the same event. A timer
that has not run out changes nothing (the model's choice, log entry 6). The order of the captures is the model's choice
(log entry 52); the cause in BOUNDARY_ABSORBED, not stated here, has its close_cause code (log entry 51). -/
def Obligations.ShiftBoundariesTurnThePage : Prop :=
  ∀ (s : State) (c : CellRead), s.formed = true →
    let turned (cause : PageCause) (u : State) : Prop :=
      (∀ p, s.output.page = some p →
        u.regs.att &&& 4#32 = 4#32 ∧
        (∀ n r, s.freePages = n :: r → s.regs.part ≠ .stalled →
          u.output.page = some ⟨n, s.clock, cause, 0⟩ ∧ u.pageView n = some .opened ∧
          (p.number ≠ n → u.pageView p.number = some .closed)) ∧
        (s.freePages = [] ∨ s.regs.part = .stalled →
          u.output.page = some { p with merged := min 4294967295 (p.merged + 1) } ∧ u.output.view = s.output.view)) ∧
      (s.plan.pending = none → u.output.shift =
        if s.settings.shiftLength = 0 then ⟨false, 0⟩ else ⟨true, 60000 * s.settings.shiftLength⟩)
    (s.regs.part ≠ .halted → s.output.shift = ⟨true, 0⟩ →
      exec .shiftTimer s = .next (s.boundary .shiftTimer).conclude ∧ turned .shiftTimer (s.boundary .shiftTimer)) ∧
    (¬(s.regs.part ≠ .halted ∧ s.output.shift = ⟨true, 0⟩) → exec .shiftTimer s = .next s) ∧
    (s.takes .shiftClose [] c →
      let u := (s.heard c).orderShiftClose c
      exec .shiftClose s = .next u.dropTaken.conclude ∧ (s.plan.pending = none → u.entered .shiftClose c) ∧
        turned .shiftClose u)

/-- A SHIFT_CLOSE waits for the page writes of its boundary (R145): after a rotation the closing write of the page left
and the opening write of the page taken, after an absorbed boundary the rewrite of the open page. When the last of them
has ended the order is DONE with CLOSED or ABSORBED, the page, the stamp of the boundary and the merged count. During
the rewriting of RESUME (step 1) it waits on, whichever writes have ended; with none left when the rewriting is complete
it is DONE at the beginning of step 2, with the clock of that event, and its cell is written behind the cells held
before it (R184). A write of the open page counts when it began after the boundary; a closing write of another page
counts for nothing, and the closing write of the page whose opening or rewrite is awaited counts for that write
(deduced, log entry 33). -/
def Obligations.ShiftCloseWaitsForItsPages : Prop :=
  (∀ (s : State) (c : CellRead) (p : OpenPage), s.formed = true → s.regs.part = .running → s.output.page = some p →
    let u := s.orderShiftClose c
    (∀ n r, s.freePages = n :: r →
      u.output.wait = some ⟨false, p.number, n, s.clock, p.merged, true, true, false⟩) ∧
    (s.freePages = [] → u.output.wait =
      some ⟨true, p.number, p.number, s.clock, min 4294967295 (p.merged + 1), false, true, false⟩)) ∧
  ∀ (s : State) (w : ShiftWait), s.formed = true → s.output.wait = some w →
    let words : List Word := [if w.absorbed then 2#32 else 1#32, w32 w.page, w.stamp, w32 w.merged]
    let written (i : WriteItem) (x : ShiftWait) : Prop :=
      let u := s.itemWritten i
      (x.closeLeft = true ∨ x.openLeft = true ∨ s.regs.rewriting = some .rewrite → u = { s with
        writer := { s.writer with current := none }, output := { s.output with wait := some x } }) ∧
      (x.closeLeft = false → x.openLeft = false → s.regs.rewriting ≠ some .rewrite →
        u.output = { s.output with wait := none } ∧
          ∀ b, b ∈ s.desk.book → b.kind = .shiftClose → u.finished b.cell none words)
    (∀ c : ClosedPage, written (.closedPage c) { w with
      closeLeft := w.closeLeft && c.page.number != w.page, openLeft := w.openLeft && c.page.number != w.opens }) ∧
    written .openPage { w with openLeft := w.openLeft && !w.openBegun } ∧
    (s.regs.part = .stalled → s.regs.start = none → s.regs.rewriting = some .rewrite →
      let u := s.markReached
      let held := s.desk.held.map WriteItem.cellDone
      (w.closeLeft = true ∨ w.openLeft = true → u.output = s.output ∧ u.desk.book = s.desk.book ∧
        u.writer.queue = s.writer.queue ++ held ++ [.mark]) ∧
      (w.closeLeft = false → w.openLeft = false → u.output = { s.output with wait := none } ∧
        (∀ b, b ∈ s.desk.book → b.kind = .shiftClose →
          u.cellView b.cell = .done ∧ ∀ x, x ∈ u.desk.book → x.cell ≠ b.cell) ∧
        u.writer.queue = s.writer.queue ++ held ++
          ((s.desk.book.filter fun b => b.kind == .shiftClose).map fun b => .cellDone ⟨b.cell, none, words, s.clock⟩) ++
          [.mark]))

/-- PLAN_SWITCH (R150, R154): the refusals that need no reading; else the copy is read in transfers of 8 words (the
model's choice, log entry 9), the active copy too (log entry 35). Read whole, it is REFUSED INVALID with the three words
of the failure, or takes effect at once (NOW) and is DONE with the copy, its id, the clock and 0, or becomes pending and
is TAKEN (SHIFT_END). The validation (R151, R152) by item, frame and field: COPY for the active copy; CHECK for a wrong
check word; then the first field, group fields first and then the frames in plan, out of its range (RANGE) or its
relation (RELATION), where in_plan is read first of a frame's fields and a section start value above the full roving
length fails RELATION (deduced, log entry 17); then HOME, FRAME_STATE and SLOTS. The settings are the copy's words
(8.3). -/
def Obligations.PlanSwitchIsDecided : Prop :=
  (∀ (s : State) (c : CellRead),
    (s.takes .planSwitch [c.p1, c.p2] c →
      let v := s.heard c
      let named := (c.p1 = 1#32 ∨ c.p1 = 2#32) ∧ (c.p2 = 1#32 ∨ c.p2 = 2#32)
      (¬named → ∃ u : State, exec (.planSwitch c.p1 c.p2) s = .next u.dropTaken.conclude ∧
        u.answered c.cell (some .outOfRange) [] ∧ u.plan = s.plan) ∧
      (named → s.plan.pending ≠ none → ∃ u : State, exec (.planSwitch c.p1 c.p2) s = .next u.dropTaken.conclude ∧
        u.answered c.cell (some .pending) [] ∧ u.plan = s.plan) ∧
      (named → s.plan.pending = none →
        let copy : PlanCopy := if c.p1 = 1#32 then .p else .q
        let base := if c.p1 = 1#32 then 0x1000 else 0x3000
        exec (.planSwitch c.p1 c.p2) s = .next (State.conclude { v with
          plan := { v.plan with read := some ⟨copy, []⟩ }
          port := v.port.request ⟨.planStore, false, v.areaAddr base, 8, 0, []⟩ }))) ∧
    (∀ (r : PlanRead), r.words.length < 2048 →
      s.switchRead c r = { s with
        plan := { s.plan with read := some r }
        port := s.port.request
          ⟨.planStore, false, s.areaAddr (r.copy.offset + 4 * r.words.length), 8, 0, []⟩ }) ∧
    ∀ (r : PlanRead), 2048 ≤ r.words.length →
      let l := r.words.reverse
      let v : State := { s with plan := { s.plan with read := none } }
      let u := v.decideSwitch c r.copy l
      s.switchRead c r = u.dropTaken ∧
        (∀ x, v.switchFault r.copy l = some x → u.plan = v.plan ∧
          u.answered c.cell (some .invalid) [w32 x.item, w32 x.frame, w32 x.field]) ∧
        (v.switchFault r.copy l = none → c.p2 = 1#32 →
          u.plan.active = some ⟨r.copy, l.headD 0#32, parseSettings l⟩ ∧ u.plan.pending = none ∧
          u.answered c.cell none [w32 r.copy.code, l.headD 0#32, s.clock, 0#32]) ∧
        (v.switchFault r.copy l = none → c.p2 = 2#32 →
          u.plan.active = s.plan.active ∧ u.plan.pending = some ⟨⟨r.copy, l.headD 0#32, parseSettings l⟩, c.seq⟩ ∧
          u.entered .planSwitch c)) ∧
  (∀ (s : State) (copy : PlanCopy) (l : List Word), l.length = 2048 →
    let value (n : Nat) := (l.getD n 0#32).toNat
    let field (f n : Nat) := value (64 + 96 * (f - 1) + (n - 1))
    let frames (f : Nat) : Prop := 1 ≤ f ∧ f ≤ 8
    let groups := [(100, 1000), (50, 1000), (1, 15), (1, 7), (1, 7), (4, 31), (2, 15), (10, 480), (1, 7), (10, 120),
      (30, 600), (1, 64), (1, 2), (10, 300), (60, 900), (60, 1200), (60, 720), (1, 4095)]
    let perFrame := [(24, 912), (400, 10000), (100, 800), (2000, 20000), (1, 64), (100, 20000), (0, 2000), (2, 40),
      (0, 65535), (500, 6000), (50, 1000)]
    let inside (r : Nat × Nat) (v : Nat) : Prop := r.1 ≤ v ∧ v ≤ r.2
    let groupRange (n : Nat) : Prop :=
      inside (groups.getD (n - 1) (0, 16)) (value n) ∨ (n = 17 ∧ value n = 0)
    let groupRelation (n : Nat) : Prop := n = 18 → value n < s.writer.capacity
    let frameRange (f n : Nat) : Prop :=
      if n = 1 then value (64 + 96 * (f - 1)) ≤ 1
      else field f 1 = 1 → n ≤ 12 →
        inside (perFrame.getD (n - 2) (0, 0)) (field f n) ∧ (n = 2 → field f n % 24 = 0)
    let frameRelation (f n : Nat) : Prop := field f 1 = 1 →
      (n = 12 → field f 12 < field f 11) ∧
      (13 ≤ n → n - 12 ≤ field f 2 / 24 ∨ (39 ≤ n - 12 ∧ n - 12 ≤ 38 + field f 2 / 24) → field f n ≤ field f 11)
    let groupOk (n : Nat) : Prop := groupRange n ∧ groupRelation n
    let frameOk' (f n : Nat) : Prop := frameRange f n ∧ frameRelation f n
    let groupsOk : Prop := ∀ n, 1 ≤ n → n ≤ 26 → groupOk n
    let fieldsOk (f : Nat) : Prop := ∀ n, 1 ≤ n → n ≤ 88 → frameOk' f n
    let framesOk : Prop := ∀ f, frames f → fieldsOk f
    let shares (p : Nat) : Prop := ∃ q, 1 ≤ q ∧ q < p ∧ value (18 + q) = value (18 + p) ∧ value (18 + p) ≠ 0
    let homesOk : Prop := ∀ p, 1 ≤ p → p ≤ 8 → ¬shares p
    let t := parseSettings l
    let fixed (f : Nat) : Prop := (s.frame f).state ≠ .halted ∧ (s.frame f).state ≠ .out
    let frameStays (f : Nat) : Prop := fixed f →
      (t.frame f).inPlan = (s.frameSettings f).inPlan ∧ (t.frame f).perSide = (s.frameSettings f).perSide
    let fault := s.switchFault copy l
    let checked := s.plan.active.map Plan.copy ≠ some copy ∧
      l.getLast? = some (~~~ (l.take 2047).foldl (· + ·) 0#32)
    (s.plan.active.map Plan.copy = some copy → fault = some ⟨1, 0, 0⟩) ∧
    (s.plan.active.map Plan.copy ≠ some copy → l.getLast? ≠ some (~~~ (l.take 2047).foldl (· + ·) 0#32) →
      fault = some ⟨2, 0, 0⟩) ∧
    (checked → ∀ n, 1 ≤ n → n ≤ 26 → ¬groupOk n → (∀ m, 1 ≤ m → m < n → groupOk m) →
      (¬groupRange n → fault = some ⟨3, 0, n⟩) ∧ (groupRange n → fault = some ⟨4, 0, n⟩)) ∧
    (checked → groupsOk → ∀ f n, frames f → 1 ≤ n → n ≤ 88 → ¬frameOk' f n →
      (∀ g, 1 ≤ g → g < f → fieldsOk g) → (∀ m, 1 ≤ m → m < n → frameOk' f m) →
      (¬frameRange f n → fault = some ⟨3, f, n⟩) ∧ (frameRange f n → fault = some ⟨4, f, n⟩)) ∧
    (checked → groupsOk → framesOk → ∀ p, 1 ≤ p → p ≤ 8 → shares p → (∀ q, 1 ≤ q → q < p → ¬shares q) →
      fault = some ⟨5, 0, 18 + p⟩) ∧
    (checked → groupsOk → framesOk → homesOk →
      (∀ f, frames f → ¬frameStays f → (∀ g, 1 ≤ g → g < f → frameStays g) →
        fault = some ⟨6, f, if (t.frame f).inPlan = (s.frameSettings f).inPlan then 2 else 1⟩) ∧
      ((∀ f, frames f → frameStays f) →
        fault = if t.doffSlots < ((List.range' 1 8).filter fun f => (s.frame f).slot.isSome).length
          then some ⟨7, 0, 13⟩ else none))) ∧
  ∀ l : List Word, l.length = 2048 →
    let value (n : Nat) := (l.getD n 0#32).toNat
    let t := parseSettings l
    [t.sweepPeriod, t.scanInterval, t.passThreshold, t.kd, t.ku, t.slipLimit, t.rogueLimit, t.rogueWindow,
      t.attemptLimit, t.attemptTimeout, t.travelTimeout, t.lendThreshold, t.doffSlots, t.stopTimeout, t.doffTimeout,
      t.changeTimeout, t.shiftLength, t.journalThreshold] = (List.range' 1 18).map value ∧
    (∀ p, 1 ≤ p → p ≤ 8 → t.home p = if value (18 + p) = 0 then none else some (value (18 + p))) ∧
    ∀ f, 1 ≤ f → f ≤ 8 →
      let field (n : Nat) := value (64 + 96 * (f - 1) + (n - 1))
      t.frame f = if field 1 = 1 then
        ⟨true, field 2, field 3, field 4, field 5, field 6, field 7, field 8, field 9, field 10, field 11, field 12,
          (List.range' 13 76).map field⟩
        else ⟨false, 0, 0, 0, 0, 0, 0, 0, 0, 0, 0, 0, []⟩

/-- A plan switch takes effect (R158), NOW or at a boundary (R155, R156). At a boundary of any cause a pending switch is
tested again on FRAME_STATE and SLOTS as the records stand: it takes effect and its order is DONE with the boundary
cause (its close_cause code), or its order is REFUSED INVALID with the three words, the plan in force stands and no
journal entry is written; nothing is pending afterwards. The stages, in order: the plan and the home sides (R64); the
frames that leave and then those that come in or change their spindles per side, each in ascending number
(FramesEnterAndLeaveThePlan; that those that come in and those that change are taken together is the model's choice, log
entry 71); the compare values, with the BUILDING and NEARING frames placed by build_m (R102, R133), the frames in
ascending number (the model's choice, log entry 70); the doff slot arbiter when the slots rise (R86); lots and drafts of
the frames that stay (R125), the frames in ascending number (the model's choice, log entry 65); the shift timer when the
shift length comes from 0 or goes to 0 (R139; not at PART_STOP, deduced, log entry 28); the header and PLAN_SWITCHED
(R158; which half of its fifth word takes the mode is a free value, log entry 7, and the high half of its sixth word is
0, the model's choice, log entry 69). A slot is granted only while fewer frames hold slots than there are slots in force
(R160). The book's cells are distinct by EveryStepKeepsTheBook. -/
def Obligations.SwitchesTakeEffect : Prop :=
  let frames := List.range' 1 8
  let code (c : Option PageCause) : Nat := match c with
    | none => 0
    | some x => x.closeCode
  (∀ (s : State) (cause : PageCause), s.formed = true → (s.desk.book.map BookEntry.cell).Nodup →
    let u := s.planBoundary cause
    s.boundary cause = (s.boundaryPage cause).planBoundary cause ∧ (s.plan.pending = none → u = s) ∧
    ∀ q, s.plan.pending = some q →
      let t := q.plan.settings
      let stays (f : Nat) : Prop := (s.frame f).state ≠ .halted → (s.frame f).state ≠ .out →
        (t.frame f).inPlan = (s.frameSettings f).inPlan ∧ (t.frame f).perSide = (s.frameSettings f).perSide
      let fits := (frames.filter fun f => (s.frame f).slot.isSome).length ≤ t.doffSlots
      let refused (l : List Word) : Prop :=
        u.plan = { s.plan with pending := none } ∧ .header ∈ u.writer.queue ∧
        u = { s with plan := u.plan, desk := u.desk, writer := u.writer } ∧ u.writer.pending = s.writer.pending ∧
        (∀ e, .journal e ∈ u.writer.queue → .journal e ∈ s.writer.queue) ∧
        ∀ b, b ∈ s.desk.book → b.kind = .planSwitch → u.finished b.cell (some .invalid) l
      (∀ f, 1 ≤ f → f ≤ 8 → ¬stays f → (∀ g, 1 ≤ g → g < f → stays g) →
        refused [6#32, w32 f, if (t.frame f).inPlan = (s.frameSettings f).inPlan then 2#32 else 1#32]) ∧
      ((∀ f, 1 ≤ f → f ≤ 8 → stays f) → ¬fits → refused [7#32, 0#32, 13#32]) ∧
      ((∀ f, 1 ≤ f → f ≤ 8 → stays f) → fits →
        let words := [if q.plan.copy = .p then 1#32 else 2#32, q.plan.id, s.clock, w32 (code (some cause))]
        u = (s.applySwitch q.plan (some cause)).finishBook (fun b => b.kind == .planSwitch) none words ∧
        u.plan = { s.plan with active := some q.plan, pending := none } ∧
        ∀ b, b ∈ s.desk.book → b.kind = .planSwitch → u.finished b.cell none words)) ∧
  (∀ (s : State) (p : Plan) (cause : Option PageCause),
    let old := s.settings
    let v := (State.takeHomes { s with plan := { s.plan with active := some p, pending := none } }).switchFrames old
    let w := v.switchCompare
    let x := if old.doffSlots < w.settings.doffSlots then w.doffArbiter else w
    let u := s.applySwitch p cause
    u = ((x.switchRoving old).switchShift old cause).switchReport s.plan.active old cause ∧
    u.plan = { s.plan with active := some p, pending := none } ∧ w.settings = p.settings ∧ u.clock = s.clock ∧
    u.rogue = s.rogue) ∧
  (∀ s : State, s.formed = true →
    let u := s.takeHomes
    (∀ p, 1 ≤ p → p ≤ 8 → u.piecer p = { s.piecer p with home := s.settings.home p }) ∧
    u = { s with disp := { s.disp with piecers := u.disp.piecers }, writer := u.writer }) ∧
  (∀ (s : State) (old : Settings),
    let new := s.settings
    let leaving := frames.filter fun f => (old.frame f).inPlan && !(new.frame f).inPlan
    let staying := frames.filter fun f => (old.frame f).inPlan && (new.frame f).inPlan
    s.switchFrames old = frames.foldl
      (fun t f =>
        let n := (old.frame f).perSide
        let m := (new.frame f).perSide
        if n = 0 ∧ 0 < m then t.frameIn f else if 0 < n ∧ 0 < m ∧ n ≠ m then t.frameResized f n m else t)
      (leaving.foldl (fun t f => t.frameOut f (old.frame f).perSide) s) ∧
    s.switchCompare = (frames.filter fun f => (new.frame f).inPlan).foldl
      (fun t f =>
        let v := t.setRoller f { t.roller f with
          nearingValue := ((t.frameSettings f).doffLength - (t.frameSettings f).nearingMargin) * 1000
          doffValue := (t.frameSettings f).doffLength * 1000 }
        if (t.frame f).state = .building ∨ (t.frame f).state = .nearing then v.placeByBuild f .plan else v) s ∧
    s.switchRoving old = staying.foldl
      (fun t f =>
        let b := t.frameSettings f
        let v := if (old.frame f).lot = b.lot then t
          else ((sectionsInPlan b.perSide).map (creelNo f)).foldl (fun w k => w.lotRequeue k) t
        if (old.frame f).draft = b.draft then v else v.setFeed f { v.feed f with carry := 0 }) s ∧
    ∀ cause,
      let was := old.shiftLength
      let is := new.shiftLength
      s.switchShift old cause = (if was = 0 ∧ is ≠ 0 ∧ cause ≠ some .partStop then
          { s with output := { s.output with shift := ⟨true, 60000 * is⟩ } }
        else if was ≠ 0 ∧ is = 0 then { s with output := { s.output with shift := ⟨false, 0⟩ } } else s)) ∧
  (∀ (s : State) (f : Nat), s.formed = true → 1 ≤ f → f ≤ 8 → (s.frame f).state = .building ∨ (s.frame f).state = .nearing →
    let x := s.frame f
    let r := s.roller f
    let u := s.placeByBuild f .plan
    (r.doffValue ≤ 1000 * x.buildM → u.journalled .doffCalled f 0 [4#32, w32 x.buildM] ∧
      (((u.frame f).state = .called ∧ (u.frame f).callCause = some .plan) ∨
        ((u.frame f).state = .draining ∧ (u.frame f).slot ≠ none))) ∧
    (1000 * x.buildM < r.doffValue →
      u.frame f = { x with state := if r.nearingValue ≤ 1000 * x.buildM then .nearing else .building } ∧
      ∀ g, g ≠ f → u.frame g = s.frame g)) ∧
  (∀ (s : State) (k : Nat), s.formed = true →
    let x := s.creel k
    let u := s.lotRequeue k
    (x.state ≠ .lotHold → u = s) ∧
    (x.state = .lotHold →
      (s.roving.queue.length < 32 → u.creel k = { x with state := .queued, queueStamp := some s.clock } ∧
        k ∈ u.roving.queue) ∧
      (32 ≤ s.roving.queue.length → u.creel k = { x with state := .low } ∧ u.roving.queue = s.roving.queue) ∧
      ∀ e, e ≠ k → u.creel e = s.creel e)) ∧
  (∀ (s : State) (left : Option Plan) (old : Settings) (cause : Option PageCause), s.formed = true →
    let new := s.settings
    let bits (t r : Settings) := (frames.filter fun f => (t.frame f).inPlan && !(r.frame f).inPlan).foldl
      (fun a f => a + 2 ^ (f - 1)) 0
    let copy (p : Option Plan) : Word := match p with
      | some x => if x.copy = .p then 1#32 else 2#32
      | none => 0#32
    let id (p : Option Plan) : Word := match p with
      | some x => x.id
      | none => 0#32
    let mode := if cause = none then 1 else 2
    let halves := if Config.switchModeLow then w32 (mode + 65536 * code cause) else w32 (code cause + 65536 * mode)
    let u := s.switchReport left old cause
    .header ∈ u.writer.queue ∧
    u.journalled .planSwitched 0 0 [copy left, copy s.plan.active, id left, id s.plan.active, halves,
      w32 (bits new old + 256 * bits old new)] ∧
    u = { s with writer := u.writer }) ∧
  ∀ s : State,
    let slots := s.settings.doffSlots
    let held (k : Nat) : Prop := (frames.any fun f => (s.frame f).slot == some k) = true
    let holders := (frames.filter fun f => (s.frame f).slot.isSome).length
    (slots ≤ holders → s.freeSlot = none) ∧
    ∀ k, s.freeSlot = some k ↔ holders < slots ∧ 1 ≤ k ∧ k ≤ slots ∧ ¬held k ∧ ∀ j, 1 ≤ j → j < k → held j

/-- What a plan switch does to a frame that leaves the plan, comes into it, or changes its spindles per side (R13, R22,
R102, R125, R147, R159). A frame that leaves, HALTED or OUT, enters OUT: its record, its counter, its feed and its sweep
are cleared with its stop time brought up to date, its spindles are ABSENT, its end lists are empty, its strips are
clear, its sections are FED with nothing remaining and out of the change queue, a carrier that served one is sent back,
its SIDE-placed piecers become POOL-placed, and a DOFF_NOW on it and a CREEL_CHANGE on its sections are REFUSED
NOT_PRESENT, and a SELF_CHECK under way there is DONE with CUT_SHORT (coded 2, deduced, log entry 58). A frame that
comes in is HALTED by PLAN with its counter, sections, strips, spindles and sweep set up, its LOW sections queued by
ascending remaining while the queue has room. With changed spindles per side the same is done to the positions and
sections that leave or come in, and the others stand. The Repeat-Breaker Table stands (R34). The book's cells are
distinct by EveryStepKeepsTheBook. -/
def Obligations.FramesEnterAndLeaveThePlan : Prop :=
  let sections (f : Nat) (l : List Nat) := l.map fun k => (f - 1) * 76 + k
  let gone (s u : State) (f : Nat) (l : List Nat) : Prop :=
    u.roving.queue = s.roving.queue.filter (fun e => !(sections f l).contains e) ∧
    (s.roving.queue.any (fun e => (sections f l).contains e) = true → u.work.refill = true) ∧
    ∀ k, k ∈ l →
      let e := (f - 1) * 76 + k
      u.creel e = ⟨0, .fed, none, none, .none, .none, false, none⟩ ∧ u.strip e = ⟨false, 0, 0, none⟩ ∧
      (∀ c, (s.creel e).carrier = some c →
        let y := u.carrier c
        y.state = .returning ∧ y.creel = none ∧ y.lotSent = none ∧ y.change = ⟨false, 0⟩ ∧
        y.back = ⟨true, 1000 * s.settings.changeTimeout⟩ ∧ y.lotLoaded = (s.carrier c).lotLoaded ∧
        ((s.unit (16 + c)).presence = .present →
          .ret ∈ (u.unit (16 + c)).queue ∨ (u.unit (16 + c)).presence = .lost)) ∧
      ∀ b, b ∈ s.desk.book → b.p1 = w32 f → b.p2 = w32 k →
        (b.kind = .creelChange → u.finished b.cell (some .notPresent) []) ∧
        (b.kind = .selfCheck → (s.strip e).check ≠ none → u.finished b.cell none [0#32, 0#32, 2#32])
  let came (v u : State) (f : Nat) (l : List Nat) : Prop :=
    let t := v.frameSettings f
    let low (k : Nat) : Prop := t.start k ≤ t.lowThreshold
    (∀ e, (sections f l).contains e = false → (e ∈ u.roving.queue ↔ e ∈ v.roving.queue)) ∧
    (∀ k, k ∈ l →
      let e := (f - 1) * 76 + k
      let x : Creel := ⟨1000 * t.start k, .low, none, none, .none, .none, false, none⟩
      u.strip e = ⟨false, 0, 0, none⟩ ∧
      (¬low k → u.creel e = { x with state := .fed }) ∧
      (low k → (u.creel e = { x with state := .queued, queueStamp := some v.clock } ∧ e ∈ u.roving.queue) ∨
        (u.creel e = x ∧ 32 ≤ u.roving.queue.length))) ∧
    ∀ j k, j ∈ l → k ∈ l → low j → low k → (u.creel ((f - 1) * 76 + j)).state = .queued →
      (u.creel ((f - 1) * 76 + k)).state = .low → t.start j ≤ t.start k
  let fresh (t : FrameSettings) (n : Nat) : Spindle :=
    ⟨if t.start ((n - 1) / 24 + 1) = 0 then .starved else .settling, false, false, 0, none, none, 0#32, 0, none⟩
  (∀ (s : State) (f n : Nat), s.formed = true → (s.desk.book.map BookEntry.cell).Nodup → 1 ≤ f → f ≤ 8 → n ≤ 912 →
    (s.frame f).state = .halted ∨ (s.frame f).state = .out →
    let x := s.frame f
    let u := s.frameOut f n
    u.frame f = { x with state := .out, doffOwed := false, doffFinish := .none, haltCause := none, buildM := 0 } ∧
    u.roller f = ⟨0, 0#32, 0#32, 0, 0, 0, 0, 0, none⟩ ∧ u.feed f = ⟨0, 0, 0⟩ ∧ u.sweep f = ⟨⟨false, 0⟩, 0, []⟩ ∧
    u.counts f = (match (s.roller f).stopMark, s.output.page with
      | some m, some _ => { s.counts f with stopDs := min 4294967295 ((s.counts f).stopDs + (s.clock - m).toNat) }
      | _, _ => s.counts f) ∧
    (∀ k, 1 ≤ k → k ≤ 1824 → u.spindle f k = ⟨.absent, false, false, 0, none, none, 0#32, 0, none⟩) ∧
    gone s u f (sectionsInPlan n) ∧
    (∀ d, d = 2 * f - 1 ∨ d = 2 * f → u.side d = { s.side d with entries := [] } ∧
      ∀ p, (s.side d).piecer = some p → (s.piecer p).placement = .side →
        (u.piecer p).placement = .pool ∧ u.work.arbiter = true) ∧
    (∀ b, b ∈ s.desk.book → b.kind = .doffNow → b.p1 = w32 f → u.finished b.cell (some .notPresent) []) ∧
    (∀ g, g ≠ f → u.frame g = s.frame g ∧ u.roller g = s.roller g ∧ u.feed g = s.feed g ∧ u.sweep g = s.sweep g ∧
      u.counts g = s.counts g) ∧
    (∀ e, (sections f (sectionsInPlan n)).contains e = false → u.creel e = s.creel e ∧ u.strip e = s.strip e) ∧
    (∀ g k, 1 ≤ g → g ≠ f → 1 ≤ k → k ≤ 1824 → u.spindle g k = s.spindle g k) ∧ u.rogue = s.rogue) ∧
  (∀ (s : State) (f : Nat), s.formed = true → 1 ≤ f → f ≤ 8 → (s.frameSettings f).perSide ≤ 912 →
    let t := s.frameSettings f
    let x := s.frame f
    let n := t.perSide
    let inPlan (k : Nat) : Prop := k ≤ n ∨ (913 ≤ k ∧ k ≤ 912 + n)
    let u := s.frameIn f
    u.frame f = { x with state := .halted, haltCause := some .plan, buildM := 0 } ∧
    u.roller f = ⟨t.pulses, 0#32, 0#32, 0, 0, (t.doffLength - t.nearingMargin) * 1000, t.doffLength * 1000, 0,
      if s.output.page = none then none else some s.clock⟩ ∧
    u.sweep f = ⟨⟨true, s.settings.sweepPeriod⟩, s.settings.sweepPeriod, []⟩ ∧ came s u f (sectionsInPlan n) ∧
    (∀ k, 1 ≤ k → k ≤ 1824 → (inPlan k → n % 24 = 0 → u.spindle f k = fresh t k) ∧
      (¬inPlan k → u.spindle f k = s.spindle f k)) ∧
    (∀ g, g ≠ f → u.frame g = s.frame g ∧ u.roller g = s.roller g ∧ u.sweep g = s.sweep g) ∧
    (∀ g k, 1 ≤ g → g ≠ f → 1 ≤ k → k ≤ 1824 → u.spindle g k = s.spindle g k) ∧
    u.disp = s.disp ∧ u.roving.carriers = s.roving.carriers ∧ u.rogue = s.rogue ∧ u.desk = s.desk) ∧
  ∀ (s : State) (f n m : Nat), s.formed = true → (s.desk.book.map BookEntry.cell).Nodup → 1 ≤ f → f ≤ 8 → n ≤ 912 →
    m ≤ 912 → n % 24 = 0 → m % 24 = 0 →
    let t := s.frameSettings f
    let leaves (k : Nat) : Prop := (m < k ∧ k ≤ n) ∨ (912 + m < k ∧ k ≤ 912 + n)
    let comes (k : Nat) : Prop := (n < k ∧ k ≤ m) ∨ (912 + n < k ∧ k ≤ 912 + m)
    let out := (sectionsInPlan n).filter fun k => !(sectionsInPlan m).contains k
    let new := (sectionsInPlan m).filter fun k => !(sectionsInPlan n).contains k
    let u := s.frameResized f n m
    (∀ k, 1 ≤ k → k ≤ 1824 →
      (leaves k → u.spindle f k = ⟨.absent, false, false, 0, none, none, 0#32, 0, none⟩ ∧
        ∀ e, e ∈ (u.side (sideOf f k)).entries → e.spindle ≠ k) ∧
      (comes k → u.spindle f k = fresh t k) ∧ (¬leaves k → ¬comes k → u.spindle f k = s.spindle f k)) ∧
    (m ≤ n → gone s u f out) ∧ (n ≤ m → came s u f new) ∧
    (∀ e, (sections f out).contains e = false → (sections f new).contains e = false →
      u.creel e = s.creel e ∧ u.strip e = s.strip e) ∧
    (∀ d, d = 2 * f - 1 ∨ d = 2 * f → d ∈ u.work.relist ∧ (u.side d).piecer = (s.side d).piecer ∧
      (u.side d).entries = (s.side d).entries.filter fun e => decide ¬(leaves e.spindle ∧ sideOf f e.spindle = d)) ∧
    (∀ g, g ≠ f → u.sweep g = s.sweep g) ∧ u.sweep f = s.sweep f ∧ u.frames = s.frames ∧
    u.output.rollers = s.output.rollers ∧ u.output.counts = s.output.counts ∧
    (∀ g k, 1 ≤ g → g ≠ f → 1 ≤ k → k ≤ 1824 → u.spindle g k = s.spindle g k) ∧ u.rogue = s.rogue

/-- WITHDRAW (R176, with R76, R84, R124, R157): DONE with the cell of an order in the deferred list, or in the book and
withdrawable, which is REFUSED WITHDRAWN with its owner's effects (a frame called by DOFF_NOW goes where its build_m
puts it); REFUSED TOO_LATE for another in the book, NOT_FOUND for one in neither. -/
def Obligations.WithdrawAnswersByTheNamedOrder : Prop :=
  ∀ (s : State) (c : CellRead), s.formed = true → s.takes .withdraw [c.p1] c →
    let v := s.heard c
    let u := v.orderWithdraw c
    exec (.withdraw c.p1) s = .next u.dropTaken.conclude ∧
      (∀ cell w, v.desk.deferred.find? (fun e => e.2 == c.p1) = some (cell, w) → cell ≠ c.cell →
        u.answered c.cell none [w32 cell] ∧ u.finished cell (some .withdrawn) [] ∧ ∀ e, e ∈ u.desk.deferred → e.1 ≠ cell) ∧
      (v.desk.deferred.find? (fun e => e.2 == c.p1) = none →
        (s.desk.book.find? (fun b => b.seq == c.p1) = none → u.answered c.cell (some .notFound) []) ∧
        ∀ b, s.desk.book.find? (fun b => b.seq == c.p1) = some b →
          let f := b.p1.toNat
          let creel := (f - 1) * 76 + b.p2.toNat
          let can := (b.kind = .planSwitch ∧ s.plan.pending ≠ none) ∨ (b.kind = .doffNow ∧ (s.frame f).state = .called) ∨
            (b.kind = .creelChange ∧ ((s.creel creel).state = .queued ∨ (s.creel creel).state = .low)) ∨
            (b.kind = .piecerPlace ∧ (s.piecer f).state = .moving)
          (¬can → u.answered c.cell (some .tooLate) [] ∧ u.frames = s.frames ∧ u.roving = s.roving ∧ u.disp = s.disp ∧
            u.plan = s.plan) ∧
          (can → u.answered c.cell none [w32 b.cell] ∧
            (b.cell ≠ c.cell → u.finished b.cell (some .withdrawn) []) ∧ (∀ e, e ∈ u.desk.book → e.cell ≠ b.cell) ∧
            (b.kind = .planSwitch → u.plan = { s.plan with pending := none }) ∧
            (b.kind = .doffNow → (u.frame f).doffOwed = false ∧
              let build := 1000 * (s.frame f).buildM
              (build < (s.roller f).doffValue → (u.frame f).callStamp = none ∧ (u.frame f).callCause = none ∧
                (u.frame f).state = if (s.roller f).nearingValue ≤ build then .nearing else .building) ∧
              ((s.roller f).doffValue ≤ build → s.freeSlot = none → (u.frame f).state = .called ∧
                (u.frame f).callStamp = some s.clock ∧ (u.frame f).callCause = some .compare)) ∧
            (b.kind = .creelChange → u.creel creel = { s.creel creel with
              state := if (s.creel creel).remaining / 1000 ≤ (s.frameSettings (creelFrame creel)).lowThreshold then .low
                else .fed
              queueStamp := none, orderSeq := none } ∧ ∀ e, e ∈ u.roving.queue → e ≠ creel) ∧
            (b.kind = .piecerPlace → u.piecer f = { s.piecer f with placement := .pool, parkOwed := false })))

/-! ### Timeouts -/

/-- ATTEMPT_TIMEOUT (R49, R51, R53): the token becomes void, ABANDON is handed, the failure TIMEOUT adds 1 to attempts
with the limit test, and the piecer's attempt is over; PARK follows when a park is owed or the part winds down. A timer
that has not run out changes nothing (the model's choice, log entry 6). HELD and REFUSED_HOLD (R48, R117). HELD before
the join point with a carrier waiting: the attempt becomes HELD, its timer is paused, the lock passes to the carrier,
which is WORKING with CHANGE handed, and the piecer waits for it. At or past the join point, or with no carrier waiting,
RESUME is handed and the attempt runs on. REFUSED_HOLD, and a HELD taken as one, clears hold_sent of a lock that a
carrier waits for. A HELD with the current token while HELD changes nothing (the model's choice, log entry 42). -/
def Obligations.AttemptsTimeOutAndHold : Prop :=
  (∀ (s : State) (p d n : Nat) (t : Token), s.formed = true →
    let x := s.piecer p
    let f := (d + 1) / 2
    let creel := creelNo f ((n - 1) / 24 + 1)
    let out := s.regs.part ≠ .halted ∧ x.attempt = ⟨true, 0⟩
    let u := s.attemptExpires p
    let handed := s.hand (8 + p) (.abandon t)
    (¬out → exec (.attemptTimeout p) s = .next s) ∧
    (out → exec (.attemptTimeout p) s = .next u.conclude) ∧
    (x.current = some t → x.spindle = some n → x.side = some d →
      (u.piecer p).current = none ∧ (u.piecer p).void = some t ∧ (u.piecer p).spindle = none ∧
      (u.piecer p).attempt = ⟨false, 0⟩ ∧
      (u.piecer p).state = (if x.parkOwed = true ∨ s.winding = true then .parked else .onSide) ∧
      (p ≤ 8 → (∀ c, (s.creel creel).waiting = .carrier c → 1 ≤ c) →
        u.unit (8 + p) = if x.parkOwed = true ∨ s.winding = true then (handed.hand (8 + p) .park).unit (8 + p)
          else handed.unit (8 + p)) ∧
      ((s.spindle f n).state = .piecing →
        let attempts := min 7 ((s.spindle f n).attempts + 1)
        (u.spindle f n).attempts = attempts ∧
        (attempts < s.settings.attemptLimit → (u.spindle f n).state = .down ∧ (u.spindle f n).listed = true) ∧
        (s.settings.attemptLimit ≤ attempts →
          (u.spindle f n).state = .cutOut ∧ (u.spindle f n).cutCause = some .attempts)) ∧
      (u.creel creel).lock ≠ .piecer p ∧ (∀ q, q ≠ p → u.piecer q = s.piecer q) ∧ u.frames = s.frames ∧
      ∀ g m, spindleKey g m ≠ spindleKey f n → u.spindle g m = s.spindle g m)) ∧
  ∀ (s : State) (v : Visit) (r : Reply) (token : Token) (d n : Nat), s.formed = true → s.reports v r .piecer →
    let p := v.addr - 8
    let x := s.piecer p
    let k := creelNo ((d + 1) / 2) ((n - 1) / 24 + 1)
    let t := s.replyTaken v r
    let u := t.takeHeld p token
    let w := t.takeRefusedHold p token
    exec (.held r token) s = .next u.conclude ∧ exec (.refusedHold r token) s = .next w.conclude ∧
      u.watch = s.watch ∧ u.frames = s.frames ∧ w.watch = s.watch ∧ w.frames = s.frames ∧
      (x.current = some token → x.state ≠ .attempting → u = t) ∧
      (x.state = .attempting → x.current = some token → x.spindle = some n → x.side = some d →
        (∀ c, (s.creel k).waiting = .carrier c →
          (pastJoin x.stage = false →
            u.piecer p = { x with state := .held, attempt := { x.attempt with running := false } } ∧
            u.creel k = { s.creel k with lock := .carrier c, waiting := .piecer p, holdSent := false } ∧
            (u.carrier c).state = .working ∧ (u.carrier c).change = { (s.carrier c).change with running := true } ∧
            u.unit (16 + c) = (t.hand (16 + c) .change).unit (16 + c)) ∧
          (pastJoin x.stage = true → u.piecer p = x ∧ u.creel k = { s.creel k with holdSent := false } ∧
            u.unit (8 + p) = (t.hand (8 + p) (.resume token)).unit (8 + p) ∧
            u.roving.carriers = s.roving.carriers) ∧
          w.creel k = { s.creel k with holdSent := false } ∧ w.piecer p = x ∧
          w.roving.carriers = s.roving.carriers) ∧
        ((∀ c, (s.creel k).waiting ≠ .carrier c) → u = t.hand (8 + p) (.resume token) ∧ w = t))

/-- The losses of a piecer (R72, R77) and its placing after a return (R78). TRAVEL_TIMEOUT of a MOVING or parking
piecer, and a FAULT report, make it LOST with returned clear, its attempt ended, its side unserved, its placement POOL
and its queue emptied. AT_SIDE and PARKED of a LOST piecer that has returned, or that they bring back (with UNIT_BACK
journalled and a void token abandoned): PARKED puts it in the bay; AT_SIDE on an unserved side of a frame in plan puts
it ON_SIDE there; on another side it goes home, is lent, or goes to the bay, as a PARKED piecer does; while the part
winds down it goes to the bay. RETURN_PLACE_TIMEOUT sends a returned piecer to the bay. The model's choices: a timer
that has not run out changes nothing (log entry 6), the codes of UnitKind.code and the causes TRAVEL_TIMEOUT 1 and FAULT
2 of UNIT_LOST (log entry 7), the reason RETURN of a return not placed in time (log entry 16), UNIT_LOST's layout (log
entry 41), the order of the passes and R66's evaluation (log entry 44). -/
def Obligations.PiecersAreLostOrPlacedInTheBay : Prop :=
  ∀ (s : State) (p : Nat), s.formed = true →
    let x := s.piecer p
    let out := s.regs.part ≠ .halted ∧ x.travel = ⟨true, 0⟩
    let travels := x.state = .moving ∨ x.state = .parked
    let waits := x.state = .lost ∧ x.returned = true
    (out → travels →
      exec (.travelTimeout p) s = .next (s.losePiecer p lostByTravel).conclude) ∧
    (¬(out ∧ travels) → exec (.travelTimeout p) s = .next s) ∧
    (∀ v r, s.reports v r .piecer → v.addr = 8 + p → 1 ≤ p →
      exec (.fault r) s = .next ((s.replyTaken v r).losePiecer p lostByFault).conclude ∧
        (s.replyTaken v r).formed = true ∧ (s.replyTaken v r).disp = s.disp ∧ (s.replyTaken v r).regs = s.regs) ∧
    lostByTravel = 1#32 ∧ lostByFault = 2#32 ∧
    (∀ cause,
      let u := s.losePiecer p cause
      let y := u.piecer p
      (x.state = .absent ∨ x.state = .lost → u = s) ∧
      (x.state ≠ .absent → x.state ≠ .lost →
        y.state = .lost ∧ y.returned = false ∧ y.side = none ∧ y.placement = .pool ∧ y.parkOwed = false ∧
        y.travel = ⟨false, 0⟩ ∧ y.current = none ∧ y.position = x.position ∧ y.descending = x.descending ∧
        (x.current ≠ none → x.spindle ≠ none → x.side ≠ none → y.void = x.current) ∧
        (∀ d, x.side = some d → (u.side d).piecer = none ∧ (u.frame ((d + 1) / 2)).unit = true) ∧
        (∀ q, q ≠ p → u.piecer q = s.piecer q) ∧ (u.unit (8 + p)).queue = [] ∧
        u.journalled .unitLost 0 (8 + p) [(unitKind (8 + p)).code, w32 (unitNumber (8 + p)), cause] ∧
        u.regs.att &&& 16#32 = 16#32 ∧ u.regs.att &&& 2#32 = 2#32)) ∧
    (∀ v r d pos, s.reports v r .piecer → v.addr = 8 + p → 1 ≤ d → d ≤ 16 → 1 ≤ pos → pos ≤ 1824 →
      x.state = .lost →
      let t := s.replyTaken v r
      let u := t.takeAtSide p d pos
      let y := u.piecer p
      let w := t.takeParked p
      let onIt := if d % 2 = 0 then 913 ≤ pos else pos ≤ 912
      let first := if d % 2 = 0 then 913 else 1
      let half := (s.frameSettings ((d + 1) / 2)).perSide / 2
      let free := (s.frame ((d + 1) / 2)).state ≠ .out ∧ (s.side d).piecer = none
      let back (z : State) : Prop :=
        z.journalled .unitBack 0 (8 + p) [UnitKind.piecer.code, w32 p, w32 (s.clock - x.lostStamp).toNat]
      let moves (e : Nat) : Prop := y.state = .moving ∧ y.side = some e ∧ (u.side e).piecer = some p ∧
        y.returned = false ∧ y.travel = ⟨true, 1000 * s.settings.travelTimeout⟩
      let parks : Prop := y.state = .parked ∧ y.side = none ∧ y.placement = .pool ∧ y.atBay = false ∧
        y.returned = false ∧ y.travel = ⟨true, 1000 * s.settings.travelTimeout⟩
      let goesHome (h : Nat) : Prop := x.home = some h ∧ (s.side h).piecer = none ∧
        ((s.frame ((h + 1) / 2)).state = .building ∨ (s.frame ((h + 1) / 2)).state = .nearing ∨
          (s.frame ((h + 1) / 2)).state = .called)
      exec (.atSide r d pos) s = .next u.conclude ∧ exec (.parked r) s = .next w.conclude ∧
      (x.returned = false → x.byLink = true → u = t ∧ w = t) ∧
      (x.returned = true ∨ x.byLink = false →
        (x.returned = false → back u ∧ back w ∧
          ∀ token, x.void = some token →
            w.unit (8 + p) = (t.hand (8 + p) (.abandon token)).unit (8 + p) ∧
            (free → s.winding = false → u.unit (8 + p) = (t.hand (8 + p) (.abandon token)).unit (8 + p))) ∧
        w.piecer p = { x with
          state := .parked, atBay := true, placement := .pool, returned := false, travel := ⟨false, 0⟩ } ∧
        (s.winding = true → parks) ∧
        (s.winding = false → free →
          y.state = .onSide ∧ y.side = some d ∧ (u.side d).piecer = some p ∧ y.returned = false ∧
          y.travel = ⟨false, 0⟩ ∧ y.placement = x.placement ∧
          (onIt → y.position = some pos ∧ (y.descending = false ↔ pos < first + half)) ∧
          (¬onIt → y.position = some first ∧ y.descending = false)) ∧
        (s.working = true → ¬free →
          (∀ h, goesHome h → moves h) ∧
          (∀ e, (∀ h, ¬goesHome h) → s.lendTarget allSides = some e → moves e) ∧
          ((∀ h, ¬goesHome h) → s.lendTarget allSides = none → parks))) ∧
      ∀ q, q ≠ p → u.piecer q = s.piecer q ∧ w.piecer q = s.piecer q) ∧
    (out → waits →
      let u := s.sendToBay p .pool (some .back)
      exec (.returnPlaceTimeout p) s = .next u.conclude ∧ (u.piecer p).state = .parked ∧
        (u.piecer p).placement = .pool ∧ (u.piecer p).atBay = false ∧ (u.piecer p).returned = false ∧
        (u.piecer p).travel = ⟨true, 1000 * s.settings.travelTimeout⟩) ∧
    (¬(out ∧ waits) → exec (.returnPlaceTimeout p) s = .next s)

/-- STOP_TIMEOUT and DOFF_TIMEOUT (R92): the frame is HALTED with that cause and owes its doff, its slot is released,
its timers are stopped, its ALARM bit is set, ATT ALARM and ATT JOURNAL are raised, and the drive's waiting commands
(every command not yet sent: the model's choice, log entry 18) are withdrawn before STOP is handed. A timer that has not
run out changes nothing (the model's choice, log entry 6). -/
def Obligations.DoffTimersHaltTheFrame : Prop :=
  ∀ (s : State) (f : Nat), s.formed = true →
    let x := s.frame f
    let failed (cause : HaltCause) (u : State) : Prop :=
      let y := u.frame f
      y.state = .halted ∧ y.haltCause = some cause ∧ y.doffOwed = true ∧ y.slot = none ∧ y.stopTimer = ⟨false, 0⟩ ∧
        y.doffTimer = ⟨false, 0⟩ ∧ y.alarm = true ∧ y.doffFinish = x.doffFinish ∧ y.buildM = x.buildM ∧
        u.regs.att &&& 8#32 = 8#32 ∧ u.regs.att &&& 2#32 = 2#32 ∧
        (s.nextCalled = none → u.unit f = ((s.withdrawDrive f).hand f .stop).unit f)
    (s.regs.part ≠ .halted ∧ x.stopTimer = ⟨true, 0⟩ →
      exec (.stopTimeout f) s = .next (s.doffFails f .stopTimeout).conclude ∧
        failed .stopTimeout (s.doffFails f .stopTimeout)) ∧
    (s.regs.part ≠ .halted ∧ x.doffTimer = ⟨true, 0⟩ →
      exec (.doffTimeout f) s = .next (s.doffFails f .doffTimeout).conclude ∧
        failed .doffTimeout (s.doffFails f .doffTimeout)) ∧
    (¬(s.regs.part ≠ .halted ∧ x.stopTimer = ⟨true, 0⟩) → exec (.stopTimeout f) s = .next s) ∧
    (¬(s.regs.part ≠ .halted ∧ x.doffTimer = ⟨true, 0⟩) → exec (.doffTimeout f) s = .next s)

/-- CHANGE_TIMEOUT and CHANGE_FAULT (R119, R121): a change under way fails, the carrier becomes FAULT with its timers
stopped, the section is QUEUED at the head with its remaining unchanged, ATT UNIT is raised and the frame's UNIT bit
set. From an IDLE or RETURN carrier a CHANGE_FAULT makes it FAULT, with CREEL_FAULT naming no section and ATT UNIT
raised, RETURN handed to the IDLE one; from a FAULT carrier it changes nothing. A timer that has not run out changes
nothing (the model's choice, log entry 6). CHANGE_DONE (R12, R118): the section's remaining is the full roving length,
it is FED with no carrier, its STARVED spindles are DOWN again, the lock goes back to a held piecer or becomes free, and
the carrier is sent back. From a carrier not WORKING it changes nothing (R121). -/
def Obligations.ChangesEnd : Prop :=
  (∀ (s : State) (c k : Nat), s.formed = true →
     let x := s.carrier c
     let out := s.regs.part ≠ .halted ∧ x.change = ⟨true, 0⟩
     (out → exec (.changeTimeout c) s = .next (s.changeFails c .timeout).conclude) ∧
     (¬out → exec (.changeTimeout c) s = .next s) ∧
     (∀ v r, s.reports v r .carrier → v.addr = 16 + c → 1 ≤ c →
       let t := s.replyTaken v r
       let idle := t.sendBackFault c
       (x.state = .idle → exec (.changeFault r) s =
           .next ((idle.journal .creelFault 0 c [0#32, 2#32, 1#32]).raise .unit).conclude ∧
         idle.carrier c = { x with
           state := .fault, creel := none, lotSent := none, change := ⟨false, 0⟩, back := ⟨false, 0⟩, shownLeft := 0 } ∧
         idle.unit (16 + c) = (t.hand (16 + c) .ret).unit (16 + c) ∧ idle.roving.creels = s.roving.creels) ∧
       (x.state = .returning → exec (.changeFault r) s =
           .next (((t.setCarrier c { x with state := .fault, back := ⟨false, 0⟩ }).journal .creelFault 0 c
             [0#32, 7#32, 1#32]).raise .unit).conclude) ∧
       (x.state = .fault ∨ x.state = .absent ∨ x.state = .lost → exec (.changeFault r) s = .next t.conclude)) ∧
     (∀ v r, s.reports v r .carrier → v.addr = 16 + c → 1 ≤ c → x.state.serving = true →
       exec (.changeFault r) s = .next ((s.replyTaken v r).changeFails c .changeFault).conclude ∧
         (s.replyTaken v r).formed = true ∧ (s.replyTaken v r).roving = s.roving ∧
         (s.replyTaken v r).frames = s.frames ∧ (s.replyTaken v r).regs = s.regs) ∧
     ∀ e, x.creel = some k →
       let u := s.changeFails c e
       let y := u.carrier c
       y.state = .fault ∧ y.creel = none ∧ y.change = ⟨false, 0⟩ ∧ y.back = ⟨false, 0⟩ ∧ y.lotLoaded = x.lotLoaded ∧
         (u.creel k).state = .queued ∧ (u.creel k).remaining = (s.creel k).remaining ∧ (u.creel k).carrier = none ∧
         u.roving.queue.head? = some k ∧ (u.creel k).lock ≠ .carrier c ∧ (u.creel k).waiting ≠ .carrier c ∧
         (u.frame ((k - 1) / 76 + 1)).unit = true ∧ u.regs.att &&& 16#32 = 16#32 ∧ u.watch = s.watch ∧
         ∀ e, e ≠ c → u.carrier e = s.carrier e) ∧
  (∀ (s : State) (v : Visit) (r : Reply) (k : Nat), s.formed = true → s.reports v r .carrier → 1 ≤ k →
     let c := v.addr - 16
     let x := s.carrier c
     let f := (k - 1) / 76 + 1
     let sectionNo := (k - 1) % 76 + 1
     let t := s.replyTaken v r
     let u := t.takeChangeDone c
     let y := u.carrier c
     exec (.changeDone r) s = .next u.conclude ∧
       (x.state ≠ .working → u = t) ∧
       (x.state = .working → x.creel = some k →
         y.state = .returning ∧ y.creel = none ∧ y.change = ⟨false, 0⟩ ∧
         y.back = ⟨true, 1000 * s.settings.changeTimeout⟩ ∧ y.lotLoaded = x.lotLoaded ∧
         (u.creel k).remaining = 1000 * (s.frameSettings f).fullRoving ∧ (u.creel k).state = .fed ∧
         (u.creel k).carrier = none ∧ (u.creel k).orderSeq = none ∧ u.frames = s.frames ∧
         (∀ e, e ≠ k → u.creel e = s.creel e) ∧ (∀ e, e ≠ c → u.carrier e = s.carrier e) ∧
         (∀ n, 24 * (sectionNo - 1) < n → n ≤ 24 * sectionNo → (s.spindle f n).state = .starved →
           (u.spindle f n).state = .down) ∧
         ((s.creel k).lock = .carrier c →
           (∀ p, (s.creel k).waiting = .piecer p →
             (u.creel k).lock = .piecer p ∧ (u.creel k).waiting = .none ∧
             u.piecer p = { s.piecer p with
               state := .attempting, attempt := { (s.piecer p).attempt with running := true } }) ∧
           ((∀ p, (s.creel k).waiting ≠ .piecer p) → (u.creel k).lock = .none ∧ (u.creel k).waiting = .none))))

/-- RETURN_TIMEOUT and RETURNED (R119 to R121): a RETURN carrier that is late becomes FAULT; RETURNED makes a RETURN or
FAULT carrier IDLE with lot_loaded absent and its timers stopped, and one with a change under way fails that change and
becomes IDLE; in the other states it changes nothing. A timer that has not run out changes nothing (the model's choice,
log entry 6). -/
def Obligations.CarriersReturn : Prop :=
  ∀ (s : State) (c : Nat), s.formed = true →
    let x := s.carrier c
    let out := s.regs.part ≠ .halted ∧ x.back = ⟨true, 0⟩
    (out → exec (.returnTimeout c) s = .next (s.returnFails c .timeout).conclude ∧
      (let u := s.returnFails c .timeout
      (u.carrier c).state = .fault ∧ (u.carrier c).back = ⟨false, 0⟩ ∧ u.regs.att &&& 16#32 = 16#32 ∧
        u.roving.creels = s.roving.creels)) ∧
    (¬out → exec (.returnTimeout c) s = .next s) ∧
    ∀ v r, s.reports v r .carrier → v.addr = 16 + c → 1 ≤ c →
      let t := s.replyTaken v r
      (x.state = .returning ∨ x.state = .fault →
        exec (.returned r) s = .next (t.makeIdle c).conclude ∧
          ((t.makeIdle c).carrier c = { x with
            state := .idle, creel := none, lotSent := none, lotLoaded := none, change := ⟨false, 0⟩, back := ⟨false, 0⟩
            shownLeft := 0 })) ∧
      (x.state.serving = true →
        let u := t.changeReturned c
        exec (.returned r) s = .next u.conclude ∧ (u.carrier c).state = .idle ∧ (u.carrier c).creel = none ∧
          ∀ k, x.creel = some k → (u.creel k).state = .queued ∧ u.roving.queue.head? = some k) ∧
      (x.state = .idle ∨ x.state = .absent ∨ x.state = .lost → exec (.returned r) s = .next t.conclude)

/-! ### Unit Link -/

/-- VISIT_START and IDLE_CYCLE (R185, R187, R188), and the replies of the census and of LOST units (R193 to R195). A
visit begins when none is open, no idle window runs and the part is not HALTED: in the cycles to the next unit due, in
this cycle or in the next, carrying its oldest command when resync is clear or it is STATUS?, else a POLL; a command
first sent takes the opposite of unit_seq. A cycle with no unit due is an idle window of 2 ms, whose end raises the
cycle count. In the census the visit is to the next address, with STATUS? in round 2 for a drive that answered round 1.
A valid reply in the census makes the unit PRESENT, a miss leaves it as R192 says, and the census goes on to the next
address and round; after the last address the frames, piecers and carriers are set from its results, the writes of step
5 begin, and the cycles with them. A valid reply brings a LOST unit back: UNIT_BACK is journalled, its owner hands what
its record calls for, and a report is then handed on. The model's choices: an event out of its time changes nothing (log
entry 6), the code of UnitKind.code (log entry 7), the sequence bit 0 of a POLL and of STATUS? (log entry 30), the cycle
count that rises when the next visit begins (log entry 31), UNIT_LOST of an address absent at the census in round 2 at
that address's visit (deduced, log entry 32), a miss of an address still ABSENT that is not recorded (deduced, log entry
60), events that fall between a message and its reply (log entry 56). -/
def Obligations.VisitsBegin : Prop :=
  (∀ s : State, s.formed = true →
    let idles := s.link.visit = none ∧ s.link.idle = none ∧ s.regs.part ≠ .halted
    let due (cycle a : Nat) : Prop :=
      (s.unit a).presence = .present ∨ ((s.unit a).presence = .lost ∧ cycle = 0)
    let firstDue (cycle start a : Nat) : Prop := start ≤ a ∧ 1 ≤ a ∧ a ≤ 20 ∧ due cycle a ∧
      ∀ b, start ≤ b → 1 ≤ b → b < a → ¬due cycle b
    let visits (a cycle : Nat) : Prop :=
      ∃ u v, exec .visitStart s = .next u ∧ u.link.visit = some v ∧ v.addr = a ∧ v.window = ⟨true, 2⟩ ∧
        u.link.cycle = cycle ∧
        v.message = visitMessage a v.cmd (s.unit a).ack ((u.unit a).headSeq.getD false && v.cmd.isSome) ∧
        (∀ c q, (s.unit a).queue = c :: q → (s.unit a).resync = false ∨ c = .status → v.cmd = some c ∧
          (u.unit a).sent = true ∧
          (c ≠ .status → (u.unit a).headSeq = some ((s.unit a).headSeq.getD (!(s.unit a).unitSeq)))) ∧
        ((s.unit a).queue = [] ∨ ((s.unit a).resync = true ∧ (s.unit a).queue.head? ≠ some .status) →
          v.cmd = none ∧ u.unit a = s.unit a) ∧
        ∀ b, b ≠ a → u.unit b = s.unit b
    let nextCycle := (s.link.cycle + 1) % 16
    (¬idles ∨ s.link.mode = .off → exec .visitStart s = .next s) ∧
    (idles → s.link.mode = .cycling →
      (∀ a, firstDue s.link.cycle s.link.next a → visits a s.link.cycle) ∧
      ((∀ a, s.link.next ≤ a → 1 ≤ a → a ≤ 20 → ¬due s.link.cycle a) → s.link.next ≠ 1 →
        (∀ a, firstDue nextCycle 1 a → visits a nextCycle) ∧
        ((∀ a, 1 ≤ a → a ≤ 20 → ¬due nextCycle a) →
          exec .visitStart s = .next { s with
            link := { s.link with cycle := nextCycle, next := 1, idle := some ⟨true, 2⟩ } })) ∧
      ((∀ a, 1 ≤ a → a ≤ 20 → ¬due s.link.cycle a) → s.link.next = 1 →
        exec .visitStart s = .next { s with link := { s.link with idle := some ⟨true, 2⟩ } })) ∧
    (∀ c, idles → s.link.mode = .census c →
      let cmd := if c.round = 2 ∧ c.next ≤ 8 ∧ c.next ∈ c.answered then some Cmd.status else none
      exec .visitStart s = .next { s with link := { s.link with
        visit := some ⟨c.next, cmd, visitMessage c.next cmd (s.unit c.next).ack false, ⟨true, 2⟩⟩ } }) ∧
    (s.link.idle = some ⟨true, 0⟩ → exec .idleCycle s = .next { s with
      link := { s.link with idle := none, cycle := (s.link.cycle + 1) % 16, next := 1 } }) ∧
    (s.link.idle ≠ some ⟨true, 0⟩ → exec .idleCycle s = .next s)) ∧
  (∀ (s : State) (v : Visit) (c : Census) (r : Reply), s.formed = true → s.awaiting = some v →
    s.link.mode = .census c →
    let x := s.unit v.addr
    let closed : State := { s with link := { s.link with visit := none, next := v.addr + 1 } }
    let present (new : Bool) := closed.setUnit v.addr
      { x with presence := .present, misses := 0, unitSeq := r.ack, resync := false, ack := if new then r.seq else x.ack }
    let answered (d : Census) := if c.round = 1 then { d with answered := c.answered ++ [v.addr] } else d
    exec (.nothing r) s = .next ((present false).censusNext (answered c)).conclude ∧
    (∀ rep, kindOwner rep.kind = some (unitKind v.addr) → rep.inRange = true →
      let result := c.round = 2 ∧ v.addr ≤ 8 ∧ v.addr ∈ c.answered
      ((∀ d m, rep ≠ .state d m) ∨ ¬result →
        s.reportEvent r rep = ((present true).censusNext (answered c)).conclude) ∧
      (∀ d m, rep = .state d m → result → s.reportEvent r rep =
        ((present true).censusNext (answered { c with drives := c.drives ++ [(v.addr, d, m)] })).conclude)) ∧
    ∀ m, s.missVisit v m = (closed.cycleMiss v.addr m).censusNext
      { c with wrong := if m = .wrongKind then c.wrong ++ [v.addr] else c.wrong }) ∧
  (∀ (s : State) (c : Census), s.formed = true →
    let absent := c.round = 2 ∧ (s.unit c.next).presence = .absent ∧ c.next ∈ c.wrong
    let t := s.censusAbsent c c.next
    (¬absent → t = s) ∧
    (absent → t.journalled .unitLost 0 c.next [(unitKind c.next).code, w32 (unitNumber c.next), 2#32] ∧
      t.regs.att &&& 16#32 = 16#32 ∧ t.regs.att &&& 2#32 = 2#32 ∧ t.link = s.link) ∧
    (c.next < 20 → s.censusNext c = { t with link := { t.link with mode := .census { c with next := c.next + 1 } } }) ∧
    (c.next = 20 → c.round = 1 →
      s.censusNext c = { t with link := { t.link with mode := .census { c with round := 2, next := 1 } } }) ∧
    (c.next = 20 → c.round ≠ 1 → s.censusNext c = State.startWrites
      (State.buildTables c { t with link := { t.link with mode := .cycling, cycle := 0, next := 1 } }))) ∧
  (∀ (s : State) (c : Census), s.formed = true → (∀ a, (s.unit a).queue = []) →
    let u := s.buildTables c
    (∀ f, 1 ≤ f → f ≤ 8 → (s.frameSettings f).inPlan = true →
      let x := s.frame f
      let y := u.frame f
      let found := (c.drives.find? fun e => e.1 == f).map Prod.snd
      (∀ m, found = some (.running, m) → y = { x with
        state := .restarting, haltCause := none, doffOwed := false, buildM := m
        grace := some (s.frameSettings f).grace }) ∧
      (∀ m, found = some (.stopped, m) → y = { x with
        state := .halted, haltCause := some .census, doffOwed := false, buildM := m, grace := none }) ∧
      (∀ m, found = some (.atDoff, m) ∨ found = some (.doffing, m) → y = { x with
        state := .halted, haltCause := some .census, doffOwed := true, buildM := m, grace := none }) ∧
      (∀ m, found = some (.fault, m) → y = { x with
        state := .halted, haltCause := some .driveFault, doffOwed := false, buildM := m, grace := none }) ∧
      (found = none → (s.unit f).presence = .present →
        y = { x with state := .halted, haltCause := some .census } ∧ (u.unit f).queue = [.status]) ∧
      (found = none → (s.unit f).presence ≠ .present →
        y = { x with state := .halted, haltCause := some .noDrive }) ∧
      u.roller f = { Roller.reset with
        prescaler := (s.frameSettings f).pulses, build := 1000 * y.buildM
        nearingValue := ((s.frameSettings f).doffLength - (s.frameSettings f).nearingMargin) * 1000
        doffValue := (s.frameSettings f).doffLength * 1000 }) ∧
    (∀ f, (s.frameSettings f).inPlan = false → u.frame f = s.frame f) ∧
    (∀ p, 1 ≤ p → p ≤ 8 →
      let y := u.piecer p
      y.home = s.settings.home p ∧
      ((s.unit (8 + p)).presence = .present → y.state = .parked ∧ y.placement = .pool ∧ y.atBay = false ∧
        y.travel = ⟨true, 1000 * s.settings.travelTimeout⟩ ∧ (u.unit (8 + p)).queue = [.park]) ∧
      ((s.unit (8 + p)).presence ≠ .present → y = { s.piecer p with home := s.settings.home p })) ∧
    ∀ k, 1 ≤ k → k ≤ 4 →
      let y := u.carrier k
      ((s.unit (16 + k)).presence = .present → y.state = .returning ∧ y.creel = none ∧
        y.back = ⟨true, 1000 * s.settings.changeTimeout⟩ ∧ (u.unit (16 + k)).queue = [.ret]) ∧
      ((s.unit (16 + k)).presence ≠ .present → y = s.carrier k)) ∧
  ∀ (s : State) (v : Visit) (r : Reply), s.formed = true → s.awaiting = some v → s.link.mode = .cycling →
    (s.unit v.addr).presence = .lost → (s.unit v.addr).queue = [] →
    let x := s.unit v.addr
    ∃ u : State, exec (.nothing r) s = .next u.conclude ∧
      (∀ rep, kindOwner rep.kind = some (unitKind v.addr) → rep.inRange = true →
        s.reportEvent r rep =
          (State.giveReport v.addr rep (u.setUnit v.addr { u.unit v.addr with ack := r.seq })).conclude) ∧
      u.link.visit = none ∧
      u.journalled .unitBack 0 v.addr
        [(unitKind v.addr).code, w32 (unitNumber v.addr), w32 (s.clock - x.lostStamp).toNat] ∧
      (let q := (u.unit v.addr).queue;
      u.unit v.addr = { x with presence := .present, misses := 0, unitSeq := r.ack, resync := false, queue := q } ∧
      (v.addr ≤ 8 →
        u.frame v.addr = { s.frame v.addr with unit := false } ∧ q = match (s.frame v.addr).state with
          | .out => []
          | .halted => [.stop, .status]
          | .restarting | .building | .nearing | .called | .draining => [.run, .status]
          | .stopping => [.stopAtDoff, .status]
          | .doffing => [.doff, .status]) ∧
      (∀ p, v.addr = 8 + p → 1 ≤ p → p ≤ 8 →
        let y := s.piecer p
        (y.state = .lost ∧ y.byLink = true →
          u.piecer p = { y with returned := true, travel := ⟨true, 1000 * s.settings.travelTimeout⟩ } ∧
          q = match y.void with
            | some token => [.abandon token]
            | none => []) ∧
        (¬(y.state = .lost ∧ y.byLink = true) → u.disp = s.disp ∧ q = [])) ∧
      (∀ k, v.addr = 16 + k → 1 ≤ k →
        let y := s.carrier k
        (y.state = .lost → (u.carrier k).state = .returning ∧
          (u.carrier k).back = ⟨true, 1000 * s.settings.changeTimeout⟩ ∧ q = [.ret]) ∧
        (y.state ≠ .lost → u.roving = s.roving ∧ q = [])) ∧
      ∀ b, b ≠ v.addr → u.unit b = s.unit b)

/-- REPLY_WINDOW_END and BAD_REPLY (R187, R192): the visit ends in a miss. A miss of a PRESENT unit raises its misses
and records the cause, and the third makes it LOST with misses 0, its queue emptied and resync set; a miss of a LOST
unit changes nothing of it, nor does one of an address still ABSENT (deduced, log entry 60). Nothing changes before the
window's end, for bytes that are a valid reply of the right kind (log entry 6), and with no visit open. Which bytes are
a valid reply rests on log entries 54 and 55. NOTHING and every valid reply (R188, R189): the visit ends, misses becomes
0, unit_seq takes the reply's ack toggle, resync is cleared; the command carried leaves the queue when it is delivered,
else it stays at the head; NOTHING leaves ack as it stands, and a repeated report is not handed on. -/
def Obligations.VisitsEnd : Prop :=
  (∀ (s : State) (v : Visit), s.formed = true →
     let missed (m : Miss) (u : State) : Prop :=
       let x := s.unit v.addr
       let y := u.unit v.addr
       u.link.visit = none ∧
       (x.presence = .present → x.misses ≠ 2 → y = { x with misses := x.misses + 1, lastMiss := m }) ∧
       (x.presence = .present → x.misses = 2 → y.presence = .lost ∧ y.misses = 0 ∧ y.lastMiss = m ∧ y.queue = [] ∧
         y.resync = true ∧ y.ack = x.ack ∧ y.unitSeq = x.unitSeq ∧ u.regs.att &&& 16#32 = 16#32 ∧
         u.regs.att &&& 2#32 = 2#32) ∧
       (x.presence ≠ .present → y = x) ∧ ∀ b, b ≠ v.addr → u.unit b = s.unit b
     (s.link.visit = none → exec .replyWindowEnd s = .next s ∧ ∀ l m, exec (.badReply l m) s = .next s) ∧
     (s.link.visit = some v → s.link.mode = .cycling →
       (v.window = ⟨true, 0⟩ →
         exec .replyWindowEnd s = .next (s.missVisit v .noReply).conclude ∧ missed .noReply (s.missVisit v .noReply)) ∧
       (v.window ≠ ⟨true, 0⟩ → exec .replyWindowEnd s = .next s) ∧
       (∀ late bytes, judgeReply v.addr late bytes = none → exec (.badReply late bytes) s = .next s) ∧
       ∀ late bytes m, judgeReply v.addr late bytes = some m →
         exec (.badReply late bytes) s = .next (s.missVisit v m).conclude ∧ missed m (s.missVisit v m)) ∧
     (∀ late bytes, late = true ∨ bytes.length < 8 ∨ bytes.head? ≠ some (BitVec.ofNat 8 v.addr) →
       judgeReply v.addr late bytes = some .badReply) ∧
     ∀ (r : Reply) (x : Report), kindOwner x.kind ≠ some (unitKind v.addr) → s.awaiting = some v →
       s.reportEvent r x = (s.missVisit v .wrongKind).conclude) ∧
  (∀ (s : State) (v : Visit) (r : Reply), s.formed = true → s.answering v →
     let x := s.unit v.addr
     let u := s.replyCounted v r
     let y := u.unit v.addr
     let delivered := ∃ c, v.cmd = some c ∧ x.sent = true ∧ (c = .status ∨ x.headSeq = some r.ack)
     exec (.nothing r) s = .next u.conclude ∧
       (∀ rep, r.seq = x.ack → kindOwner rep.kind = some (unitKind v.addr) → rep.inRange = true →
         s.reportEvent r rep = u.conclude) ∧
       u.link.visit = none ∧ y.misses = 0 ∧ y.unitSeq = r.ack ∧ y.resync = false ∧ y.ack = x.ack ∧
       y.presence = .present ∧
       (delivered → y.queue = x.queue.drop 1 ∧ y.headSeq = none ∧ y.sent = false) ∧
       (¬delivered → y.queue = x.queue ∧ y.headSeq = x.headSeq ∧ y.sent = x.sent) ∧
       (∀ b, b ≠ v.addr → u.unit b = s.unit b) ∧ u.regs = s.regs ∧ u.frames = s.frames ∧ u.disp = s.disp ∧
       u.roving = s.roving ∧ u.watch = s.watch)

/-! ### Drive reports -/

/-- STATE, AT_DOFF_POSITION, DOFF_DONE and DRIVE_FAULT by the frame's state (R90, R91, R98, R99). -/
def Obligations.DriveReportsByFrameState : Prop :=
  ∀ (s : State) (v : Visit) (r : Reply), s.formed = true → s.reports v r .drive → 1 ≤ v.addr →
    let f := v.addr
    let x := s.frame f
    let t := s.replyTaken v r
    let a := t.takeDriveFault f
    let b := t.takeAtDoff f
    let e := t.takeDoffDone f
    let late := x.state = .halted ∧ x.haltCause = some .doffTimeout ∧ x.doffOwed = true
    (∀ d m, m.toNat ≤ 4294967 →
      let u := t.takeDriveState f d
      exec (.state r d m) s = .next u.conclude ∧
        (d = .running → u = if x.state = .halted then t.hand f .stop else t) ∧
        (d = .stopped ∨ d = .atDoff ∨ d = .doffing → x.state = .out ∨ x.state = .halted ∨ x.state = .stopping ∨
          x.state = .doffing → u = t) ∧
        (d = .stopped ∨ d = .atDoff ∨ d = .doffing → x.state ≠ .out → x.state ≠ .halted → x.state ≠ .stopping →
          x.state ≠ .doffing → (u.frame f).state = .halted ∧ (u.frame f).haltCause = some .driveStopped) ∧
        (d = .fault → u = a)) ∧
    exec (.driveFault r) s = .next a.conclude ∧
    (x.state = .out ∨ x.state = .halted → a = t) ∧
    (x.state ≠ .out → x.state ≠ .halted →
      (a.frame f).state = .halted ∧ (a.frame f).haltCause = some .driveFault) ∧
    exec (.atDoffPosition r) s = .next b.conclude ∧
    (x.state ≠ .stopping → b = t) ∧
    (x.state = .stopping →
      b.frame f = { x with
        state := .doffing, stopTimer := ⟨false, 0⟩, doffTimer := ⟨true, 1000 * s.settings.doffTimeout⟩ } ∧
      b.unit f = (t.hand f .doff).unit f ∧ (∀ g, g ≠ f → b.frame g = s.frame g) ∧ b.disp = s.disp ∧
      b.watch = s.watch ∧ b.roving = s.roving) ∧
    exec (.doffDone r) s = .next e.conclude ∧
    (x.state ≠ .doffing → ¬late → e = t) ∧
    (x.state = .doffing →
      e.frame f = { x with
        state := .restarting, grace := some (s.frameSettings f).grace, haltCause := none, doffTimer := ⟨false, 0⟩
        doffFinish := .pending, doffOwed := false, doneStamp := s.clock } ∧
      e.unit f = (t.hand f .run).unit f ∧ (e.roller f).build = (s.roller f).build) ∧
    (late → (e.frame f).state = .halted ∧ (e.frame f).doffOwed = false ∧ (e.frame f).doffFinish = .made ∧
      (e.frame f).buildM = 0 ∧ (e.roller f).build = 0)

/-! ### Piecer reports -/

/-- AT_SIDE and PARKED by the piecer's state (R42, R71, R73). A MOVING piecer arrives on its assigned side; a piecer on
its side has its position set; a PARKED report sets at_bay of a piecer on its way to the bay; in the other cases, the
returns of R78 apart, nothing changes. -/
def Obligations.PiecersArrive : Prop :=
  ∀ (s : State) (v : Visit) (r : Reply) (d pos : Nat), s.formed = true → s.reports v r .piecer →
    1 ≤ d → d ≤ 16 → 1 ≤ pos → pos ≤ 1824 →
    let p := v.addr - 8
    let x := s.piecer p
    let t := s.replyTaken v r
    let u := t.takeAtSide p d pos
    let y := u.piecer p
    let w := t.takeParked p
    let onIt := if d % 2 = 0 then 913 ≤ pos else pos ≤ 912
    let first := if d % 2 = 0 then 913 else 1
    let half := (s.frameSettings ((d + 1) / 2)).perSide / 2
    exec (.atSide r d pos) s = .next u.conclude ∧
      (x.state = .moving → x.side = some d → x.parkOwed = false →
        y.state = .onSide ∧ y.side = some d ∧ y.travel = ⟨false, 0⟩ ∧
        (onIt → y.position = some pos ∧ (y.descending = false ↔ pos < first + half)) ∧
        (¬onIt → y.position = some first ∧ y.descending = false)) ∧
      (x.state = .moving → x.side = some d → x.parkOwed = true → y.state = .parked ∧ y.placement = .park) ∧
      (x.state = .onSide ∨ x.state = .attempting ∨ x.state = .held → x.side = some d → onIt →
        y = { x with position := some pos }) ∧
      (x.state = .absent ∨ x.state = .parked ∨ (x.state ≠ .lost ∧ x.side ≠ some d) → u = t) ∧
    exec (.parked r) s = .next w.conclude ∧
      (x.state = .parked → x.atBay = false → w.piecer p = { x with atBay := true, travel := ⟨false, 0⟩ }) ∧
      (x.state = .parked → x.atBay = true → w = t) ∧
      (x.state = .absent ∨ x.state = .moving ∨ x.state = .onSide ∨ x.state = .attempting ∨ x.state = .held → w = t) ∧
      (u.watch = s.watch ∧ u.roving = s.roving ∧ u.frames = s.frames) ∧
      w.watch = s.watch ∧ w.roving = s.roving ∧ w.frames = s.frames ∧
      ∀ q, q ≠ p → w.piecer q = s.piecer q ∧ u.piecer q = s.piecer q

/-- STEP (R47): one with the current token of an ATTEMPTING piecer is taken. Its position becomes the last position when
it lies on the side; its step is recorded when none is or it comes later than the recorded one. hold_sent stands
(deduced, log entry 50). RESULT (R11, R50): one with the current token of an ATTEMPTING piecer ends the attempt. The
current token becomes absent, the void token stands, the timer is stopped, and the lock held is released; the spindle
takes the outcome: JOINED makes it PROVING, NO_ROVING CUT_OUT, ABANDONED DOWN again, or STARVED at remaining 0, and a
failure adds an attempt. -/
def Obligations.StepsAndResults : Prop :=
  (∀ (s : State) (v : Visit) (r : Reply) (token : Token) (step : AttemptStep) (pos d : Nat), s.formed = true →
     s.reports v r .piecer → 1 ≤ pos → pos ≤ 1824 →
     let p := v.addr - 8
     let x := s.piecer p
     let t := s.replyTaken v r
     let u := t.takeStep p token step pos
     let onIt := if d % 2 = 0 then 913 ≤ pos else pos ≤ 912
     exec (.step r token step pos) s = .next u.conclude ∧
       (x.state = .attempting → x.current = some token → x.side = some d →
         u.piecer p = { x with
           position := if onIt then some pos else x.position
           stage := match x.stage with
             | none => some step
             | some o => if stageCode o < stageCode step then some step else some o } ∧
         u.watch = s.watch ∧ u.roving = s.roving ∧ u.disp.sides = s.disp.sides ∧
         ∀ q, q ≠ p → u.piecer q = s.piecer q)) ∧
  (∀ (s : State) (v : Visit) (r : Reply) (token : Token) (o : Outcome) (d n : Nat), s.formed = true →
     s.reports v r .piecer →
     let p := v.addr - 8
     let x := s.piecer p
     let f := (d + 1) / 2
     let creel := creelNo f ((n - 1) / 24 + 1)
     let u := (s.replyTaken v r).takeResult p token o
     let y := u.piecer p
     let old := s.spindle f n
     let new := u.spindle f n
     let attempts := min 7 (old.attempts + 1)
     exec (.result r token o) s = .next u.conclude ∧
       (x.state = .attempting → x.current = some token → x.spindle = some n → x.side = some d →
         y.current = none ∧ y.void = x.void ∧ y.attempt = ⟨false, 0⟩ ∧ (y.state = .onSide ∨ y.state = .parked) ∧
         (u.creel creel).lock ≠ .piecer p ∧ (∀ q, q ≠ p → u.piecer q = s.piecer q) ∧ u.frames = s.frames ∧
         (∀ g m, spindleKey g m ≠ spindleKey f n → u.spindle g m = s.spindle g m) ∧
         (old.state = .piecing →
           (o = .joined → new.state = .proving ∧ new.attempts = old.attempts ∧
             ∀ e, e ∈ (u.side (sideOf f n)).entries → e.spindle ≠ n) ∧
           (o = .noRoving → new.state = .cutOut ∧ new.cutCause = some .noRoving ∧ new.attempts = old.attempts) ∧
           (o = .abandoned → new.attempts = old.attempts ∧
             if (s.creel creel).remaining = 0 then new.state = .starved else new.state = .down ∧ new.listed = true) ∧
           (o = .noEnd ∨ o = .threadFail ∨ o = .joinFail → new.attempts = attempts ∧
             (attempts < s.settings.attemptLimit → new.state = .down ∧ new.listed = true) ∧
             (s.settings.attemptLimit ≤ attempts → new.state = .cutOut ∧ new.cutCause = some .attempts)))))

/-- Token reports that do not act (R56, R57): a RESULT of ABANDONED with the void token clears it and changes nothing
else; any other report with a token that is not the current one, and a STEP or RESULT with the current token from a
piecer that is not ATTEMPTING, is stale: it is journalled and changes nothing else. (A HELD so taken: log entry 42.) -/
def Obligations.VoidTokenReports : Prop :=
  ∀ (s : State) (v : Visit) (r : Reply) (token : Token), s.reports v r .piecer →
    let p := v.addr - 8
    let x := s.piecer p
    let t := s.replyTaken v r
    let current := match x.current with
      | some c => c.setWidth 32
      | none => 0#32
    let stale (kind outcome : Word) : State := t.journal .staleReport 0 p [kind, token.setWidth 32, current, outcome]
    (x.void = some token → x.current ≠ some token →
      exec (.result r token .abandoned) s = .next (t.setPiecer p { x with void := none }).conclude) ∧
    (∀ o, (x.current ≠ some token ∧ (x.void ≠ some token ∨ o ≠ .abandoned)) ∨
        (x.current = some token ∧ x.state ≠ .attempting) →
      exec (.result r token o) s = .next (stale 38#32 (w32 (outcomeCode o))).conclude) ∧
    (∀ st pos, 1 ≤ pos → pos ≤ 1824 → x.current ≠ some token ∨ x.state ≠ .attempting →
      exec (.step r token st pos) s = .next (stale 37#32 0#32).conclude) ∧
    (x.current ≠ some token → exec (.held r token) s = .next (stale 39#32 0#32).conclude ∧
      exec (.refusedHold r token) s = .next (stale 40#32 0#32).conclude)

/-! ### Carrier reports -/

/-- LOADED (R114): the lot is recorded and compared with the frame's lot. A match sends the carrier on; a mismatch sends
it back, holds the section in LOT_HOLD with no carrier, sets the frame's ALARM bit and raises ATT ALARM and ATT JOURNAL.
From a carrier not LOADING it changes nothing (R121). ARRIVED (R116): the section's lock is claimed. Free, the carrier
takes it and works, its change timer running; held by a piecer, the carrier waits with its timer paused, and HOLD is
sent when the attempt is before the join point. From a carrier not in TRAVEL it changes nothing (R121). -/
def Obligations.LotsAndArrivals : Prop :=
  (∀ (s : State) (v : Visit) (r : Reply) (lot : Token) (k : Nat), s.formed = true → s.reports v r .carrier →
     let c := v.addr - 16
     let x := s.carrier c
     let f := (k - 1) / 76 + 1
     let t := s.replyTaken v r
     let u := t.takeLoaded c lot
     let y := u.carrier c
     let wanted : Token := BitVec.ofNat 16 (s.frameSettings f).lot
     exec (.loaded r lot) s = .next u.conclude ∧
       (x.state ≠ .loading → u = t) ∧
       (x.state = .loading → x.creel = some k →
         y.lotLoaded = some lot ∧ y.lotSent = none ∧ u.watch = s.watch ∧ u.disp = s.disp ∧
         (∀ e, e ≠ k → u.creel e = s.creel e) ∧ (∀ e, e ≠ c → u.carrier e = s.carrier e) ∧
         (lot = wanted → y.state = .travel ∧ y.creel = some k ∧ y.change = x.change ∧
           u.roving.creels = s.roving.creels) ∧
         (lot ≠ wanted → y.state = .returning ∧ y.creel = none ∧ y.change = ⟨false, 0⟩ ∧
           y.back = ⟨true, 1000 * s.settings.changeTimeout⟩ ∧ (u.creel k).state = .lotHold ∧
           (u.creel k).carrier = none ∧ (u.creel k).remaining = (s.creel k).remaining ∧ (u.creel k).orderSeq = none ∧
           (u.frame f).alarm = true ∧ u.regs.att &&& 8#32 = 8#32 ∧ u.regs.att &&& 2#32 = 2#32))) ∧
  (∀ (s : State) (v : Visit) (r : Reply) (k : Nat), s.formed = true → s.reports v r .carrier →
     let c := v.addr - 16
     let x := s.carrier c
     let t := s.replyTaken v r
     let u := t.takeArrived c
     let y := u.carrier c
     exec (.arrived r) s = .next u.conclude ∧
       (x.state ≠ .travel → u = t) ∧
       (x.state = .travel → x.creel = some k →
         y.creel = some k ∧ y.lotLoaded = x.lotLoaded ∧ u.watch = s.watch ∧ u.frames = s.frames ∧ u.disp = s.disp ∧
         (∀ e, e ≠ k → u.creel e = s.creel e) ∧ (∀ e, e ≠ c → u.carrier e = s.carrier e) ∧
         ((s.creel k).lock = .none → y.state = .working ∧ y.change = { x.change with running := true } ∧
           u.creel k = { s.creel k with lock := .carrier c, waiting := .none, holdSent := false } ∧
           u.unit v.addr = (t.hand v.addr .change).unit v.addr) ∧
         ∀ p, (s.creel k).lock = .piecer p →
           y.state = .waitLock ∧ y.change = { x.change with running := false } ∧
           u.creel k = { s.creel k with waiting := .carrier c, holdSent := !pastJoin (s.piecer p).stage } ∧
           (∀ token, (s.piecer p).current = some token → pastJoin (s.piecer p).stage = false →
             u.unit (8 + p) = (t.hand (8 + p) (.hold token)).unit (8 + p))))
end

