-- ==== Sys2Proof/Laws/Fixed.lean ====
section
/-! SUPPORT. What no work of the blocks touches: the board memory, the mill clock, the commands waiting, and every register
but the causes raised in ATT, whether the link makes its census. One lemma per operation, each by those of the operations it calls. -/

namespace Sys2Proof.Machine

/-- The registers with the causes of ATT cleared. -/
def Regs.still (r : Regs) : Regs := { r with att := r.att &&& ~~~attMask }

/-- The part of the state that the work of the blocks leaves alone. -/
structure Fixed where
  mem : List Host.Cell
  clock : Word
  clockMs : Nat
  pending : List Instr
  regs : Regs
  census : Bool

/-- The state's fixed part. -/
def State.fixed (s : State) : Fixed :=
  ⟨s.mem, s.clock, s.clockMs, s.pending, s.regs.still, s.link.mode.isCensus⟩

/-- Whatever else is updated, the fixed part stands. -/
@[simp] theorem State.fixed_update (s : State) (wa : Watch) (ro : RogueTable) (d : Dispatcher) (f : List (Nat × Frame))
    (rv : Roving) (o : Output) (p : PlanStore) (de : Desk) (w : Writer) (po : Port) (wk : Work) :
    (State.mk s.regs s.clock s.clockMs wa ro d f rv o p de w po s.link s.mem wk s.pending).fixed = s.fixed := rfl

@[simp] theorem State.fixed_link (s : State) (wa : Watch) (ro : RogueTable) (d : Dispatcher) (f : List (Nat × Frame))
    (rv : Roving) (o : Output) (p : PlanStore) (de : Desk) (w : Writer) (po : Port) (wk : Work)
    (us : List (Nat × Unit)) (cy nx : Nat) (v : Option Visit) (i : Option Timer) :
    (State.mk s.regs s.clock s.clockMs wa ro d f rv o p de w po ⟨us, s.link.mode, cy, nx, v, i⟩ s.mem wk
      s.pending).fixed = s.fixed := rfl

@[simp] theorem State.fixed_ite (c : Prop) [Decidable c] (s t : State) :
    (if c then s else t).fixed = if c then s.fixed else t.fixed := apply_ite State.fixed c s t

@[simp] theorem State.each_fixed {α : Type} (l : List α) (g : α → State → State)
    (h : ∀ x t, (g x t).fixed = t.fixed) (s : State) : (s.each l g).fixed = s.fixed := by
  induction l generalizing s with
  | nil => rfl
  | cons x r ih => exact (ih (g x s)).trans (h x s)

theorem Cause.bit_known (c : Cause) : c.bit &&& ~~~attMask = 0#32 := by cases c <;> decide

@[simp] theorem State.raise_fixed (c : Cause) (s : State) : (s.raise c).fixed = s.fixed := by
  have h : (s.regs.att ||| c.bit) &&& ~~~attMask = s.regs.att &&& ~~~attMask := by
    rw [BitVec.and_comm, BitVec.and_or_distrib_left, BitVec.and_comm _ c.bit, c.bit_known, BitVec.or_zero,
      BitVec.and_comm]
  simp [State.raise, State.fixed, Regs.still, h]

/-! Ops -/

@[simp] theorem State.markItem_fixed (i : WriteItem) (s : State) :
    (State.markItem i s).fixed = s.fixed := by
  unfold State.markItem; (repeat' split) <;> simp

@[simp] theorem State.markIf_fixed (b : Bool) (i : WriteItem) (s : State) :
    (State.markIf b i s).fixed = s.fixed := by
  unfold State.markIf; (repeat' split) <;> simp

@[simp] theorem State.setSpindle_fixed (f n : Nat) (x : Spindle) (s : State) :
    (State.setSpindle f n x s).fixed = s.fixed := by
  unfold State.setSpindle; (repeat' split) <;> simp

@[simp] theorem State.setStrip_fixed (c : Nat) (x : Strip) (s : State) :
    (State.setStrip c x s).fixed = s.fixed := by
  unfold State.setStrip; (repeat' split) <;> simp

@[simp] theorem State.setSweep_fixed (f : Nat) (x : Sweep) (s : State) :
    (State.setSweep f x s).fixed = s.fixed := by
  unfold State.setSweep; (repeat' split) <;> simp

@[simp] theorem State.setSide_fixed (d : Nat) (x : Side) (s : State) :
    (State.setSide d x s).fixed = s.fixed := by
  unfold State.setSide; (repeat' split) <;> simp

@[simp] theorem State.setPiecer_fixed (p : Nat) (x : Piecer) (s : State) :
    (State.setPiecer p x s).fixed = s.fixed := by
  unfold State.setPiecer; (repeat' split) <;> simp

@[simp] theorem State.setFrame_fixed (f : Nat) (x : Frame) (s : State) :
    (State.setFrame f x s).fixed = s.fixed := by
  unfold State.setFrame; (repeat' split) <;> simp

@[simp] theorem State.setCreel_fixed (c : Nat) (x : Creel) (s : State) :
    (State.setCreel c x s).fixed = s.fixed := by
  unfold State.setCreel; (repeat' split) <;> simp

@[simp] theorem State.setCarrier_fixed (c : Nat) (x : Carrier) (s : State) :
    (State.setCarrier c x s).fixed = s.fixed := by
  unfold State.setCarrier; (repeat' split) <;> simp

@[simp] theorem State.setFeed_fixed (f : Nat) (x : Feed) (s : State) :
    (State.setFeed f x s).fixed = s.fixed := by
  unfold State.setFeed; (repeat' split) <;> simp

@[simp] theorem State.setRoller_fixed (f : Nat) (x : Roller) (s : State) :
    (State.setRoller f x s).fixed = s.fixed := by
  unfold State.setRoller; (repeat' split) <;> simp

@[simp] theorem State.setUnit_fixed (a : Nat) (x : Unit) (s : State) :
    (State.setUnit a x s).fixed = s.fixed := by
  unfold State.setUnit; (repeat' split) <;> simp

@[simp] theorem State.setCellView_fixed (c : Nat) (x : CellStage) (s : State) :
    (State.setCellView c x s).fixed = s.fixed := by
  unfold State.setCellView; (repeat' split) <;> simp

@[simp] theorem State.setPageView_fixed (p : Nat) (x : PageStage) (s : State) :
    (State.setPageView p x s).fixed = s.fixed := by
  unfold State.setPageView; (repeat' split) <;> simp

@[simp] theorem State.oweArbiter_fixed (s : State) :
    (State.oweArbiter s).fixed = s.fixed := by
  unfold State.oweArbiter; (repeat' split) <;> simp

@[simp] theorem State.oweRefill_fixed (s : State) :
    (State.oweRefill s).fixed = s.fixed := by
  unfold State.oweRefill; (repeat' split) <;> simp

@[simp] theorem State.oweRelist_fixed (d : Nat) (s : State) :
    (State.oweRelist d s).fixed = s.fixed := by
  unfold State.oweRelist; (repeat' split) <;> simp

/-! Flags -/

@[simp] theorem State.alarm_fixed (f : Nat) (s : State) :
    (State.alarm f s).fixed = s.fixed := by
  unfold State.alarm; (repeat' split) <;> simp

@[simp] theorem State.unitAlarm_fixed (f : Nat) (s : State) :
    (State.unitAlarm f s).fixed = s.fixed := by
  unfold State.unitAlarm; (repeat' split) <;> simp

/-! Report -/

@[simp] theorem State.pend_fixed (e : JournalEntry) (s : State) :
    (State.pend e s).fixed = s.fixed := by
  unfold State.pend; (repeat' split) <;> simp

@[simp] theorem State.enterJournal_fixed (e : JournalEntry) (s : State) :
    (State.enterJournal e s).fixed = s.fixed := by
  unfold State.enterJournal; (repeat' split) <;> simp

@[simp] theorem State.journal_fixed (k : JournalKind) (frame unit : Nat) (fields : List Word) (s : State) :
    (State.journal k frame unit fields s).fixed = s.fixed := by
  unfold State.journal; (repeat' split) <;> simp

@[simp] theorem flushEntries_fixed (n : Nat) (s : State) : (flushEntries n s).fixed = s.fixed := by
  induction n generalizing s with
  | zero => rfl
  | succ n ih => unfold flushEntries; (repeat' split) <;> simp [ih]

@[simp] theorem State.flushJournal_fixed (s : State) :
    (State.flushJournal s).fixed = s.fixed := by
  unfold State.flushJournal; (repeat' split) <;> simp

@[simp] theorem State.count_fixed (f : Nat) (g : Counts → Counts) (s : State) :
    (State.count f g s).fixed = s.fixed := by
  unfold State.count; (repeat' split) <;> simp

@[simp] theorem State.finish_fixed (cell : Nat) (reason : Option Reason) (words : List Word) (s : State) :
    (State.finish cell reason words s).fixed = s.fixed := by
  unfold State.finish; (repeat' split) <;> simp

@[simp] theorem State.finishBook_fixed (sel : BookEntry → Bool) (reason : Option Reason) (words : List Word) (s : State) :
    (State.finishBook sel reason words s).fixed = s.fixed := by
  unfold State.finishBook; (repeat' split) <;> simp

/-! Hand -/

@[simp] theorem State.journalLost_fixed (a : Nat) (cause : Word) (s : State) :
    (State.journalLost a cause s).fixed = s.fixed := by
  unfold State.journalLost; (repeat' split) <;> simp

@[simp] theorem State.loseUnit_fixed (a : Nat) (cause : Word) (s : State) :
    (State.loseUnit a cause s).fixed = s.fixed := by
  unfold State.loseUnit; (repeat' split) <;> simp

@[simp] theorem State.hand_fixed (a : Nat) (c : Cmd) (s : State) :
    (State.hand a c s).fixed = s.fixed := by
  unfold State.hand; (repeat' split) <;> simp

@[simp] theorem State.withdrawDrive_fixed (f : Nat) (s : State) :
    (State.withdrawDrive f s).fixed = s.fixed := by
  unfold State.withdrawDrive; (repeat' split) <;> simp

@[simp] theorem State.emptyQueue_fixed (a : Nat) (s : State) :
    (State.emptyQueue a s).fixed = s.fixed := by
  unfold State.emptyQueue; (repeat' split) <;> simp

/-! Lists -/

@[simp] theorem State.listSpindle_fixed (f n : Nat) (s : State) :
    (State.listSpindle f n s).fixed = s.fixed := by
  unfold State.listSpindle; (repeat' split) <;> simp

@[simp] theorem State.makeDown_fixed (f n : Nat) (s : State) :
    (State.makeDown f n s).fixed = s.fixed := by
  unfold State.makeDown; (repeat' split) <;> simp

@[simp] theorem State.removeEntry_fixed (f n : Nat) (s : State) :
    (State.removeEntry f n s).fixed = s.fixed := by
  unfold State.removeEntry; (repeat' split) <;> simp

@[simp] theorem State.relist_fixed (d : Nat) (s : State) :
    (State.relist d s).fixed = s.fixed := by
  unfold State.relist; (repeat' split) <;> simp

@[simp] theorem State.cutSpindle_fixed (f n : Nat) (c : CutCause) (s : State) :
    (State.cutSpindle f n c s).fixed = s.fixed := by
  unfold State.cutSpindle; (repeat' split) <;> simp

@[simp] theorem State.pieced_fixed (f n : Nat) (s : State) :
    (State.pieced f n s).fixed = s.fixed := by
  unfold State.pieced; (repeat' split) <;> simp

@[simp] theorem State.pieceFail_fixed (f n p : Nat) (token : Token) (k : FailKind) (stage : Option AttemptStep) (cut : Bool) (s : State) :
    (State.pieceFail f n p token k stage cut s).fixed = s.fixed := by
  unfold State.pieceFail; (repeat' split) <;> simp

@[simp] theorem State.carrierTakes_fixed (c k : Nat) (waiting : Holder) (s : State) :
    (State.carrierTakes c k waiting s).fixed = s.fixed := by
  unfold State.carrierTakes; (repeat' split) <;> simp

@[simp] theorem State.piecerReleases_fixed (p k : Nat) (s : State) :
    (State.piecerReleases p k s).fixed = s.fixed := by
  unfold State.piecerReleases; dsimp only; (repeat' split) <;> simp

@[simp] theorem State.carrierReleases_fixed (c k : Nat) (s : State) :
    (State.carrierReleases c k s).fixed = s.fixed := by
  unfold State.carrierReleases; dsimp only; (repeat' split) <;> simp

@[simp] theorem State.claimAbandoned_fixed (f n : Nat) (s : State) :
    (State.claimAbandoned f n s).fixed = s.fixed := by
  unfold State.claimAbandoned; (repeat' split) <;> simp

@[simp] theorem State.claimJoined_fixed (f n : Nat) (s : State) :
    (State.claimJoined f n s).fixed = s.fixed := by
  unfold State.claimJoined; (repeat' split) <;> simp

@[simp] theorem State.claimFailed_fixed (f n p : Nat) (token : Token) (k : FailKind) (stage : Option AttemptStep) (s : State) :
    (State.claimFailed f n p token k stage s).fixed = s.fixed := by
  unfold State.claimFailed; (repeat' split) <;> simp

@[simp] theorem State.claimNoRoving_fixed (f n p : Nat) (token : Token) (stage : Option AttemptStep) (s : State) :
    (State.claimNoRoving f n p token stage s).fixed = s.fixed := by
  unfold State.claimNoRoving; (repeat' split) <;> simp

/-! Piecers -/

@[simp] theorem State.journalMove_fixed (p left dest : Nat) (r : Option MoveReason) (s : State) :
    (State.journalMove p left dest r s).fixed = s.fixed := by
  unfold State.journalMove; (repeat' split) <;> simp

@[simp] theorem State.unserve_fixed (p : Nat) (s : State) :
    (State.unserve p s).fixed = s.fixed := by
  unfold State.unserve; (repeat' split) <;> simp

@[simp] theorem State.sendToSide_fixed (p d : Nat) (r : MoveReason) (s : State) :
    (State.sendToSide p d r s).fixed = s.fixed := by
  unfold State.sendToSide; (repeat' split) <;> simp

@[simp] theorem State.sendToBay_fixed (p : Nat) (placement : Placement) (r : Option MoveReason) (s : State) :
    (State.sendToBay p placement r s).fixed = s.fixed := by
  unfold State.sendToBay; (repeat' split) <;> simp

@[simp] theorem State.attemptOver_fixed (p : Nat) (s : State) :
    (State.attemptOver p s).fixed = s.fixed := by
  unfold State.attemptOver; (repeat' split) <;> simp

@[simp] theorem State.voidAttempt_fixed (p : Nat) (send : Bool) (s : State) :
    (State.voidAttempt p send s).fixed = s.fixed := by
  unfold State.voidAttempt; dsimp only; (repeat' split) <;> simp

@[simp] theorem State.abandon_fixed (p : Nat) (s : State) :
    (State.abandon p s).fixed = s.fixed := by
  unfold State.abandon; (repeat' split) <;> simp

@[simp] theorem State.abandonAll_fixed (f : Nat) (s : State) :
    (State.abandonAll f s).fixed = s.fixed := by
  unfold State.abandonAll; (repeat' split) <;> simp

@[simp] theorem State.abandonDrain_fixed (f : Nat) (s : State) :
    (State.abandonDrain f s).fixed = s.fixed := by
  unfold State.abandonDrain; (repeat' split) <;> simp

@[simp] theorem State.piecerLost_fixed (p : Nat) (byLink : Bool) (s : State) :
    (State.piecerLost p byLink s).fixed = s.fixed := by
  unfold State.piecerLost; dsimp only; (repeat' split) <;> simp

@[simp] theorem State.losePiecer_fixed (p : Nat) (cause : Word) (s : State) :
    (State.losePiecer p cause s).fixed = s.fixed := by
  unfold State.losePiecer; (repeat' split) <;> simp

/-! Roving -/

@[simp] theorem State.queueByStamp_fixed (c : Nat) (t : Word) (s : State) :
    (State.queueByStamp c t s).fixed = s.fixed := by
  unfold State.queueByStamp; (repeat' split) <;> simp

@[simp] theorem State.displaceTail_fixed (s : State) :
    (State.displaceTail s).fixed = s.fixed := by
  unfold State.displaceTail; (repeat' split) <;> simp

@[simp] theorem State.queueAtHead_fixed (c : Nat) (s : State) :
    (State.queueAtHead c s).fixed = s.fixed := by
  unfold State.queueAtHead; (repeat' split) <;> simp

@[simp] theorem State.leaveQueue_fixed (c : Nat) (s : State) :
    (State.leaveQueue c s).fixed = s.fixed := by
  unfold State.leaveQueue; (repeat' split) <;> simp

@[simp] theorem refillN_fixed (n : Nat) (s : State) : (refillN n s).fixed = s.fixed := by
  induction n generalizing s with
  | zero => rfl
  | succ n ih => unfold refillN; (repeat' split) <;> simp [ih]

@[simp] theorem State.refill_fixed (s : State) :
    (State.refill s).fixed = s.fixed := by
  unfold State.refill; (repeat' split) <;> simp

@[simp] theorem State.lowTest_fixed (c : Nat) (s : State) :
    (State.lowTest c s).fixed = s.fixed := by
  unfold State.lowTest; (repeat' split) <;> simp

@[simp] theorem State.runOutSpindle_fixed (f n : Nat) (s : State) :
    (State.runOutSpindle f n s).fixed = s.fixed := by
  unfold State.runOutSpindle; dsimp only; (repeat' split) <;> simp

@[simp] theorem State.runOutTest_fixed (c : Nat) (s : State) :
    (State.runOutTest c s).fixed = s.fixed := by
  unfold State.runOutTest; (repeat' split) <;> simp

@[simp] theorem State.consume_fixed (f advance : Nat) (s : State) :
    (State.consume f advance s).fixed = s.fixed := by
  unfold State.consume; (repeat' split) <;> simp

@[simp] theorem dispatchN_fixed (n : Nat) (s : State) : (dispatchN n s).fixed = s.fixed := by
  induction n generalizing s with
  | zero => rfl
  | succ n ih => unfold dispatchN; (repeat' split) <;> simp [ih]

@[simp] theorem State.dispatch_fixed (s : State) :
    (State.dispatch s).fixed = s.fixed := by
  unfold State.dispatch; (repeat' split) <;> simp

@[simp] theorem State.sendBack_fixed (c : Nat) (s : State) :
    (State.sendBack c s).fixed = s.fixed := by
  unfold State.sendBack; (repeat' split) <;> simp

@[simp] theorem State.sendBackFault_fixed (c : Nat) (s : State) :
    (State.sendBackFault c s).fixed = s.fixed := by
  unfold State.sendBackFault; (repeat' split) <;> simp

@[simp] theorem State.makeIdle_fixed (c : Nat) (s : State) :
    (State.makeIdle c s).fixed = s.fixed := by
  unfold State.makeIdle; (repeat' split) <;> simp

@[simp] theorem State.failChange_fixed (c : Nat) (s : State) :
    (State.failChange c s).fixed = s.fixed := by
  unfold State.failChange; (repeat' split) <;> simp

@[simp] theorem State.creelFault_fixed (c : Nat) (k : Option Nat) (left : CarrierState) (e : ChangeEnd) (s : State) :
    (State.creelFault c k left e s).fixed = s.fixed := by
  unfold State.creelFault; (repeat' split) <;> simp

@[simp] theorem State.changeFails_fixed (c : Nat) (e : ChangeEnd) (s : State) :
    (State.changeFails c e s).fixed = s.fixed := by
  unfold State.changeFails; (repeat' split) <;> simp

@[simp] theorem State.changeReturned_fixed (c : Nat) (s : State) :
    (State.changeReturned c s).fixed = s.fixed := by
  unfold State.changeReturned; (repeat' split) <;> simp

@[simp] theorem State.carrierLost_fixed (c : Nat) (s : State) :
    (State.carrierLost c s).fixed = s.fixed := by
  unfold State.carrierLost; dsimp only; (repeat' split) <;> simp

@[simp] theorem State.renewSpindle_fixed (f n : Nat) (s : State) :
    (State.renewSpindle f n s).fixed = s.fixed := by
  unfold State.renewSpindle; dsimp only; (repeat' split) <;> simp

@[simp] theorem State.creelOrderDone_fixed (c k completion : Nat) (lot : Option Token) (s : State) :
    (State.creelOrderDone c k completion lot s).fixed = s.fixed := by
  unfold State.creelOrderDone; (repeat' split) <;> simp

@[simp] theorem State.changeDone_fixed (c k : Nat) (s : State) :
    (State.changeDone c k s).fixed = s.fixed := by
  unfold State.changeDone; (repeat' split) <;> simp

@[simp] theorem State.lotCheck_fixed (c k : Nat) (lot : Token) (s : State) :
    (State.lotCheck c k lot s).fixed = s.fixed := by
  unfold State.lotCheck; (repeat' split) <;> simp

@[simp] theorem State.claimLock_fixed (c k : Nat) (s : State) :
    (State.claimLock c k s).fixed = s.fixed := by
  unfold State.claimLock; dsimp only; (repeat' split) <;> simp

@[simp] theorem State.takeLoaded_fixed (c : Nat) (lot : Token) (s : State) :
    (State.takeLoaded c lot s).fixed = s.fixed := by
  unfold State.takeLoaded; (repeat' split) <;> simp

@[simp] theorem State.takeArrived_fixed (c : Nat) (s : State) :
    (State.takeArrived c s).fixed = s.fixed := by
  unfold State.takeArrived; (repeat' split) <;> simp

@[simp] theorem State.takeChangeDone_fixed (c : Nat) (s : State) :
    (State.takeChangeDone c s).fixed = s.fixed := by
  unfold State.takeChangeDone; (repeat' split) <;> simp

@[simp] theorem State.returnFails_fixed (c : Nat) (e : ChangeEnd) (s : State) :
    (State.returnFails c e s).fixed = s.fixed := by
  unfold State.returnFails; (repeat' split) <;> simp

@[simp] theorem State.takeChangeFault_fixed (c : Nat) (s : State) :
    (State.takeChangeFault c s).fixed = s.fixed := by
  unfold State.takeChangeFault; (repeat' split) <;> simp

@[simp] theorem State.takeReturned_fixed (c : Nat) (s : State) :
    (State.takeReturned c s).fixed = s.fixed := by
  unfold State.takeReturned; (repeat' split) <;> simp

@[simp] theorem State.queueNow_fixed (l : List Nat) (s : State) :
    (State.queueNow l s).fixed = s.fixed := by
  unfold State.queueNow; (repeat' split) <;> simp

@[simp] theorem State.creelOut_fixed (k : Nat) (s : State) :
    (State.creelOut k s).fixed = s.fixed := by
  unfold State.creelOut; dsimp only; (repeat' split) <;> simp

/-! Doffing -/

@[simp] theorem State.closeStop_fixed (f : Nat) (s : State) :
    (State.closeStop f s).fixed = s.fixed := by
  unfold State.closeStop; (repeat' split) <;> simp

@[simp] theorem State.openStop_fixed (f : Nat) (s : State) :
    (State.openStop f s).fixed = s.fixed := by
  unfold State.openStop; (repeat' split) <;> simp

@[simp] theorem State.leaveFrameEnds_fixed (f : Nat) (s : State) :
    (State.leaveFrameEnds f s).fixed = s.fixed := by
  unfold State.leaveFrameEnds
  exact State.each_fixed _ _ (fun x t => by dsimp only; split <;> simp) s

@[simp] theorem State.enterState_fixed (f : Nat) (st : FrameState) (s : State) :
    (State.enterState f st s).fixed = s.fixed := by
  unfold State.enterState; (repeat' split) <;> simp

@[simp] theorem State.handDrive_fixed (f : Nat) (c : Cmd) (s : State) :
    (State.handDrive f c s).fixed = s.fixed := by
  unfold State.handDrive; (repeat' split) <;> simp

@[simp] theorem State.grantSlot_fixed (f k : Nat) (s : State) :
    (State.grantSlot f k s).fixed = s.fixed := by
  unfold State.grantSlot; (repeat' split) <;> simp

@[simp] theorem grantN_fixed (n : Nat) (s : State) : (grantN n s).fixed = s.fixed := by
  induction n generalizing s with
  | zero => rfl
  | succ n ih => unfold grantN; (repeat' split) <;> simp [ih]

@[simp] theorem State.doffArbiter_fixed (s : State) :
    (State.doffArbiter s).fixed = s.fixed := by
  unfold State.doffArbiter; (repeat' split) <;> simp

@[simp] theorem State.callFrame_fixed (f : Nat) (c : CallCause) (s : State) :
    (State.callFrame f c s).fixed = s.fixed := by
  unfold State.callFrame; (repeat' split) <;> simp

@[simp] theorem State.releaseSlot_fixed (f : Nat) (s : State) :
    (State.releaseSlot f s).fixed = s.fixed := by
  unfold State.releaseSlot; (repeat' split) <;> simp

@[simp] theorem State.completeDoff_fixed (f : Nat) (s : State) :
    (State.completeDoff f s).fixed = s.fixed := by
  unfold State.completeDoff; (repeat' split) <;> simp

@[simp] theorem State.graceSpindle_fixed (f n : Nat) (afterDoff : Bool) (s : State) :
    (State.graceSpindle f n afterDoff s).fixed = s.fixed := by
  unfold State.graceSpindle; dsimp only; (repeat' split) <;> simp

@[simp] theorem State.placeAt_fixed (f build : Nat) (c : CallCause) (s : State) :
    (State.placeAt f build c s).fixed = s.fixed := by
  unfold State.placeAt; (repeat' split) <;> simp

@[simp] theorem State.placeByBuild_fixed (f : Nat) (c : CallCause) (s : State) :
    (State.placeByBuild f c s).fixed = s.fixed := State.placeAt_fixed f _ c s

@[simp] theorem State.graceEnd_fixed (f : Nat) (s : State) :
    (State.graceEnd f s).fixed = s.fixed := by
  unfold State.graceEnd; (repeat' split) <;> simp

@[simp] theorem State.notice_fixed (f : Nat) (s : State) :
    (State.notice f s).fixed = s.fixed := by
  unfold State.notice; dsimp only; (repeat' split) <;> simp

@[simp] theorem State.drainTest_fixed (f : Nat) (s : State) :
    (State.drainTest f s).fixed = s.fixed := by
  unfold State.drainTest; (repeat' split) <;> simp

@[simp] theorem State.haltReport_fixed (f : Nat) (c : HaltCause) (left : FrameState) (s : State) :
    (State.haltReport f c left s).fixed = s.fixed := by
  unfold State.haltReport; (repeat' split) <;> simp

@[simp] theorem State.stopFrame_fixed (f : Nat) (c : HaltCause) (s : State) :
    (State.stopFrame f c s).fixed = s.fixed := by
  unfold State.stopFrame; (repeat' split) <;> simp

@[simp] theorem State.doffFails_fixed (f : Nat) (c : HaltCause) (s : State) :
    (State.doffFails f c s).fixed = s.fixed := by
  unfold State.doffFails; (repeat' split) <;> simp

@[simp] theorem State.restart_fixed (f : Nat) (s : State) :
    (State.restart f s).fixed = s.fixed := by
  unfold State.restart; (repeat' split) <;> simp

@[simp] theorem State.takeAtDoff_fixed (f : Nat) (s : State) :
    (State.takeAtDoff f s).fixed = s.fixed := by
  unfold State.takeAtDoff; (repeat' split) <;> simp

@[simp] theorem State.takeDoffDone_fixed (f : Nat) (s : State) :
    (State.takeDoffDone f s).fixed = s.fixed := by
  unfold State.takeDoffDone; (repeat' split) <;> simp

@[simp] theorem State.takeDriveFault_fixed (f : Nat) (s : State) :
    (State.takeDriveFault f s).fixed = s.fixed := by
  unfold State.takeDriveFault; (repeat' split) <;> simp

@[simp] theorem State.takeDriveState_fixed (f : Nat) (d : DriveState) (s : State) :
    (State.takeDriveState f d s).fixed = s.fixed := by
  unfold State.takeDriveState; (repeat' split) <;> simp

@[simp] theorem State.driveBack_fixed (f : Nat) (s : State) :
    (State.driveBack f s).fixed = s.fixed := by
  unfold State.driveBack; (repeat' split) <;> simp

@[simp] theorem State.driveLost_fixed (f : Nat) (s : State) :
    (State.driveLost f s).fixed = s.fixed := by
  unfold State.driveLost; (repeat' split) <;> simp

/-! Output -/

@[simp] theorem State.updateStop_fixed (f : Nat) (s : State) :
    (State.updateStop f s).fixed = s.fixed := by
  unfold State.updateStop; (repeat' split) <;> simp

@[simp] theorem State.captureLengths_fixed (f running : Nat) (s : State) :
    (State.captureLengths f running s).fixed = s.fixed := by
  unfold State.captureLengths; (repeat' split) <;> simp

@[simp] theorem State.sweepCapture_fixed (f running planned period : Nat) (s : State) :
    (State.sweepCapture f running planned period s).fixed = s.fixed := by
  unfold State.sweepCapture; (repeat' split) <;> simp

@[simp] theorem State.boundaryCapture_fixed (f : Nat) (s : State) :
    (State.boundaryCapture f s).fixed = s.fixed := by
  unfold State.boundaryCapture; (repeat' split) <;> simp

@[simp] theorem State.closePage_fixed (cause : PageCause) (s : State) :
    (State.closePage cause s).fixed = s.fixed := by
  unfold State.closePage; (repeat' split) <;> simp

@[simp] theorem State.openNewPage_fixed (n : Nat) (cause : PageCause) (s : State) :
    (State.openNewPage n cause s).fixed = s.fixed := by
  unfold State.openNewPage; (repeat' split) <;> simp

@[simp] theorem State.absorb_fixed (cause : PageCause) (s : State) :
    (State.absorb cause s).fixed = s.fixed := by
  unfold State.absorb; (repeat' split) <;> simp

@[simp] theorem State.rotatePage_fixed (cause : PageCause) (s : State) :
    (State.rotatePage cause s).fixed = s.fixed := by
  unfold State.rotatePage; (repeat' split) <;> simp

@[simp] theorem State.loadShift_fixed (s : State) :
    (State.loadShift s).fixed = s.fixed := by
  unfold State.loadShift; (repeat' split) <;> simp

@[simp] theorem State.boundaryPage_fixed (cause : PageCause) (s : State) :
    (State.boundaryPage cause s).fixed = s.fixed := by
  unfold State.boundaryPage; (repeat' split) <;> simp

@[simp] theorem State.loadCompare_fixed (f : Nat) (s : State) :
    (State.loadCompare f s).fixed = s.fixed := by
  unfold State.loadCompare; (repeat' split) <;> simp

/-! Watch -/

@[simp] theorem State.slipTest_fixed (f n : Nat) (s : State) :
    (State.slipTest f n s).fixed = s.fixed := by
  unfold State.slipTest; (repeat' split) <;> simp

@[simp] theorem State.judge_fixed (f n count : Nat) (s : State) : (s.judge f n count).1.fixed = s.fixed := by
  unfold State.judge; dsimp only; split <;> (try split) <;> simp

@[simp] theorem judgeAll_fixed (f : Nat) (l : List (Nat × Nat)) (s : State) : (judgeAll f l s).1.fixed = s.fixed := by
  induction l generalizing s with
  | nil => rfl
  | cons x r ih =>
    have h : (judgeAll f r (s.judge f x.1 x.2).1).1.fixed = s.fixed := (ih _).trans (s.judge_fixed f x.1 x.2)
    unfold judgeAll; dsimp only; split <;> exact h

@[simp] theorem State.reportBreak_fixed (f n : Nat) (c : BreakClass) (repeats : Nat) (s : State) :
    (State.reportBreak f n c repeats s).fixed = s.fixed := by
  unfold State.reportBreak; (repeat' split) <;> simp

@[simp] theorem State.settleProveFail_fixed (f n : Nat) (s : State) :
    (State.settleProveFail f n s).fixed = s.fixed := by
  unfold State.settleProveFail; (repeat' split) <;> simp

@[simp] theorem State.settleBreak_fixed (f n : Nat) (c : BreakClass) (s : State) :
    (State.settleBreak f n c s).fixed = s.fixed := by
  unfold State.settleBreak; dsimp only; (repeat' split) <;> simp

@[simp] theorem State.judgeStrip_fixed (f k : Nat) (counts : List Nat) (s : State) :
    (State.judgeStrip f k counts s).fixed = s.fixed := by
  unfold State.judgeStrip; dsimp only; (repeat' split) <;> simp

@[simp] theorem State.countRead_fixed (f k : Nat) (good : Bool) (s : State) :
    (State.countRead f k good s).fixed = s.fixed := by
  unfold State.countRead; (repeat' split) <;> simp

@[simp] theorem State.checkReport_fixed (f k passed failed completion : Nat) (s : State) :
    (State.checkReport f k passed failed completion s).fixed = s.fixed := by
  unfold State.checkReport; (repeat' split) <;> simp

@[simp] theorem State.settleChecked_fixed (f n : Nat) (failed : Bool) (s : State) :
    (State.settleChecked f n failed s).fixed = s.fixed := by
  unfold State.settleChecked; dsimp only; (repeat' split) <;> simp

@[simp] theorem State.endCheck_fixed (f k : Nat) (cutShort : Bool) (s : State) :
    (State.endCheck f k cutShort s).fixed = s.fixed := by
  unfold State.endCheck; (repeat' split) <;> simp

@[simp] theorem State.dropCheck_fixed (f k : Nat) (s : State) :
    (State.dropCheck f k s).fixed = s.fixed := by
  unfold State.dropCheck; (repeat' split) <;> simp

@[simp] theorem State.loopSweep_fixed (f k : Nat) (c : LoopCheck) (values : List Nat) (s : State) :
    (State.loopSweep f k c values s).fixed = s.fixed := by
  unfold State.loopSweep; (repeat' split) <;> simp

@[simp] theorem State.takeRead_fixed (f k : Nat) (good : Option (List Nat)) (s : State) :
    (State.takeRead f k good s).fixed = s.fixed := by
  unfold State.takeRead; dsimp only; (repeat' split) <;> simp

@[simp] theorem State.sweepEnd_fixed (f : Nat) (s : State) :
    (State.sweepEnd f s).fixed = s.fixed := by
  unfold State.sweepEnd; (repeat' split) <;> simp

@[simp] theorem State.readStrip_fixed (f : Nat) (good : Nat → Option (List Nat)) (s : State) :
    (State.readStrip f good s).fixed = s.fixed := by
  unfold State.readStrip; (repeat' split) <;> simp

@[simp] theorem State.startSweep_fixed (f : Nat) (s : State) :
    (State.startSweep f s).fixed = s.fixed := by
  unfold State.startSweep; (repeat' split) <;> simp

@[simp] theorem State.spindlesIn_fixed (f : Nat) (l : List Nat) (s : State) :
    (State.spindlesIn f l s).fixed = s.fixed := by
  unfold State.spindlesIn; (repeat' split) <;> simp

@[simp] theorem State.spindlesOut_fixed (f : Nat) (l : List Nat) (s : State) :
    (State.spindlesOut f l s).fixed = s.fixed := by
  unfold State.spindlesOut; (repeat' split) <;> simp

@[simp] theorem State.stripsClear_fixed (f : Nat) (l : List Nat) (s : State) :
    (State.stripsClear f l s).fixed = s.fixed := by
  unfold State.stripsClear; (repeat' split) <;> simp

/-! Pool -/

@[simp] theorem State.recount_fixed (d : Nat) (s : State) :
    (State.recount d s).fixed = s.fixed := by
  unfold State.recount; (repeat' split) <;> simp

@[simp] theorem State.recountAll_fixed (s : State) :
    (State.recountAll s).fixed = s.fixed := by
  unfold State.recountAll; (repeat' split) <;> simp

@[simp] theorem State.startAttempt_fixed (p d n : Nat) (s : State) :
    (State.startAttempt p d n s).fixed = s.fixed := by
  unfold State.startAttempt; (repeat' split) <;> simp

@[simp] theorem State.choose_fixed (d : Nat) (s : State) :
    (State.choose d s).fixed = s.fixed := by
  unfold State.choose; dsimp only; (repeat' split) <;> simp

@[simp] theorem State.chooseAll_fixed (s : State) :
    (State.chooseAll s).fixed = s.fixed := by
  unfold State.chooseAll; (repeat' split) <;> simp

@[simp] theorem State.homePass_fixed (p : Nat) (s : State) :
    (State.homePass p s).fixed = s.fixed := by
  unfold State.homePass; dsimp only; (repeat' split) <;> simp

@[simp] theorem State.lendPass_fixed (p : Nat) (s : State) :
    (State.lendPass p s).fixed = s.fixed := by
  unfold State.lendPass; (repeat' split) <;> simp

@[simp] theorem State.arbitrate_fixed (s : State) :
    (State.arbitrate s).fixed = s.fixed := by
  unfold State.arbitrate; (repeat' split) <;> simp

@[simp] theorem State.frameEnd_fixed (p : Nat) (s : State) :
    (State.frameEnd p s).fixed = s.fixed := by
  unfold State.frameEnd; dsimp only; (repeat' split) <;> simp

@[simp] theorem State.arrive_fixed (p d pos : Nat) (s : State) :
    (State.arrive p d pos s).fixed = s.fixed := by
  unfold State.arrive; (repeat' split) <;> simp

@[simp] theorem State.markReturned_fixed (p : Nat) (s : State) :
    (State.markReturned p s).fixed = s.fixed := by
  unfold State.markReturned; dsimp only; (repeat' split) <;> simp

@[simp] theorem State.journalBack_fixed (a : Nat) (lost : Word) (s : State) :
    (State.journalBack a lost s).fixed = s.fixed := by
  unfold State.journalBack; (repeat' split) <;> simp

@[simp] theorem State.returnByReport_fixed (p : Nat) (s : State) :
    (State.returnByReport p s).fixed = s.fixed := by
  unfold State.returnByReport; (repeat' split) <;> simp

@[simp] theorem State.returnByLink_fixed (p : Nat) (s : State) :
    (State.returnByLink p s).fixed = s.fixed := by
  unfold State.returnByLink; (repeat' split) <;> simp

@[simp] theorem State.placeReturned_fixed (p d pos : Nat) (s : State) :
    (State.placeReturned p d pos s).fixed = s.fixed := by
  unfold State.placeReturned; dsimp only; (repeat' split) <;> simp

@[simp] theorem State.takeAtSide_fixed (p d pos : Nat) (s : State) :
    (State.takeAtSide p d pos s).fixed = s.fixed := by
  unfold State.takeAtSide; dsimp only; (repeat' split) <;> simp

@[simp] theorem State.takeParked_fixed (p : Nat) (s : State) :
    (State.takeParked p s).fixed = s.fixed := by
  unfold State.takeParked; dsimp only; (repeat' split) <;> simp

@[simp] theorem State.stale_fixed (p : Nat) (r : Report) (t : Token) (o : Option Outcome) (s : State) :
    (State.stale p r t o s).fixed = s.fixed := by
  unfold State.stale; (repeat' split) <;> simp

@[simp] theorem State.takeStep_fixed (p : Nat) (t : Token) (st : AttemptStep) (pos : Nat) (s : State) :
    (State.takeStep p t st pos s).fixed = s.fixed := by
  unfold State.takeStep; (repeat' split) <;> simp

@[simp] theorem State.claimOutcome_fixed (f n p : Nat) (t : Token) (stage : Option AttemptStep) (o : Outcome) (s : State) :
    (State.claimOutcome f n p t stage o s).fixed = s.fixed := by
  unfold State.claimOutcome; (repeat' split) <;> simp

@[simp] theorem State.takeResult_fixed (p : Nat) (t : Token) (o : Outcome) (s : State) :
    (State.takeResult p t o s).fixed = s.fixed := by
  unfold State.takeResult; dsimp only; (repeat' split) <;> simp

@[simp] theorem State.attemptExpires_fixed (p : Nat) (s : State) :
    (State.attemptExpires p s).fixed = s.fixed := by
  unfold State.attemptExpires; dsimp only; (repeat' split) <;> simp

@[simp] theorem State.holdRefused_fixed (k : Nat) (s : State) :
    (State.holdRefused k s).fixed = s.fixed := by
  unfold State.holdRefused; (repeat' split) <;> simp

@[simp] theorem State.takeHeld_fixed (p : Nat) (t : Token) (s : State) :
    (State.takeHeld p t s).fixed = s.fixed := by
  unfold State.takeHeld; dsimp only; (repeat' split) <;> simp

@[simp] theorem State.takeRefusedHold_fixed (p : Nat) (t : Token) (s : State) :
    (State.takeRefusedHold p t s).fixed = s.fixed := by
  unfold State.takeRefusedHold; (repeat' split) <;> simp

/-! Settle -/

@[simp] theorem State.tellLoss_fixed (a : Nat) (s : State) :
    (State.tellLoss a s).fixed = s.fixed := by
  unfold State.tellLoss; (repeat' split) <;> simp

@[simp] theorem State.tellLosses_fixed (s : State) :
    (State.tellLosses s).fixed = s.fixed := by
  unfold State.tellLosses; (repeat' split) <;> simp

@[simp] theorem State.relistOwed_fixed (s : State) :
    (State.relistOwed s).fixed = s.fixed := by
  unfold State.relistOwed; (repeat' split) <;> simp

@[simp] theorem State.arbiterOwed_fixed (s : State) :
    (State.arbiterOwed s).fixed = s.fixed := by
  unfold State.arbiterOwed; (repeat' split) <;> simp

@[simp] theorem State.refillOwed_fixed (s : State) :
    (State.refillOwed s).fixed = s.fixed := by
  unfold State.refillOwed; (repeat' split) <;> simp

@[simp] theorem State.settleRound_fixed (s : State) :
    (State.settleRound s).fixed = s.fixed := by
  unfold State.settleRound; (repeat' split) <;> simp

@[simp] theorem settleN_fixed (n : Nat) (s : State) : (settleN n s).fixed = s.fixed := by
  induction n generalizing s with
  | zero => rfl
  | succ n ih => unfold settleN; (repeat' split) <;> simp [ih]

@[simp] theorem State.settle_fixed (s : State) :
    (State.settle s).fixed = s.fixed := by
  unfold State.settle; (repeat' split) <;> simp

end Sys2Proof.Machine
end

