-- ==== Sys2Proof/Laws/FixedDesk.lean ====
section
/-! SUPPORT. The same of the plan, the writes, the orders, the scan, the start's tables and the link: what they do leaves
the board memory, the clock, the commands waiting and the registers but ATT's causes as they were. And what the end of a
page write does to a SHIFT_CLOSE that waits for it. -/

namespace Sys2Proof.Machine

/-! Plan -/

@[simp] theorem State.poolPiecers_fixed (f : Nat) (s : State) :
    (State.poolPiecers f s).fixed = s.fixed := by
  unfold State.poolPiecers
  exact State.each_fixed _ _ (fun x t => by dsimp only; (repeat' split) <;> simp) s

@[simp] theorem State.sectionOut_fixed (f k : Nat) (s : State) :
    (State.sectionOut f k s).fixed = s.fixed := by
  unfold State.sectionOut; (repeat' split) <;> simp

@[simp] theorem State.frameOut_fixed (f n : Nat) (s : State) :
    (State.frameOut f n s).fixed = s.fixed := by
  unfold State.frameOut; (repeat' split) <;> simp

@[simp] theorem State.sectionsIn_fixed (f : Nat) (l : List Nat) (s : State) :
    (State.sectionsIn f l s).fixed = s.fixed := by
  unfold State.sectionsIn; (repeat' split) <;> simp

@[simp] theorem State.frameIn_fixed (f : Nat) (s : State) :
    (State.frameIn f s).fixed = s.fixed := by
  unfold State.frameIn; (repeat' split) <;> simp

@[simp] theorem State.frameResized_fixed (f n m : Nat) (s : State) :
    (State.frameResized f n m s).fixed = s.fixed := by
  unfold State.frameResized; (repeat' split) <;> simp

@[simp] theorem State.switchFrames_fixed (old : Settings) (s : State) :
    (State.switchFrames old s).fixed = s.fixed := by
  unfold State.switchFrames; (repeat' split) <;> simp

@[simp] theorem State.switchCompare_fixed (s : State) :
    (State.switchCompare s).fixed = s.fixed := by
  unfold State.switchCompare
  exact State.each_fixed _ _ (fun x t => by dsimp only; (repeat' split) <;> simp) s

@[simp] theorem State.lotRequeue_fixed (c : Nat) (s : State) :
    (State.lotRequeue c s).fixed = s.fixed := by
  unfold State.lotRequeue; (repeat' split) <;> simp

@[simp] theorem State.switchRoving_fixed (old : Settings) (s : State) :
    (State.switchRoving old s).fixed = s.fixed := by
  unfold State.switchRoving; (repeat' split) <;> simp

@[simp] theorem State.switchShift_fixed (old : Settings) (cause : Option PageCause) (s : State) :
    (State.switchShift old cause s).fixed = s.fixed := by
  unfold State.switchShift; (repeat' split) <;> simp

@[simp] theorem State.switchReport_fixed (left : Option Plan) (old : Settings) (cause : Option PageCause) (s : State) :
    (State.switchReport left old cause s).fixed = s.fixed := by
  unfold State.switchReport; (repeat' split) <;> simp

@[simp] theorem State.takeHomes_fixed (s : State) :
    (State.takeHomes s).fixed = s.fixed := by
  unfold State.takeHomes; (repeat' split) <;> simp

@[simp] theorem State.applySwitch_fixed (p : Plan) (cause : Option PageCause) (s : State) :
    (State.applySwitch p cause s).fixed = s.fixed := by
  unfold State.applySwitch; (repeat' split) <;> simp

@[simp] theorem State.planBoundary_fixed (cause : PageCause) (s : State) :
    (State.planBoundary cause s).fixed = s.fixed := by
  unfold State.planBoundary; (repeat' split) <;> simp

@[simp] theorem State.boundary_fixed (cause : PageCause) (s : State) :
    (State.boundary cause s).fixed = s.fixed := by
  unfold State.boundary; (repeat' split) <;> simp

/-! Formats -/

/-! Port -/

@[simp] theorem State.requestRead_fixed (b : Requester) (offset beats : Nat) (s : State) :
    (State.requestRead b offset beats s).fixed = s.fixed := by
  unfold State.requestRead; (repeat' split) <;> simp

@[simp] theorem State.requestWrite_fixed (offset : Nat) (l : List Word) (s : State) :
    (State.requestWrite offset l s).fixed = s.fixed := by
  unfold State.requestWrite; (repeat' split) <;> simp

/-! Writer -/

@[simp] theorem State.holdNumber_fixed (offset : Nat) (w : Word) (s : State) :
    (State.holdNumber offset w s).fixed = s.fixed := by
  unfold State.holdNumber; (repeat' split) <;> simp

@[simp] theorem State.sendTransfers_fixed (i : WriteItem) (l : List (Nat × List Word)) (s : State) :
    (State.sendTransfers i l s).fixed = s.fixed := by
  unfold State.sendTransfers; (repeat' split) <;> simp

@[simp] theorem State.noteOpenBegun_fixed (i : WriteItem) (s : State) :
    (State.noteOpenBegun i s).fixed = s.fixed := by
  unfold State.noteOpenBegun; (repeat' split) <;> simp

@[simp] theorem State.beginNumbered_fixed (i : WriteItem) (offset : Nat) (held : Word) (s : State) :
    (State.beginNumbered i offset held s).fixed = s.fixed := by
  unfold State.beginNumbered; (repeat' split) <;> simp

@[simp] theorem State.beginItem_fixed (i : WriteItem) (s : State) :
    (State.beginItem i s).fixed = s.fixed := by
  unfold State.beginItem; (repeat' split) <;> simp

@[simp] theorem State.shiftTest_fixed (s : State) :
    (State.shiftTest s).fixed = s.fixed := by
  unfold State.shiftTest; (repeat' split) <;> simp

/-- A SHIFT_CLOSE with page writes left waits on, and with none waiting nothing is done. -/
theorem State.shiftTest_waits (s : State) (h : ∀ w, s.output.wait = some w → w.closeLeft = true ∨ w.openLeft = true) :
    s.shiftTest = s := by
  unfold State.shiftTest
  split
  · rfl
  · next w hw => simp [h w hw]

/-- A SHIFT_CLOSE with no page write left is DONE. -/
theorem State.shiftTest_done (s : State) (w : ShiftWait) (h : s.output.wait = some w) (hc : w.closeLeft = false)
    (ho : w.openLeft = false) :
    s.shiftTest = { s with output.wait := none }.finishBook (fun b => b.kind == OrderKind.shiftClose) none
      [w32 (if w.absorbed then 2 else 1), w32 w.page, w.stamp, w32 w.merged] := by
  simp [State.shiftTest, h, hc, ho]

/-- During the rewriting of RESUME the end of a page write finishes no order. -/
theorem State.pageWritten_rewriting (left : ShiftWait → ShiftWait) (s : State) (h : s.regs.rewriting = some .rewrite) :
    s.pageWritten left = { s with output.wait := s.output.wait.map left } := by
  simp [State.pageWritten, h]

/-- Otherwise it is followed by the test of a SHIFT_CLOSE. -/
theorem State.pageWritten_served (left : ShiftWait → ShiftWait) (s : State) (h : s.regs.rewriting ≠ some .rewrite) :
    s.pageWritten left = State.shiftTest { s with output.wait := s.output.wait.map left } := by
  simp [State.pageWritten, h]

@[simp] theorem State.journalWritten_fixed (s : State) :
    (State.journalWritten s).fixed = s.fixed := by
  unfold State.journalWritten; (repeat' split) <;> simp

@[simp] theorem State.pageWritten_fixed (left : ShiftWait → ShiftWait) (s : State) :
    (State.pageWritten left s).fixed = s.fixed := by
  unfold State.pageWritten; (repeat' split) <;> simp

@[simp] theorem State.itemWritten_fixed (i : WriteItem) (s : State) :
    (State.itemWritten i s).fixed = s.fixed := by
  unfold State.itemWritten; (repeat' split) <;> simp

@[simp] theorem State.writeEnded_fixed (offset : Nat) (last : Word) (s : State) :
    (State.writeEnded offset last s).fixed = s.fixed := by
  unfold State.writeEnded; (repeat' split) <;> simp

@[simp] theorem State.numberRead_fixed (offset : Nat) (w : Word) (s : State) :
    (State.numberRead offset w s).fixed = s.fixed := by
  unfold State.numberRead; (repeat' split) <;> simp

/-! Orders -/

@[simp] theorem State.orderDone_fixed (c : CellRead) (words : List Word) (s : State) :
    (State.orderDone c words s).fixed = s.fixed := by
  unfold State.orderDone; (repeat' split) <;> simp

@[simp] theorem State.orderRefused_fixed (c : CellRead) (r : Reason) (s : State) :
    (State.orderRefused c r s).fixed = s.fixed := by
  unfold State.orderRefused; (repeat' split) <;> simp

@[simp] theorem State.enterBook_fixed (k : OrderKind) (c : CellRead) (s : State) :
    (State.enterBook k c s).fixed = s.fixed := by
  unfold State.enterBook; (repeat' split) <;> simp

@[simp] theorem State.cutOutFirst_fixed (f n : Nat) (s : State) :
    (State.cutOutFirst f n s).fixed = s.fixed := by
  unfold State.cutOutFirst; (repeat' split) <;> simp

@[simp] theorem State.orderCutOut_fixed (c : CellRead) (s : State) :
    (State.orderCutOut c s).fixed = s.fixed := by
  unfold State.orderCutOut; dsimp only; (repeat' split) <;> simp

@[simp] theorem State.uncut_fixed (f n : Nat) (s : State) :
    (State.uncut f n s).fixed = s.fixed := by
  unfold State.uncut; (repeat' split) <;> simp

@[simp] theorem State.orderClearCutout_fixed (c : CellRead) (s : State) :
    (State.orderClearCutout c s).fixed = s.fixed := by
  unfold State.orderClearCutout; (repeat' split) <;> simp

@[simp] theorem State.orderClearSlip_fixed (c : CellRead) (s : State) :
    (State.orderClearSlip c s).fixed = s.fixed := by
  unfold State.orderClearSlip; (repeat' split) <;> simp

@[simp] theorem State.checkSpindle_fixed (f n : Nat) (s : State) :
    (State.checkSpindle f n s).fixed = s.fixed := by
  unfold State.checkSpindle; dsimp only; (repeat' split) <;> simp

@[simp] theorem State.orderSelfCheck_fixed (c : CellRead) (s : State) :
    (State.orderSelfCheck c s).fixed = s.fixed := by
  unfold State.orderSelfCheck; (repeat' split) <;> simp

@[simp] theorem State.orderTableRead_fixed (c : CellRead) (s : State) :
    (State.orderTableRead c s).fixed = s.fixed := by
  unfold State.orderTableRead; (repeat' split) <;> simp

@[simp] theorem State.placeOnSide_fixed (c : CellRead) (p d : Nat) (s : State) :
    (State.placeOnSide c p d s).fixed = s.fixed := by
  unfold State.placeOnSide; (repeat' split) <;> simp

@[simp] theorem State.placeInBay_fixed (c : CellRead) (p : Nat) (s : State) :
    (State.placeInBay c p s).fixed = s.fixed := by
  unfold State.placeInBay; dsimp only; (repeat' split) <;> simp

@[simp] theorem State.placeInPool_fixed (c : CellRead) (p : Nat) (s : State) :
    (State.placeInPool c p s).fixed = s.fixed := by
  unfold State.placeInPool; (repeat' split) <;> simp

@[simp] theorem State.orderPiecerPlace_fixed (c : CellRead) (s : State) :
    (State.orderPiecerPlace c s).fixed = s.fixed := by
  unfold State.orderPiecerPlace; dsimp only; (repeat' split) <;> simp

@[simp] theorem State.orderDoffNow_fixed (c : CellRead) (s : State) :
    (State.orderDoffNow c s).fixed = s.fixed := by
  unfold State.orderDoffNow; dsimp only; (repeat' split) <;> simp

@[simp] theorem State.orderFrameStop_fixed (c : CellRead) (s : State) :
    (State.orderFrameStop c s).fixed = s.fixed := by
  unfold State.orderFrameStop; dsimp only; (repeat' split) <;> simp

@[simp] theorem State.orderFrameStart_fixed (c : CellRead) (s : State) :
    (State.orderFrameStart c s).fixed = s.fixed := by
  unfold State.orderFrameStart; (repeat' split) <;> simp

@[simp] theorem State.orderCreelChange_fixed (c : CellRead) (s : State) :
    (State.orderCreelChange c s).fixed = s.fixed := by
  unfold State.orderCreelChange; dsimp only; (repeat' split) <;> simp

@[simp] theorem State.orderShiftClose_fixed (c : CellRead) (s : State) :
    (State.orderShiftClose c s).fixed = s.fixed := by
  unfold State.orderShiftClose; (repeat' split) <;> simp

@[simp] theorem State.orderPlanSwitch_fixed (c : CellRead) (s : State) : (s.orderPlanSwitch c).2.fixed = s.fixed := by
  unfold State.orderPlanSwitch; (repeat' split) <;> simp

@[simp] theorem State.decideSwitch_fixed (c : CellRead) (copy : PlanCopy) (l : List Word) (s : State) :
    (State.decideSwitch c copy l s).fixed = s.fixed := by
  unfold State.decideSwitch; (repeat' split) <;> simp

@[simp] theorem State.withdrawDoff_fixed (f : Nat) (s : State) :
    (State.withdrawDoff f s).fixed = s.fixed := by
  unfold State.withdrawDoff; (repeat' split) <;> simp

@[simp] theorem State.withdrawCreel_fixed (k : Nat) (s : State) :
    (State.withdrawCreel k s).fixed = s.fixed := by
  unfold State.withdrawCreel; (repeat' split) <;> simp

@[simp] theorem State.withdrawPlace_fixed (p : Nat) (s : State) :
    (State.withdrawPlace p s).fixed = s.fixed := by
  unfold State.withdrawPlace; (repeat' split) <;> simp

@[simp] theorem State.withdrawEffect_fixed (b : BookEntry) (s : State) :
    (State.withdrawEffect b s).fixed = s.fixed := by
  unfold State.withdrawEffect; (repeat' split) <;> simp

@[simp] theorem State.undefer_fixed (cell : Nat) (s : State) :
    (State.undefer cell s).fixed = s.fixed := by
  unfold State.undefer; (repeat' split) <;> simp

@[simp] theorem State.orderWithdraw_fixed (c : CellRead) (s : State) :
    (State.orderWithdraw c s).fixed = s.fixed := by
  unfold State.orderWithdraw; (repeat' split) <;> simp

/-! Desk -/

@[simp] theorem State.beginScan_fixed (s : State) :
    (State.beginScan s).fixed = s.fixed := by
  unfold State.beginScan; (repeat' split) <;> simp

@[simp] theorem State.endScan_fixed (s : State) :
    (State.endScan s).fixed = s.fixed := by
  unfold State.endScan; (repeat' split) <;> simp

@[simp] theorem State.lookNow_fixed (s : State) :
    (State.lookNow s).fixed = s.fixed := by
  unfold State.lookNow; (repeat' split) <;> simp

theorem State.freshCell_fixed (c : CellRead) (s t : State) (h : s.freshCell c = some t) : t.fixed = s.fixed := by
  unfold State.freshCell at h
  split at h
  · cases h; rfl
  · split at h
    · cases h; simp
    · cases h

@[simp] theorem skipUnknown_fixed (n : Nat) (s : State) : (skipUnknown n s).fixed = s.fixed := by
  induction n generalizing s with
  | zero => rfl
  | succ n ih =>
    unfold skipUnknown
    split
    · rfl
    · split
      · rfl
      · dsimp only
        split
        · simp [ih]
        · rename_i h
          simp [ih, State.freshCell_fixed _ _ _ h]

@[simp] theorem State.goOnTaking_fixed (s : State) :
    (State.goOnTaking s).fixed = s.fixed := by
  unfold State.goOnTaking; dsimp only; split <;> simp

@[simp] theorem State.dropTaken_fixed (s : State) :
    (State.dropTaken s).fixed = s.fixed := by
  unfold State.dropTaken; (repeat' split) <;> simp

@[simp] theorem State.defer_fixed (c : CellRead) (s : State) :
    (State.defer c s).fixed = s.fixed := by
  unfold State.defer; (repeat' split) <;> simp

@[simp] theorem State.handOrder_fixed (k : OrderKind) (c : CellRead) (s : State) :
    (State.handOrder k c s).fixed = s.fixed := by
  unfold State.handOrder
  split <;> try simp
  have h := s.orderPlanSwitch_fixed c
  split <;> simp_all

@[simp] theorem State.takeCell_fixed (k : OrderKind) (c : CellRead) (s : State) :
    (State.takeCell k c s).fixed = s.fixed := by
  unfold State.takeCell
  split
  · simp
  · rename_i h
    (repeat' split) <;> simp [State.freshCell_fixed _ _ _ h]

@[simp] theorem State.takeOrder_fixed (k : OrderKind) (ps : List Word) (s : State) :
    (State.takeOrder k ps s).fixed = s.fixed := by
  unfold State.takeOrder; (repeat' split) <;> simp

@[simp] theorem State.goTaking_fixed (l : List CellRead) (s : State) :
    (State.goTaking l s).fixed = s.fixed := by
  unfold State.goTaking; (repeat' split) <;> simp

@[simp] theorem State.goCells_fixed (left : List Nat) (again : Bool) (got : List CellRead) (s : State) :
    (State.goCells left again got s).fixed = s.fixed := by
  unfold State.goCells; (repeat' split) <;> simp

@[simp] theorem State.goStages_fixed (left posted : List Nat) (s : State) :
    (State.goStages left posted s).fixed = s.fixed := by
  unfold State.goStages; (repeat' split) <;> simp

@[simp] theorem State.afterPages_fixed (s : State) :
    (State.afterPages s).fixed = s.fixed := by
  unfold State.afterPages; (repeat' split) <;> simp

@[simp] theorem State.goPages_fixed (left : List Nat) (s : State) :
    (State.goPages left s).fixed = s.fixed := by
  unfold State.goPages; (repeat' split) <;> simp

@[simp] theorem State.takeReadMark_fixed (w : Word) (s : State) :
    (State.takeReadMark w s).fixed = s.fixed := by
  unfold State.takeReadMark; (repeat' split) <;> simp

@[simp] theorem State.unpost_fixed (c : Nat) (s : State) :
    (State.unpost c s).fixed = s.fixed := by
  unfold State.unpost; (repeat' split) <;> simp

@[simp] theorem State.stageRead_fixed (c : Nat) (left posted : List Nat) (w : Word) (s : State) :
    (State.stageRead c left posted w s).fixed = s.fixed := by
  unfold State.stageRead; (repeat' split) <;> simp

@[simp] theorem State.cellRead_fixed (c : Nat) (left : List Nat) (again : Bool) (w : List Word) (got : List CellRead) (s : State) :
    (State.cellRead c left again w got s).fixed = s.fixed := by
  unfold State.cellRead; (repeat' split) <;> simp

@[simp] theorem State.cellWords_fixed (c : Nat) (left : List Nat) (again : Bool) (w : List Word) (got : List CellRead) (s : State) :
    (State.cellWords c left again w got s).fixed = s.fixed := by
  unfold State.cellWords; (repeat' split) <;> simp

@[simp] theorem State.scanRead_fixed (w : List Word) (s : State) :
    (State.scanRead w s).fixed = s.fixed := by
  unfold State.scanRead; (repeat' split) <;> simp

@[simp] theorem State.scanPage_fixed (w : Word) (s : State) :
    (State.scanPage w s).fixed = s.fixed := by
  unfold State.scanPage; (repeat' split) <;> simp

@[simp] theorem State.switchRead_fixed (c : CellRead) (r : PlanRead) (s : State) :
    (State.switchRead c r s).fixed = s.fixed := by
  unfold State.switchRead; (repeat' split) <;> simp

/-! Winding -/

@[simp] theorem State.giveUpTaking_fixed (s : State) :
    (State.giveUpTaking s).fixed = s.fixed := by
  unfold State.giveUpTaking; dsimp only; (repeat' split) <;> simp

@[simp] theorem State.windDown_fixed (s : State) :
    (State.windDown s).fixed = s.fixed := by
  unfold State.windDown; (repeat' split) <;> simp

/-! Start -/

@[simp] theorem State.frameFromDrive_fixed (c : Census) (f : Nat) (s : State) :
    (State.frameFromDrive c f s).fixed = s.fixed := by
  unfold State.frameFromDrive; (repeat' split) <;> simp

@[simp] theorem State.buildFrame_fixed (c : Census) (f : Nat) (s : State) :
    (State.buildFrame c f s).fixed = s.fixed := by
  unfold State.buildFrame; (repeat' split) <;> simp

@[simp] theorem State.buildPiecer_fixed (p : Nat) (s : State) :
    (State.buildPiecer p s).fixed = s.fixed := by
  unfold State.buildPiecer; (repeat' split) <;> simp

@[simp] theorem State.buildCarrier_fixed (c : Nat) (s : State) :
    (State.buildCarrier c s).fixed = s.fixed := by
  unfold State.buildCarrier; (repeat' split) <;> simp

@[simp] theorem State.buildTables_fixed (c : Census) (s : State) :
    (State.buildTables c s).fixed = s.fixed := by
  unfold State.buildTables; (repeat' split) <;> simp

@[simp] theorem State.startCell_fixed (c : Nat) (w : Word) (s : State) :
    (State.startCell c w s).fixed = s.fixed := by
  unfold State.startCell; (repeat' split) <;> simp

@[simp] theorem State.startCellRead_fixed (w : Word) (s : State) :
    (State.startCellRead w s).fixed = s.fixed := by
  unfold State.startCellRead; (repeat' split) <;> simp

@[simp] theorem State.closeFound_fixed (x : FoundPage) (s : State) :
    (State.closeFound x s).fixed = s.fixed := by
  unfold State.closeFound; (repeat' split) <;> simp

@[simp] theorem State.settlePages_fixed (s : State) :
    (State.settlePages s).fixed = s.fixed := by
  unfold State.settlePages; dsimp only; (repeat' split) <;> simp

@[simp] theorem State.nextFound_fixed (s : State) :
    (State.nextFound s).fixed = s.fixed := by
  unfold State.nextFound; (repeat' split) <;> simp

@[simp] theorem State.startPageRead_fixed (offset : Nat) (w : List Word) (s : State) :
    (State.startPageRead offset w s).fixed = s.fixed := by
  unfold State.startPageRead; (repeat' split) <;> simp

@[simp] theorem State.startSweeping_fixed (f : Nat) (s : State) :
    (State.startSweeping f s).fixed = s.fixed := by
  unfold State.startSweeping; (repeat' split) <;> simp

/-! Serve -/

@[simp] theorem State.queueHeld_fixed (s : State) :
    (State.queueHeld s).fixed = s.fixed := by
  unfold State.queueHeld; (repeat' split) <;> simp

@[simp] theorem State.queueMark_fixed (s : State) :
    (State.queueMark s).fixed = s.fixed := by
  unfold State.queueMark; (repeat' split) <;> simp

/-! Link -/

@[simp] theorem State.openVisit_fixed (a : Nat) (cmd : Option Cmd) (seq : Bool) (s : State) :
    (State.openVisit a cmd seq s).fixed = s.fixed := by
  unfold State.openVisit; (repeat' split) <;> simp

@[simp] theorem State.visitUnit_fixed (a : Nat) (s : State) :
    (State.visitUnit a s).fixed = s.fixed := by
  unfold State.visitUnit; dsimp only; (repeat' split) <;> simp

@[simp] theorem State.endCycle_fixed (s : State) :
    (State.endCycle s).fixed = s.fixed := by
  unfold State.endCycle; (repeat' split) <;> simp

@[simp] theorem State.visitNext_fixed (s : State) :
    (State.visitNext s).fixed = s.fixed := by
  unfold State.visitNext; dsimp only; (repeat' split) <;> simp

@[simp] theorem State.censusVisit_fixed (c : Census) (s : State) :
    (State.censusVisit c s).fixed = s.fixed := by
  unfold State.censusVisit; (repeat' split) <;> simp

@[simp] theorem State.startVisit_fixed (s : State) :
    (State.startVisit s).fixed = s.fixed := by
  unfold State.startVisit; (repeat' split) <;> simp

@[simp] theorem State.closeVisit_fixed (a : Nat) (s : State) :
    (State.closeVisit a s).fixed = s.fixed := by
  unfold State.closeVisit; (repeat' split) <;> simp

@[simp] theorem State.censusAbsent_fixed (c : Census) (a : Nat) (s : State) :
    (State.censusAbsent c a s).fixed = s.fixed := by
  unfold State.censusAbsent; (repeat' split) <;> simp

@[simp] theorem State.cycleMiss_fixed (a : Nat) (m : Miss) (s : State) :
    (State.cycleMiss a m s).fixed = s.fixed := by
  unfold State.cycleMiss; (repeat' split) <;> simp

@[simp] theorem State.giveReport_fixed (a : Nat) (r : Report) (s : State) :
    (State.giveReport a r s).fixed = s.fixed := by
  unfold State.giveReport; (repeat' split) <;> simp

@[simp] theorem State.ownerBack_fixed (a : Nat) (s : State) :
    (State.ownerBack a s).fixed = s.fixed := by
  unfold State.ownerBack; (repeat' split) <;> simp

@[simp] theorem State.newReport_fixed (a : Nat) (r : Reply) (rep : Report) (s : State) :
    (State.newReport a r rep s).fixed = s.fixed := by
  unfold State.newReport; (repeat' split) <;> simp

@[simp] theorem State.presentReply_fixed (v : Visit) (r : Reply) (rep : Option Report) (s : State) :
    (State.presentReply v r rep s).fixed = s.fixed := by
  unfold State.presentReply; (repeat' split) <;> simp

@[simp] theorem State.lostReply_fixed (v : Visit) (r : Reply) (rep : Option Report) (s : State) :
    (State.lostReply v r rep s).fixed = s.fixed := by
  unfold State.lostReply; (repeat' split) <;> simp

@[simp] theorem State.idleEnd_fixed (s : State) :
    (State.idleEnd s).fixed = s.fixed := by
  unfold State.idleEnd; (repeat' split) <;> simp

/-! Transfers -/

@[simp] theorem State.holdBack_fixed (s : State) :
    (State.holdBack s).fixed = s.fixed := by
  unfold State.holdBack; (repeat' split) <;> simp

@[simp] theorem State.dropWrites_fixed (s : State) :
    (State.dropWrites s).fixed = s.fixed := rfl

@[simp] theorem State.deferSwitch_fixed (s : State) :
    (State.deferSwitch s).fixed = s.fixed := by
  unfold State.deferSwitch; (repeat' split) <;> simp

@[simp] theorem State.dropScan_fixed (s : State) :
    (State.dropScan s).fixed = s.fixed := by
  unfold State.dropScan; (repeat' split) <;> simp

end Sys2Proof.Machine
end

