-- ==== Sys2Proof/Laws/Base.lean ====
section
/-! SUPPORT. The operations that move the part from state to state leave the board memory, the clock, the commands waiting,
AREA, ATM, FLT and ATT's reserved bits as they were. -/

namespace Sys2Proof.Machine

/-- The fixed part without the part state. -/
def Fixed.base (f : Fixed) : List Host.Cell × Word × Nat × List Instr × Word × Word × Word × Word :=
  (f.mem, f.clock, f.clockMs, f.pending, f.regs.area, f.regs.atm, f.regs.att, f.regs.flt)

/-- Whatever else is updated, these stand. -/
@[simp] theorem State.base_update (s : State) (ru : Bool) (pa : PartState) (re : Option PartState) (sf : StartFault)
    (st : Option StartStep) (rw : Option ResumeStep) (en : Option EndStep) (wa : Watch) (ro : RogueTable)
    (d : Dispatcher) (f : List (Nat × Frame)) (rv : Roving) (o : Output) (p : PlanStore) (de : Desk) (w : Writer)
    (po : Port) (l : Link) (wk : Work) :
    (State.mk ⟨s.regs.area, ru, pa, re, sf, s.regs.att, s.regs.atm, s.regs.flt, st, rw, en⟩ s.clock s.clockMs wa ro d f rv o p de
      w po l s.mem wk s.pending).fixed.base = s.fixed.base := rfl

@[simp] theorem State.base_update_link (s : State) (wa : Watch) (ro : RogueTable)
    (d : Dispatcher) (f : List (Nat × Frame)) (rv : Roving) (o : Output) (p : PlanStore) (de : Desk) (w : Writer)
    (po : Port) (l : Link) (wk : Work) :
    (State.mk s.regs s.clock s.clockMs wa ro d f rv o p de w po l s.mem wk s.pending).fixed.base = s.fixed.base := rfl

@[simp] theorem Fixed.base_ite (c : Prop) [Decidable c] (f g : Fixed) :
    (if c then f else g).base = if c then f.base else g.base := apply_ite Fixed.base c f g

@[simp] theorem State.endWrites_base (s : State) :
    (State.endWrites s).fixed.base = s.fixed.base := by
  unfold State.endWrites; (repeat' split) <;> simp

@[simp] theorem State.dropCreelOrders_fixed (s : State) :
    (State.dropCreelOrders s).fixed = s.fixed := by
  unfold State.dropCreelOrders; simp

@[simp] theorem State.beginEnd_base (s : State) :
    (State.beginEnd s).fixed.base = s.fixed.base := by
  unfold State.beginEnd; (repeat' split) <;> simp

@[simp] theorem State.windTest_base (s : State) :
    (State.windTest s).fixed.base = s.fixed.base := by
  unfold State.windTest; (repeat' split) <;> simp

@[simp] theorem State.halt_base (s : State) :
    (State.halt s).fixed.base = s.fixed.base := by
  unfold State.halt; (repeat' split) <;> simp

@[simp] theorem State.endGoesOn_base (s : State) :
    (State.endGoesOn s).fixed.base = s.fixed.base := by
  unfold State.endGoesOn; (repeat' split) <;> simp

@[simp] theorem State.failStart_base (c : StartFault) (s : State) :
    (State.failStart c s).fixed.base = s.fixed.base := by
  unfold State.failStart; (repeat' split) <;> simp

@[simp] theorem State.headerFirst_base (w : List Word) (s : State) :
    (State.headerFirst w s).fixed.base = s.fixed.base := by
  unfold State.headerFirst; (repeat' split) <;> simp

@[simp] theorem State.planInvalid_base (x : PlanFault) (s : State) :
    (State.planInvalid x s).fixed.base = s.fixed.base := by
  unfold State.planInvalid; (repeat' split) <;> simp

@[simp] theorem State.headerRest_base (w : List Word) (s : State) :
    (State.headerRest w s).fixed.base = s.fixed.base := by
  unfold State.headerRest; dsimp only; (repeat' split) <;> simp

@[simp] theorem State.headerRead_base (offset : Nat) (w : List Word) (s : State) :
    (State.headerRead offset w s).fixed.base = s.fixed.base := by
  unfold State.headerRead; (repeat' split) <;> simp

@[simp] theorem State.beginCensus_base (s : State) :
    (State.beginCensus s).fixed.base = s.fixed.base := by
  unfold State.beginCensus; (repeat' split) <;> simp

@[simp] theorem State.startPlanRead_base (r : PlanRead) (s : State) :
    (State.startPlanRead r s).fixed.base = s.fixed.base := by
  unfold State.startPlanRead; dsimp only; (repeat' split) <;> simp

@[simp] theorem State.startWrites_base (s : State) :
    (State.startWrites s).fixed.base = s.fixed.base := by
  unfold State.startWrites; (repeat' split) <;> simp

@[simp] theorem State.startPages_base (s : State) :
    (State.startPages s).fixed.base = s.fixed.base := by
  unfold State.startPages; (repeat' split) <;> simp

@[simp] theorem State.completeStart_base (s : State) :
    (State.completeStart s).fixed.base = s.fixed.base := by
  unfold State.completeStart; (repeat' split) <;> simp

@[simp] theorem State.pagesWritten_base (s : State) :
    (State.pagesWritten s).fixed.base = s.fixed.base := by
  unfold State.pagesWritten; (repeat' split) <;> simp

@[simp] theorem State.beginResume_base (s : State) :
    (State.beginResume s).fixed.base = s.fixed.base := by
  unfold State.beginResume; (repeat' split) <;> simp

@[simp] theorem State.resumeCells_base (s : State) :
    (State.resumeCells s).fixed.base = s.fixed.base := by
  unfold State.resumeCells; (repeat' split) <;> simp

@[simp] theorem State.resumeJournal_base (s : State) :
    (State.resumeJournal s).fixed.base = s.fixed.base := by
  unfold State.resumeJournal; (repeat' split) <;> simp

@[simp] theorem State.resumeReturn_base (s : State) :
    (State.resumeReturn s).fixed.base = s.fixed.base := by
  unfold State.resumeReturn; (repeat' split) <;> simp

@[simp] theorem State.markReached_base (s : State) :
    (State.markReached s).fixed.base = s.fixed.base := by
  unfold State.markReached; (repeat' split) <;> simp

@[simp] theorem serveN_base (n : Nat) (s : State) : (serveN n s).fixed.base = s.fixed.base := by
  induction n generalizing s with
  | zero => rfl
  | succ n ih => unfold serveN; dsimp only; (repeat' split) <;> simp [ih]

@[simp] theorem State.conclude_base (s : State) :
    (State.conclude s).fixed.base = s.fixed.base := by
  unfold State.conclude; (repeat' split) <;> simp

@[simp] theorem State.endCensus_base (c : Census) (s : State) :
    (State.endCensus c s).fixed.base = s.fixed.base := by
  unfold State.endCensus; (repeat' split) <;> simp

@[simp] theorem State.censusNext_base (c : Census) (s : State) :
    (State.censusNext c s).fixed.base = s.fixed.base := by
  unfold State.censusNext; (repeat' split) <;> simp

@[simp] theorem State.missVisit_base (v : Visit) (m : Miss) (s : State) :
    (State.missVisit v m s).fixed.base = s.fixed.base := by
  unfold State.missVisit; dsimp only; (repeat' split) <;> simp

@[simp] theorem State.censusReply_base (c : Census) (v : Visit) (r : Reply) (rep : Option Report) (s : State) :
    (State.censusReply c v r rep s).fixed.base = s.fixed.base := by
  unfold State.censusReply; (repeat' split) <;> simp

@[simp] theorem State.validReply_base (v : Visit) (r : Reply) (rep : Option Report) (s : State) :
    (State.validReply v r rep s).fixed.base = s.fixed.base := by
  unfold State.validReply; dsimp only; (repeat' split) <;> simp

@[simp] theorem State.takeReport_base (r : Reply) (rep : Report) (s : State) :
    (State.takeReport r rep s).fixed.base = s.fixed.base := by
  unfold State.takeReport; (repeat' split) <;> simp

@[simp] theorem State.takeNothing_base (r : Reply) (s : State) :
    (State.takeNothing r s).fixed.base = s.fixed.base := by
  unfold State.takeNothing; (repeat' split) <;> simp

@[simp] theorem State.windowEnd_base (s : State) :
    (State.windowEnd s).fixed.base = s.fixed.base := by
  unfold State.windowEnd; (repeat' split) <;> simp

@[simp] theorem State.badReply_base (late : Bool) (m : List Byte) (s : State) :
    (State.badReply late m s).fixed.base = s.fixed.base := by
  unfold State.badReply; (repeat' split) <;> simp

@[simp] theorem State.deskRead_base (offset : Nat) (w : List Word) (s : State) :
    (State.deskRead offset w s).fixed.base = s.fixed.base := by
  unfold State.deskRead; (repeat' split) <;> simp

@[simp] theorem State.planRead_base (w : List Word) (s : State) :
    (State.planRead w s).fixed.base = s.fixed.base := by
  unfold State.planRead; (repeat' split) <;> simp

@[simp] theorem State.pageRead_base (offset : Nat) (w : List Word) (s : State) :
    (State.pageRead offset w s).fixed.base = s.fixed.base := by
  unfold State.pageRead; (repeat' split) <;> simp

@[simp] theorem State.transferEnded_base (t : Transfer) (s : State) :
    (State.transferEnded t s).fixed.base = s.fixed.base := by
  unfold State.transferEnded; (repeat' split) <;> simp

@[simp] theorem State.stall_base (s : State) :
    (State.stall s).fixed.base = s.fixed.base := by
  unfold State.stall; (repeat' split) <;> simp

/-- FLT alone changes (R182). -/
@[simp] theorem State.memoryFault_base (addr : Nat) (k : FaultKind) (s : State) :
    (State.memoryFault addr k s).fixed.base = ({ s with regs.flt := fltWord addr k } : State).fixed.base := by
  unfold State.memoryFault; dsimp only; (repeat' split) <;> simp <;> rfl

end Sys2Proof.Machine
end

