-- ==== Sys2Proof/Laws/Tables.lean ====
section
/-! SUPPORT. The sparse tables: what a read gives after a write, and the canonical form. -/

namespace Sys2Proof.Machine

variable {α : Type}

/-- The first number of a table lies above `n`. -/
def Above (n : Nat) : List (Nat × α) → Prop
  | [] => True
  | (k, _) :: _ => n < k

/-- A lower bound may be lowered. -/
theorem Above.mono {n m : Nat} {t : List (Nat × α)} (h : n ≤ m) (a : Above m t) : Above n t := by
  cases t with
  | nil => trivial
  | cons e r => obtain ⟨k, v⟩ := e; exact Nat.lt_of_le_of_lt h a

variable [DecidableEq α]

/-- The canonical form of a table and of its rest. -/
theorem tableWf_cons {d : α} {k : Nat} {v : α} {r : List (Nat × α)} :
    tableWf d ((k, v) :: r) = true ↔ v ≠ d ∧ Above k r ∧ tableWf d r = true := by
  cases r with
  | nil => simp [tableWf, Above]
  | cons e r => obtain ⟨k', v'⟩ := e; simp [tableWf, Above, and_assoc]

/-- A record below every number listed reads as the reset record. -/
theorem tget_of_above {d : α} {t : List (Nat × α)} {n : Nat} (hw : tableWf d t = true) (h : Above n t) :
    tget d t n = d := by
  induction t with
  | nil => rfl
  | cons e r ih =>
    obtain ⟨k, v⟩ := e
    have hk : n < k := h
    have hr := (tableWf_cons.mp hw).2
    rw [tget, if_neg (by omega)]
    exact ih hr.2 (Above.mono (Nat.le_of_lt hk) hr.1)

/-- A write keeps a bound below the table. -/
theorem Above.tput {d : α} {t : List (Nat × α)} {n m : Nat} {v : α} (hm : m < n) (h : Above m t)
    (hw : tableWf d t = true) : Above m (tput d t n v) := by
  cases t with
  | nil => unfold Machine.tput; split <;> simp [Above, hm]
  | cons e r =>
    obtain ⟨k, x⟩ := e
    have hr := (tableWf_cons.mp hw).2.1
    have hk : m < k := h
    unfold Machine.tput
    split
    · split
      · exact hk
      · exact hm
    · split
      · split
        · exact Above.mono (Nat.le_of_lt hk) hr
        · exact hm
      · exact hk

/-- A write keeps the canonical form. -/
theorem tableWf_tput {d : α} {t : List (Nat × α)} (n : Nat) (v : α) (hw : tableWf d t = true) :
    tableWf d (tput d t n v) = true := by
  induction t with
  | nil => unfold tput; split <;> simp_all [tableWf]
  | cons e r ih =>
    obtain ⟨k, x⟩ := e
    have h := tableWf_cons.mp hw
    unfold tput
    split
    · split
      · exact hw
      · exact tableWf_cons.mpr ⟨by assumption, by simpa [Above] using ‹n < k›, hw⟩
    · split
      · subst_vars
        split
        · exact h.2.2
        · exact tableWf_cons.mpr ⟨by assumption, h.2.1, h.2.2⟩
      · exact tableWf_cons.mpr ⟨h.1, Above.tput (by omega) h.2.1 h.2.2, ih h.2.2⟩

/-- A write in a canonical table is what a read then gives. -/
theorem tget_tput_same {d : α} {t : List (Nat × α)} (n : Nat) (v : α) (hw : tableWf d t = true) :
    tget d (tput d t n v) n = v := by
  induction t with
  | nil => unfold tput; split <;> simp_all [tget]
  | cons e r ih =>
    obtain ⟨k, x⟩ := e
    have h := tableWf_cons.mp hw
    unfold tput
    split
    · split
      · subst_vars; exact tget_of_above hw (by simpa [Above] using ‹n < k›)
      · simp [tget]
    · split
      · subst_vars
        split
        · subst_vars; exact tget_of_above h.2.2 h.2.1
        · simp [tget]
      · rw [tget, if_neg (by assumption)]; exact ih h.2.2

/-- A write touches no other record. -/
theorem tget_tput_other {d : α} {t : List (Nat × α)} {n m : Nat} (v : α) (hne : m ≠ n) :
    tget d (tput d t n v) m = tget d t m := by
  induction t with
  | nil => unfold tput; split <;> simp [tget, hne]
  | cons e r ih =>
    obtain ⟨k, x⟩ := e
    unfold tput
    split
    · split
      · rfl
      · rw [tget, if_neg hne]
    · split
      · subst_vars
        split
        · rw [tget, if_neg hne]
        · rw [tget, if_neg hne, tget, if_neg hne]
      · simp only [tget, ih]

@[simp] theorem tableWf_nil (d : α) : tableWf d [] = true := rfl

/-- A record that is not the reset record reads back from any table. -/
theorem tget_tput_ne {d : α} {t : List (Nat × α)} (n : Nat) {v : α} (hv : v ≠ d) : tget d (tput d t n v) n = v := by
  induction t with
  | nil => simp [tput, hv, tget]
  | cons e r ih =>
    obtain ⟨k, x⟩ := e
    unfold tput
    simp only [if_neg hv]
    split
    · simp [tget]
    · split
      · simp [tget]
      · rw [tget, if_neg (by assumption)]; exact ih

/-- Of two settings of one record, neither to the default, the later alone counts. -/
theorem tput_tput {d : α} (t : List (Nat × α)) (n : Nat) {v w : α} (hv : v ≠ d) (hw : w ≠ d) :
    tput d (tput d t n v) n w = tput d t n w := by
  induction t with
  | nil => simp [tput, hv, hw]
  | cons e r ih =>
    obtain ⟨k, x⟩ := e
    unfold tput
    by_cases h1 : n < k
    · simp [h1, hv, hw, tput]
    · by_cases h2 : n = k
      · simp [h2, hv, hw, tput]
      · simp [h1, h2, tput, ih]

end Sys2Proof.Machine
end

