-- ==== Sys2Proof/Laws/Memory.lean ====
section
/-! SUPPORT. The board memory: what a byte reads after a write, and the canonical form that every write keeps. -/

namespace Sys2Proof.Machine

/-- A write lists no number but its own and those listed before. -/
theorem mem_tput {α : Type} [DecidableEq α] {d : α} {t : List (Nat × α)} {n : Nat} {v : α} {e : Nat × α}
    (h : e ∈ tput d t n v) : e = (n, v) ∨ e ∈ t := by
  induction t with
  | nil => unfold tput at h; split at h <;> simp_all
  | cons x r ih =>
    unfold tput at h
    (repeat' split at h) <;> simp only [List.mem_cons] at h ⊢ <;> grind

/-- Every write of a byte keeps the form. -/
theorem Memory.ok_putByte {m : List Host.Cell} (a : Nat) (b : Byte) (h : Memory.ok m = true) :
    Memory.ok (putByte m a b) = true := by
  simp only [Memory.ok, Memory.wf, Bool.and_eq_true, List.all_eq_true, decide_eq_true_eq] at h ⊢
  refine ⟨tableWf_tput _ _ h.1, fun e he => ?_⟩
  rcases mem_tput he with rfl | he
  · exact Nat.mod_lt _ (by decide)
  · exact h.2 e he

/-- Every write of a word keeps the form. -/
theorem Memory.ok_putWord {m : List Host.Cell} (a : Nat) (w : Word) (h : Memory.ok m = true) :
    Memory.ok (putWord m a w) = true :=
  Memory.ok_putByte _ _ (Memory.ok_putByte _ _ (Memory.ok_putByte _ _ (Memory.ok_putByte _ _ h)))

/-- The host's writes keep the form. -/
theorem Memory.ok_hostWrites {m : List Host.Cell} (l : List HostWrite) (h : Memory.ok m = true) :
    Memory.ok (l.foldl (fun m x => putWord m x.1 x.2) m) = true := by
  induction l generalizing m with
  | nil => exact h
  | cons x r ih => exact ih (Memory.ok_putWord _ _ h)

/-- A written byte reads back. -/
theorem tget_putByte_same {m : List Host.Cell} (a : Nat) (b : Byte) (h : Memory.ok m = true) :
    tget 0#8 (putByte m a b) (a % 4294967296) = b := by
  simp only [Memory.ok, Memory.wf, Bool.and_eq_true] at h
  exact tget_tput_same _ _ h.1

/-- A written byte changes no other. -/
theorem tget_putByte_other {m : List Host.Cell} {a n : Nat} (b : Byte) (h : n ≠ a % 4294967296) :
    tget 0#8 (putByte m a b) n = tget 0#8 m n := tget_tput_other _ h

/-- A written word changes no byte outside its four. -/
theorem tget_putWord_other {m : List Host.Cell} {a n : Nat} (w : Word)
    (h : ∀ i < 4, n ≠ (a + i) % 4294967296) : tget 0#8 (putWord m a w) n = tget 0#8 m n := by
  unfold putWord
  rw [tget_putByte_other _ (h 3 (by decide)), tget_putByte_other _ (h 2 (by decide)),
    tget_putByte_other _ (h 1 (by decide)), tget_putByte_other _ (by simpa using h 0 (by decide))]

end Sys2Proof.Machine
end

