-- ==== Sys2Proof/Laws/Formed.lean ====
section
/-! SUPPORT. Every table stays in canonical form, and the lists of State.formed within their rooms. One lemma per operation, each by those of
the operations it calls. -/

namespace Sys2Proof.Machine

/-! ### What a formed state holds -/

/-- An update that reaches no table and no bounded list. -/
@[simp] theorem State.formed_update (s : State) (r : Regs) (c : Word) (cm : Nat) (o : Output) (p : PlanStore) (de : Desk)
    (w : Writer) (po : Port) (l : Link) (m : List Host.Cell) (wk : Work) (pe : List Instr)
    (h1 : o.rollers = s.output.rollers) (h2 : o.counts = s.output.counts) (h3 : o.view = s.output.view)
    (h4 : de.view = s.desk.view) (h5 : w.pending = s.writer.pending) (h6 : w.numbers = s.writer.numbers)
    (h7 : l.units = s.link.units) :
    (State.mk r c cm s.watch s.rogue s.disp s.frames s.roving o p de w po l m wk pe).formed = s.formed := by
  simp [State.formed, Output.formed, Writer.formed, Link.formed, h1, h2, h3, h4, h5, h6, h7]

@[simp] theorem State.each_formed {α : Type} (l : List α) (g : α → State → State)
    (h : ∀ x t, t.formed = true → (g x t).formed = true) (s : State) (hs : s.formed = true) :
    (s.each l g).formed = true := by
  induction l generalizing s with
  | nil => exact hs
  | cons x r ih => exact ih (g x s) (h x s hs)

@[simp] theorem State.formed_ite (c : Prop) [Decidable c] (s t : State) :
    (if c then s else t).formed = if c then s.formed else t.formed := apply_ite State.formed c s t

/-- The bound of every record that a write keeps. -/
theorem tput_bound {α : Type} [DecidableEq α] {d : α} {t : List (Nat × α)} (p : α → Bool) (n : Nat) {v : α}
    (h : t.all (fun e => p e.2) = true) (hv : p v = true) : (tput d t n v).all (fun e => p e.2) = true := by
  rw [List.all_eq_true] at h ⊢
  intro e he
  rcases mem_tput he with rfl | he
  · exact hv
  · exact h e he

/-- The bound of every record holds of the one read. -/
theorem tget_bound {α : Type} {d : α} {t : List (Nat × α)} (p : α → Bool) (n : Nat)
    (h : t.all (fun e => p e.2) = true) (hd : p d = true) : p (tget d t n) = true := by
  induction t with
  | nil => exact hd
  | cons e r ih =>
    obtain ⟨k, v⟩ := e
    simp only [List.all_cons, Bool.and_eq_true] at h
    unfold tget
    split
    · exact h.1
    · exact ih h.2

/-- A formed end list is within its room (R37). -/
@[simp] theorem State.side_room {s : State} (h : s.formed = true) (d : Nat) : (s.side d).entries.length ≤ Config.endListRoom := by
  simp only [State.formed, Dispatcher.formed, Bool.and_eq_true] at h
  have h := tget_bound (d := Side.reset) (fun x => decide (x.entries.length ≤ Config.endListRoom)) d
    h.1.1.1.1.1.1.2.1.2 (by decide)
  simpa [State.side] using h

/-- A formed command queue is within its room (R191). -/
@[simp] theorem State.unit_room {s : State} (h : s.formed = true) (a : Nat) : (s.unit a).queue.length ≤ Config.unitQueueRoom := by
  simp only [State.formed, Link.formed, Bool.and_eq_true] at h
  have h := tget_bound (d := Unit.reset) (fun x => decide (x.queue.length ≤ Config.unitQueueRoom)) a h.2.2 (by decide)
  simpa [State.unit] using h

/-! ### Ops -/

@[simp] theorem State.markItem_formed (i : WriteItem) (s : State) : (s.markItem i).formed = s.formed := by
  unfold State.markItem; split <;> simp

@[simp] theorem State.markIf_formed (b : Bool) (i : WriteItem) (s : State) : (s.markIf b i).formed = s.formed := by
  unfold State.markIf; split <;> simp

@[simp] theorem State.raise_formed (c : Cause) (s : State) : (s.raise c).formed = s.formed := rfl

@[simp] theorem State.setSide_formed (d : Nat) (x : Side) (s : State) (h : s.formed = true)
    (hx : x.entries.length ≤ Config.endListRoom) : (s.setSide d x).formed = true := by
  unfold State.setSide
  simp only [State.markIf_formed]
  simp only [State.formed, Dispatcher.formed, Bool.and_eq_true] at h ⊢
  have hb := tput_bound (d := Side.reset) (fun x => decide (x.entries.length ≤ Config.endListRoom)) d
    h.1.1.1.1.1.1.2.1.2 (v := x) (by simpa using hx)
  simp_all [tableWf_tput, endListsInRoom, -List.all_eq_true]

@[simp] theorem State.setUnit_formed (a : Nat) (x : Unit) (s : State) (h : s.formed = true)
    (hx : x.queue.length ≤ Config.unitQueueRoom) : (s.setUnit a x).formed = true := by
  unfold State.setUnit
  simp only [State.markIf_formed]
  simp only [State.formed, Link.formed, Bool.and_eq_true] at h ⊢
  have hb := tput_bound (d := Unit.reset) (fun x => decide (x.queue.length ≤ Config.unitQueueRoom)) a h.2.2 (v := x)
    (by simpa using hx)
  simp_all [tableWf_tput, queuesInRoom, -List.all_eq_true]


@[simp] theorem State.setSpindle_formed (f n : Nat) (x : Spindle) (s : State) (h : s.formed = true) :
    (State.setSpindle f n x s).formed = true := by
  unfold State.setSpindle; dsimp only
  try simp only [State.markIf_formed]
  simp only [State.formed, Watch.formed, Bool.and_eq_true] at h ⊢
  simp_all [tableWf_tput]

@[simp] theorem State.setStrip_formed (c : Nat) (x : Strip) (s : State) (h : s.formed = true) :
    (State.setStrip c x s).formed = true := by
  unfold State.setStrip; dsimp only
  try simp only [State.markIf_formed]
  simp only [State.formed, Watch.formed, Bool.and_eq_true] at h ⊢
  simp_all [tableWf_tput]

@[simp] theorem State.setSweep_formed (f : Nat) (x : Sweep) (s : State) (h : s.formed = true) :
    (State.setSweep f x s).formed = true := by
  unfold State.setSweep; dsimp only
  try simp only [State.markIf_formed]
  simp only [State.formed, Watch.formed, Bool.and_eq_true] at h ⊢
  simp_all [tableWf_tput]

@[simp] theorem State.setPiecer_formed (p : Nat) (x : Piecer) (s : State) (h : s.formed = true) :
    (State.setPiecer p x s).formed = true := by
  unfold State.setPiecer; dsimp only
  try simp only [State.markIf_formed]
  simp only [State.formed, Dispatcher.formed, Bool.and_eq_true] at h ⊢
  simp_all [tableWf_tput]

@[simp] theorem State.setFrame_formed (f : Nat) (x : Frame) (s : State) (h : s.formed = true) :
    (State.setFrame f x s).formed = true := by
  unfold State.setFrame; dsimp only
  try simp only [State.markIf_formed]
  simp only [State.formed, Bool.and_eq_true] at h ⊢
  simp_all [tableWf_tput]

@[simp] theorem State.setCreel_formed (c : Nat) (x : Creel) (s : State) (h : s.formed = true) :
    (State.setCreel c x s).formed = true := by
  unfold State.setCreel; dsimp only
  try simp only [State.markIf_formed]
  simp only [State.formed, Roving.formed, Bool.and_eq_true] at h ⊢
  simp_all [tableWf_tput]

@[simp] theorem State.setCarrier_formed (c : Nat) (x : Carrier) (s : State) (h : s.formed = true) :
    (State.setCarrier c x s).formed = true := by
  unfold State.setCarrier; dsimp only
  try simp only [State.markIf_formed]
  simp only [State.formed, Roving.formed, Bool.and_eq_true] at h ⊢
  simp_all [tableWf_tput]

@[simp] theorem State.setFeed_formed (f : Nat) (x : Feed) (s : State) (h : s.formed = true) :
    (State.setFeed f x s).formed = true := by
  unfold State.setFeed; dsimp only
  try simp only [State.markIf_formed]
  simp only [State.formed, Roving.formed, Bool.and_eq_true] at h ⊢
  simp_all [tableWf_tput]

@[simp] theorem State.setRoller_formed (f : Nat) (x : Roller) (s : State) (h : s.formed = true) :
    (State.setRoller f x s).formed = true := by
  unfold State.setRoller; dsimp only
  try simp only [State.markIf_formed]
  simp only [State.formed, Output.formed, Bool.and_eq_true] at h ⊢
  simp_all [tableWf_tput]

@[simp] theorem State.setCellView_formed (c : Nat) (x : CellStage) (s : State) (h : s.formed = true) :
    (State.setCellView c x s).formed = true := by
  unfold State.setCellView; dsimp only
  try simp only [State.markIf_formed]
  simp only [State.formed, Bool.and_eq_true] at h ⊢
  simp_all [tableWf_tput]

@[simp] theorem State.setPageView_formed (p : Nat) (x : PageStage) (s : State) (h : s.formed = true) :
    (State.setPageView p x s).formed = true := by
  unfold State.setPageView; dsimp only
  try simp only [State.markIf_formed]
  simp only [State.formed, Output.formed, Bool.and_eq_true] at h ⊢
  simp_all [tableWf_tput]

@[simp] theorem State.oweArbiter_formed (s : State) (h : s.formed = true) :
    (State.oweArbiter s).formed = true := by
  unfold State.oweArbiter; (repeat' split) <;> simp +contextual (maxDischargeDepth := 40) [h]

@[simp] theorem State.oweRefill_formed (s : State) (h : s.formed = true) :
    (State.oweRefill s).formed = true := by
  unfold State.oweRefill; (repeat' split) <;> simp +contextual (maxDischargeDepth := 40) [h]

@[simp] theorem State.oweRelist_formed (d : Nat) (s : State) (h : s.formed = true) :
    (State.oweRelist d s).formed = true := by
  unfold State.oweRelist; (repeat' split) <;> simp +contextual (maxDischargeDepth := 40) [h]

/-! ### Flags -/

@[simp] theorem State.alarm_formed (f : Nat) (s : State) (h : s.formed = true) :
    (State.alarm f s).formed = true := by
  unfold State.alarm; (repeat' split) <;> simp +contextual (maxDischargeDepth := 40) [h]

@[simp] theorem State.unitAlarm_formed (f : Nat) (s : State) (h : s.formed = true) :
    (State.unitAlarm f s).formed = true := by
  unfold State.unitAlarm; (repeat' split) <;> simp +contextual (maxDischargeDepth := 40) [h]

/-! ### Report -/

theorem dropOldest_numbers (n : Nat) (w : Writer) : (dropOldest n w).numbers = w.numbers := by
  induction n generalizing w with
  | zero => rfl
  | succ n ih => unfold dropOldest; (repeat' split) <;> simp [ih]

/-- Dropping from the head leaves the room or the list as short as the droppings allow. -/
theorem dropOldest_room (n : Nat) (w : Writer) (h : w.pending.length ≤ Config.pendingListRoom + n) :
    (dropOldest n w).pending.length ≤ Config.pendingListRoom := by
  induction n generalizing w with
  | zero => exact h
  | succ n ih =>
    unfold dropOldest
    split
    · assumption
    · split
      · simp_all
      · next e r hp => exact ih _ (by simp only [hp, List.length_cons] at h; exact Nat.le_of_succ_le_succ h)

/-- A formed pending list is within its room (R179). -/
theorem State.pending_room {s : State} (h : s.formed = true) : s.writer.pending.length ≤ Config.pendingListRoom := by
  simp only [State.formed, Writer.formed, Bool.and_eq_true, decide_eq_true_eq] at h
  exact h.1.2.1

@[simp] theorem State.pend_formed (e : JournalEntry) (s : State) (h : s.formed = true) :
    (State.pend e s).formed = true := by
  unfold State.pend
  have hr := dropOldest_room 1 { s.writer with pending := s.writer.pending ++ [e] }
    (by simpa using State.pending_room h)
  have hn := dropOldest_numbers 1 { s.writer with pending := s.writer.pending ++ [e] }
  simp only [State.formed, Writer.formed, Bool.and_eq_true, decide_eq_true_eq] at h ⊢
  simp_all

@[simp] theorem State.enterJournal_formed (e : JournalEntry) (s : State) (h : s.formed = true) :
    (State.enterJournal e s).formed = true := by
  unfold State.enterJournal; (repeat' split) <;> simp +contextual (maxDischargeDepth := 40) [h]

@[simp] theorem State.journal_formed (k : JournalKind) (frame unit : Nat) (fields : List Word) (s : State) (h : s.formed = true) :
    (State.journal k frame unit fields s).formed = true := by
  unfold State.journal; (repeat' split) <;> simp +contextual (maxDischargeDepth := 40) [h]

@[simp] theorem flushEntries_formed (n : Nat) (s : State) (h : s.formed = true) : (flushEntries n s).formed = true := by
  induction n generalizing s with
  | zero => exact h
  | succ n ih =>
    unfold flushEntries
    split
    · exact h
    · next e r hp =>
      split
      · refine ih _ ?_
        have hr := State.pending_room h
        simp only [State.formed, Writer.formed, Bool.and_eq_true, decide_eq_true_eq] at h ⊢
        simp_all
        omega
      · exact h

@[simp] theorem State.flushJournal_formed (s : State) (h : s.formed = true) :
    (State.flushJournal s).formed = true := by
  unfold State.flushJournal; (repeat' split) <;> simp +contextual (maxDischargeDepth := 40) [h]

@[simp] theorem State.count_formed (f : Nat) (g : Counts → Counts) (s : State) (h : s.formed = true) :
    (State.count f g s).formed = true := by
  unfold State.count
  split
  · exact h
  · simp only [State.markItem_formed]
    simp only [State.formed, Output.formed, Bool.and_eq_true] at h ⊢
    simp_all [tableWf_tput]

@[simp] theorem State.finish_formed (cell : Nat) (reason : Option Reason) (words : List Word) (s : State) (h : s.formed = true) :
    (State.finish cell reason words s).formed = true := by
  unfold State.finish; (repeat' split) <;> simp +contextual (maxDischargeDepth := 40) [h]

@[simp] theorem State.finishBook_formed (sel : BookEntry → Bool) (reason : Option Reason) (words : List Word) (s : State) (h : s.formed = true) :
    (State.finishBook sel reason words s).formed = true := by
  unfold State.finishBook; (repeat' split) <;> simp +contextual (maxDischargeDepth := 40) [h]

/-! ### Hand -/

@[simp] theorem State.journalLost_formed (a : Nat) (cause : Word) (s : State) (h : s.formed = true) :
    (State.journalLost a cause s).formed = true := by
  unfold State.journalLost; (repeat' split) <;> simp +contextual (maxDischargeDepth := 40) [h]

@[simp] theorem State.loseUnit_formed (a : Nat) (cause : Word) (s : State) (h : s.formed = true) :
    (State.loseUnit a cause s).formed = true := by
  unfold State.loseUnit
  simp [h, Unit.emptied]

@[simp] theorem State.hand_formed (a : Nat) (c : Cmd) (s : State) (h : s.formed = true) :
    (State.hand a c s).formed = true := by
  unfold State.hand
  have hr := State.unit_room h a
  dsimp only
  generalize hq : (s.unit a).inFlight ++ (s.unit a).unsent.filter (fun o => !c.supersedes o) = q
  have hl : q.length ≤ (s.unit a).queue.length := by
    rw [← hq, List.length_append]
    have hf := List.length_filter_le (fun o => !c.supersedes o) (s.unit a).unsent
    unfold Unit.inFlight Unit.unsent at *
    split
    · simp_all; omega
    · simp_all
  (repeat' split)
  · exact h
  · exact h
  · exact State.loseUnit_formed _ _ _ (State.setUnit_formed _ _ _ h (Nat.le_trans hl hr))
  · refine State.setUnit_formed _ _ _ h ?_
    simp only [List.length_append, List.length_cons, List.length_nil]
    omega

@[simp] theorem State.withdrawDrive_formed (f : Nat) (s : State) (h : s.formed = true) :
    (State.withdrawDrive f s).formed = true := by
  unfold State.withdrawDrive
  have hr := State.unit_room h f
  refine State.setUnit_formed _ _ _ h ?_
  show (s.unit f).inFlight.length ≤ _
  unfold Unit.inFlight
  split
  · rw [List.length_take]; omega
  · exact Nat.zero_le _

@[simp] theorem State.emptyQueue_formed (a : Nat) (s : State) (h : s.formed = true) :
    (State.emptyQueue a s).formed = true := by
  exact State.setUnit_formed _ _ _ h (Nat.zero_le _)

/-! ### Lists -/

@[simp] theorem State.listSpindle_formed (f n : Nat) (s : State) (h : s.formed = true) :
    (State.listSpindle f n s).formed = true := by
  unfold State.listSpindle
  dsimp only
  split
  · next hl =>
    exact State.setSpindle_formed _ _ _ _ (State.setSide_formed _ _ _ h (by simpa using Nat.succ_le_of_lt hl))
  · exact h

@[simp] theorem State.makeDown_formed (f n : Nat) (s : State) (h : s.formed = true) :
    (State.makeDown f n s).formed = true := by
  unfold State.makeDown; (repeat' split) <;> simp +contextual (maxDischargeDepth := 40) [h]

@[simp] theorem State.removeEntry_formed (f n : Nat) (s : State) (h : s.formed = true) :
    (State.removeEntry f n s).formed = true := by
  unfold State.removeEntry
  dsimp only
  split
  · refine State.oweRelist_formed _ _ (State.setSide_formed _ _ _ h ?_)
    exact Nat.le_trans (List.length_filter_le _ _) (State.side_room h _)
  · exact h

@[simp] theorem State.relist_formed (d : Nat) (s : State) (h : s.formed = true) :
    (State.relist d s).formed = true := by
  unfold State.relist; (repeat' split) <;> simp +contextual (maxDischargeDepth := 40) [h]

@[simp] theorem State.cutSpindle_formed (f n : Nat) (c : CutCause) (s : State) (h : s.formed = true) :
    (State.cutSpindle f n c s).formed = true := by
  unfold State.cutSpindle; (repeat' split) <;> simp +contextual (maxDischargeDepth := 40) [h]

@[simp] theorem State.pieced_formed (f n : Nat) (s : State) (h : s.formed = true) :
    (State.pieced f n s).formed = true := by
  unfold State.pieced; (repeat' split) <;> simp +contextual (maxDischargeDepth := 40) [h]

@[simp] theorem State.pieceFail_formed (f n p : Nat) (token : Token) (k : FailKind) (stage : Option AttemptStep) (cut : Bool) (s : State) (h : s.formed = true) :
    (State.pieceFail f n p token k stage cut s).formed = true := by
  unfold State.pieceFail; (repeat' split) <;> simp +contextual (maxDischargeDepth := 40) [h]

@[simp] theorem State.carrierTakes_formed (c k : Nat) (waiting : Holder) (s : State) (h : s.formed = true) :
    (State.carrierTakes c k waiting s).formed = true := by
  unfold State.carrierTakes; (repeat' split) <;> simp +contextual (maxDischargeDepth := 40) [h]

@[simp] theorem State.piecerReleases_formed (p k : Nat) (s : State) (h : s.formed = true) :
    (State.piecerReleases p k s).formed = true := by
  unfold State.piecerReleases; dsimp only; (repeat' split) <;> simp +contextual (maxDischargeDepth := 40) [h]

@[simp] theorem State.carrierReleases_formed (c k : Nat) (s : State) (h : s.formed = true) :
    (State.carrierReleases c k s).formed = true := by
  unfold State.carrierReleases; dsimp only; (repeat' split) <;> simp +contextual (maxDischargeDepth := 40) [h]

@[simp] theorem State.claimAbandoned_formed (f n : Nat) (s : State) (h : s.formed = true) :
    (State.claimAbandoned f n s).formed = true := by
  unfold State.claimAbandoned; (repeat' split) <;> simp +contextual (maxDischargeDepth := 40) [h]

@[simp] theorem State.claimJoined_formed (f n : Nat) (s : State) (h : s.formed = true) :
    (State.claimJoined f n s).formed = true := by
  unfold State.claimJoined; (repeat' split) <;> simp +contextual (maxDischargeDepth := 40) [h]

@[simp] theorem State.claimFailed_formed (f n p : Nat) (token : Token) (k : FailKind) (stage : Option AttemptStep) (s : State) (h : s.formed = true) :
    (State.claimFailed f n p token k stage s).formed = true := by
  unfold State.claimFailed; (repeat' split) <;> simp +contextual (maxDischargeDepth := 40) [h]

@[simp] theorem State.claimNoRoving_formed (f n p : Nat) (token : Token) (stage : Option AttemptStep) (s : State) (h : s.formed = true) :
    (State.claimNoRoving f n p token stage s).formed = true := by
  unfold State.claimNoRoving; (repeat' split) <;> simp +contextual (maxDischargeDepth := 40) [h]

/-! ### Piecers -/

@[simp] theorem State.journalMove_formed (p left dest : Nat) (r : Option MoveReason) (s : State) (h : s.formed = true) :
    (State.journalMove p left dest r s).formed = true := by
  unfold State.journalMove; (repeat' split) <;> simp +contextual (maxDischargeDepth := 40) [h]

@[simp] theorem State.unserve_formed (p : Nat) (s : State) (h : s.formed = true) :
    (State.unserve p s).formed = true := by
  unfold State.unserve; (repeat' split) <;> simp +contextual (maxDischargeDepth := 40) [h]

@[simp] theorem State.sendToSide_formed (p d : Nat) (r : MoveReason) (s : State) (h : s.formed = true) :
    (State.sendToSide p d r s).formed = true := by
  unfold State.sendToSide; dsimp only; (repeat' split) <;> simp +contextual (maxDischargeDepth := 40) [h]

@[simp] theorem State.sendToBay_formed (p : Nat) (placement : Placement) (r : Option MoveReason) (s : State) (h : s.formed = true) :
    (State.sendToBay p placement r s).formed = true := by
  unfold State.sendToBay; (repeat' split) <;> simp +contextual (maxDischargeDepth := 40) [h]

@[simp] theorem State.attemptOver_formed (p : Nat) (s : State) (h : s.formed = true) :
    (State.attemptOver p s).formed = true := by
  unfold State.attemptOver; (repeat' split) <;> simp +contextual (maxDischargeDepth := 40) [h]

@[simp] theorem State.voidAttempt_formed (p : Nat) (send : Bool) (s : State) (h : s.formed = true) :
    (State.voidAttempt p send s).formed = true := by
  unfold State.voidAttempt; dsimp only; (repeat' split) <;> simp +contextual (maxDischargeDepth := 40) [h]

@[simp] theorem State.abandon_formed (p : Nat) (s : State) (h : s.formed = true) :
    (State.abandon p s).formed = true := by
  unfold State.abandon; (repeat' split) <;> simp +contextual (maxDischargeDepth := 40) [h]

@[simp] theorem State.abandonAll_formed (f : Nat) (s : State) (h : s.formed = true) :
    (State.abandonAll f s).formed = true := by
  unfold State.abandonAll; (repeat' split) <;> simp +contextual (maxDischargeDepth := 40) [h]

@[simp] theorem State.abandonDrain_formed (f : Nat) (s : State) (h : s.formed = true) :
    (State.abandonDrain f s).formed = true := by
  unfold State.abandonDrain; (repeat' split) <;> simp +contextual (maxDischargeDepth := 40) [h]

@[simp] theorem State.piecerLost_formed (p : Nat) (byLink : Bool) (s : State) (h : s.formed = true) :
    (State.piecerLost p byLink s).formed = true := by
  unfold State.piecerLost; dsimp only; (repeat' split) <;> simp +contextual (maxDischargeDepth := 40) [h]

@[simp] theorem State.losePiecer_formed (p : Nat) (cause : Word) (s : State) (h : s.formed = true) :
    (State.losePiecer p cause s).formed = true := by
  unfold State.losePiecer; (repeat' split) <;> simp +contextual (maxDischargeDepth := 40) [h]

/-! ### Roving -/


theorem placeByStamp_length (g : Nat → Nat) (c t : Nat) (l : List Nat) :
    (placeByStamp g c t l).length = l.length + 1 := by
  induction l with
  | nil => rfl
  | cons x r ih => unfold placeByStamp; split <;> simp [ih]

theorem markIf_keeps_roving (b : Bool) (i : WriteItem) (s : State) : (s.markIf b i).roving = s.roving := by
  unfold State.markIf State.markItem; (repeat' split) <;> rfl

/-- Writing a section record leaves the queue. -/
@[simp] theorem State.setCreel_queue (c : Nat) (x : Creel) (s : State) :
    (s.setCreel c x).roving.queue = s.roving.queue := by
  unfold State.setCreel; dsimp only; rw [markIf_keeps_roving]

/-- A formed change queue is within its room (R110). -/
theorem State.queue_room {s : State} (h : s.formed = true) : s.roving.queue.length ≤ Config.changeQueueRoom := by
  simp only [State.formed, Roving.formed, Bool.and_eq_true, decide_eq_true_eq] at h
  exact h.1.1.1.1.2.1.1.2

/-- A formed state with another change queue within its room. -/
theorem State.newQueue_formed {s : State} (h : s.formed = true) (l : List Nat)
    (hl : l.length ≤ Config.changeQueueRoom) (de : Desk) (wk : Work) (hd : de.view = s.desk.view) :
    ({ s with roving.queue := l, desk := de, work := wk } : State).formed = true := by
  simp only [State.formed, Roving.formed, Bool.and_eq_true, decide_eq_true_eq] at h ⊢
  simp_all

@[simp] theorem State.queueByStamp_formed (c : Nat) (t : Word) (s : State) (h : s.formed = true)
    (hr : s.queueRoom = true) : (s.queueByStamp c t).formed = true := by
  unfold State.queueByStamp
  unfold State.queueRoom at hr
  refine State.newQueue_formed (State.setCreel_formed c _ s h) _ ?_ _ _ rfl
  rw [placeByStamp_length]
  simpa using Nat.succ_le_of_lt (of_decide_eq_true hr)

@[simp] theorem State.displaceTail_formed (s : State) (h : s.formed = true) :
    (State.displaceTail s).formed = true := by
  unfold State.displaceTail
  have hq := State.queue_room h
  (repeat' split)
  · exact h
  · exact h
  · refine State.newQueue_formed (State.setCreel_formed _ _ s h) _ ?_ _ _ rfl
    rw [List.length_dropLast]
    omega

/-- After a full queue's tail is displaced there is room. -/
theorem State.displaceTail_room (s : State) (h : s.formed = true) : s.displaceTail.queueRoom = true := by
  have hq := State.queue_room h
  unfold State.displaceTail
  split
  · assumption
  · split
    · next hn => simp_all [State.queueRoom, Config.changeQueueRoom]
    · simp only [State.queueRoom, List.length_dropLast, Config.changeQueueRoom, decide_eq_true_eq] at *
      omega

@[simp] theorem State.queueAtHead_formed (c : Nat) (s : State) (h : s.formed = true) : (s.queueAtHead c).formed = true := by
  unfold State.queueAtHead
  have hr := State.displaceTail_room s h
  unfold State.queueRoom at hr
  dsimp only
  refine State.newQueue_formed (State.setCreel_formed c _ _ (State.displaceTail_formed s h)) _ ?_ _ _ rfl
  simpa using Nat.succ_le_of_lt (of_decide_eq_true hr)

@[simp] theorem State.leaveQueue_formed (c : Nat) (s : State) (h : s.formed = true) :
    (State.leaveQueue c s).formed = true := by
  unfold State.leaveQueue
  split
  · exact State.oweRefill_formed _
      (State.newQueue_formed h _ (Nat.le_trans (List.length_filter_le _ _) (State.queue_room h)) _ _ rfl)
  · exact h

@[simp] theorem refillN_formed (n : Nat) (s : State) (h : s.formed = true) : (refillN n s).formed = true := by
  induction n generalizing s with
  | zero => exact h
  | succ n ih =>
    unfold refillN
    (repeat' split) <;> first | exact h | exact ih _ (by simp [*])

@[simp] theorem State.refill_formed (s : State) (h : s.formed = true) :
    (State.refill s).formed = true := by
  unfold State.refill; (repeat' split) <;> simp +contextual (maxDischargeDepth := 40) [h]

@[simp] theorem State.lowTest_formed (c : Nat) (s : State) (h : s.formed = true) :
    (State.lowTest c s).formed = true := by
  unfold State.lowTest; (repeat' split) <;> simp +contextual (maxDischargeDepth := 40) [h]

@[simp] theorem State.runOutSpindle_formed (f n : Nat) (s : State) (h : s.formed = true) :
    (State.runOutSpindle f n s).formed = true := by
  unfold State.runOutSpindle; dsimp only; (repeat' split) <;> simp +contextual (maxDischargeDepth := 40) [h]

@[simp] theorem State.runOutTest_formed (c : Nat) (s : State) (h : s.formed = true) :
    (State.runOutTest c s).formed = true := by
  unfold State.runOutTest; (repeat' split) <;> simp +contextual (maxDischargeDepth := 40) [h]

@[simp] theorem State.consume_formed (f advance : Nat) (s : State) (h : s.formed = true) :
    (State.consume f advance s).formed = true := by
  unfold State.consume; (repeat' split) <;> simp +contextual (maxDischargeDepth := 40) [h]

@[simp] theorem dispatchN_formed (n : Nat) (s : State) (h : s.formed = true) : (dispatchN n s).formed = true := by
  induction n generalizing s with
  | zero => exact h
  | succ n ih => unfold dispatchN; try dsimp only
                 (repeat' split) <;> simp +contextual (maxDischargeDepth := 40) [ih, h]

@[simp] theorem State.dispatch_formed (s : State) (h : s.formed = true) :
    (State.dispatch s).formed = true := by
  unfold State.dispatch; (repeat' split) <;> simp +contextual (maxDischargeDepth := 40) [h]

@[simp] theorem State.sendBack_formed (c : Nat) (s : State) (h : s.formed = true) :
    (State.sendBack c s).formed = true := by
  unfold State.sendBack; (repeat' split) <;> simp +contextual (maxDischargeDepth := 40) [h]

@[simp] theorem State.sendBackFault_formed (c : Nat) (s : State) (h : s.formed = true) :
    (State.sendBackFault c s).formed = true := by
  unfold State.sendBackFault; (repeat' split) <;> simp +contextual (maxDischargeDepth := 40) [h]

@[simp] theorem State.makeIdle_formed (c : Nat) (s : State) (h : s.formed = true) :
    (State.makeIdle c s).formed = true := by
  unfold State.makeIdle; (repeat' split) <;> simp +contextual (maxDischargeDepth := 40) [h]

@[simp] theorem State.failChange_formed (c : Nat) (s : State) (h : s.formed = true) :
    (State.failChange c s).formed = true := by
  unfold State.failChange; (repeat' split) <;> simp +contextual (maxDischargeDepth := 40) [h]

@[simp] theorem State.creelFault_formed (c : Nat) (k : Option Nat) (left : CarrierState) (e : ChangeEnd) (s : State) (h : s.formed = true) :
    (State.creelFault c k left e s).formed = true := by
  unfold State.creelFault; (repeat' split) <;> simp +contextual (maxDischargeDepth := 40) [h]

@[simp] theorem State.changeFails_formed (c : Nat) (e : ChangeEnd) (s : State) (h : s.formed = true) :
    (State.changeFails c e s).formed = true := by
  unfold State.changeFails; (repeat' split) <;> simp +contextual (maxDischargeDepth := 40) [h]

@[simp] theorem State.changeReturned_formed (c : Nat) (s : State) (h : s.formed = true) :
    (State.changeReturned c s).formed = true := by
  unfold State.changeReturned; (repeat' split) <;> simp +contextual (maxDischargeDepth := 40) [h]

@[simp] theorem State.carrierLost_formed (c : Nat) (s : State) (h : s.formed = true) :
    (State.carrierLost c s).formed = true := by
  unfold State.carrierLost; dsimp only; (repeat' split) <;> simp +contextual (maxDischargeDepth := 40) [h]

@[simp] theorem State.renewSpindle_formed (f n : Nat) (s : State) (h : s.formed = true) :
    (State.renewSpindle f n s).formed = true := by
  unfold State.renewSpindle; dsimp only; (repeat' split) <;> simp +contextual (maxDischargeDepth := 40) [h]

@[simp] theorem State.creelOrderDone_formed (c k completion : Nat) (lot : Option Token) (s : State) (h : s.formed = true) :
    (State.creelOrderDone c k completion lot s).formed = true := by
  unfold State.creelOrderDone; (repeat' split) <;> simp +contextual (maxDischargeDepth := 40) [h]

@[simp] theorem State.changeDone_formed (c k : Nat) (s : State) (h : s.formed = true) :
    (State.changeDone c k s).formed = true := by
  unfold State.changeDone; (repeat' split) <;> simp +contextual (maxDischargeDepth := 40) [h]

@[simp] theorem State.lotCheck_formed (c k : Nat) (lot : Token) (s : State) (h : s.formed = true) :
    (State.lotCheck c k lot s).formed = true := by
  unfold State.lotCheck; (repeat' split) <;> simp +contextual (maxDischargeDepth := 40) [h]

@[simp] theorem State.claimLock_formed (c k : Nat) (s : State) (h : s.formed = true) :
    (State.claimLock c k s).formed = true := by
  unfold State.claimLock; dsimp only; (repeat' split) <;> simp +contextual (maxDischargeDepth := 40) [h]

@[simp] theorem State.takeLoaded_formed (c : Nat) (lot : Token) (s : State) (h : s.formed = true) :
    (State.takeLoaded c lot s).formed = true := by
  unfold State.takeLoaded; (repeat' split) <;> simp +contextual (maxDischargeDepth := 40) [h]

@[simp] theorem State.takeArrived_formed (c : Nat) (s : State) (h : s.formed = true) :
    (State.takeArrived c s).formed = true := by
  unfold State.takeArrived; (repeat' split) <;> simp +contextual (maxDischargeDepth := 40) [h]

@[simp] theorem State.takeChangeDone_formed (c : Nat) (s : State) (h : s.formed = true) :
    (State.takeChangeDone c s).formed = true := by
  unfold State.takeChangeDone; (repeat' split) <;> simp +contextual (maxDischargeDepth := 40) [h]

@[simp] theorem State.returnFails_formed (c : Nat) (e : ChangeEnd) (s : State) (h : s.formed = true) :
    (State.returnFails c e s).formed = true := by
  unfold State.returnFails; (repeat' split) <;> simp +contextual (maxDischargeDepth := 40) [h]

@[simp] theorem State.takeChangeFault_formed (c : Nat) (s : State) (h : s.formed = true) :
    (State.takeChangeFault c s).formed = true := by
  unfold State.takeChangeFault; (repeat' split) <;> simp +contextual (maxDischargeDepth := 40) [h]

@[simp] theorem State.takeReturned_formed (c : Nat) (s : State) (h : s.formed = true) :
    (State.takeReturned c s).formed = true := by
  unfold State.takeReturned; (repeat' split) <;> simp +contextual (maxDischargeDepth := 40) [h]

@[simp] theorem State.queueNow_formed (l : List Nat) (s : State) (h : s.formed = true) :
    (State.queueNow l s).formed = true := by
  unfold State.queueNow; (repeat' split) <;> simp +contextual (maxDischargeDepth := 40) [h]

@[simp] theorem State.creelOut_formed (k : Nat) (s : State) (h : s.formed = true) :
    (State.creelOut k s).formed = true := by
  unfold State.creelOut; dsimp only; (repeat' split) <;> simp +contextual (maxDischargeDepth := 40) [h]

/-! ### Doffing -/

@[simp] theorem State.closeStop_formed (f : Nat) (s : State) (h : s.formed = true) :
    (State.closeStop f s).formed = true := by
  unfold State.closeStop; (repeat' split) <;> simp +contextual (maxDischargeDepth := 40) [h]

@[simp] theorem State.openStop_formed (f : Nat) (s : State) (h : s.formed = true) :
    (State.openStop f s).formed = true := by
  unfold State.openStop; (repeat' split) <;> simp +contextual (maxDischargeDepth := 40) [h]

@[simp] theorem State.leaveFrameEnds_formed (f : Nat) (s : State) (h : s.formed = true) :
    (State.leaveFrameEnds f s).formed = true := by
  unfold State.leaveFrameEnds
  exact State.each_formed _ _ (fun x t ht => by dsimp only; (repeat' split) <;> simp +contextual (maxDischargeDepth := 40) [ht]) s h

@[simp] theorem State.enterState_formed (f : Nat) (st : FrameState) (s : State) (h : s.formed = true) :
    (State.enterState f st s).formed = true := by
  unfold State.enterState; (repeat' split) <;> simp +contextual (maxDischargeDepth := 40) [h]

@[simp] theorem State.handDrive_formed (f : Nat) (c : Cmd) (s : State) (h : s.formed = true) :
    (State.handDrive f c s).formed = true := by
  unfold State.handDrive; (repeat' split) <;> simp +contextual (maxDischargeDepth := 40) [h]

@[simp] theorem State.grantSlot_formed (f k : Nat) (s : State) (h : s.formed = true) :
    (State.grantSlot f k s).formed = true := by
  unfold State.grantSlot; (repeat' split) <;> simp +contextual (maxDischargeDepth := 40) [h]

@[simp] theorem grantN_formed (n : Nat) (s : State) (h : s.formed = true) : (grantN n s).formed = true := by
  induction n generalizing s with
  | zero => exact h
  | succ n ih => unfold grantN; try dsimp only
                 (repeat' split) <;> simp +contextual (maxDischargeDepth := 40) [ih, h]

@[simp] theorem State.doffArbiter_formed (s : State) (h : s.formed = true) :
    (State.doffArbiter s).formed = true := by
  unfold State.doffArbiter; (repeat' split) <;> simp +contextual (maxDischargeDepth := 40) [h]

@[simp] theorem State.callFrame_formed (f : Nat) (c : CallCause) (s : State) (h : s.formed = true) :
    (State.callFrame f c s).formed = true := by
  unfold State.callFrame; (repeat' split) <;> simp +contextual (maxDischargeDepth := 40) [h]

@[simp] theorem State.releaseSlot_formed (f : Nat) (s : State) (h : s.formed = true) :
    (State.releaseSlot f s).formed = true := by
  unfold State.releaseSlot; (repeat' split) <;> simp +contextual (maxDischargeDepth := 40) [h]

@[simp] theorem State.completeDoff_formed (f : Nat) (s : State) (h : s.formed = true) :
    (State.completeDoff f s).formed = true := by
  unfold State.completeDoff; (repeat' split) <;> simp +contextual (maxDischargeDepth := 40) [h]

@[simp] theorem State.graceSpindle_formed (f n : Nat) (afterDoff : Bool) (s : State) (h : s.formed = true) :
    (State.graceSpindle f n afterDoff s).formed = true := by
  unfold State.graceSpindle; dsimp only; (repeat' split) <;> simp +contextual (maxDischargeDepth := 40) [h]

@[simp] theorem State.placeAt_formed (f build : Nat) (c : CallCause) (s : State) (h : s.formed = true) :
    (State.placeAt f build c s).formed = true := by
  unfold State.placeAt; (repeat' split) <;> simp +contextual (maxDischargeDepth := 40) [h]

@[simp] theorem State.placeByBuild_formed (f : Nat) (c : CallCause) (s : State) (h : s.formed = true) :
    (State.placeByBuild f c s).formed = true := State.placeAt_formed f _ c s h

@[simp] theorem State.graceEnd_formed (f : Nat) (s : State) (h : s.formed = true) :
    (State.graceEnd f s).formed = true := by
  unfold State.graceEnd; (repeat' split) <;> simp +contextual (maxDischargeDepth := 40) [h]

@[simp] theorem State.notice_formed (f : Nat) (s : State) (h : s.formed = true) :
    (State.notice f s).formed = true := by
  unfold State.notice; dsimp only; (repeat' split) <;> simp +contextual (maxDischargeDepth := 40) [h]

@[simp] theorem State.drainTest_formed (f : Nat) (s : State) (h : s.formed = true) :
    (State.drainTest f s).formed = true := by
  unfold State.drainTest; (repeat' split) <;> simp +contextual (maxDischargeDepth := 40) [h]

@[simp] theorem State.haltReport_formed (f : Nat) (c : HaltCause) (left : FrameState) (s : State) (h : s.formed = true) :
    (State.haltReport f c left s).formed = true := by
  unfold State.haltReport; (repeat' split) <;> simp +contextual (maxDischargeDepth := 40) [h]

@[simp] theorem State.stopFrame_formed (f : Nat) (c : HaltCause) (s : State) (h : s.formed = true) :
    (State.stopFrame f c s).formed = true := by
  unfold State.stopFrame; (repeat' split) <;> simp +contextual (maxDischargeDepth := 40) [h]

@[simp] theorem State.doffFails_formed (f : Nat) (c : HaltCause) (s : State) (h : s.formed = true) :
    (State.doffFails f c s).formed = true := by
  unfold State.doffFails; (repeat' split) <;> simp +contextual (maxDischargeDepth := 40) [h]

@[simp] theorem State.restart_formed (f : Nat) (s : State) (h : s.formed = true) :
    (State.restart f s).formed = true := by
  unfold State.restart; (repeat' split) <;> simp +contextual (maxDischargeDepth := 40) [h]

@[simp] theorem State.takeAtDoff_formed (f : Nat) (s : State) (h : s.formed = true) :
    (State.takeAtDoff f s).formed = true := by
  unfold State.takeAtDoff; (repeat' split) <;> simp +contextual (maxDischargeDepth := 40) [h]

@[simp] theorem State.takeDoffDone_formed (f : Nat) (s : State) (h : s.formed = true) :
    (State.takeDoffDone f s).formed = true := by
  unfold State.takeDoffDone; (repeat' split) <;> simp +contextual (maxDischargeDepth := 40) [h]

@[simp] theorem State.takeDriveFault_formed (f : Nat) (s : State) (h : s.formed = true) :
    (State.takeDriveFault f s).formed = true := by
  unfold State.takeDriveFault; (repeat' split) <;> simp +contextual (maxDischargeDepth := 40) [h]

@[simp] theorem State.takeDriveState_formed (f : Nat) (d : DriveState) (s : State) (h : s.formed = true) :
    (State.takeDriveState f d s).formed = true := by
  unfold State.takeDriveState; (repeat' split) <;> simp +contextual (maxDischargeDepth := 40) [h]

@[simp] theorem State.driveBack_formed (f : Nat) (s : State) (h : s.formed = true) :
    (State.driveBack f s).formed = true := by
  unfold State.driveBack; (repeat' split) <;> simp +contextual (maxDischargeDepth := 40) [h]

@[simp] theorem State.driveLost_formed (f : Nat) (s : State) (h : s.formed = true) :
    (State.driveLost f s).formed = true := by
  unfold State.driveLost; (repeat' split) <;> simp +contextual (maxDischargeDepth := 40) [h]

/-! ### Output -/

@[simp] theorem State.updateStop_formed (f : Nat) (s : State) (h : s.formed = true) :
    (State.updateStop f s).formed = true := by
  unfold State.updateStop; (repeat' split) <;> simp +contextual (maxDischargeDepth := 40) [h]

@[simp] theorem State.captureLengths_formed (f running : Nat) (s : State) (h : s.formed = true) :
    (State.captureLengths f running s).formed = true := by
  unfold State.captureLengths; (repeat' split) <;> simp +contextual (maxDischargeDepth := 40) [h]

@[simp] theorem State.sweepCapture_formed (f running planned period : Nat) (s : State) (h : s.formed = true) :
    (State.sweepCapture f running planned period s).formed = true := by
  unfold State.sweepCapture; (repeat' split) <;> simp +contextual (maxDischargeDepth := 40) [h]

@[simp] theorem State.boundaryCapture_formed (f : Nat) (s : State) (h : s.formed = true) :
    (State.boundaryCapture f s).formed = true := by
  unfold State.boundaryCapture; (repeat' split) <;> simp +contextual (maxDischargeDepth := 40) [h]

@[simp] theorem State.closePage_formed (cause : PageCause) (s : State) (h : s.formed = true) :
    (State.closePage cause s).formed = true := by
  unfold State.closePage; (repeat' split) <;> simp +contextual (maxDischargeDepth := 40) [h]

@[simp] theorem State.openNewPage_formed (n : Nat) (cause : PageCause) (s : State) (h : s.formed = true) :
    (State.openNewPage n cause s).formed = true := by
  unfold State.openNewPage
  have h0 : ({ s with output.page := some ⟨n, s.clock, cause, 0⟩, output.counts := [] } : State).formed = true := by
    simp only [State.formed, Output.formed, Bool.and_eq_true] at h ⊢
    simp_all
  simp +contextual (maxDischargeDepth := 40) [h0]

@[simp] theorem State.absorb_formed (cause : PageCause) (s : State) (h : s.formed = true) :
    (State.absorb cause s).formed = true := by
  unfold State.absorb; (repeat' split) <;> simp +contextual (maxDischargeDepth := 40) [h]

@[simp] theorem State.rotatePage_formed (cause : PageCause) (s : State) (h : s.formed = true) :
    (State.rotatePage cause s).formed = true := by
  unfold State.rotatePage; (repeat' split) <;> simp +contextual (maxDischargeDepth := 40) [h]

@[simp] theorem State.loadShift_formed (s : State) (h : s.formed = true) :
    (State.loadShift s).formed = true := by
  unfold State.loadShift; (repeat' split) <;> simp +contextual (maxDischargeDepth := 40) [h]

@[simp] theorem State.boundaryPage_formed (cause : PageCause) (s : State) (h : s.formed = true) :
    (State.boundaryPage cause s).formed = true := by
  unfold State.boundaryPage; (repeat' split) <;> simp +contextual (maxDischargeDepth := 40) [h]

@[simp] theorem State.loadCompare_formed (f : Nat) (s : State) (h : s.formed = true) :
    (State.loadCompare f s).formed = true := by
  unfold State.loadCompare; (repeat' split) <;> simp +contextual (maxDischargeDepth := 40) [h]

/-! ### Watch -/

@[simp] theorem State.slipTest_formed (f n : Nat) (s : State) (h : s.formed = true) :
    (State.slipTest f n s).formed = true := by
  unfold State.slipTest; (repeat' split) <;> simp +contextual (maxDischargeDepth := 40) [h]

@[simp] theorem State.judge_formed (f n count : Nat) (s : State) (h : s.formed = true) :
    (s.judge f n count).1.formed = true := by
  unfold State.judge; dsimp only; split <;> (try split) <;> simp +contextual (maxDischargeDepth := 40) [h]

@[simp] theorem judgeAll_formed (f : Nat) (l : List (Nat × Nat)) (s : State) (h : s.formed = true) :
    (judgeAll f l s).1.formed = true := by
  induction l generalizing s with
  | nil => exact h
  | cons x r ih =>
    have h := ih _ (s.judge_formed f x.1 x.2 h)
    unfold judgeAll; dsimp only; split <;> exact h

@[simp] theorem State.reportBreak_formed (f n : Nat) (c : BreakClass) (repeats : Nat) (s : State) (h : s.formed = true) :
    (State.reportBreak f n c repeats s).formed = true := by
  unfold State.reportBreak; (repeat' split) <;> simp +contextual (maxDischargeDepth := 40) [h]

@[simp] theorem State.settleProveFail_formed (f n : Nat) (s : State) (h : s.formed = true) :
    (State.settleProveFail f n s).formed = true := by
  unfold State.settleProveFail; (repeat' split) <;> simp +contextual (maxDischargeDepth := 40) [h]

theorem RogueTable.put_formed (t : RogueTable) (k w : Nat) (e : RogueEntry) (h : t.formed = true) :
    (t.put k w e).formed = true := by
  simp only [RogueTable.formed, RogueTable.put, Bool.and_eq_true] at h ⊢
  exact ⟨tableWf_tput _ _ h.1, h.2⟩

theorem RogueTable.touch_formed (t : RogueTable) (k w : Nat) (h : t.formed = true) : (t.touch k w).formed = true := by
  simp only [RogueTable.formed, RogueTable.touch, Bool.and_eq_true] at h ⊢
  exact ⟨h.1, tableWf_tput _ _ h.2⟩

theorem RogueTable.lookup_formed (t : RogueTable) (k : Nat) (c : Word) (w l : Nat) (h : t.formed = true) :
    (t.lookup k c w l).1.formed = true := by
  unfold RogueTable.lookup; dsimp only
  (repeat' split) <;> exact RogueTable.touch_formed _ _ _ (RogueTable.put_formed _ _ _ _ h)

theorem State.newRogue_formed {s : State} (h : s.formed = true) (t : RogueTable) (ht : t.formed = true) :
    ({ s with rogue := t } : State).formed = true := by
  simp only [State.formed, Bool.and_eq_true] at h ⊢
  simp_all

theorem State.rogue_formed {s : State} (h : s.formed = true) : s.rogue.formed = true := by
  simp only [State.formed, Bool.and_eq_true] at h
  exact h.1.1.1.1.1.1.1.2

@[simp] theorem State.settleBreak_formed (f n : Nat) (c : BreakClass) (s : State) (h : s.formed = true) :
    (s.settleBreak f n c).formed = true := by
  unfold State.settleBreak; dsimp only
  have hu := State.setSpindle_formed f n { s.spindle f n with
    lastClass := some (if (s.creel (creelOfSpindle f n)).remaining = 0 then .starve else c) } s h
  generalize s.setSpindle f n _ = u at *
  split
  · simp +contextual (maxDischargeDepth := 40) [hu]
  · have hr := State.newRogue_formed hu _
      (RogueTable.lookup_formed u.rogue (spindleKey f n) u.clock (u.settings.rogueWindow * 600) u.settings.rogueLimit
        (State.rogue_formed hu))
    split <;> simp +contextual (maxDischargeDepth := 40) [hr]
  · simp +contextual (maxDischargeDepth := 40) [hu]
  · simp +contextual (maxDischargeDepth := 40) [hu]

@[simp] theorem State.judgeStrip_formed (f k : Nat) (counts : List Nat) (s : State) (h : s.formed = true) :
    (State.judgeStrip f k counts s).formed = true := by
  unfold State.judgeStrip; dsimp only; (repeat' split) <;> simp +contextual (maxDischargeDepth := 40) [h]

@[simp] theorem State.countRead_formed (f k : Nat) (good : Bool) (s : State) (h : s.formed = true) :
    (State.countRead f k good s).formed = true := by
  unfold State.countRead; (repeat' split) <;> simp +contextual (maxDischargeDepth := 40) [h]

@[simp] theorem State.checkReport_formed (f k passed failed completion : Nat) (s : State) (h : s.formed = true) :
    (State.checkReport f k passed failed completion s).formed = true := by
  unfold State.checkReport; (repeat' split) <;> simp +contextual (maxDischargeDepth := 40) [h]

@[simp] theorem State.settleChecked_formed (f n : Nat) (failed : Bool) (s : State) (h : s.formed = true) :
    (State.settleChecked f n failed s).formed = true := by
  unfold State.settleChecked; dsimp only; (repeat' split) <;> simp +contextual (maxDischargeDepth := 40) [h]

@[simp] theorem State.endCheck_formed (f k : Nat) (cutShort : Bool) (s : State) (h : s.formed = true) :
    (State.endCheck f k cutShort s).formed = true := by
  unfold State.endCheck; (repeat' split) <;> simp +contextual (maxDischargeDepth := 40) [h]

@[simp] theorem State.dropCheck_formed (f k : Nat) (s : State) (h : s.formed = true) :
    (State.dropCheck f k s).formed = true := by
  unfold State.dropCheck; (repeat' split) <;> simp +contextual (maxDischargeDepth := 40) [h]

@[simp] theorem State.loopSweep_formed (f k : Nat) (c : LoopCheck) (values : List Nat) (s : State) (h : s.formed = true) :
    (State.loopSweep f k c values s).formed = true := by
  unfold State.loopSweep; (repeat' split) <;> simp +contextual (maxDischargeDepth := 40) [h]

@[simp] theorem State.takeRead_formed (f k : Nat) (good : Option (List Nat)) (s : State) (h : s.formed = true) :
    (State.takeRead f k good s).formed = true := by
  unfold State.takeRead; dsimp only; (repeat' split) <;> simp +contextual (maxDischargeDepth := 40) [h]

@[simp] theorem State.sweepEnd_formed (f : Nat) (s : State) (h : s.formed = true) :
    (State.sweepEnd f s).formed = true := by
  unfold State.sweepEnd; (repeat' split) <;> simp +contextual (maxDischargeDepth := 40) [h]

@[simp] theorem State.readStrip_formed (f : Nat) (good : Nat → Option (List Nat)) (s : State) (h : s.formed = true) :
    (State.readStrip f good s).formed = true := by
  unfold State.readStrip; (repeat' split) <;> simp +contextual (maxDischargeDepth := 40) [h]

@[simp] theorem State.startSweep_formed (f : Nat) (s : State) (h : s.formed = true) :
    (State.startSweep f s).formed = true := by
  unfold State.startSweep; (repeat' split) <;> simp +contextual (maxDischargeDepth := 40) [h]

@[simp] theorem State.spindlesIn_formed (f : Nat) (l : List Nat) (s : State) (h : s.formed = true) :
    (State.spindlesIn f l s).formed = true := by
  unfold State.spindlesIn; (repeat' split) <;> simp +contextual (maxDischargeDepth := 40) [h]

@[simp] theorem State.spindlesOut_formed (f : Nat) (l : List Nat) (s : State) (h : s.formed = true) :
    (State.spindlesOut f l s).formed = true := by
  unfold State.spindlesOut; (repeat' split) <;> simp +contextual (maxDischargeDepth := 40) [h]

@[simp] theorem State.stripsClear_formed (f : Nat) (l : List Nat) (s : State) (h : s.formed = true) :
    (State.stripsClear f l s).formed = true := by
  unfold State.stripsClear; (repeat' split) <;> simp +contextual (maxDischargeDepth := 40) [h]

/-! ### Pool -/

@[simp] theorem State.recount_formed (d : Nat) (s : State) (h : s.formed = true) :
    (State.recount d s).formed = true := by
  unfold State.recount; dsimp only; (repeat' split) <;> simp +contextual (maxDischargeDepth := 40) [h]

@[simp] theorem State.recountAll_formed (s : State) (h : s.formed = true) :
    (State.recountAll s).formed = true := by
  unfold State.recountAll; (repeat' split) <;> simp +contextual (maxDischargeDepth := 40) [h]

@[simp] theorem State.startAttempt_formed (p d n : Nat) (s : State) (h : s.formed = true) :
    (State.startAttempt p d n s).formed = true := by
  unfold State.startAttempt; (repeat' split) <;> simp +contextual (maxDischargeDepth := 40) [h]

@[simp] theorem State.choose_formed (d : Nat) (s : State) (h : s.formed = true) :
    (State.choose d s).formed = true := by
  unfold State.choose; dsimp only; (repeat' split) <;> simp +contextual (maxDischargeDepth := 40) [h]

@[simp] theorem State.chooseAll_formed (s : State) (h : s.formed = true) :
    (State.chooseAll s).formed = true := by
  unfold State.chooseAll; (repeat' split) <;> simp +contextual (maxDischargeDepth := 40) [h]

@[simp] theorem State.homePass_formed (p : Nat) (s : State) (h : s.formed = true) :
    (State.homePass p s).formed = true := by
  unfold State.homePass; dsimp only; (repeat' split) <;> simp +contextual (maxDischargeDepth := 40) [h]

@[simp] theorem State.lendPass_formed (p : Nat) (s : State) (h : s.formed = true) :
    (State.lendPass p s).formed = true := by
  unfold State.lendPass; (repeat' split) <;> simp +contextual (maxDischargeDepth := 40) [h]

@[simp] theorem State.arbitrate_formed (s : State) (h : s.formed = true) :
    (State.arbitrate s).formed = true := by
  unfold State.arbitrate; (repeat' split) <;> simp +contextual (maxDischargeDepth := 40) [h]

@[simp] theorem State.frameEnd_formed (p : Nat) (s : State) (h : s.formed = true) :
    (State.frameEnd p s).formed = true := by
  unfold State.frameEnd; dsimp only; (repeat' split) <;> simp +contextual (maxDischargeDepth := 40) [h]

@[simp] theorem State.arrive_formed (p d pos : Nat) (s : State) (h : s.formed = true) :
    (State.arrive p d pos s).formed = true := by
  unfold State.arrive; (repeat' split) <;> simp +contextual (maxDischargeDepth := 40) [h]

@[simp] theorem State.markReturned_formed (p : Nat) (s : State) (h : s.formed = true) :
    (State.markReturned p s).formed = true := by
  unfold State.markReturned; dsimp only; (repeat' split) <;> simp +contextual (maxDischargeDepth := 40) [h]

@[simp] theorem State.journalBack_formed (a : Nat) (lost : Word) (s : State) (h : s.formed = true) :
    (State.journalBack a lost s).formed = true := by
  unfold State.journalBack; (repeat' split) <;> simp +contextual (maxDischargeDepth := 40) [h]

@[simp] theorem State.returnByReport_formed (p : Nat) (s : State) (h : s.formed = true) :
    (State.returnByReport p s).formed = true := by
  unfold State.returnByReport; (repeat' split) <;> simp +contextual (maxDischargeDepth := 40) [h]

@[simp] theorem State.returnByLink_formed (p : Nat) (s : State) (h : s.formed = true) :
    (State.returnByLink p s).formed = true := by
  unfold State.returnByLink; (repeat' split) <;> simp +contextual (maxDischargeDepth := 40) [h]

@[simp] theorem State.placeReturned_formed (p d pos : Nat) (s : State) (h : s.formed = true) :
    (State.placeReturned p d pos s).formed = true := by
  unfold State.placeReturned; dsimp only; (repeat' split) <;> simp +contextual (maxDischargeDepth := 40) [h]

@[simp] theorem State.takeAtSide_formed (p d pos : Nat) (s : State) (h : s.formed = true) :
    (State.takeAtSide p d pos s).formed = true := by
  unfold State.takeAtSide; dsimp only; (repeat' split) <;> simp +contextual (maxDischargeDepth := 40) [h]

@[simp] theorem State.takeParked_formed (p : Nat) (s : State) (h : s.formed = true) :
    (State.takeParked p s).formed = true := by
  unfold State.takeParked; dsimp only; (repeat' split) <;> simp +contextual (maxDischargeDepth := 40) [h]

@[simp] theorem State.stale_formed (p : Nat) (r : Report) (t : Token) (o : Option Outcome) (s : State) (h : s.formed = true) :
    (State.stale p r t o s).formed = true := by
  unfold State.stale; (repeat' split) <;> simp +contextual (maxDischargeDepth := 40) [h]

@[simp] theorem State.takeStep_formed (p : Nat) (t : Token) (st : AttemptStep) (pos : Nat) (s : State) (h : s.formed = true) :
    (State.takeStep p t st pos s).formed = true := by
  unfold State.takeStep; (repeat' split) <;> simp +contextual (maxDischargeDepth := 40) [h]

@[simp] theorem State.claimOutcome_formed (f n p : Nat) (t : Token) (stage : Option AttemptStep) (o : Outcome) (s : State) (h : s.formed = true) :
    (State.claimOutcome f n p t stage o s).formed = true := by
  unfold State.claimOutcome; (repeat' split) <;> simp +contextual (maxDischargeDepth := 40) [h]

@[simp] theorem State.takeResult_formed (p : Nat) (t : Token) (o : Outcome) (s : State) (h : s.formed = true) :
    (State.takeResult p t o s).formed = true := by
  unfold State.takeResult; dsimp only; (repeat' split) <;> simp +contextual (maxDischargeDepth := 40) [h]

@[simp] theorem State.attemptExpires_formed (p : Nat) (s : State) (h : s.formed = true) :
    (State.attemptExpires p s).formed = true := by
  unfold State.attemptExpires; dsimp only; (repeat' split) <;> simp +contextual (maxDischargeDepth := 40) [h]

@[simp] theorem State.holdRefused_formed (k : Nat) (s : State) (h : s.formed = true) :
    (State.holdRefused k s).formed = true := by
  unfold State.holdRefused; (repeat' split) <;> simp +contextual (maxDischargeDepth := 40) [h]

@[simp] theorem State.takeHeld_formed (p : Nat) (t : Token) (s : State) (h : s.formed = true) :
    (State.takeHeld p t s).formed = true := by
  unfold State.takeHeld; dsimp only; (repeat' split) <;> simp +contextual (maxDischargeDepth := 40) [h]

@[simp] theorem State.takeRefusedHold_formed (p : Nat) (t : Token) (s : State) (h : s.formed = true) :
    (State.takeRefusedHold p t s).formed = true := by
  unfold State.takeRefusedHold; (repeat' split) <;> simp +contextual (maxDischargeDepth := 40) [h]

/-! ### Settle -/

@[simp] theorem State.tellLoss_formed (a : Nat) (s : State) (h : s.formed = true) :
    (State.tellLoss a s).formed = true := by
  unfold State.tellLoss; (repeat' split) <;> simp +contextual (maxDischargeDepth := 40) [h]

@[simp] theorem State.tellLosses_formed (s : State) (h : s.formed = true) :
    (State.tellLosses s).formed = true := by
  unfold State.tellLosses; (repeat' split) <;> simp +contextual (maxDischargeDepth := 40) [h]

@[simp] theorem State.relistOwed_formed (s : State) (h : s.formed = true) :
    (State.relistOwed s).formed = true := by
  unfold State.relistOwed; (repeat' split) <;> simp +contextual (maxDischargeDepth := 40) [h]

@[simp] theorem State.arbiterOwed_formed (s : State) (h : s.formed = true) :
    (State.arbiterOwed s).formed = true := by
  unfold State.arbiterOwed; (repeat' split) <;> simp +contextual (maxDischargeDepth := 40) [h]

@[simp] theorem State.refillOwed_formed (s : State) (h : s.formed = true) :
    (State.refillOwed s).formed = true := by
  unfold State.refillOwed; (repeat' split) <;> simp +contextual (maxDischargeDepth := 40) [h]

@[simp] theorem State.settleRound_formed (s : State) (h : s.formed = true) :
    (State.settleRound s).formed = true := by
  unfold State.settleRound; (repeat' split) <;> simp +contextual (maxDischargeDepth := 40) [h]

@[simp] theorem settleN_formed (n : Nat) (s : State) (h : s.formed = true) : (settleN n s).formed = true := by
  induction n generalizing s with
  | zero => exact h
  | succ n ih => unfold settleN; try dsimp only
                 (repeat' split) <;> simp +contextual (maxDischargeDepth := 40) [ih, h]

@[simp] theorem State.settle_formed (s : State) (h : s.formed = true) :
    (State.settle s).formed = true := by
  unfold State.settle; (repeat' split) <;> simp +contextual (maxDischargeDepth := 40) [h]

/-! ### Plan -/

@[simp] theorem State.poolPiecers_formed (f : Nat) (s : State) (h : s.formed = true) :
    (State.poolPiecers f s).formed = true := by
  unfold State.poolPiecers
  exact State.each_formed _ _ (fun x t ht => by dsimp only; (repeat' split) <;> simp +contextual (maxDischargeDepth := 40) [ht]) s h

@[simp] theorem State.sectionOut_formed (f k : Nat) (s : State) (h : s.formed = true) :
    (State.sectionOut f k s).formed = true := by
  unfold State.sectionOut; (repeat' split) <;> simp +contextual (maxDischargeDepth := 40) [h]

@[simp] theorem State.frameOut_formed (f n : Nat) (s : State) (h : s.formed = true) :
    (State.frameOut f n s).formed = true := by
  unfold State.frameOut; (repeat' split) <;> simp +contextual (maxDischargeDepth := 40) [h]

@[simp] theorem State.sectionsIn_formed (f : Nat) (l : List Nat) (s : State) (h : s.formed = true) :
    (State.sectionsIn f l s).formed = true := by
  unfold State.sectionsIn; (repeat' split) <;> simp +contextual (maxDischargeDepth := 40) [h]

@[simp] theorem State.frameIn_formed (f : Nat) (s : State) (h : s.formed = true) :
    (State.frameIn f s).formed = true := by
  unfold State.frameIn; (repeat' split) <;> simp +contextual (maxDischargeDepth := 40) [h]

@[simp] theorem State.frameResized_formed (f n m : Nat) (s : State) (h : s.formed = true) :
    (State.frameResized f n m s).formed = true := by
  unfold State.frameResized; (repeat' split) <;> simp +contextual (maxDischargeDepth := 40) [h]

@[simp] theorem State.switchFrames_formed (old : Settings) (s : State) (h : s.formed = true) :
    (State.switchFrames old s).formed = true := by
  unfold State.switchFrames; (repeat' split) <;> simp +contextual (maxDischargeDepth := 40) [h]

@[simp] theorem State.switchCompare_formed (s : State) (h : s.formed = true) :
    (State.switchCompare s).formed = true := by
  unfold State.switchCompare
  exact State.each_formed _ _ (fun x t ht => by dsimp only; (repeat' split) <;> simp +contextual (maxDischargeDepth := 40) [ht]) s h

@[simp] theorem State.lotRequeue_formed (c : Nat) (s : State) (h : s.formed = true) :
    (State.lotRequeue c s).formed = true := by
  unfold State.lotRequeue
  (repeat' split) <;> first | exact h | simp +contextual (maxDischargeDepth := 40) [*]

@[simp] theorem State.switchRoving_formed (old : Settings) (s : State) (h : s.formed = true) :
    (State.switchRoving old s).formed = true := by
  unfold State.switchRoving; (repeat' split) <;> simp +contextual (maxDischargeDepth := 40) [h]

@[simp] theorem State.switchShift_formed (old : Settings) (cause : Option PageCause) (s : State) (h : s.formed = true) :
    (State.switchShift old cause s).formed = true := by
  unfold State.switchShift; (repeat' split) <;> simp +contextual (maxDischargeDepth := 40) [h]

@[simp] theorem State.switchReport_formed (left : Option Plan) (old : Settings) (cause : Option PageCause) (s : State) (h : s.formed = true) :
    (State.switchReport left old cause s).formed = true := by
  unfold State.switchReport; (repeat' split) <;> simp +contextual (maxDischargeDepth := 40) [h]

@[simp] theorem State.takeHomes_formed (s : State) (h : s.formed = true) :
    (State.takeHomes s).formed = true := by
  unfold State.takeHomes; (repeat' split) <;> simp +contextual (maxDischargeDepth := 40) [h]

@[simp] theorem State.applySwitch_formed (p : Plan) (cause : Option PageCause) (s : State) (h : s.formed = true) :
    (State.applySwitch p cause s).formed = true := by
  unfold State.applySwitch; (repeat' split) <;> simp +contextual (maxDischargeDepth := 40) [h]

@[simp] theorem State.planBoundary_formed (cause : PageCause) (s : State) (h : s.formed = true) :
    (State.planBoundary cause s).formed = true := by
  unfold State.planBoundary; (repeat' split) <;> simp +contextual (maxDischargeDepth := 40) [h]

@[simp] theorem State.boundary_formed (cause : PageCause) (s : State) (h : s.formed = true) :
    (State.boundary cause s).formed = true := by
  unfold State.boundary; (repeat' split) <;> simp +contextual (maxDischargeDepth := 40) [h]

/-! ### Port -/

@[simp] theorem State.requestRead_formed (b : Requester) (offset beats : Nat) (s : State) (h : s.formed = true) :
    (State.requestRead b offset beats s).formed = true := by
  unfold State.requestRead; (repeat' split) <;> simp +contextual (maxDischargeDepth := 40) [h]

@[simp] theorem State.requestWrite_formed (offset : Nat) (l : List Word) (s : State) (h : s.formed = true) :
    (State.requestWrite offset l s).formed = true := by
  unfold State.requestWrite; (repeat' split) <;> simp +contextual (maxDischargeDepth := 40) [h]

@[simp] theorem State.moveBeat_formed (t : Transfer) (s : State) (h : s.formed = true) :
    (State.moveBeat t s).formed = true := by
  unfold State.moveBeat; (repeat' split) <;> simp +contextual (maxDischargeDepth := 40) [h]

/-! ### Writer -/

@[simp] theorem State.holdNumber_formed (offset : Nat) (w : Word) (s : State) (h : s.formed = true) :
    (State.holdNumber offset w s).formed = true := by
  unfold State.holdNumber; dsimp only
  try simp only [State.markIf_formed]
  simp only [State.formed, Writer.formed, Bool.and_eq_true] at h ⊢
  simp_all [tableWf_tput]

@[simp] theorem State.sendTransfers_formed (i : WriteItem) (l : List (Nat × List Word)) (s : State) (h : s.formed = true) :
    (State.sendTransfers i l s).formed = true := by
  unfold State.sendTransfers; (repeat' split) <;> simp +contextual (maxDischargeDepth := 40) [h]

@[simp] theorem State.noteOpenBegun_formed (i : WriteItem) (s : State) (h : s.formed = true) :
    (State.noteOpenBegun i s).formed = true := by
  unfold State.noteOpenBegun; (repeat' split) <;> simp +contextual (maxDischargeDepth := 40) [h]

@[simp] theorem State.beginNumbered_formed (i : WriteItem) (offset : Nat) (held : Word) (s : State) (h : s.formed = true) :
    (State.beginNumbered i offset held s).formed = true := by
  unfold State.beginNumbered; (repeat' split) <;> simp +contextual (maxDischargeDepth := 40) [h]

@[simp] theorem State.beginItem_formed (i : WriteItem) (s : State) (h : s.formed = true) :
    (State.beginItem i s).formed = true := by
  unfold State.beginItem; (repeat' split) <;> simp +contextual (maxDischargeDepth := 40) [h]

@[simp] theorem State.shiftTest_formed (s : State) (h : s.formed = true) :
    (State.shiftTest s).formed = true := by
  unfold State.shiftTest; (repeat' split) <;> simp +contextual (maxDischargeDepth := 40) [h]

@[simp] theorem State.journalWritten_formed (s : State) (h : s.formed = true) :
    (State.journalWritten s).formed = true := by
  unfold State.journalWritten; (repeat' split) <;> simp +contextual (maxDischargeDepth := 40) [h]

@[simp] theorem State.pageWritten_formed (left : ShiftWait → ShiftWait) (s : State) (h : s.formed = true) :
    (State.pageWritten left s).formed = true := by
  unfold State.pageWritten; (repeat' split) <;> simp +contextual (maxDischargeDepth := 40) [h]

@[simp] theorem State.itemWritten_formed (i : WriteItem) (s : State) (h : s.formed = true) :
    (State.itemWritten i s).formed = true := by
  unfold State.itemWritten; (repeat' split) <;> simp +contextual (maxDischargeDepth := 40) [h]

@[simp] theorem State.writeEnded_formed (offset : Nat) (last : Word) (s : State) (h : s.formed = true) :
    (State.writeEnded offset last s).formed = true := by
  unfold State.writeEnded; (repeat' split) <;> simp +contextual (maxDischargeDepth := 40) [h]

@[simp] theorem State.numberRead_formed (offset : Nat) (w : Word) (s : State) (h : s.formed = true) :
    (State.numberRead offset w s).formed = true := by
  unfold State.numberRead; (repeat' split) <;> simp +contextual (maxDischargeDepth := 40) [h]

/-! ### Orders -/

@[simp] theorem State.orderDone_formed (c : CellRead) (words : List Word) (s : State) (h : s.formed = true) :
    (State.orderDone c words s).formed = true := by
  unfold State.orderDone; (repeat' split) <;> simp +contextual (maxDischargeDepth := 40) [h]

@[simp] theorem State.orderRefused_formed (c : CellRead) (r : Reason) (s : State) (h : s.formed = true) :
    (State.orderRefused c r s).formed = true := by
  unfold State.orderRefused; (repeat' split) <;> simp +contextual (maxDischargeDepth := 40) [h]

@[simp] theorem State.enterBook_formed (k : OrderKind) (c : CellRead) (s : State) (h : s.formed = true) :
    (State.enterBook k c s).formed = true := by
  unfold State.enterBook; (repeat' split) <;> simp +contextual (maxDischargeDepth := 40) [h]

@[simp] theorem State.cutOutFirst_formed (f n : Nat) (s : State) (h : s.formed = true) :
    (State.cutOutFirst f n s).formed = true := by
  unfold State.cutOutFirst; (repeat' split) <;> simp +contextual (maxDischargeDepth := 40) [h]

@[simp] theorem State.orderCutOut_formed (c : CellRead) (s : State) (h : s.formed = true) :
    (State.orderCutOut c s).formed = true := by
  unfold State.orderCutOut; dsimp only; (repeat' split) <;> simp +contextual (maxDischargeDepth := 40) [h]

@[simp] theorem State.uncut_formed (f n : Nat) (s : State) (h : s.formed = true) :
    (State.uncut f n s).formed = true := by
  unfold State.uncut; (repeat' split) <;> simp +contextual (maxDischargeDepth := 40) [h]

@[simp] theorem State.orderClearCutout_formed (c : CellRead) (s : State) (h : s.formed = true) :
    (State.orderClearCutout c s).formed = true := by
  unfold State.orderClearCutout; (repeat' split) <;> simp +contextual (maxDischargeDepth := 40) [h]

@[simp] theorem State.orderClearSlip_formed (c : CellRead) (s : State) (h : s.formed = true) :
    (State.orderClearSlip c s).formed = true := by
  unfold State.orderClearSlip; (repeat' split) <;> simp +contextual (maxDischargeDepth := 40) [h]

@[simp] theorem State.checkSpindle_formed (f n : Nat) (s : State) (h : s.formed = true) :
    (State.checkSpindle f n s).formed = true := by
  unfold State.checkSpindle; dsimp only; (repeat' split) <;> simp +contextual (maxDischargeDepth := 40) [h]

@[simp] theorem State.orderSelfCheck_formed (c : CellRead) (s : State) (h : s.formed = true) :
    (State.orderSelfCheck c s).formed = true := by
  unfold State.orderSelfCheck; (repeat' split) <;> simp +contextual (maxDischargeDepth := 40) [h]

@[simp] theorem State.orderTableRead_formed (c : CellRead) (s : State) (h : s.formed = true) :
    (State.orderTableRead c s).formed = true := by
  unfold State.orderTableRead; (repeat' split) <;> simp +contextual (maxDischargeDepth := 40) [h]

@[simp] theorem State.placeOnSide_formed (c : CellRead) (p d : Nat) (s : State) (h : s.formed = true) :
    (State.placeOnSide c p d s).formed = true := by
  unfold State.placeOnSide; (repeat' split) <;> simp +contextual (maxDischargeDepth := 40) [h]

@[simp] theorem State.placeInBay_formed (c : CellRead) (p : Nat) (s : State) (h : s.formed = true) :
    (State.placeInBay c p s).formed = true := by
  unfold State.placeInBay; dsimp only; (repeat' split) <;> simp +contextual (maxDischargeDepth := 40) [h]

@[simp] theorem State.placeInPool_formed (c : CellRead) (p : Nat) (s : State) (h : s.formed = true) :
    (State.placeInPool c p s).formed = true := by
  unfold State.placeInPool; (repeat' split) <;> simp +contextual (maxDischargeDepth := 40) [h]

@[simp] theorem State.orderPiecerPlace_formed (c : CellRead) (s : State) (h : s.formed = true) :
    (State.orderPiecerPlace c s).formed = true := by
  unfold State.orderPiecerPlace; dsimp only; (repeat' split) <;> simp +contextual (maxDischargeDepth := 40) [h]

@[simp] theorem State.orderDoffNow_formed (c : CellRead) (s : State) (h : s.formed = true) :
    (State.orderDoffNow c s).formed = true := by
  unfold State.orderDoffNow; dsimp only; (repeat' split) <;> simp +contextual (maxDischargeDepth := 40) [h]

@[simp] theorem State.orderFrameStop_formed (c : CellRead) (s : State) (h : s.formed = true) :
    (State.orderFrameStop c s).formed = true := by
  unfold State.orderFrameStop; dsimp only; (repeat' split) <;> simp +contextual (maxDischargeDepth := 40) [h]

@[simp] theorem State.orderFrameStart_formed (c : CellRead) (s : State) (h : s.formed = true) :
    (State.orderFrameStart c s).formed = true := by
  unfold State.orderFrameStart; (repeat' split) <;> simp +contextual (maxDischargeDepth := 40) [h]

@[simp] theorem State.orderCreelChange_formed (c : CellRead) (s : State) (h : s.formed = true) :
    (State.orderCreelChange c s).formed = true := by
  unfold State.orderCreelChange; dsimp only
  have hr : (s.enterBook .creelChange c).queueRoom = s.queueRoom := rfl
  (repeat' split) <;> first | (simp +contextual (maxDischargeDepth := 40) [h]; done) | skip
  all_goals
    refine State.setCreel_formed _ _ _ (State.queueByStamp_formed _ _ _ (State.enterBook_formed _ c s h) ?_)
    rw [hr]
    simp_all

@[simp] theorem State.orderShiftClose_formed (c : CellRead) (s : State) (h : s.formed = true) :
    (State.orderShiftClose c s).formed = true := by
  unfold State.orderShiftClose; (repeat' split) <;> simp +contextual (maxDischargeDepth := 40) [h]

@[simp] theorem State.decideSwitch_formed (c : CellRead) (copy : PlanCopy) (l : List Word) (s : State) (h : s.formed = true) :
    (State.decideSwitch c copy l s).formed = true := by
  unfold State.decideSwitch; (repeat' split) <;> simp +contextual (maxDischargeDepth := 40) [h]

@[simp] theorem State.withdrawDoff_formed (f : Nat) (s : State) (h : s.formed = true) :
    (State.withdrawDoff f s).formed = true := by
  unfold State.withdrawDoff; (repeat' split) <;> simp +contextual (maxDischargeDepth := 40) [h]

@[simp] theorem State.withdrawCreel_formed (k : Nat) (s : State) (h : s.formed = true) :
    (State.withdrawCreel k s).formed = true := by
  unfold State.withdrawCreel; (repeat' split) <;> simp +contextual (maxDischargeDepth := 40) [h]

@[simp] theorem State.withdrawPlace_formed (p : Nat) (s : State) (h : s.formed = true) :
    (State.withdrawPlace p s).formed = true := by
  unfold State.withdrawPlace; (repeat' split) <;> simp +contextual (maxDischargeDepth := 40) [h]

@[simp] theorem State.withdrawEffect_formed (b : BookEntry) (s : State) (h : s.formed = true) :
    (State.withdrawEffect b s).formed = true := by
  unfold State.withdrawEffect; (repeat' split) <;> simp +contextual (maxDischargeDepth := 40) [h]

@[simp] theorem State.undefer_formed (cell : Nat) (s : State) (h : s.formed = true) :
    (State.undefer cell s).formed = true := by
  unfold State.undefer; (repeat' split) <;> simp +contextual (maxDischargeDepth := 40) [h]

@[simp] theorem State.orderWithdraw_formed (c : CellRead) (s : State) (h : s.formed = true) :
    (State.orderWithdraw c s).formed = true := by
  unfold State.orderWithdraw; (repeat' split) <;> simp +contextual (maxDischargeDepth := 40) [h]

/-! ### Desk -/

@[simp] theorem State.beginScan_formed (s : State) (h : s.formed = true) :
    (State.beginScan s).formed = true := by
  unfold State.beginScan; (repeat' split) <;> simp +contextual (maxDischargeDepth := 40) [h]

@[simp] theorem State.endScan_formed (s : State) (h : s.formed = true) :
    (State.endScan s).formed = true := by
  unfold State.endScan; (repeat' split) <;> simp +contextual (maxDischargeDepth := 40) [h]

@[simp] theorem State.lookNow_formed (s : State) (h : s.formed = true) :
    (State.lookNow s).formed = true := by
  unfold State.lookNow; (repeat' split) <;> simp +contextual (maxDischargeDepth := 40) [h]

theorem State.freshCell_formed (c : CellRead) (s t : State) (h : s.formed = true) (ht : s.freshCell c = some t) :
    t.formed = true := by
  unfold State.freshCell at ht
  split at ht
  · cases ht; exact h
  · split at ht
    · cases ht; simp [h]
    · cases ht

@[simp] theorem skipUnknown_formed (n : Nat) (s : State) (h : s.formed = true) : (skipUnknown n s).formed = true := by
  induction n generalizing s with
  | zero => exact h
  | succ n ih =>
    unfold skipUnknown
    split
    · exact h
    · split
      · exact h
      · dsimp only
        split
        · exact ih _ (by simp [h])
        · next ht => exact ih _ (by simp [State.freshCell_formed _ _ _ (by simpa using h) ht])

@[simp] theorem State.goOnTaking_formed (s : State) (h : s.formed = true) : s.goOnTaking.formed = true := by
  unfold State.goOnTaking; dsimp only; split <;> simp [h]

@[simp] theorem State.dropTaken_formed (s : State) (h : s.formed = true) :
    (State.dropTaken s).formed = true := by
  unfold State.dropTaken; (repeat' split) <;> simp +contextual (maxDischargeDepth := 40) [h]

@[simp] theorem State.defer_formed (c : CellRead) (s : State) (h : s.formed = true) :
    (State.defer c s).formed = true := by
  unfold State.defer; (repeat' split) <;> simp +contextual (maxDischargeDepth := 40) [h]

theorem State.orderPlanSwitch_formed (c : CellRead) (s : State) (h : s.formed = true) :
    (s.orderPlanSwitch c).2.formed = true := by
  unfold State.orderPlanSwitch; (repeat' split) <;> simp [h]

@[simp] theorem State.handOrder_formed (k : OrderKind) (c : CellRead) (s : State) (h : s.formed = true) :
    (s.handOrder k c).formed = true := by
  unfold State.handOrder
  have hp := s.orderPlanSwitch_formed c h
  split
  all_goals first | (simp +contextual (maxDischargeDepth := 40) [h]; done) | skip
  split
  · next ht => rw [ht] at hp; simp +contextual (maxDischargeDepth := 40) [hp]
  · next ht => rw [ht] at hp; exact hp

@[simp] theorem State.takeCell_formed (k : OrderKind) (c : CellRead) (s : State) (h : s.formed = true) :
    (State.takeCell k c s).formed = true := by
  unfold State.takeCell
  split
  · simp +contextual (maxDischargeDepth := 40) [h]
  · next ht =>
    have hf := State.freshCell_formed c s _ h ht
    (repeat' split) <;> simp +contextual (maxDischargeDepth := 40) [hf]

@[simp] theorem State.takeOrder_formed (k : OrderKind) (ps : List Word) (s : State) (h : s.formed = true) :
    (State.takeOrder k ps s).formed = true := by
  unfold State.takeOrder; (repeat' split) <;> simp +contextual (maxDischargeDepth := 40) [h]

@[simp] theorem State.goTaking_formed (l : List CellRead) (s : State) (h : s.formed = true) :
    (State.goTaking l s).formed = true := by
  unfold State.goTaking; (repeat' split) <;> simp +contextual (maxDischargeDepth := 40) [h]

@[simp] theorem State.goCells_formed (left : List Nat) (again : Bool) (got : List CellRead) (s : State) (h : s.formed = true) :
    (State.goCells left again got s).formed = true := by
  unfold State.goCells; (repeat' split) <;> simp +contextual (maxDischargeDepth := 40) [h]

@[simp] theorem State.goStages_formed (left posted : List Nat) (s : State) (h : s.formed = true) :
    (State.goStages left posted s).formed = true := by
  unfold State.goStages; (repeat' split) <;> simp +contextual (maxDischargeDepth := 40) [h]

@[simp] theorem State.afterPages_formed (s : State) (h : s.formed = true) :
    (State.afterPages s).formed = true := by
  unfold State.afterPages; (repeat' split) <;> simp +contextual (maxDischargeDepth := 40) [h]

@[simp] theorem State.goPages_formed (left : List Nat) (s : State) (h : s.formed = true) :
    (State.goPages left s).formed = true := by
  unfold State.goPages; (repeat' split) <;> simp +contextual (maxDischargeDepth := 40) [h]

@[simp] theorem State.takeReadMark_formed (w : Word) (s : State) (h : s.formed = true) :
    (State.takeReadMark w s).formed = true := by
  unfold State.takeReadMark; (repeat' split) <;> simp +contextual (maxDischargeDepth := 40) [h]

@[simp] theorem State.unpost_formed (c : Nat) (s : State) (h : s.formed = true) :
    (State.unpost c s).formed = true := by
  unfold State.unpost; (repeat' split) <;> simp +contextual (maxDischargeDepth := 40) [h]

@[simp] theorem State.stageRead_formed (c : Nat) (left posted : List Nat) (w : Word) (s : State) (h : s.formed = true) :
    (State.stageRead c left posted w s).formed = true := by
  unfold State.stageRead; (repeat' split) <;> simp +contextual (maxDischargeDepth := 40) [h]

@[simp] theorem State.cellRead_formed (c : Nat) (left : List Nat) (again : Bool) (w : List Word) (got : List CellRead) (s : State) (h : s.formed = true) :
    (State.cellRead c left again w got s).formed = true := by
  unfold State.cellRead; (repeat' split) <;> simp +contextual (maxDischargeDepth := 40) [h]

@[simp] theorem State.cellWords_formed (c : Nat) (left : List Nat) (again : Bool) (w : List Word) (got : List CellRead) (s : State) (h : s.formed = true) :
    (State.cellWords c left again w got s).formed = true := by
  unfold State.cellWords; (repeat' split) <;> simp +contextual (maxDischargeDepth := 40) [h]

@[simp] theorem State.scanRead_formed (w : List Word) (s : State) (h : s.formed = true) :
    (State.scanRead w s).formed = true := by
  unfold State.scanRead; (repeat' split) <;> simp +contextual (maxDischargeDepth := 40) [h]

@[simp] theorem State.scanPage_formed (w : Word) (s : State) (h : s.formed = true) :
    (State.scanPage w s).formed = true := by
  unfold State.scanPage; (repeat' split) <;> simp +contextual (maxDischargeDepth := 40) [h]

@[simp] theorem State.switchRead_formed (c : CellRead) (r : PlanRead) (s : State) (h : s.formed = true) :
    (State.switchRead c r s).formed = true := by
  unfold State.switchRead; (repeat' split) <;> simp +contextual (maxDischargeDepth := 40) [h]

/-! ### Winding -/

@[simp] theorem State.giveUpTaking_formed (s : State) (h : s.formed = true) :
    (State.giveUpTaking s).formed = true := by
  unfold State.giveUpTaking; dsimp only; (repeat' split) <;> simp +contextual (maxDischargeDepth := 40) [h]

@[simp] theorem State.windDown_formed (s : State) (h : s.formed = true) :
    (State.windDown s).formed = true := by
  unfold State.windDown; (repeat' split) <;> simp +contextual (maxDischargeDepth := 40) [h]

@[simp] theorem State.endWrites_formed (s : State) (h : s.formed = true) :
    (State.endWrites s).formed = true := by
  unfold State.endWrites; (repeat' split) <;> simp +contextual (maxDischargeDepth := 40) [h]

@[simp] theorem State.dropCreelOrders_formed (s : State) (h : s.formed = true) :
    (State.dropCreelOrders s).formed = true := by
  unfold State.dropCreelOrders; simp +contextual (maxDischargeDepth := 40) [h]

@[simp] theorem State.beginEnd_formed (s : State) (h : s.formed = true) :
    (State.beginEnd s).formed = true := by
  unfold State.beginEnd; (repeat' split) <;> simp +contextual (maxDischargeDepth := 40) [h]

@[simp] theorem State.windTest_formed (s : State) (h : s.formed = true) :
    (State.windTest s).formed = true := by
  unfold State.windTest; (repeat' split) <;> simp +contextual (maxDischargeDepth := 40) [h]

@[simp] theorem State.halt_formed (s : State) (h : s.formed = true) :
    (State.halt s).formed = true := by
  unfold State.halt; (repeat' split) <;> simp +contextual (maxDischargeDepth := 40) [h]

@[simp] theorem State.endGoesOn_formed (s : State) (h : s.formed = true) :
    (State.endGoesOn s).formed = true := by
  unfold State.endGoesOn; (repeat' split) <;> simp +contextual (maxDischargeDepth := 40) [h]

/-! ### Start -/

@[simp] theorem State.enterStarting_formed (s : State) (h : s.formed = true) : s.enterStarting.formed = true := by
  unfold State.enterStarting
  refine State.requestRead_formed _ _ _ _ ?_
  have hl : tableWf Unit.reset s.link.units = true ∧ queuesInRoom s.link.units = true := by
    simp only [State.formed, Link.formed, Bool.and_eq_true] at h
    exact h.2
  have hk : tableWf Piecer.reset s.keptTokens = true := by
    unfold State.keptTokens
    suffices hl : ∀ (l : List Nat) (t : List (Nat × Piecer)), tableWf Piecer.reset t = true →
        tableWf Piecer.reset (l.foldl (fun t p => tput Piecer.reset t p
          { Piecer.reset with counter := (s.piecer p).counter, void := (s.piecer p).void }) t) = true from hl _ _ rfl
    intro l
    induction l with
    | nil => exact fun _ ht => ht
    | cons p r ih => exact fun _ ht => ih _ (tableWf_tput _ _ ht)
  simp [State.formed, Dispatcher.formed, hk, hl, endListsInRoom, State.reset, Watch.formed, RogueTable.formed,
    Roving.formed, Output.formed, Writer.formed, Link.formed]

@[simp] theorem State.failStart_formed (c : StartFault) (s : State) (h : s.formed = true) :
    (State.failStart c s).formed = true := by
  unfold State.failStart; (repeat' split) <;> simp +contextual (maxDischargeDepth := 40) [h]

@[simp] theorem State.headerFirst_formed (w : List Word) (s : State) (h : s.formed = true) :
    (State.headerFirst w s).formed = true := by
  unfold State.headerFirst; (repeat' split) <;> simp +contextual (maxDischargeDepth := 40) [h]

@[simp] theorem State.planInvalid_formed (x : PlanFault) (s : State) (h : s.formed = true) :
    (State.planInvalid x s).formed = true := by
  unfold State.planInvalid; (repeat' split) <;> simp +contextual (maxDischargeDepth := 40) [h]

@[simp] theorem State.headerRest_formed (w : List Word) (s : State) (h : s.formed = true) :
    (State.headerRest w s).formed = true := by
  unfold State.headerRest; dsimp only; (repeat' split) <;> simp +contextual (maxDischargeDepth := 40) [h]

@[simp] theorem State.headerRead_formed (offset : Nat) (w : List Word) (s : State) (h : s.formed = true) :
    (State.headerRead offset w s).formed = true := by
  unfold State.headerRead; (repeat' split) <;> simp +contextual (maxDischargeDepth := 40) [h]

@[simp] theorem State.beginCensus_formed (s : State) (h : s.formed = true) :
    (State.beginCensus s).formed = true := by
  simp only [State.formed, Bool.and_eq_true] at h ⊢
  exact ⟨h.1, rfl⟩

@[simp] theorem State.startPlanRead_formed (r : PlanRead) (s : State) (h : s.formed = true) :
    (State.startPlanRead r s).formed = true := by
  unfold State.startPlanRead; dsimp only; (repeat' split) <;> simp +contextual (maxDischargeDepth := 40) [h]

@[simp] theorem State.frameFromDrive_formed (c : Census) (f : Nat) (s : State) (h : s.formed = true) :
    (State.frameFromDrive c f s).formed = true := by
  unfold State.frameFromDrive; (repeat' split) <;> simp +contextual (maxDischargeDepth := 40) [h]

@[simp] theorem State.buildFrame_formed (c : Census) (f : Nat) (s : State) (h : s.formed = true) :
    (State.buildFrame c f s).formed = true := by
  unfold State.buildFrame; (repeat' split) <;> simp +contextual (maxDischargeDepth := 40) [h]

@[simp] theorem State.buildPiecer_formed (p : Nat) (s : State) (h : s.formed = true) :
    (State.buildPiecer p s).formed = true := by
  unfold State.buildPiecer; (repeat' split) <;> simp +contextual (maxDischargeDepth := 40) [h]

@[simp] theorem State.buildCarrier_formed (c : Nat) (s : State) (h : s.formed = true) :
    (State.buildCarrier c s).formed = true := by
  unfold State.buildCarrier; (repeat' split) <;> simp +contextual (maxDischargeDepth := 40) [h]

@[simp] theorem State.buildTables_formed (c : Census) (s : State) (h : s.formed = true) :
    (State.buildTables c s).formed = true := by
  unfold State.buildTables; (repeat' split) <;> simp +contextual (maxDischargeDepth := 40) [h]

@[simp] theorem State.startWrites_formed (s : State) (h : s.formed = true) :
    (State.startWrites s).formed = true := by
  unfold State.startWrites; (repeat' split) <;> simp +contextual (maxDischargeDepth := 40) [h]

@[simp] theorem State.startCell_formed (c : Nat) (w : Word) (s : State) (h : s.formed = true) :
    (State.startCell c w s).formed = true := by
  unfold State.startCell; (repeat' split) <;> simp +contextual (maxDischargeDepth := 40) [h]

@[simp] theorem State.startCellRead_formed (w : Word) (s : State) (h : s.formed = true) :
    (State.startCellRead w s).formed = true := by
  unfold State.startCellRead; (repeat' split) <;> simp +contextual (maxDischargeDepth := 40) [h]

@[simp] theorem State.startPages_formed (s : State) (h : s.formed = true) :
    (State.startPages s).formed = true := by
  unfold State.startPages; (repeat' split) <;> simp +contextual (maxDischargeDepth := 40) [h]

@[simp] theorem State.closeFound_formed (x : FoundPage) (s : State) (h : s.formed = true) :
    (State.closeFound x s).formed = true := by
  unfold State.closeFound; (repeat' split) <;> simp +contextual (maxDischargeDepth := 40) [h]

@[simp] theorem State.settlePages_formed (s : State) (h : s.formed = true) :
    (State.settlePages s).formed = true := by
  unfold State.settlePages; dsimp only; (repeat' split) <;> simp +contextual (maxDischargeDepth := 40) [h]

@[simp] theorem State.nextFound_formed (s : State) (h : s.formed = true) :
    (State.nextFound s).formed = true := by
  unfold State.nextFound; (repeat' split) <;> simp +contextual (maxDischargeDepth := 40) [h]

@[simp] theorem State.startPageRead_formed (offset : Nat) (w : List Word) (s : State) (h : s.formed = true) :
    (State.startPageRead offset w s).formed = true := by
  unfold State.startPageRead; (repeat' split) <;> simp +contextual (maxDischargeDepth := 40) [h]

@[simp] theorem State.startSweeping_formed (f : Nat) (s : State) (h : s.formed = true) :
    (State.startSweeping f s).formed = true := by
  unfold State.startSweeping; (repeat' split) <;> simp +contextual (maxDischargeDepth := 40) [h]

@[simp] theorem State.completeStart_formed (s : State) (h : s.formed = true) :
    (State.completeStart s).formed = true := by
  unfold State.completeStart; (repeat' split) <;> simp +contextual (maxDischargeDepth := 40) [h]

@[simp] theorem State.pagesWritten_formed (s : State) (h : s.formed = true) :
    (State.pagesWritten s).formed = true := by
  unfold State.pagesWritten; (repeat' split) <;> simp +contextual (maxDischargeDepth := 40) [h]

/-! ### Serve -/

@[simp] theorem State.beginResume_formed (s : State) (h : s.formed = true) :
    (State.beginResume s).formed = true := by
  unfold State.beginResume; (repeat' split) <;> simp +contextual (maxDischargeDepth := 40) [h]

@[simp] theorem State.queueHeld_formed (s : State) (h : s.formed = true) :
    (State.queueHeld s).formed = true := by
  unfold State.queueHeld; (repeat' split) <;> simp +contextual (maxDischargeDepth := 40) [h]

@[simp] theorem State.queueMark_formed (s : State) (h : s.formed = true) :
    (State.queueMark s).formed = true := by
  unfold State.queueMark; (repeat' split) <;> simp +contextual (maxDischargeDepth := 40) [h]

@[simp] theorem State.resumeCells_formed (s : State) (h : s.formed = true) :
    (State.resumeCells s).formed = true := by
  unfold State.resumeCells; (repeat' split) <;> simp +contextual (maxDischargeDepth := 40) [h]

@[simp] theorem State.resumeJournal_formed (s : State) (h : s.formed = true) :
    (State.resumeJournal s).formed = true := by
  unfold State.resumeJournal; (repeat' split) <;> simp +contextual (maxDischargeDepth := 40) [h]

@[simp] theorem State.resumeReturn_formed (s : State) (h : s.formed = true) :
    (State.resumeReturn s).formed = true := by
  unfold State.resumeReturn; (repeat' split) <;> simp +contextual (maxDischargeDepth := 40) [h]

@[simp] theorem State.markReached_formed (s : State) (h : s.formed = true) :
    (State.markReached s).formed = true := by
  unfold State.markReached; (repeat' split) <;> simp +contextual (maxDischargeDepth := 40) [h]

@[simp] theorem serveN_formed (n : Nat) (s : State) (h : s.formed = true) : (serveN n s).formed = true := by
  induction n generalizing s with
  | zero => exact h
  | succ n ih => unfold serveN; try dsimp only
                 (repeat' split) <;> simp +contextual (maxDischargeDepth := 40) [ih, h]

@[simp] theorem State.conclude_formed (s : State) (h : s.formed = true) :
    (State.conclude s).formed = true := by
  unfold State.conclude; (repeat' split) <;> simp +contextual (maxDischargeDepth := 40) [h]

/-! ### Link -/

@[simp] theorem State.openVisit_formed (a : Nat) (cmd : Option Cmd) (seq : Bool) (s : State) (h : s.formed = true) :
    (State.openVisit a cmd seq s).formed = true := by
  unfold State.openVisit; (repeat' split) <;> simp +contextual (maxDischargeDepth := 40) [h]

theorem Unit.sending_queue (c : Cmd) (u : Unit) : (u.sending c).queue = u.queue := by
  unfold Unit.sending; split <;> rfl

@[simp] theorem Unit.replied_room (cmd : Option Cmd) (r : Reply) (u : Unit) (h : u.queue.length ≤ Config.unitQueueRoom) :
    (u.replied cmd r).queue.length ≤ Config.unitQueueRoom := by
  unfold Unit.replied
  (repeat' split) <;> simp <;> omega

@[simp] theorem State.visitUnit_formed (a : Nat) (s : State) (h : s.formed = true) : (s.visitUnit a).formed = true := by
  unfold State.visitUnit; dsimp only; split <;> simp +contextual (maxDischargeDepth := 40) [h, Unit.sending_queue]

@[simp] theorem State.endCycle_formed (s : State) (h : s.formed = true) :
    (State.endCycle s).formed = true := by
  unfold State.endCycle; (repeat' split) <;> simp +contextual (maxDischargeDepth := 40) [h]

@[simp] theorem State.visitNext_formed (s : State) (h : s.formed = true) :
    (State.visitNext s).formed = true := by
  unfold State.visitNext; dsimp only; (repeat' split) <;> simp +contextual (maxDischargeDepth := 40) [h]

@[simp] theorem State.censusVisit_formed (c : Census) (s : State) (h : s.formed = true) :
    (State.censusVisit c s).formed = true := by
  unfold State.censusVisit; (repeat' split) <;> simp +contextual (maxDischargeDepth := 40) [h]

@[simp] theorem State.startVisit_formed (s : State) (h : s.formed = true) :
    (State.startVisit s).formed = true := by
  unfold State.startVisit; (repeat' split) <;> simp +contextual (maxDischargeDepth := 40) [h]

@[simp] theorem State.closeVisit_formed (a : Nat) (s : State) (h : s.formed = true) :
    (State.closeVisit a s).formed = true := by
  unfold State.closeVisit; (repeat' split) <;> simp +contextual (maxDischargeDepth := 40) [h]

@[simp] theorem State.endCensus_formed (c : Census) (s : State) (h : s.formed = true) :
    (State.endCensus c s).formed = true := by
  unfold State.endCensus; (repeat' split) <;> simp +contextual (maxDischargeDepth := 40) [h]

@[simp] theorem State.censusAbsent_formed (c : Census) (a : Nat) (s : State) (h : s.formed = true) :
    (State.censusAbsent c a s).formed = true := by
  unfold State.censusAbsent; (repeat' split) <;> simp +contextual (maxDischargeDepth := 40) [h]

@[simp] theorem State.censusNext_formed (c : Census) (s : State) (h : s.formed = true) :
    (State.censusNext c s).formed = true := by
  unfold State.censusNext; (repeat' split) <;> simp +contextual (maxDischargeDepth := 40) [h]

@[simp] theorem State.cycleMiss_formed (a : Nat) (m : Miss) (s : State) (h : s.formed = true) :
    (State.cycleMiss a m s).formed = true := by
  unfold State.cycleMiss; (repeat' split) <;> simp +contextual (maxDischargeDepth := 40) [h]

@[simp] theorem State.missVisit_formed (v : Visit) (m : Miss) (s : State) (h : s.formed = true) :
    (State.missVisit v m s).formed = true := by
  unfold State.missVisit; dsimp only; (repeat' split) <;> simp +contextual (maxDischargeDepth := 40) [h]

@[simp] theorem State.giveReport_formed (a : Nat) (r : Report) (s : State) (h : s.formed = true) :
    (State.giveReport a r s).formed = true := by
  unfold State.giveReport; (repeat' split) <;> simp +contextual (maxDischargeDepth := 40) [h]

@[simp] theorem State.ownerBack_formed (a : Nat) (s : State) (h : s.formed = true) :
    (State.ownerBack a s).formed = true := by
  unfold State.ownerBack; (repeat' split) <;> simp +contextual (maxDischargeDepth := 40) [h]

@[simp] theorem State.newReport_formed (a : Nat) (r : Reply) (rep : Report) (s : State) (h : s.formed = true) :
    (State.newReport a r rep s).formed = true := by
  unfold State.newReport; (repeat' split) <;> simp +contextual (maxDischargeDepth := 40) [h]

@[simp] theorem State.presentReply_formed (v : Visit) (r : Reply) (rep : Option Report) (s : State) (h : s.formed = true) :
    (State.presentReply v r rep s).formed = true := by
  unfold State.presentReply; (repeat' split) <;> simp +contextual (maxDischargeDepth := 40) [h]

@[simp] theorem State.lostReply_formed (v : Visit) (r : Reply) (rep : Option Report) (s : State) (h : s.formed = true) :
    (State.lostReply v r rep s).formed = true := by
  unfold State.lostReply; (repeat' split) <;> simp +contextual (maxDischargeDepth := 40) [h]

@[simp] theorem State.censusReply_formed (c : Census) (v : Visit) (r : Reply) (rep : Option Report) (s : State) (h : s.formed = true) :
    (State.censusReply c v r rep s).formed = true := by
  unfold State.censusReply; (repeat' split) <;> simp +contextual (maxDischargeDepth := 40) [h]

@[simp] theorem State.validReply_formed (v : Visit) (r : Reply) (rep : Option Report) (s : State) (h : s.formed = true) :
    (State.validReply v r rep s).formed = true := by
  unfold State.validReply; dsimp only; (repeat' split) <;> simp +contextual (maxDischargeDepth := 40) [h]

@[simp] theorem State.takeReport_formed (r : Reply) (rep : Report) (s : State) (h : s.formed = true) :
    (State.takeReport r rep s).formed = true := by
  unfold State.takeReport; (repeat' split) <;> simp +contextual (maxDischargeDepth := 40) [h]

@[simp] theorem State.takeNothing_formed (r : Reply) (s : State) (h : s.formed = true) :
    (State.takeNothing r s).formed = true := by
  unfold State.takeNothing; (repeat' split) <;> simp +contextual (maxDischargeDepth := 40) [h]

@[simp] theorem State.windowEnd_formed (s : State) (h : s.formed = true) :
    (State.windowEnd s).formed = true := by
  unfold State.windowEnd; (repeat' split) <;> simp +contextual (maxDischargeDepth := 40) [h]

@[simp] theorem State.badReply_formed (late : Bool) (m : List Byte) (s : State) (h : s.formed = true) :
    (State.badReply late m s).formed = true := by
  unfold State.badReply; (repeat' split) <;> simp +contextual (maxDischargeDepth := 40) [h]

@[simp] theorem State.idleEnd_formed (s : State) (h : s.formed = true) :
    (State.idleEnd s).formed = true := by
  unfold State.idleEnd; (repeat' split) <;> simp +contextual (maxDischargeDepth := 40) [h]

/-! ### Transfers -/

@[simp] theorem State.deskRead_formed (offset : Nat) (w : List Word) (s : State) (h : s.formed = true) :
    (State.deskRead offset w s).formed = true := by
  unfold State.deskRead; (repeat' split) <;> simp +contextual (maxDischargeDepth := 40) [h]

@[simp] theorem State.planRead_formed (w : List Word) (s : State) (h : s.formed = true) :
    (State.planRead w s).formed = true := by
  unfold State.planRead; (repeat' split) <;> simp +contextual (maxDischargeDepth := 40) [h]

@[simp] theorem State.pageRead_formed (offset : Nat) (w : List Word) (s : State) (h : s.formed = true) :
    (State.pageRead offset w s).formed = true := by
  unfold State.pageRead; (repeat' split) <;> simp +contextual (maxDischargeDepth := 40) [h]

@[simp] theorem State.transferEnded_formed (t : Transfer) (s : State) (h : s.formed = true) :
    (State.transferEnded t s).formed = true := by
  unfold State.transferEnded; (repeat' split) <;> simp +contextual (maxDischargeDepth := 40) [h]

@[simp] theorem State.beat_formed (t : Transfer) (s : State) (h : s.formed = true) :
    (State.beat t s).formed = true := by
  unfold State.beat; dsimp only; (repeat' split) <;> simp +contextual (maxDischargeDepth := 40) [h]

@[simp] theorem State.dropWrites_formed (s : State) (h : s.formed = true) :
    (State.dropWrites s).formed = true := h

@[simp] theorem State.holdBack_formed (s : State) (h : s.formed = true) :
    (State.holdBack s).formed = true := by
  unfold State.holdBack; dsimp only
  have hr := dropOldest_room (itemEntries s.writer.items ++ s.writer.pending).length { s.writer with
      pending := itemEntries s.writer.items ++ s.writer.pending
      queue := []
      current := none
      heldPages := itemPages s.writer.items ++ s.writer.heldPages
      heldDumps := itemDumps s.writer.items ++ s.writer.heldDumps } (Nat.le_add_left _ _)
  have hn := dropOldest_numbers (itemEntries s.writer.items ++ s.writer.pending).length { s.writer with
      pending := itemEntries s.writer.items ++ s.writer.pending
      queue := []
      current := none
      heldPages := itemPages s.writer.items ++ s.writer.heldPages
      heldDumps := itemDumps s.writer.items ++ s.writer.heldDumps }
  simp only [State.formed, Writer.formed, Bool.and_eq_true, decide_eq_true_eq] at h ⊢
  simp only [hn]
  exact ⟨⟨h.1.1, hr, h.1.2.2⟩, h.2⟩

@[simp] theorem State.deferSwitch_formed (s : State) (h : s.formed = true) :
    (State.deferSwitch s).formed = true := by
  unfold State.deferSwitch; (repeat' split) <;> simp +contextual (maxDischargeDepth := 40) [h]

@[simp] theorem State.dropScan_formed (s : State) (h : s.formed = true) :
    (State.dropScan s).formed = true := by
  unfold State.dropScan; (repeat' split) <;> simp +contextual (maxDischargeDepth := 40) [h]

@[simp] theorem State.stall_formed (s : State) (h : s.formed = true) :
    (State.stall s).formed = true := by
  unfold State.stall; (repeat' split) <;> simp +contextual (maxDischargeDepth := 40) [h]

@[simp] theorem State.memoryFault_formed (addr : Nat) (k : FaultKind) (s : State) (h : s.formed = true) :
    (State.memoryFault addr k s).formed = true := by
  unfold State.memoryFault; dsimp only; (repeat' split) <;> simp +contextual (maxDischargeDepth := 40) [h]

/-! ### Ticking -/

@[simp] theorem State.tickClock_formed (s : State) (h : s.formed = true) :
    (State.tickClock s).formed = true := by
  unfold State.tickClock; (repeat' split) <;> simp +contextual (maxDischargeDepth := 40) [h]

theorem tableWf_mapTable {α : Type} [DecidableEq α] {d : α} (g : α → α) (hg : ∀ x, g x = d → x = d)
    (t : List (Nat × α)) (h : tableWf d t = true) : tableWf d (mapTable g t) = true := by
  induction t with
  | nil => rfl
  | cons e r ih =>
    obtain ⟨k, v⟩ := e
    have h := tableWf_cons.mp h
    refine tableWf_cons.mpr ⟨fun he => h.1 (hg v he), ?_, ih h.2.2⟩
    cases r with
    | nil => trivial
    | cons e r => exact h.2.1

/-- A timer that a tick leaves off was off. -/
theorem Timer.tick_off (t : Timer) (h : t.tick = Timer.off) : t = Timer.off := by
  unfold Timer.tick at h
  split at h
  · next hr =>
    have := congrArg Timer.running h
    simp [hr, Timer.off] at this
  · exact h

@[simp] theorem State.tickTimers_formed (s : State) (h : s.formed = true) :
    (State.tickTimers s).formed = true := by
  have h1 := tableWf_mapTable (d := Sweep.reset) Sweep.tick (fun x hx => by
    obtain ⟨t, p, l⟩ := x
    simp only [Sweep.tick, Sweep.reset, Sweep.mk.injEq] at hx ⊢
    exact ⟨Timer.tick_off _ hx.1, hx.2⟩) s.watch.sweeps
  have h2 := tableWf_mapTable (d := Piecer.reset) Piecer.tick (fun x hx => by
    cases x
    simp only [Piecer.tick, Piecer.reset, Piecer.mk.injEq] at hx ⊢
    grind [Timer.tick_off]) s.disp.piecers
  have h3 := tableWf_mapTable (d := Frame.reset) Frame.tick (fun x hx => by
    cases x
    simp only [Frame.tick, Frame.reset, Frame.mk.injEq] at hx ⊢
    grind [Timer.tick_off]) s.frames
  have h4 := tableWf_mapTable (d := Carrier.reset) Carrier.tick (fun x hx => by
    cases x
    simp only [Carrier.tick, Carrier.reset, Carrier.mk.injEq] at hx ⊢
    grind [Timer.tick_off]) s.roving.carriers
  unfold State.tickTimers
  simp only [State.formed, Watch.formed, Dispatcher.formed, Roving.formed, Output.formed, Writer.formed, Link.formed,
    Bool.and_eq_true] at h ⊢
  simp_all

@[simp] theorem State.tick_formed (s : State) (h : s.formed = true) :
    (State.tick s).formed = true := by
  unfold State.tick; (repeat' split) <;> simp +contextual (maxDischargeDepth := 40) [h]

end Sys2Proof.Machine
end

