-- ==== Sys2Proof/Laws/Keeps.lean ====
section
/-! SUPPORT. The registers stay in agreement with the part state through the operations that move the part from state to
state. -/

namespace Sys2Proof.Machine

/-- The registers agree with the part state, and a census is made at its step of STARTING only. -/
def Fixed.legal (f : Fixed) : Bool := f.regs.legal && (!f.census || f.regs.start == some .census)

/-- What every operation of the part keeps. -/
def Keeps (s t : State) : Prop := s.fixed.legal = true → t.fixed.legal = true

theorem Keeps.refl (s : State) : Keeps s s := id

theorem Keeps.trans {s t u : State} (h : Keeps s t) (g : Keeps t u) : Keeps s u := fun l => g (h l)

theorem Keeps.of_fixed {s t : State} (h : t.fixed = s.fixed) : Keeps s t := fun l => by rw [h]; exact l

/-- Work of the blocks after the operation. -/
theorem Keeps.then_fixed {s t u : State} (h : Keeps s t) (g : u.fixed = t.fixed) : Keeps s u := h.trans (.of_fixed g)

/-- Work of the blocks before the operation. -/
theorem Keeps.after_fixed {s t u : State} (g : t.fixed = s.fixed) (h : Keeps t u) : Keeps s u := (Keeps.of_fixed g).trans h

theorem State.fixed_legal (s : State) :
    s.fixed.legal = (s.regs.legal && (!s.link.mode.isCensus || s.regs.start == some .census)) := by
  unfold Fixed.legal State.fixed Regs.still Regs.legal; rfl

theorem State.part_of_fixed {s t : State} (h : t.fixed = s.fixed) : t.regs.part = s.regs.part :=
  congrArg (fun f => f.regs.part) h

theorem State.resume_of_fixed {s t : State} (h : t.fixed = s.fixed) : t.regs.resume = s.regs.resume :=
  congrArg (fun f => f.regs.resume) h

theorem State.start_of_fixed {s t : State} (h : t.fixed = s.fixed) : t.regs.start = s.regs.start :=
  congrArg (fun f => f.regs.start) h

theorem State.run_of_fixed {s t : State} (h : t.fixed = s.fixed) : t.regs.run = s.regs.run :=
  congrArg (fun f => f.regs.run) h

/-! ### Winding down -/

theorem State.endWrites_keeps (s : State) (h : s.winding = true) : Keeps s s.endWrites := by
  refine Keeps.then_fixed (t := { s with regs.ending := some .writing }) (fun l => ?_) (State.flushJournal_fixed _)
  rw [State.fixed_legal] at l ⊢
  unfold State.winding at h
  unfold Regs.legal at l ⊢
  rcases s with ⟨⟨area, run, part, resume, sf, att, atm, flt, start, rw, ending⟩, _⟩
  cases part <;> simp_all <;> grind

theorem State.winding_of_part {s : State} (h : s.regs.part = .windingDown) : s.winding = true := by
  simp [State.winding, h]

theorem State.beginEnd_keeps (s : State) (h : s.regs.part = .windingDown) : Keeps s s.beginEnd := by
  unfold State.beginEnd
  dsimp only
  refine Keeps.after_fixed (t := _) ?_ (State.endWrites_keeps _ (State.winding_of_part ?_))
  · simp
  · refine (State.part_of_fixed (s := s) ?_).trans h
    simp

/-- The end test of winding down. -/
theorem State.windTest_keeps (s : State) : Keeps s s.windTest := by
  unfold State.windTest
  split
  · next h => exact State.beginEnd_keeps s h.1
  · exact .refl s

/-- A part that is winding down, or whose start has failed, halts. -/
theorem State.halt_keeps (s : State) (h : s.regs.run = false) : Keeps s s.halt := by
  refine fun _ => ?_
  rw [State.fixed_legal]
  simp [State.halt, Regs.legal, LinkMode.isCensus, h]

theorem State.failStart_keeps (c : StartFault) (s : State) : Keeps s (s.failStart c) := by
  unfold State.failStart
  refine Keeps.then_fixed (t := { s.halt with regs.run := false, regs.startFault := c }) (fun _ => ?_) (State.raise_fixed _ _)
  rw [State.fixed_legal]
  simp [State.halt, Regs.legal, LinkMode.isCensus]

theorem State.endGoesOn_keeps (s : State) (h : s.regs.part = .windingDown) : Keeps s s.endGoesOn := by
  unfold State.endGoesOn
  split
  · refine Keeps.then_fixed (t := { s with regs.ending := some .lostWord }) (fun l => ?_) (by simp; rfl)
    rw [State.fixed_legal] at l ⊢
    unfold Regs.legal at l ⊢
    simp_all <;> grind
  · refine fun l => ?_
    rw [State.fixed_legal] at l ⊢
    unfold Regs.legal at l
    simp_all [State.halt, Regs.legal, LinkMode.isCensus]
  · exact .refl s

/-! ### The start -/

/-- A step of STARTING with no census under way. -/
def State.stepping (s : State) : Prop :=
  s.regs.start.isSome = true ∧ (s.link.mode.isCensus = true → s.regs.start ≠ some .census)

/-- A step of the start follows another. -/
theorem Keeps.start {s : State} (n : StartStep) (h : s.stepping) :
    Keeps s { s with regs.start := some n } := by
  refine fun l => ?_
  rw [State.fixed_legal] at l ⊢
  unfold Regs.legal at l ⊢
  obtain ⟨h1, h2⟩ := h
  rcases s with ⟨⟨area, run, part, resume, sf, att, atm, flt, start, rw, ending⟩, _⟩
  cases part <;> simp_all <;> grind

theorem State.headerFirst_keeps (w : List Word) (s : State) : Keeps s (s.headerFirst w) := by
  unfold State.headerFirst
  (repeat' split) <;> first | exact State.failStart_keeps _ s | exact .of_fixed (by simp)

theorem State.planInvalid_keeps (x : PlanFault) (s : State) (h : s.stepping) :
    Keeps s (s.planInvalid x) :=
  (Keeps.start .planFault h).then_fixed (by simp [State.planInvalid]; rfl)

theorem State.headerRest_keeps (w : List Word) (s : State) (h : s.stepping) :
    Keeps s (s.headerRest w) := by
  unfold State.headerRest
  dsimp only
  have k : Keeps s { s with desk.lastTaken := w.getD 3 0#32, regs.start := some .plan } :=
    (Keeps.start .plan h).then_fixed rfl
  split
  · exact k.trans (State.planInvalid_keeps _ _ ⟨rfl, fun _ => by simp⟩)
  · exact k.then_fixed (by simp)

theorem State.headerRead_keeps (offset : Nat) (w : List Word) (s : State) (h : s.stepping) :
    Keeps s (s.headerRead offset w) := by
  unfold State.headerRead
  split
  · exact State.headerFirst_keeps w s
  · exact State.headerRest_keeps w s h

theorem State.beginCensus_keeps (s : State) (h : s.stepping) : Keeps s s.beginCensus := by
  refine fun l => ?_
  rw [State.fixed_legal] at l ⊢
  unfold State.beginCensus Regs.legal at *
  obtain ⟨h1, h2⟩ := h
  rcases s with ⟨⟨area, run, part, resume, sf, att, atm, flt, start, rw, ending⟩, _⟩
  cases part <;> simp_all <;> grind

theorem State.startPlanRead_keeps (r : PlanRead) (s : State) (h : s.stepping) :
    Keeps s (s.startPlanRead r) := by
  unfold State.startPlanRead
  dsimp only
  split
  · exact .of_fixed (by simp)
  · split
    · exact State.planInvalid_keeps _ s h
    · exact Keeps.after_fixed (by simp) (State.beginCensus_keeps _ h)

theorem State.startWrites_keeps (s : State) (h : s.stepping) : Keeps s s.startWrites := by
  unfold State.startWrites
  exact (Keeps.start .writes h).then_fixed (by simp; rfl)

theorem State.startPages_keeps (s : State) (h : s.stepping) : Keeps s s.startPages := by
  unfold State.startPages
  exact (Keeps.start .pages h).then_fixed (by simp; rfl)

theorem State.completeStart_keeps (s : State) (h : s.stepping) :
    Keeps s s.completeStart := by
  have k : Keeps s { s with regs.part := if s.regs.run then .running else .windingDown, regs.start := none } := by
    refine fun l => ?_
    rw [State.fixed_legal] at l ⊢
    unfold Regs.legal at l ⊢
    obtain ⟨h1, h2⟩ := h
    rcases s with ⟨⟨area, run, part, resume, sf, att, atm, flt, start, rw, ending⟩, _⟩
    cases part <;> cases run <;> simp_all <;> grind
  unfold State.completeStart
  dsimp only
  split
  · next hr => exact k.then_fixed (by simp [hr]; rfl)
  · next hr => exact k.then_fixed (by simp [hr]; rfl)

theorem State.pagesWritten_keeps (s : State) (h : s.stepping) : Keeps s s.pagesWritten := by
  unfold State.pagesWritten
  split
  · exact State.completeStart_keeps s h
  · split
    · exact .of_fixed rfl
    · exact State.failStart_keeps _ s

/-! ### RESUME -/

/-- A step of RESUME follows another. -/
theorem Keeps.rewriting {s : State} (n : Option ResumeStep) (h : s.regs.part = .stalled) :
    Keeps s { s with regs.rewriting := n } := by
  refine fun l => ?_
  rw [State.fixed_legal] at l ⊢
  unfold Regs.legal at l ⊢
  simp_all <;> grind

theorem State.beginResume_keeps (s : State) (h : s.regs.part = .stalled) : Keeps s s.beginResume :=
  (Keeps.rewriting (some .rewrite) h).then_fixed rfl

theorem State.resumeCells_keeps (s : State) (h : s.regs.part = .stalled) : Keeps s s.resumeCells :=
  (Keeps.rewriting (some .cells) h).then_fixed (by simp [State.resumeCells])

theorem State.resumeJournal_keeps (s : State) (h : s.regs.part = .stalled) : Keeps s s.resumeJournal :=
  (Keeps.rewriting (some .journal) h).then_fixed (by simp [State.resumeJournal])

/-- The registers of a part that returns from STALLED. -/
def State.returned (s : State) : State :=
  { s with regs.part := s.regs.resume.getD .running, regs.resume := none, regs.rewriting := none }

theorem State.returned_keeps (s : State) (h : s.regs.part = .stalled) : Keeps s s.returned := by
  refine fun l => ?_
  rw [State.fixed_legal] at l ⊢
  unfold State.returned Regs.legal at *
  rcases s with ⟨⟨area, run, part, resume, sf, att, atm, flt, start, rw, ending⟩, _⟩
  cases resume with
  | none => simp_all
  | some q => cases q <;> simp_all <;> grind

/-- The end of winding down is under way only in a part that winds down. -/
theorem State.returned_winding (s : State) (l : s.fixed.legal = true) (h : s.regs.part = .stalled)
    (he : s.regs.ending.isSome = true) : s.returned.winding = true := by
  rw [State.fixed_legal] at l
  unfold Regs.legal at l
  unfold State.returned State.winding
  rcases s with ⟨⟨area, run, part, resume, sf, att, atm, flt, start, rw, ending⟩, _⟩
  cases resume with
  | none => simp_all
  | some q => cases q <;> simp_all

theorem State.resumeReturn_keeps (s : State) (h : s.regs.part = .stalled) : Keeps s s.resumeReturn := by
  have k := State.returned_keeps s h
  unfold State.resumeReturn
  dsimp only
  generalize hu : State.queueHeld _ = u
  have hf : u.fixed = s.returned.fixed := by rw [← hu]; simp; rfl
  have he : u.regs.ending = s.regs.ending := congrArg (fun f => f.regs.ending) hf
  have hw : u.winding = s.returned.winding := by
    unfold State.winding; rw [State.part_of_fixed hf, State.resume_of_fixed hf]
  split
  · next hs =>
    intro l
    have w := hw.trans (State.returned_winding s l h (by rw [← he]; exact hs))
    exact State.endWrites_keeps u w (by rw [hf]; exact k l)
  · exact k.then_fixed hf

/-! ### Serving the write queue -/

/-- In STARTING a step of the start stands, in a RESUME the part is STALLED. -/
theorem Regs.legal_rewriting {r : Regs} (l : r.legal = true) (h : r.rewriting.isSome = true) : r.part = .stalled := by
  unfold Regs.legal at l
  rcases r with ⟨area, run, part, resume, sf, att, atm, flt, start, rw, ending⟩
  cases part <;> simp_all <;> grind

theorem State.stepping_of_start {s : State} {x : StartStep} (h : s.regs.start = some x) (hx : x ≠ .census) : s.stepping :=
  ⟨by simp [h], fun _ => by simp [h, hx]⟩

theorem State.markReached_keeps (s : State) : Keeps s s.markReached := by
  intro l
  have lr : s.regs.legal = true := by rw [State.fixed_legal] at l; simp_all
  unfold State.markReached
  split
  · exact State.failStart_keeps _ s l
  · next h => exact State.startPages_keeps s (State.stepping_of_start h (by decide)) l
  · next h => exact State.pagesWritten_keeps s (State.stepping_of_start h (by decide)) l
  · exact l
  · exact l
  · exact l
  · next h =>
    have hp := Regs.legal_rewriting lr (by simp [h])
    exact (Keeps.of_fixed (State.shiftTest_fixed s)).trans
      (State.resumeCells_keeps _ ((State.part_of_fixed (State.shiftTest_fixed s)).trans hp)) l
  · next h =>
    have hp := Regs.legal_rewriting lr (by simp [h])
    split
    · exact State.resumeJournal_keeps s hp l
    · exact State.resumeCells_keeps s hp l
  · next h => exact State.resumeReturn_keeps s (Regs.legal_rewriting lr (by simp [h])) l
  · exact l

theorem serveN_keeps (n : Nat) (s : State) : Keeps s (serveN n s) := by
  induction n generalizing s with
  | zero => exact .refl s
  | succ n ih =>
    unfold serveN
    split
    · split
      · split
        · next h =>
          exact (State.endGoesOn_keeps s (by simp_all)).trans (ih _)
        · exact .refl s
      · dsimp only
        split
        · refine Keeps.trans ?_ (ih _)
          refine Keeps.trans ?_ (State.windTest_keeps _)
          refine Keeps.then_fixed ?_ (State.settle_fixed _)
          exact fun l => State.markReached_keeps _ l
        · exact Keeps.trans (.of_fixed (by simp)) (ih _)
    · exact .refl s

/-- What every event ends with. -/
theorem State.conclude_keeps (s : State) : Keeps s s.conclude :=
  (Keeps.after_fixed (State.settle_fixed s) (State.windTest_keeps _)).trans (serveN_keeps _ _)

/-! ### The link -/

theorem State.endCensus_keeps (c : Census) (s : State) (h : s.regs.start = some .census) : Keeps s (s.endCensus c) := by
  intro l
  rw [State.fixed_legal] at l
  unfold State.endCensus
  generalize hu : State.buildTables c _ = u
  have hf : u.fixed = { s with link.mode := .cycling : State }.fixed := by rw [← hu]; simp; rfl
  have hs := State.start_of_fixed hf
  have hm : u.link.mode.isCensus = false := congrArg Fixed.census hf
  refine State.startWrites_keeps u ⟨by rw [hs, h]; rfl, fun k => ?_⟩ ?_
  · rw [hm] at k; cases k
  · rw [hf, State.fixed_legal]
    simp_all [LinkMode.isCensus]

theorem State.censusNext_keeps (c : Census) (s : State) (h : s.link.mode.isCensus = true) : Keeps s (s.censusNext c) := by
  intro l
  have hl := l
  rw [State.fixed_legal] at hl
  have hs : s.regs.start = some .census := by simp_all
  have hf := State.censusAbsent_fixed c c.next s
  unfold State.censusNext
  dsimp only
  generalize State.censusAbsent c c.next s = u at *
  have hu := State.start_of_fixed hf
  rw [← hf] at l
  have lu := l
  rw [State.fixed_legal] at lu
  split
  · rw [State.fixed_legal]; simp_all
  · split
    · rw [State.fixed_legal]; simp_all
    · exact State.endCensus_keeps c u (hu.trans hs) l

theorem State.census_of_fixed {s t : State} (h : t.fixed = s.fixed) : t.link.mode.isCensus = s.link.mode.isCensus :=
  congrArg Fixed.census h

theorem State.missVisit_keeps (v : Visit) (m : Miss) (s : State) : Keeps s (s.missVisit v m) := by
  unfold State.missVisit
  dsimp only
  refine Keeps.after_fixed (State.closeVisit_fixed v.addr s) ?_
  generalize State.closeVisit v.addr s = u
  split
  · exact .refl u
  · next h =>
    refine Keeps.after_fixed (State.cycleMiss_fixed v.addr m u) (State.censusNext_keeps _ _ ?_)
    rw [State.census_of_fixed (State.cycleMiss_fixed v.addr m u), h]; rfl
  · exact .of_fixed (by simp)

theorem State.censusReply_keeps (c : Census) (v : Visit) (r : Reply) (rep : Option Report) (s : State)
    (h : s.link.mode.isCensus = true) : Keeps s (s.censusReply c v r rep) := by
  unfold State.censusReply
  dsimp only
  refine Keeps.after_fixed (State.setUnit_fixed v.addr _ s) (State.censusNext_keeps _ _ ?_)
  rw [State.census_of_fixed (State.setUnit_fixed v.addr _ s)]
  exact h

theorem State.validReply_keeps (v : Visit) (r : Reply) (rep : Option Report) (s : State) :
    Keeps s (s.validReply v r rep) := by
  unfold State.validReply
  dsimp only
  refine Keeps.after_fixed (State.closeVisit_fixed v.addr s) ?_
  generalize State.closeVisit v.addr s = u
  split
  · exact .refl u
  · next h => exact State.censusReply_keeps _ v r rep u (by rw [h]; rfl)
  · split <;> exact .of_fixed (by simp)

theorem State.takeReport_keeps (r : Reply) (rep : Report) (s : State) : Keeps s (s.takeReport r rep) := by
  unfold State.takeReport
  (repeat' split) <;> first | exact .refl s | exact State.missVisit_keeps _ _ s | exact State.validReply_keeps _ _ _ s

theorem State.takeNothing_keeps (r : Reply) (s : State) : Keeps s (s.takeNothing r) := by
  unfold State.takeNothing
  split <;> first | exact .refl s | exact State.validReply_keeps _ _ _ s

theorem State.windowEnd_keeps (s : State) : Keeps s s.windowEnd := by
  unfold State.windowEnd
  (repeat' split) <;> first | exact .refl s | exact State.missVisit_keeps _ _ s

theorem State.badReply_keeps (late : Bool) (m : List Byte) (s : State) : Keeps s (s.badReply late m) := by
  unfold State.badReply
  (repeat' split) <;> first | exact .refl s | exact State.missVisit_keeps _ _ s

/-! ### The end of a transfer, and the memory fault -/

theorem State.deskRead_keeps (offset : Nat) (w : List Word) (s : State) : Keeps s (s.deskRead offset w) := by
  unfold State.deskRead
  split
  · next h => exact State.headerRead_keeps offset w s (State.stepping_of_start h (by decide))
  all_goals first | exact .refl s | exact .of_fixed (by simp)

theorem State.planRead_keeps (w : List Word) (s : State) : Keeps s (s.planRead w) := by
  unfold State.planRead
  dsimp only
  split
  · exact .refl s
  · split
    · next h => exact State.startPlanRead_keeps _ s (State.stepping_of_start h (by decide))
    · split
      · exact .of_fixed (by simp)
      · exact .refl s

theorem State.pageRead_keeps (offset : Nat) (w : List Word) (s : State) : Keeps s (s.pageRead offset w) :=
  .of_fixed (by unfold State.pageRead; split <;> simp)

theorem State.transferEnded_keeps (t : Transfer) (s : State) : Keeps s (s.transferEnded t) := by
  unfold State.transferEnded
  dsimp only
  refine Keeps.after_fixed (t := { s with port := s.port.finish }) rfl ?_
  generalize ({ s with port := s.port.finish } : State) = u
  split
  · exact .of_fixed (by split <;> simp)
  · exact State.deskRead_keeps _ _ u
  · exact State.planRead_keeps _ u
  · exact State.pageRead_keeps _ _ u

theorem State.stall_keeps (s : State) (h : s.regs.part = .running ∨ s.regs.part = .windingDown) : Keeps s s.stall := by
  intro l
  have hf : s.dropScan.holdBack.fixed = s.fixed := by simp
  rw [← hf] at l
  unfold State.stall
  rw [State.fixed_legal] at l ⊢
  rw [← State.part_of_fixed hf] at h ⊢
  generalize s.dropScan.holdBack = u at *
  unfold Regs.legal at l ⊢
  rcases u with ⟨⟨area, run, part, resume, sf, att, atm, flt, start, rw, ending⟩, _⟩
  rcases h with h | h <;> simp_all <;> grind

theorem State.memoryFault_keeps (addr : Nat) (k : FaultKind) (s : State) : Keeps s (s.memoryFault addr k) := by
  unfold State.memoryFault
  dsimp only
  have hk : Keeps s (({ s with regs.flt := fltWord addr k, port := Port.idle } : State).raise .fault) := by
    refine Keeps.then_fixed (t := { s with regs.flt := fltWord addr k, port := Port.idle }) (fun l => ?_) (by simp)
    rw [State.fixed_legal] at l ⊢
    exact l
  refine hk.trans ?_
  generalize ({ s with regs.flt := fltWord addr k, port := Port.idle } : State).raise .fault = u
  split
  · next h => exact State.stall_keeps u (.inl h)
  · next h => exact State.stall_keeps u (.inr h)
  · exact Keeps.after_fixed (State.dropWrites_fixed u) (State.failStart_keeps _ _)
  · next h =>
    have hf : u.holdBack.fixed = u.fixed := by simp
    exact Keeps.after_fixed hf (Keeps.rewriting none ((State.part_of_fixed hf).trans h))
  · exact .of_fixed (State.dropWrites_fixed u)

end Sys2Proof.Machine
end

