-- ==== Sys2Proof/Laws/Commands.lean ====
section
/-! SUPPORT. What every command does: it answers a next state, keeps every table in canonical form and the lists of
State.formed within their rooms, keeps the registers in agreement with the part state, and leaves alone the memory, the clock, the commands
waiting, AREA, ATM, FLT and ATT's reserved bits, but for the few commands that write them. -/

namespace Sys2Proof.Machine

/-! ### The form of the records -/

theorem State.orderEvent_formed (k : OrderKind) (ps : List Word) (s : State) (h : s.formed = true) :
    (s.orderEvent k ps).formed = true := by
  unfold State.orderEvent; split
  · simp [h]
  · exact h

theorem State.clearFrameBits_formed (value : Word) (s : State)
    (h : s.formed = true) : (s.clearFrameBits value).formed = true := by
  unfold State.clearFrameBits
  exact State.each_formed _ _ (fun f t ht => by simp [ht]) s h

theorem State.reportEvent_formed (r : Reply) (rep : Report) (s : State) (h : s.formed = true) :
    (s.reportEvent r rep).formed = true := by
  unfold State.reportEvent; split
  · simp [h]
  · exact h

theorem execPowerOnReset_formed (s : State) :
    ∃ t, execPowerOnReset s = .next t ∧ t.formed = true := ⟨_, rfl, by show State.reset.formed = true; decide⟩

theorem execSrst_formed (s : State) :
    ∃ t, execSrst s = .next t ∧ t.formed = true := ⟨_, rfl, by show State.reset.formed = true; decide⟩

theorem execRunSet_formed (s : State) (h : s.formed = true) :
    ∃ t, execRunSet s = .next t ∧ t.formed = true := by
  unfold execRunSet
  (repeat' split) <;> exact ⟨_, rfl, by first | with_reducible exact h | simp (maxDischargeDepth := 40) [h]⟩

theorem execRunClear_formed (s : State) (h : s.formed = true) :
    ∃ t, execRunClear s = .next t ∧ t.formed = true := by
  unfold execRunClear
  (repeat' split) <;> exact ⟨_, rfl, by first | with_reducible exact h | simp (maxDischargeDepth := 40) [h]⟩

theorem execLook_formed (s : State) (h : s.formed = true) :
    ∃ t, execLook s = .next t ∧ t.formed = true := by
  unfold execLook
  (repeat' split) <;> exact ⟨_, rfl, by first | with_reducible exact h | simp (maxDischargeDepth := 40) [h]⟩

theorem execResume_formed (s : State) (h : s.formed = true) :
    ∃ t, execResume s = .next t ∧ t.formed = true := by
  unfold execResume
  (repeat' split) <;> exact ⟨_, rfl, by first | with_reducible exact h | simp (maxDischargeDepth := 40) [h]⟩

theorem execAttWrite_formed (value : Word) (s : State) (h : s.formed = true) :
    ∃ t, execAttWrite value s = .next t ∧ t.formed = true := by
  unfold execAttWrite
  (repeat' split) <;> exact ⟨_, rfl, by
    first | with_reducible exact h | simp (maxDischargeDepth := 40) [h, State.clearFrameBits_formed]⟩

theorem execRegisterWrite_formed (reg : HostRegister) (value : Word) (s : State) (h : s.formed = true) :
    ∃ t, execRegisterWrite reg value s = .next t ∧ t.formed = true := by
  unfold execRegisterWrite
  (repeat' split) <;> exact ⟨_, rfl, by first | with_reducible exact h | simp (maxDischargeDepth := 40) [h]⟩

theorem execSweepTimer_formed (frame : Nat) (s : State) (h : s.formed = true) :
    ∃ t, execSweepTimer frame s = .next t ∧ t.formed = true := by
  unfold execSweepTimer
  (repeat' split) <;> exact ⟨_, rfl, by first | with_reducible exact h | simp (maxDischargeDepth := 40) [h]⟩

theorem execStripRead_formed (frame : Nat) (reply : List Byte) (s : State) (h : s.formed = true) :
    ∃ t, execStripRead frame reply s = .next t ∧ t.formed = true := by
  unfold execStripRead
  (repeat' split) <;> exact ⟨_, rfl, by first | with_reducible exact h | simp (maxDischargeDepth := 40) [h]⟩

theorem execStripNoReply_formed (frame : Nat) (s : State) (h : s.formed = true) :
    ∃ t, execStripNoReply frame s = .next t ∧ t.formed = true := by
  unfold execStripNoReply
  (repeat' split) <;> exact ⟨_, rfl, by first | with_reducible exact h | simp (maxDischargeDepth := 40) [h]⟩

theorem execRollerPulse_formed (frame : Nat) (s : State) (h : s.formed = true) :
    ∃ t, execRollerPulse frame s = .next t ∧ t.formed = true := by
  unfold execRollerPulse
  (repeat' split) <;> exact ⟨_, rfl, by first | with_reducible exact h | simp (maxDischargeDepth := 40) [h]⟩

theorem execShiftTimer_formed (s : State) (h : s.formed = true) :
    ∃ t, execShiftTimer s = .next t ∧ t.formed = true := by
  unfold execShiftTimer
  (repeat' split) <;> exact ⟨_, rfl, by first | with_reducible exact h | simp (maxDischargeDepth := 40) [h]⟩

theorem execBoardScan_formed (s : State) (h : s.formed = true) :
    ∃ t, execBoardScan s = .next t ∧ t.formed = true := by
  unfold execBoardScan
  (repeat' split) <;> exact ⟨_, rfl, by first | with_reducible exact h | simp (maxDischargeDepth := 40) [h]⟩

theorem execCutOut_formed (frame spindle : Word) (s : State) (h : s.formed = true) :
    ∃ t, execCutOut frame spindle s = .next t ∧ t.formed = true := ⟨_, rfl, State.orderEvent_formed _ _ s h⟩

theorem execClearCutout_formed (frame first last : Word) (s : State) (h : s.formed = true) :
    ∃ t, execClearCutout frame first last s = .next t ∧ t.formed = true := ⟨_, rfl, State.orderEvent_formed _ _ s h⟩

theorem execClearSlip_formed (frame first last : Word) (s : State) (h : s.formed = true) :
    ∃ t, execClearSlip frame first last s = .next t ∧ t.formed = true := ⟨_, rfl, State.orderEvent_formed _ _ s h⟩

theorem execSelfCheck_formed (frame strip : Word) (s : State) (h : s.formed = true) :
    ∃ t, execSelfCheck frame strip s = .next t ∧ t.formed = true := ⟨_, rfl, State.orderEvent_formed _ _ s h⟩

theorem execTableRead_formed (s : State) (h : s.formed = true) :
    ∃ t, execTableRead s = .next t ∧ t.formed = true := ⟨_, rfl, State.orderEvent_formed _ _ s h⟩

theorem execPiecerPlace_formed (piecer target : Word) (s : State) (h : s.formed = true) :
    ∃ t, execPiecerPlace piecer target s = .next t ∧ t.formed = true := ⟨_, rfl, State.orderEvent_formed _ _ s h⟩

theorem execDoffNow_formed (frame : Word) (s : State) (h : s.formed = true) :
    ∃ t, execDoffNow frame s = .next t ∧ t.formed = true := ⟨_, rfl, State.orderEvent_formed _ _ s h⟩

theorem execFrameStop_formed (frame : Word) (s : State) (h : s.formed = true) :
    ∃ t, execFrameStop frame s = .next t ∧ t.formed = true := ⟨_, rfl, State.orderEvent_formed _ _ s h⟩

theorem execFrameStart_formed (frame : Word) (s : State) (h : s.formed = true) :
    ∃ t, execFrameStart frame s = .next t ∧ t.formed = true := ⟨_, rfl, State.orderEvent_formed _ _ s h⟩

theorem execCreelChange_formed (frame creel : Word) (s : State) (h : s.formed = true) :
    ∃ t, execCreelChange frame creel s = .next t ∧ t.formed = true := ⟨_, rfl, State.orderEvent_formed _ _ s h⟩

theorem execShiftClose_formed (s : State) (h : s.formed = true) :
    ∃ t, execShiftClose s = .next t ∧ t.formed = true := ⟨_, rfl, State.orderEvent_formed _ _ s h⟩

theorem execPlanSwitch_formed (copy mode : Word) (s : State) (h : s.formed = true) :
    ∃ t, execPlanSwitch copy mode s = .next t ∧ t.formed = true := ⟨_, rfl, State.orderEvent_formed _ _ s h⟩

theorem execWithdraw_formed (seq : Word) (s : State) (h : s.formed = true) :
    ∃ t, execWithdraw seq s = .next t ∧ t.formed = true := ⟨_, rfl, State.orderEvent_formed _ _ s h⟩

theorem execAttemptTimeout_formed (p : Nat) (s : State) (h : s.formed = true) :
    ∃ t, execAttemptTimeout p s = .next t ∧ t.formed = true := by
  unfold execAttemptTimeout
  (repeat' split) <;> exact ⟨_, rfl, by first | with_reducible exact h | simp (maxDischargeDepth := 40) [h]⟩

theorem execTravelTimeout_formed (p : Nat) (s : State) (h : s.formed = true) :
    ∃ t, execTravelTimeout p s = .next t ∧ t.formed = true := by
  unfold execTravelTimeout
  (repeat' split) <;> exact ⟨_, rfl, by first | with_reducible exact h | simp (maxDischargeDepth := 40) [h]⟩

theorem execReturnPlaceTimeout_formed (p : Nat) (s : State) (h : s.formed = true) :
    ∃ t, execReturnPlaceTimeout p s = .next t ∧ t.formed = true := by
  unfold execReturnPlaceTimeout
  (repeat' split) <;> exact ⟨_, rfl, by first | with_reducible exact h | simp (maxDischargeDepth := 40) [h]⟩

theorem execStopTimeout_formed (f : Nat) (s : State) (h : s.formed = true) :
    ∃ t, execStopTimeout f s = .next t ∧ t.formed = true := by
  unfold execStopTimeout
  (repeat' split) <;> exact ⟨_, rfl, by first | with_reducible exact h | simp (maxDischargeDepth := 40) [h]⟩

theorem execDoffTimeout_formed (f : Nat) (s : State) (h : s.formed = true) :
    ∃ t, execDoffTimeout f s = .next t ∧ t.formed = true := by
  unfold execDoffTimeout
  (repeat' split) <;> exact ⟨_, rfl, by first | with_reducible exact h | simp (maxDischargeDepth := 40) [h]⟩

theorem execChangeTimeout_formed (c : Nat) (s : State) (h : s.formed = true) :
    ∃ t, execChangeTimeout c s = .next t ∧ t.formed = true := by
  unfold execChangeTimeout
  (repeat' split) <;> exact ⟨_, rfl, by first | with_reducible exact h | simp (maxDischargeDepth := 40) [h]⟩

theorem execReturnTimeout_formed (c : Nat) (s : State) (h : s.formed = true) :
    ∃ t, execReturnTimeout c s = .next t ∧ t.formed = true := by
  unfold execReturnTimeout
  (repeat' split) <;> exact ⟨_, rfl, by first | with_reducible exact h | simp (maxDischargeDepth := 40) [h]⟩

theorem execVisitStart_formed (s : State) (h : s.formed = true) :
    ∃ t, execVisitStart s = .next t ∧ t.formed = true := by
  unfold execVisitStart
  (repeat' split) <;> exact ⟨_, rfl, by first | with_reducible exact h | simp (maxDischargeDepth := 40) [h]⟩

theorem execIdleCycle_formed (s : State) (h : s.formed = true) :
    ∃ t, execIdleCycle s = .next t ∧ t.formed = true := by
  unfold execIdleCycle
  (repeat' split) <;> exact ⟨_, rfl, by first | with_reducible exact h | simp (maxDischargeDepth := 40) [h]⟩

theorem execReplyWindowEnd_formed (s : State) (h : s.formed = true) :
    ∃ t, execReplyWindowEnd s = .next t ∧ t.formed = true := by
  unfold execReplyWindowEnd
  (repeat' split) <;> exact ⟨_, rfl, by first | with_reducible exact h | simp (maxDischargeDepth := 40) [h]⟩

theorem execBadReply_formed (late : Bool) (message : List Byte) (s : State) (h : s.formed = true) :
    ∃ t, execBadReply late message s = .next t ∧ t.formed = true := by
  unfold execBadReply
  (repeat' split) <;> exact ⟨_, rfl, by first | with_reducible exact h | simp (maxDischargeDepth := 40) [h]⟩

theorem execNothing_formed (reply : Reply) (s : State) (h : s.formed = true) :
    ∃ t, execNothing reply s = .next t ∧ t.formed = true := by
  unfold execNothing
  (repeat' split) <;> exact ⟨_, rfl, by first | with_reducible exact h | simp (maxDischargeDepth := 40) [h]⟩

theorem execState_formed (reply : Reply) (drive : DriveState) (metres : Word) (s : State) (h : s.formed = true) :
    ∃ t, execState reply drive metres s = .next t ∧ t.formed = true := ⟨_, rfl, State.reportEvent_formed _ _ s h⟩

theorem execAtDoffPosition_formed (reply : Reply) (s : State) (h : s.formed = true) :
    ∃ t, execAtDoffPosition reply s = .next t ∧ t.formed = true := ⟨_, rfl, State.reportEvent_formed _ _ s h⟩

theorem execDoffDone_formed (reply : Reply) (s : State) (h : s.formed = true) :
    ∃ t, execDoffDone reply s = .next t ∧ t.formed = true := ⟨_, rfl, State.reportEvent_formed _ _ s h⟩

theorem execDriveFault_formed (reply : Reply) (s : State) (h : s.formed = true) :
    ∃ t, execDriveFault reply s = .next t ∧ t.formed = true := ⟨_, rfl, State.reportEvent_formed _ _ s h⟩

theorem execAtSide_formed (reply : Reply) (side position : Nat) (s : State) (h : s.formed = true) :
    ∃ t, execAtSide reply side position s = .next t ∧ t.formed = true := ⟨_, rfl, State.reportEvent_formed _ _ s h⟩

theorem execStep_formed (reply : Reply) (token : Token) (stage : AttemptStep) (position : Nat) (s : State)
    (h : s.formed = true) :
    ∃ t, execStep reply token stage position s = .next t ∧ t.formed = true := ⟨_, rfl, State.reportEvent_formed _ _ s h⟩

theorem execResult_formed (reply : Reply) (token : Token) (outcome : Outcome) (s : State) (h : s.formed = true) :
    ∃ t, execResult reply token outcome s = .next t ∧ t.formed = true := ⟨_, rfl, State.reportEvent_formed _ _ s h⟩

theorem execHeld_formed (reply : Reply) (token : Token) (s : State) (h : s.formed = true) :
    ∃ t, execHeld reply token s = .next t ∧ t.formed = true := ⟨_, rfl, State.reportEvent_formed _ _ s h⟩

theorem execRefusedHold_formed (reply : Reply) (token : Token) (s : State) (h : s.formed = true) :
    ∃ t, execRefusedHold reply token s = .next t ∧ t.formed = true := ⟨_, rfl, State.reportEvent_formed _ _ s h⟩

theorem execParked_formed (reply : Reply) (s : State) (h : s.formed = true) :
    ∃ t, execParked reply s = .next t ∧ t.formed = true := ⟨_, rfl, State.reportEvent_formed _ _ s h⟩

theorem execFault_formed (reply : Reply) (s : State) (h : s.formed = true) :
    ∃ t, execFault reply s = .next t ∧ t.formed = true := ⟨_, rfl, State.reportEvent_formed _ _ s h⟩

theorem execLoaded_formed (reply : Reply) (lot : Token) (s : State) (h : s.formed = true) :
    ∃ t, execLoaded reply lot s = .next t ∧ t.formed = true := ⟨_, rfl, State.reportEvent_formed _ _ s h⟩

theorem execArrived_formed (reply : Reply) (s : State) (h : s.formed = true) :
    ∃ t, execArrived reply s = .next t ∧ t.formed = true := ⟨_, rfl, State.reportEvent_formed _ _ s h⟩

theorem execChangeDone_formed (reply : Reply) (s : State) (h : s.formed = true) :
    ∃ t, execChangeDone reply s = .next t ∧ t.formed = true := ⟨_, rfl, State.reportEvent_formed _ _ s h⟩

theorem execChangeFault_formed (reply : Reply) (s : State) (h : s.formed = true) :
    ∃ t, execChangeFault reply s = .next t ∧ t.formed = true := ⟨_, rfl, State.reportEvent_formed _ _ s h⟩

theorem execReturned_formed (reply : Reply) (s : State) (h : s.formed = true) :
    ∃ t, execReturned reply s = .next t ∧ t.formed = true := ⟨_, rfl, State.reportEvent_formed _ _ s h⟩

theorem execMemoryBeat_formed (host : List HostWrite) (s : State) (h : s.formed = true) :
    ∃ t, execMemoryBeat host s = .next t ∧ t.formed = true := by
  unfold execMemoryBeat
  (repeat' split) <;> exact ⟨_, rfl, by
    first | with_reducible exact h | simp (maxDischargeDepth := 40) [h, State.hostWrites]⟩

theorem execBusGrant_formed (s : State) (h : s.formed = true) :
    ∃ t, execBusGrant s = .next t ∧ t.formed = true := by
  unfold execBusGrant
  (repeat' split) <;> exact ⟨_, rfl, by first | with_reducible exact h | simp (maxDischargeDepth := 40) [h]⟩

theorem execBusYield_formed (host : List HostWrite) (s : State) (h : s.formed = true) :
    ∃ t, execBusYield host s = .next t ∧ t.formed = true := by
  unfold execBusYield
  (repeat' split) <;> exact ⟨_, rfl, by
    first | with_reducible exact h | simp (maxDischargeDepth := 40) [h, State.hostWrites, State.yieldBus]⟩

theorem execBeatError_formed (s : State) (h : s.formed = true) :
    ∃ t, execBeatError s = .next t ∧ t.formed = true := by
  unfold execBeatError
  (repeat' split) <;> exact ⟨_, rfl, by first | with_reducible exact h | simp (maxDischargeDepth := 40) [h]⟩

theorem execGrantTimeout_formed (s : State) (h : s.formed = true) :
    ∃ t, execGrantTimeout s = .next t ∧ t.formed = true := by
  unfold execGrantTimeout
  (repeat' split) <;> exact ⟨_, rfl, by first | with_reducible exact h | simp (maxDischargeDepth := 40) [h]⟩

/-! ### The part state -/

/-- Work of the blocks, and the end of the event. -/
theorem Keeps.concluded {s t : State} (h : Keeps s t) : Keeps s t.conclude := h.trans (State.conclude_keeps t)

theorem Keeps.worked {s t : State} (h : t.fixed = s.fixed) : Keeps s t.conclude := Keeps.concluded (.of_fixed h)

theorem State.orderEvent_keeps (k : OrderKind) (ps : List Word) (s : State) : Keeps s (s.orderEvent k ps) := by
  unfold State.orderEvent; split
  · exact .worked (by simp)
  · exact .refl s

theorem State.reportEvent_keeps (r : Reply) (rep : Report) (s : State) : Keeps s (s.reportEvent r rep) := by
  unfold State.reportEvent; split
  · exact (State.takeReport_keeps r rep s).concluded
  · exact .refl s

theorem State.orderEvent_base (k : OrderKind) (ps : List Word) (s : State) :
    (s.orderEvent k ps).fixed.base = s.fixed.base := by
  unfold State.orderEvent; split <;> simp

theorem State.reportEvent_base (r : Reply) (rep : Report) (s : State) :
    (s.reportEvent r rep).fixed.base = s.fixed.base := by
  unfold State.reportEvent; split <;> simp

/-- Registers written, the part state's own apart. -/
theorem Keeps.of_regs {s t : State} (h : t.regs.legal = s.regs.legal) (g : t.regs.start = s.regs.start)
    (c : t.link.mode.isCensus = s.link.mode.isCensus) : Keeps s t := by
  intro l; rw [State.fixed_legal] at l ⊢; rw [h, g, c]; exact l

theorem State.moveBeat_keeps (t : Transfer) (s : State) : Keeps s (s.moveBeat t) := by
  unfold State.moveBeat; dsimp only; split <;> exact .of_regs rfl rfl rfl

theorem State.beat_keeps (t : Transfer) (s : State) : Keeps s (s.beat t) := by
  have h := s.moveBeat_keeps t
  unfold State.beat; dsimp only
  (repeat' split) <;> first | with_reducible exact h | exact (h.trans (State.transferEnded_keeps _ _)).concluded

theorem State.enterStarting_keeps (s : State) : Keeps s s.enterStarting := by
  intro _; rw [State.fixed_legal]; rfl

theorem State.windDown_keeps {s t : State} (h : Keeps s t) : Keeps s t.windDown.conclude :=
  (h.then_fixed (State.windDown_fixed t)).concluded

theorem execPowerOnReset_keeps (s : State) : ∃ t, execPowerOnReset s = .next t ∧ Keeps s t :=
  ⟨_, rfl, fun _ => by rw [State.fixed_legal]; rfl⟩

theorem execSrst_keeps (s : State) : ∃ t, execSrst s = .next t ∧ Keeps s t :=
  ⟨_, rfl, fun _ => by rw [State.fixed_legal]; rfl⟩

theorem execRunSet_keeps (s : State) : ∃ t, execRunSet s = .next t ∧ Keeps s t := by
  unfold execRunSet
  split
  · exact ⟨_, rfl, State.enterStarting_keeps s⟩
  · next h =>
    refine ⟨_, rfl, fun l => ?_⟩
    rw [State.fixed_legal] at l ⊢
    simpa [Regs.legal, h] using l
  all_goals exact ⟨_, rfl, .refl s⟩

theorem execRunClear_keeps (s : State) : ∃ t, execRunClear s = .next t ∧ Keeps s t := by
  unfold execRunClear
  split
  · split
    · next h =>
      refine ⟨_, rfl, fun l => ?_⟩
      rw [State.fixed_legal] at l ⊢
      simpa [Regs.legal, h] using l
    · next h =>
      refine ⟨_, rfl, State.windDown_keeps fun l => ?_⟩
      rw [State.fixed_legal] at l ⊢
      simp [Regs.legal, h] at l ⊢
      grind
    · next h =>
      refine ⟨_, rfl, State.windDown_keeps fun l => ?_⟩
      rw [State.fixed_legal] at l ⊢
      simp [Regs.legal, h] at l ⊢
      grind
    all_goals exact ⟨_, rfl, .refl s⟩
  · exact ⟨_, rfl, .refl s⟩

theorem execLook_keeps (s : State) : ∃ t, execLook s = .next t ∧ Keeps s t := by
  unfold execLook
  (repeat' split) <;> refine ⟨_, rfl, ?_⟩ <;> first
    | with_reducible exact .refl s
    | (refine .of_fixed ?_; simp; done)

theorem execResume_keeps (s : State) : ∃ t, execResume s = .next t ∧ Keeps s t := by
  unfold execResume
  split
  · next h => exact ⟨_, rfl, (State.beginResume_keeps s h.1).concluded⟩
  · exact ⟨_, rfl, .refl s⟩

theorem execAttWrite_keeps (value : Word) (s : State) : ∃ t, execAttWrite value s = .next t ∧ Keeps s t := by
  refine ⟨_, rfl, Keeps.concluded (Keeps.then_fixed
    (t := { s with regs := { s.regs with att := s.regs.att &&& ~~~value } }) (.of_regs rfl rfl rfl) ?_)⟩
  unfold State.clearFrameBits
  simp

theorem execRegisterWrite_keeps (reg : HostRegister) (value : Word) (s : State) :
    ∃ t, execRegisterWrite reg value s = .next t ∧ Keeps s t := by
  unfold execRegisterWrite
  (repeat' split) <;> exact ⟨_, rfl, .of_regs rfl rfl rfl⟩

theorem execSweepTimer_keeps (frame : Nat) (s : State) : ∃ t, execSweepTimer frame s = .next t ∧ Keeps s t := by
  unfold execSweepTimer
  (repeat' split) <;> refine ⟨_, rfl, ?_⟩ <;> first
    | with_reducible exact .refl s
    | (refine .of_fixed ?_; simp; done)

theorem execStripRead_keeps (frame : Nat) (reply : List Byte) (s : State) :
    ∃ t, execStripRead frame reply s = .next t ∧ Keeps s t := by
  unfold execStripRead
  (repeat' split) <;> refine ⟨_, rfl, ?_⟩ <;> first
    | with_reducible exact .refl s
    | (refine .worked ?_; simp; done)

theorem execStripNoReply_keeps (frame : Nat) (s : State) : ∃ t, execStripNoReply frame s = .next t ∧ Keeps s t := by
  unfold execStripNoReply
  (repeat' split) <;> refine ⟨_, rfl, ?_⟩ <;> first
    | with_reducible exact .refl s
    | (refine .worked ?_; simp; done)

theorem execRollerPulse_keeps (frame : Nat) (s : State) : ∃ t, execRollerPulse frame s = .next t ∧ Keeps s t := by
  unfold execRollerPulse
  (repeat' split) <;> refine ⟨_, rfl, ?_⟩ <;> first
    | with_reducible exact .refl s
    | (refine .of_fixed ?_; simp; done)

theorem execShiftTimer_keeps (s : State) : ∃ t, execShiftTimer s = .next t ∧ Keeps s t := by
  unfold execShiftTimer
  (repeat' split) <;> refine ⟨_, rfl, ?_⟩ <;> first
    | with_reducible exact .refl s
    | (refine .worked ?_; simp; done)

theorem execBoardScan_keeps (s : State) : ∃ t, execBoardScan s = .next t ∧ Keeps s t := by
  unfold execBoardScan
  (repeat' split) <;> refine ⟨_, rfl, ?_⟩ <;> first
    | with_reducible exact .refl s
    | (refine .of_fixed ?_; simp; done)

theorem execCutOut_keeps (frame spindle : Word) (s : State) : ∃ t, execCutOut frame spindle s = .next t ∧ Keeps s t :=
  ⟨_, rfl, State.orderEvent_keeps _ _ s⟩

theorem execClearCutout_keeps (frame first last : Word) (s : State) :
    ∃ t, execClearCutout frame first last s = .next t ∧ Keeps s t :=
  ⟨_, rfl, State.orderEvent_keeps _ _ s⟩

theorem execClearSlip_keeps (frame first last : Word) (s : State) :
    ∃ t, execClearSlip frame first last s = .next t ∧ Keeps s t :=
  ⟨_, rfl, State.orderEvent_keeps _ _ s⟩

theorem execSelfCheck_keeps (frame strip : Word) (s : State) : ∃ t, execSelfCheck frame strip s = .next t ∧ Keeps s t :=
  ⟨_, rfl, State.orderEvent_keeps _ _ s⟩

theorem execTableRead_keeps (s : State) : ∃ t, execTableRead s = .next t ∧ Keeps s t :=
  ⟨_, rfl, State.orderEvent_keeps _ _ s⟩

theorem execPiecerPlace_keeps (piecer target : Word) (s : State) :
    ∃ t, execPiecerPlace piecer target s = .next t ∧ Keeps s t :=
  ⟨_, rfl, State.orderEvent_keeps _ _ s⟩

theorem execDoffNow_keeps (frame : Word) (s : State) : ∃ t, execDoffNow frame s = .next t ∧ Keeps s t :=
  ⟨_, rfl, State.orderEvent_keeps _ _ s⟩

theorem execFrameStop_keeps (frame : Word) (s : State) : ∃ t, execFrameStop frame s = .next t ∧ Keeps s t :=
  ⟨_, rfl, State.orderEvent_keeps _ _ s⟩

theorem execFrameStart_keeps (frame : Word) (s : State) : ∃ t, execFrameStart frame s = .next t ∧ Keeps s t :=
  ⟨_, rfl, State.orderEvent_keeps _ _ s⟩

theorem execCreelChange_keeps (frame creel : Word) (s : State) :
    ∃ t, execCreelChange frame creel s = .next t ∧ Keeps s t :=
  ⟨_, rfl, State.orderEvent_keeps _ _ s⟩

theorem execShiftClose_keeps (s : State) : ∃ t, execShiftClose s = .next t ∧ Keeps s t :=
  ⟨_, rfl, State.orderEvent_keeps _ _ s⟩

theorem execPlanSwitch_keeps (copy mode : Word) (s : State) : ∃ t, execPlanSwitch copy mode s = .next t ∧ Keeps s t :=
  ⟨_, rfl, State.orderEvent_keeps _ _ s⟩

theorem execWithdraw_keeps (seq : Word) (s : State) : ∃ t, execWithdraw seq s = .next t ∧ Keeps s t :=
  ⟨_, rfl, State.orderEvent_keeps _ _ s⟩

theorem execAttemptTimeout_keeps (p : Nat) (s : State) : ∃ t, execAttemptTimeout p s = .next t ∧ Keeps s t := by
  unfold execAttemptTimeout
  (repeat' split) <;> refine ⟨_, rfl, ?_⟩ <;> first
    | with_reducible exact .refl s
    | (refine .worked ?_; simp; done)

theorem execTravelTimeout_keeps (p : Nat) (s : State) : ∃ t, execTravelTimeout p s = .next t ∧ Keeps s t := by
  unfold execTravelTimeout
  (repeat' split) <;> refine ⟨_, rfl, ?_⟩ <;> first
    | with_reducible exact .refl s
    | (refine .worked ?_; simp; done)

theorem execReturnPlaceTimeout_keeps (p : Nat) (s : State) : ∃ t, execReturnPlaceTimeout p s = .next t ∧ Keeps s t := by
  unfold execReturnPlaceTimeout
  (repeat' split) <;> refine ⟨_, rfl, ?_⟩ <;> first
    | with_reducible exact .refl s
    | (refine .worked ?_; simp; done)

theorem execStopTimeout_keeps (f : Nat) (s : State) : ∃ t, execStopTimeout f s = .next t ∧ Keeps s t := by
  unfold execStopTimeout
  (repeat' split) <;> refine ⟨_, rfl, ?_⟩ <;> first
    | with_reducible exact .refl s
    | (refine .worked ?_; simp; done)

theorem execDoffTimeout_keeps (f : Nat) (s : State) : ∃ t, execDoffTimeout f s = .next t ∧ Keeps s t := by
  unfold execDoffTimeout
  (repeat' split) <;> refine ⟨_, rfl, ?_⟩ <;> first
    | with_reducible exact .refl s
    | (refine .worked ?_; simp; done)

theorem execChangeTimeout_keeps (c : Nat) (s : State) : ∃ t, execChangeTimeout c s = .next t ∧ Keeps s t := by
  unfold execChangeTimeout
  (repeat' split) <;> refine ⟨_, rfl, ?_⟩ <;> first
    | with_reducible exact .refl s
    | (refine .worked ?_; simp; done)

theorem execReturnTimeout_keeps (c : Nat) (s : State) : ∃ t, execReturnTimeout c s = .next t ∧ Keeps s t := by
  unfold execReturnTimeout
  (repeat' split) <;> refine ⟨_, rfl, ?_⟩ <;> first
    | with_reducible exact .refl s
    | (refine .worked ?_; simp; done)

theorem execVisitStart_keeps (s : State) : ∃ t, execVisitStart s = .next t ∧ Keeps s t := by
  unfold execVisitStart
  (repeat' split) <;> refine ⟨_, rfl, ?_⟩ <;> first
    | with_reducible exact .refl s
    | (refine .of_fixed ?_; simp; done)

theorem execIdleCycle_keeps (s : State) : ∃ t, execIdleCycle s = .next t ∧ Keeps s t := by
  unfold execIdleCycle
  (repeat' split) <;> refine ⟨_, rfl, ?_⟩ <;> first
    | with_reducible exact .refl s
    | (refine .of_fixed ?_; simp; done)

theorem execReplyWindowEnd_keeps (s : State) : ∃ t, execReplyWindowEnd s = .next t ∧ Keeps s t := by
  unfold execReplyWindowEnd
  (repeat' split) <;> refine ⟨_, rfl, ?_⟩ <;> first
    | with_reducible exact .refl s
    | exact (State.windowEnd_keeps s).concluded

theorem execBadReply_keeps (late : Bool) (message : List Byte) (s : State) :
    ∃ t, execBadReply late message s = .next t ∧ Keeps s t := by
  unfold execBadReply
  (repeat' split) <;> refine ⟨_, rfl, ?_⟩ <;> first
    | with_reducible exact .refl s
    | exact (State.badReply_keeps _ _ s).concluded

theorem execNothing_keeps (reply : Reply) (s : State) : ∃ t, execNothing reply s = .next t ∧ Keeps s t := by
  unfold execNothing
  (repeat' split) <;> refine ⟨_, rfl, ?_⟩ <;> first
    | with_reducible exact .refl s
    | exact (State.takeNothing_keeps _ s).concluded

theorem execState_keeps (reply : Reply) (drive : DriveState) (metres : Word) (s : State) :
    ∃ t, execState reply drive metres s = .next t ∧ Keeps s t :=
  ⟨_, rfl, State.reportEvent_keeps _ _ s⟩

theorem execAtDoffPosition_keeps (reply : Reply) (s : State) : ∃ t, execAtDoffPosition reply s = .next t ∧ Keeps s t :=
  ⟨_, rfl, State.reportEvent_keeps _ _ s⟩

theorem execDoffDone_keeps (reply : Reply) (s : State) : ∃ t, execDoffDone reply s = .next t ∧ Keeps s t :=
  ⟨_, rfl, State.reportEvent_keeps _ _ s⟩

theorem execDriveFault_keeps (reply : Reply) (s : State) : ∃ t, execDriveFault reply s = .next t ∧ Keeps s t :=
  ⟨_, rfl, State.reportEvent_keeps _ _ s⟩

theorem execAtSide_keeps (reply : Reply) (side position : Nat) (s : State) :
    ∃ t, execAtSide reply side position s = .next t ∧ Keeps s t :=
  ⟨_, rfl, State.reportEvent_keeps _ _ s⟩

theorem execStep_keeps (reply : Reply) (token : Token) (stage : AttemptStep) (position : Nat) (s : State) :
    ∃ t, execStep reply token stage position s = .next t ∧ Keeps s t :=
  ⟨_, rfl, State.reportEvent_keeps _ _ s⟩

theorem execResult_keeps (reply : Reply) (token : Token) (outcome : Outcome) (s : State) :
    ∃ t, execResult reply token outcome s = .next t ∧ Keeps s t :=
  ⟨_, rfl, State.reportEvent_keeps _ _ s⟩

theorem execHeld_keeps (reply : Reply) (token : Token) (s : State) :
    ∃ t, execHeld reply token s = .next t ∧ Keeps s t :=
  ⟨_, rfl, State.reportEvent_keeps _ _ s⟩

theorem execRefusedHold_keeps (reply : Reply) (token : Token) (s : State) :
    ∃ t, execRefusedHold reply token s = .next t ∧ Keeps s t :=
  ⟨_, rfl, State.reportEvent_keeps _ _ s⟩

theorem execParked_keeps (reply : Reply) (s : State) : ∃ t, execParked reply s = .next t ∧ Keeps s t :=
  ⟨_, rfl, State.reportEvent_keeps _ _ s⟩

theorem execFault_keeps (reply : Reply) (s : State) : ∃ t, execFault reply s = .next t ∧ Keeps s t :=
  ⟨_, rfl, State.reportEvent_keeps _ _ s⟩

theorem execLoaded_keeps (reply : Reply) (lot : Token) (s : State) :
    ∃ t, execLoaded reply lot s = .next t ∧ Keeps s t :=
  ⟨_, rfl, State.reportEvent_keeps _ _ s⟩

theorem execArrived_keeps (reply : Reply) (s : State) : ∃ t, execArrived reply s = .next t ∧ Keeps s t :=
  ⟨_, rfl, State.reportEvent_keeps _ _ s⟩

theorem execChangeDone_keeps (reply : Reply) (s : State) : ∃ t, execChangeDone reply s = .next t ∧ Keeps s t :=
  ⟨_, rfl, State.reportEvent_keeps _ _ s⟩

theorem execChangeFault_keeps (reply : Reply) (s : State) : ∃ t, execChangeFault reply s = .next t ∧ Keeps s t :=
  ⟨_, rfl, State.reportEvent_keeps _ _ s⟩

theorem execReturned_keeps (reply : Reply) (s : State) : ∃ t, execReturned reply s = .next t ∧ Keeps s t :=
  ⟨_, rfl, State.reportEvent_keeps _ _ s⟩

theorem execMemoryBeat_keeps (host : List HostWrite) (s : State) :
    ∃ t, execMemoryBeat host s = .next t ∧ Keeps s t := by
  unfold execMemoryBeat
  split
  · exact ⟨_, rfl, Keeps.trans (t := s.hostWrites host) (.of_regs rfl rfl rfl) (State.beat_keeps _ _)⟩
  · exact ⟨_, rfl, .of_regs rfl rfl rfl⟩

theorem execBusGrant_keeps (s : State) : ∃ t, execBusGrant s = .next t ∧ Keeps s t := by
  unfold execBusGrant
  (repeat' split) <;> refine ⟨_, rfl, ?_⟩ <;> first
    | with_reducible exact .refl s
    | exact .of_regs rfl rfl rfl

theorem execBusYield_keeps (host : List HostWrite) (s : State) : ∃ t, execBusYield host s = .next t ∧ Keeps s t := by
  unfold execBusYield
  split
  · next t _ =>
    have h : Keeps s ((s.hostWrites host).beat t) :=
      Keeps.trans (t := s.hostWrites host) (.of_regs rfl rfl rfl) (State.beat_keeps _ _)
    split
    · exact ⟨_, rfl, h⟩
    · exact ⟨_, rfl, h.then_fixed (by simp [State.yieldBus])⟩
  · exact ⟨_, rfl, .of_regs rfl rfl rfl⟩

theorem execBeatError_keeps (s : State) : ∃ t, execBeatError s = .next t ∧ Keeps s t := by
  unfold execBeatError
  (repeat' split) <;> refine ⟨_, rfl, ?_⟩ <;> first
    | with_reducible exact .refl s
    | with_reducible exact (State.memoryFault_keeps _ _ s).concluded
    | exact .of_regs rfl rfl rfl

theorem execGrantTimeout_keeps (s : State) : ∃ t, execGrantTimeout s = .next t ∧ Keeps s t := by
  unfold execGrantTimeout
  (repeat' split) <;> refine ⟨_, rfl, ?_⟩ <;> first
    | with_reducible exact .refl s
    | with_reducible exact (State.memoryFault_keeps _ _ s).concluded

/-! ### What commands leave alone -/

theorem execRunClear_base (s : State) :
    ∃ t, execRunClear s = .next t ∧ t.fixed.base = s.fixed.base := by
  unfold execRunClear
  (repeat' split) <;> exact ⟨_, rfl, by simp⟩

theorem execLook_base (s : State) :
    ∃ t, execLook s = .next t ∧ t.fixed.base = s.fixed.base := by
  unfold execLook
  (repeat' split) <;> exact ⟨_, rfl, by simp⟩

theorem execResume_base (s : State) :
    ∃ t, execResume s = .next t ∧ t.fixed.base = s.fixed.base := by
  unfold execResume
  (repeat' split) <;> exact ⟨_, rfl, by simp⟩

theorem execSweepTimer_base (frame : Nat) (s : State) :
    ∃ t, execSweepTimer frame s = .next t ∧ t.fixed.base = s.fixed.base := by
  unfold execSweepTimer
  (repeat' split) <;> exact ⟨_, rfl, by simp⟩

theorem execStripRead_base (frame : Nat) (reply : List Byte) (s : State) :
    ∃ t, execStripRead frame reply s = .next t ∧ t.fixed.base = s.fixed.base := by
  unfold execStripRead
  (repeat' split) <;> exact ⟨_, rfl, by simp⟩

theorem execStripNoReply_base (frame : Nat) (s : State) :
    ∃ t, execStripNoReply frame s = .next t ∧ t.fixed.base = s.fixed.base := by
  unfold execStripNoReply
  (repeat' split) <;> exact ⟨_, rfl, by simp⟩

theorem execRollerPulse_base (frame : Nat) (s : State) :
    ∃ t, execRollerPulse frame s = .next t ∧ t.fixed.base = s.fixed.base := by
  unfold execRollerPulse
  (repeat' split) <;> exact ⟨_, rfl, by simp⟩

theorem execShiftTimer_base (s : State) :
    ∃ t, execShiftTimer s = .next t ∧ t.fixed.base = s.fixed.base := by
  unfold execShiftTimer
  (repeat' split) <;> exact ⟨_, rfl, by simp⟩

theorem execBoardScan_base (s : State) :
    ∃ t, execBoardScan s = .next t ∧ t.fixed.base = s.fixed.base := by
  unfold execBoardScan
  (repeat' split) <;> exact ⟨_, rfl, by simp⟩

theorem execCutOut_base (frame spindle : Word) (s : State) :
    ∃ t, execCutOut frame spindle s = .next t ∧ t.fixed.base = s.fixed.base :=
  ⟨_, rfl, State.orderEvent_base _ _ s⟩

theorem execClearCutout_base (frame first last : Word) (s : State) :
    ∃ t, execClearCutout frame first last s = .next t ∧ t.fixed.base = s.fixed.base :=
  ⟨_, rfl, State.orderEvent_base _ _ s⟩

theorem execClearSlip_base (frame first last : Word) (s : State) :
    ∃ t, execClearSlip frame first last s = .next t ∧ t.fixed.base = s.fixed.base :=
  ⟨_, rfl, State.orderEvent_base _ _ s⟩

theorem execSelfCheck_base (frame strip : Word) (s : State) :
    ∃ t, execSelfCheck frame strip s = .next t ∧ t.fixed.base = s.fixed.base :=
  ⟨_, rfl, State.orderEvent_base _ _ s⟩

theorem execTableRead_base (s : State) :
    ∃ t, execTableRead s = .next t ∧ t.fixed.base = s.fixed.base :=
  ⟨_, rfl, State.orderEvent_base _ _ s⟩

theorem execPiecerPlace_base (piecer target : Word) (s : State) :
    ∃ t, execPiecerPlace piecer target s = .next t ∧ t.fixed.base = s.fixed.base :=
  ⟨_, rfl, State.orderEvent_base _ _ s⟩

theorem execDoffNow_base (frame : Word) (s : State) :
    ∃ t, execDoffNow frame s = .next t ∧ t.fixed.base = s.fixed.base :=
  ⟨_, rfl, State.orderEvent_base _ _ s⟩

theorem execFrameStop_base (frame : Word) (s : State) :
    ∃ t, execFrameStop frame s = .next t ∧ t.fixed.base = s.fixed.base :=
  ⟨_, rfl, State.orderEvent_base _ _ s⟩

theorem execFrameStart_base (frame : Word) (s : State) :
    ∃ t, execFrameStart frame s = .next t ∧ t.fixed.base = s.fixed.base :=
  ⟨_, rfl, State.orderEvent_base _ _ s⟩

theorem execCreelChange_base (frame creel : Word) (s : State) :
    ∃ t, execCreelChange frame creel s = .next t ∧ t.fixed.base = s.fixed.base :=
  ⟨_, rfl, State.orderEvent_base _ _ s⟩

theorem execShiftClose_base (s : State) :
    ∃ t, execShiftClose s = .next t ∧ t.fixed.base = s.fixed.base :=
  ⟨_, rfl, State.orderEvent_base _ _ s⟩

theorem execPlanSwitch_base (copy mode : Word) (s : State) :
    ∃ t, execPlanSwitch copy mode s = .next t ∧ t.fixed.base = s.fixed.base :=
  ⟨_, rfl, State.orderEvent_base _ _ s⟩

theorem execWithdraw_base (seq : Word) (s : State) :
    ∃ t, execWithdraw seq s = .next t ∧ t.fixed.base = s.fixed.base :=
  ⟨_, rfl, State.orderEvent_base _ _ s⟩

theorem execAttemptTimeout_base (p : Nat) (s : State) :
    ∃ t, execAttemptTimeout p s = .next t ∧ t.fixed.base = s.fixed.base := by
  unfold execAttemptTimeout
  (repeat' split) <;> exact ⟨_, rfl, by simp⟩

theorem execTravelTimeout_base (p : Nat) (s : State) :
    ∃ t, execTravelTimeout p s = .next t ∧ t.fixed.base = s.fixed.base := by
  unfold execTravelTimeout
  (repeat' split) <;> exact ⟨_, rfl, by simp⟩

theorem execReturnPlaceTimeout_base (p : Nat) (s : State) :
    ∃ t, execReturnPlaceTimeout p s = .next t ∧ t.fixed.base = s.fixed.base := by
  unfold execReturnPlaceTimeout
  (repeat' split) <;> exact ⟨_, rfl, by simp⟩

theorem execStopTimeout_base (f : Nat) (s : State) :
    ∃ t, execStopTimeout f s = .next t ∧ t.fixed.base = s.fixed.base := by
  unfold execStopTimeout
  (repeat' split) <;> exact ⟨_, rfl, by simp⟩

theorem execDoffTimeout_base (f : Nat) (s : State) :
    ∃ t, execDoffTimeout f s = .next t ∧ t.fixed.base = s.fixed.base := by
  unfold execDoffTimeout
  (repeat' split) <;> exact ⟨_, rfl, by simp⟩

theorem execChangeTimeout_base (c : Nat) (s : State) :
    ∃ t, execChangeTimeout c s = .next t ∧ t.fixed.base = s.fixed.base := by
  unfold execChangeTimeout
  (repeat' split) <;> exact ⟨_, rfl, by simp⟩

theorem execReturnTimeout_base (c : Nat) (s : State) :
    ∃ t, execReturnTimeout c s = .next t ∧ t.fixed.base = s.fixed.base := by
  unfold execReturnTimeout
  (repeat' split) <;> exact ⟨_, rfl, by simp⟩

theorem execVisitStart_base (s : State) :
    ∃ t, execVisitStart s = .next t ∧ t.fixed.base = s.fixed.base := by
  unfold execVisitStart
  (repeat' split) <;> exact ⟨_, rfl, by simp⟩

theorem execIdleCycle_base (s : State) :
    ∃ t, execIdleCycle s = .next t ∧ t.fixed.base = s.fixed.base := by
  unfold execIdleCycle
  (repeat' split) <;> exact ⟨_, rfl, by simp⟩

theorem execReplyWindowEnd_base (s : State) :
    ∃ t, execReplyWindowEnd s = .next t ∧ t.fixed.base = s.fixed.base := by
  unfold execReplyWindowEnd
  (repeat' split) <;> exact ⟨_, rfl, by simp⟩

theorem execBadReply_base (late : Bool) (message : List Byte) (s : State) :
    ∃ t, execBadReply late message s = .next t ∧ t.fixed.base = s.fixed.base := by
  unfold execBadReply
  (repeat' split) <;> exact ⟨_, rfl, by simp⟩

theorem execNothing_base (reply : Reply) (s : State) :
    ∃ t, execNothing reply s = .next t ∧ t.fixed.base = s.fixed.base := by
  unfold execNothing
  (repeat' split) <;> exact ⟨_, rfl, by simp⟩

theorem execState_base (reply : Reply) (drive : DriveState) (metres : Word) (s : State) :
    ∃ t, execState reply drive metres s = .next t ∧ t.fixed.base = s.fixed.base :=
  ⟨_, rfl, State.reportEvent_base _ _ s⟩

theorem execAtDoffPosition_base (reply : Reply) (s : State) :
    ∃ t, execAtDoffPosition reply s = .next t ∧ t.fixed.base = s.fixed.base :=
  ⟨_, rfl, State.reportEvent_base _ _ s⟩

theorem execDoffDone_base (reply : Reply) (s : State) :
    ∃ t, execDoffDone reply s = .next t ∧ t.fixed.base = s.fixed.base :=
  ⟨_, rfl, State.reportEvent_base _ _ s⟩

theorem execDriveFault_base (reply : Reply) (s : State) :
    ∃ t, execDriveFault reply s = .next t ∧ t.fixed.base = s.fixed.base :=
  ⟨_, rfl, State.reportEvent_base _ _ s⟩

theorem execAtSide_base (reply : Reply) (side position : Nat) (s : State) :
    ∃ t, execAtSide reply side position s = .next t ∧ t.fixed.base = s.fixed.base :=
  ⟨_, rfl, State.reportEvent_base _ _ s⟩

theorem execStep_base (reply : Reply) (token : Token) (stage : AttemptStep) (position : Nat) (s : State) :
    ∃ t, execStep reply token stage position s = .next t ∧ t.fixed.base = s.fixed.base :=
  ⟨_, rfl, State.reportEvent_base _ _ s⟩

theorem execResult_base (reply : Reply) (token : Token) (outcome : Outcome) (s : State) :
    ∃ t, execResult reply token outcome s = .next t ∧ t.fixed.base = s.fixed.base :=
  ⟨_, rfl, State.reportEvent_base _ _ s⟩

theorem execHeld_base (reply : Reply) (token : Token) (s : State) :
    ∃ t, execHeld reply token s = .next t ∧ t.fixed.base = s.fixed.base :=
  ⟨_, rfl, State.reportEvent_base _ _ s⟩

theorem execRefusedHold_base (reply : Reply) (token : Token) (s : State) :
    ∃ t, execRefusedHold reply token s = .next t ∧ t.fixed.base = s.fixed.base :=
  ⟨_, rfl, State.reportEvent_base _ _ s⟩

theorem execParked_base (reply : Reply) (s : State) :
    ∃ t, execParked reply s = .next t ∧ t.fixed.base = s.fixed.base :=
  ⟨_, rfl, State.reportEvent_base _ _ s⟩

theorem execFault_base (reply : Reply) (s : State) :
    ∃ t, execFault reply s = .next t ∧ t.fixed.base = s.fixed.base :=
  ⟨_, rfl, State.reportEvent_base _ _ s⟩

theorem execLoaded_base (reply : Reply) (lot : Token) (s : State) :
    ∃ t, execLoaded reply lot s = .next t ∧ t.fixed.base = s.fixed.base :=
  ⟨_, rfl, State.reportEvent_base _ _ s⟩

theorem execArrived_base (reply : Reply) (s : State) :
    ∃ t, execArrived reply s = .next t ∧ t.fixed.base = s.fixed.base :=
  ⟨_, rfl, State.reportEvent_base _ _ s⟩

theorem execChangeDone_base (reply : Reply) (s : State) :
    ∃ t, execChangeDone reply s = .next t ∧ t.fixed.base = s.fixed.base :=
  ⟨_, rfl, State.reportEvent_base _ _ s⟩

theorem execChangeFault_base (reply : Reply) (s : State) :
    ∃ t, execChangeFault reply s = .next t ∧ t.fixed.base = s.fixed.base :=
  ⟨_, rfl, State.reportEvent_base _ _ s⟩

theorem execReturned_base (reply : Reply) (s : State) :
    ∃ t, execReturned reply s = .next t ∧ t.fixed.base = s.fixed.base :=
  ⟨_, rfl, State.reportEvent_base _ _ s⟩

theorem execBusGrant_base (s : State) :
    ∃ t, execBusGrant s = .next t ∧ t.fixed.base = s.fixed.base := by
  unfold execBusGrant
  (repeat' split) <;> exact ⟨_, rfl, by simp⟩

/-- FLT alone may change (R182). -/
theorem execBeatError_base (s : State) :
    ∃ t w, execBeatError s = .next t ∧ t.fixed.base = ({ s with regs.flt := w } : State).fixed.base := by
  unfold execBeatError
  split
  · split
    · exact ⟨_, _, rfl, (State.conclude_base _).trans (State.memoryFault_base _ _ s)⟩
    · exact ⟨_, s.regs.flt, rfl, rfl⟩
  · exact ⟨_, s.regs.flt, rfl, rfl⟩

/-- FLT alone may change (R182). -/
theorem execGrantTimeout_base (s : State) :
    ∃ t w, execGrantTimeout s = .next t ∧ t.fixed.base = ({ s with regs.flt := w } : State).fixed.base := by
  unfold execGrantTimeout
  split
  · exact ⟨_, _, rfl, (State.conclude_base _).trans (State.memoryFault_base _ _ s)⟩
  · exact ⟨_, s.regs.flt, rfl, rfl⟩

end Sys2Proof.Machine
end

