-- ==== Sys2Proof/Laws/Layout.lean ====
section
/-! SUPPORT. The bytes of a record's words (R198): what wordsOf lays out stands in memory byte by byte, the bytes left over 0. -/

namespace Sys2Proof.Machine

/-- The bytes of one word. -/
theorem wordOf_bytes (a b c d : Nat) (ha : a < 256) (hb : b < 256) (hc : c < 256) (hd : d < 256) (i : Nat) (hi : i < 4) :
    (w32 (a + 256 * b + 65536 * c + 16777216 * d)).extractLsb' (8 * i) 8 = BitVec.ofNat 8 ([a, b, c, d].getD i 0) := by
  apply BitVec.eq_of_toNat_eq
  simp only [w32, BitVec.extractLsb'_toNat, BitVec.toNat_ofNat, Nat.shiftRight_eq_div_pow]
  rcases i with _ | _ | _ | _ | i
  · simp; omega
  · simp; omega
  · simp; omega
  · simp; omega
  · omega

/-- The bytes of words laid out from bytes, by place. -/
theorem wordBytes_wordsOf_place (n : Nat) (l : List Nat) (hl : ∀ x, x ∈ l → x < 256) :
    wordBytes (wordsOf n l) = (List.range (4 * n)).map fun i => BitVec.ofNat 8 (l.getD i 0) := by
  have hg (l : List Nat) (hl : ∀ x, x ∈ l → x < 256) (i : Nat) : l.getD i 0 < 256 := by
    rw [List.getD_eq_getElem?_getD]; cases h : l[i]? with
    | none => simp
    | some x => exact hl x (List.mem_of_getElem? h)
  induction n generalizing l with
  | zero => rfl
  | succ n ih =>
    unfold wordsOf wordBytes
    rw [List.flatMap_cons]
    have := ih (l.drop 4) (fun x hx => hl x (List.mem_of_mem_drop hx))
    unfold wordBytes at this; rw [this]
    rw [show 4 * (n + 1) = 4 + 4 * n by omega, List.range_add, List.map_append]
    congr 1
    · apply List.map_congr_left
      intro i hi
      unfold wordOf
      rw [wordOf_bytes _ _ _ _ (hg l hl 0) (hg l hl 1) (hg l hl 2) (hg l hl 3) i (by simpa using hi)]
      have : i < 4 := by simpa using hi
      rcases i with _ | _ | _ | _ | i <;> first | rfl | omega
    · rw [List.map_map]
      apply List.map_congr_left
      intro i hi
      simp [List.getD_eq_getElem?_getD, Nat.add_comm]

/-- Bytes read by place, 0 past their end. -/
theorem padded_eq (l : List Nat) (n : Nat) (h : l.length ≤ n) :
    ((List.range n).map fun i => BitVec.ofNat 8 (l.getD i 0)) =
      l.map (BitVec.ofNat 8) ++ List.replicate (n - l.length) 0#8 := by
  apply List.ext_getElem?
  intro i
  by_cases hi : i < l.length
  · rw [List.getElem?_append_left (by simpa using hi)]
    simp [List.getD_eq_getElem?_getD, hi, List.getElem?_range (show i < n by omega)]
  · by_cases hn : i < n
    · rw [List.getElem?_append_right (by simpa using hi)]
      simp [hn, List.getElem?_replicate, List.getD_eq_getElem?_getD, hi]
      omega
    · rw [List.getElem?_eq_none (by simpa using hn), List.getElem?_eq_none (by simp; omega)]

/-- The bytes of words laid out from bytes: those bytes, then zeros. -/
theorem wordBytes_wordsOf (n : Nat) (l : List Nat) (hl : ∀ x, x ∈ l → x < 256) (h : l.length ≤ 4 * n) :
    wordBytes (wordsOf n l) = l.map (BitVec.ofNat 8) ++ List.replicate (4 * n - l.length) 0#8 := by
  rw [wordBytes_wordsOf_place _ _ hl, padded_eq _ _ h]

theorem ofNat_mod_256 (v : Nat) : BitVec.ofNat 8 (v % 256) = BitVec.ofNat 8 v := by
  apply BitVec.eq_of_toNat_eq; simp

@[simp] theorem leBytes_zero (k : Nat) : leBytes k 0 = List.replicate k 0#8 := by unfold leBytes; simp

/-! ### The fields' bytes -/

theorem bytes1_map (v : Nat) : (bytes1 v).map (BitVec.ofNat 8) = leBytes 1 v := by
  simp [bytes1, leBytes, List.range_succ, ofNat_mod_256]

theorem bytes2_map (v : Nat) : (bytes2 v).map (BitVec.ofNat 8) = leBytes 2 v := by
  simp [bytes2, leBytes, List.range_succ, ofNat_mod_256]

theorem bytes4_map (v : Nat) : (bytes4 v).map (BitVec.ofNat 8) = leBytes 4 v := by
  simp [bytes4, leBytes, List.range_succ, ofNat_mod_256]

theorem bytes1_lt (v : Nat) : ∀ x, x ∈ bytes1 v → x < 256 := by simp [bytes1]; omega
theorem bytes2_lt (v : Nat) : ∀ x, x ∈ bytes2 v → x < 256 := by simp [bytes2]; omega
theorem bytes4_lt (v : Nat) : ∀ x, x ∈ bytes4 v → x < 256 := by simp [bytes4]; omega

@[simp] theorem bytes1_length (v : Nat) : (bytes1 v).length = 1 := rfl
@[simp] theorem bytes2_length (v : Nat) : (bytes2 v).length = 2 := rfl
@[simp] theorem bytes4_length (v : Nat) : (bytes4 v).length = 4 := rfl

/-- A code that may be absent. -/
theorem codeOr_eq {α : Type} (f : α → Nat) (o : Option α) : codeOr f o = (o.map f).getD 0 := by cases o <;> rfl

end Sys2Proof.Machine
end

