-- ==== Sys2Proof/Laws/Marks.lean ====
section
/-! SUPPORT. The marks of the journal (State.marksKept, R178): every operation and every command keeps the unread entries
and those that wait to be written below the capacity. An operation's lemma says so of the state it gives, from the state
it is given (h); l is the agreement of the registers with the part state, where the operation rests on it. -/

namespace Sys2Proof.Machine

set_option linter.unusedSimpArgs false
set_option linter.unusedTactic false
set_option linter.unreachableTactic false
set_option linter.unusedVariables false

/-! ### The entries that wait -/

/-- Whether the item being written is a journal entry, as a number. -/
def waitsIn (o : Option Update) : Nat :=
  match o with
  | some u => if u.item.isJournal then 1 else 0
  | none => 0

/-- The journal entries that wait to be written, of the writer alone (State.journalWaiting). -/
def Writer.waiting (w : Writer) : Nat := (w.queue.filter WriteItem.isJournal).length + waitsIn w.current

/-- State.marksKept in the three records that it looks at: the registers, the writer and the read mark. -/
def Marked (r : Regs) (w : Writer) (k : Nat) : Bool :=
  (if w.capacity = 0 then decide (w.waiting = 0)
    else decide (w.writeMark < w.capacity ∧ k < w.capacity ∧
      (w.writeMark + w.capacity - k) % w.capacity + w.waiting < w.capacity)) &&
  (!r.beforeWrites || decide (w.writeMark = 0 ∧ w.waiting = 0))

theorem State.marksKept_eq (s : State) : s.marksKept = Marked s.regs s.writer s.desk.readMark := rfl

theorem State.journalWaiting_eq (s : State) : s.journalWaiting = s.writer.waiting := rfl

/-- An update that reaches neither the marks nor the entries waiting. -/
@[simp] theorem State.marksKept_update (s : State) (c : Word) (cm : Nat) (wa : Watch) (ro : RogueTable) (di : Dispatcher)
    (f : List (Nat × Frame)) (rv : Roving) (o : Output) (p : PlanStore) (de : Desk) (w : Writer) (po : Port) (l : Link)
    (m : List Host.Cell) (wk : Work) (pe : List Instr)
    (h1 : w.capacity = s.writer.capacity) (h2 : w.writeMark = s.writer.writeMark)
    (h3 : w.waiting = s.writer.waiting) (h4 : de.readMark = s.desk.readMark) :
    (State.mk s.regs c cm wa ro di f rv o p de w po l m wk pe).marksKept = s.marksKept := by
  simp [State.marksKept_eq, Marked, h1, h2, h3, h4]

@[simp] theorem Writer.waiting_mk (wm ca : Nat) (pl : List JournalEntry) (dr : Nat) (fd ld : Word) (q : List WriteItem)
    (cu : Option Update) (n) (jl : Word) (hp : List ClosedPage) (hd : List Snapshot) :
    (Writer.mk wm ca pl dr fd ld q cu n jl hp hd).waiting = (q.filter WriteItem.isJournal).length + waitsIn cu := rfl

@[simp] theorem Writer.waiting_eq (w : Writer) :
    (w.queue.filter WriteItem.isJournal).length + waitsIn w.current = w.waiting := rfl

@[simp] theorem waitsIn_none : waitsIn none = 0 := rfl

@[simp] theorem WriteItem.isJournal_eq :
    WriteItem.header.isJournal = false ∧ WriteItem.planFault.isJournal = false ∧
    (∀ f, (WriteItem.frame f).isJournal = false) ∧ (∀ f, (WriteItem.unit f).isJournal = false) ∧
    (∀ f, (WriteItem.creel f).isJournal = false) ∧ (∀ f, (WriteItem.block f).isJournal = false) ∧
    (∀ f, (WriteItem.mapTail f).isJournal = false) ∧ WriteItem.openPage.isJournal = false ∧
    (∀ f, (WriteItem.closedPage f).isJournal = false) ∧ (∀ f, (WriteItem.startClose f).isJournal = false) ∧
    (∀ f, (WriteItem.dump f).isJournal = false) ∧ (∀ f, (WriteItem.cellTaken f).isJournal = false) ∧
    (∀ f, (WriteItem.cellDone f).isJournal = false) ∧ (∀ e, (WriteItem.journal e).isJournal = true) ∧
    WriteItem.mark.isJournal = false := by
  simp [WriteItem.isJournal]

@[simp] theorem unitItem_isJournal (a : Nat) : (unitItem a).isJournal = false := by
  unfold unitItem; split <;> rfl

@[simp] theorem State.marksKept_ite (c : Prop) [Decidable c] (s t : State) :
    (if c then s else t).marksKept = if c then s.marksKept else t.marksKept := apply_ite State.marksKept c s t

@[simp] theorem State.each_marksKept {α : Type} (l : List α) (g : α → State → State)
    (h : ∀ x t, t.marksKept = true → (g x t).marksKept = true) (s : State) (hs : s.marksKept = true) :
    (s.each l g).marksKept = true := by
  induction l generalizing s with
  | nil => exact hs
  | cons x r ih => exact ih (g x s) (h x s hs)

@[simp] theorem State.raise_marksKept (c : Cause) (s : State) : (s.raise c).marksKept = s.marksKept := rfl

@[simp] theorem State.markItem_marksKept (i : WriteItem) (s : State) (hi : i.isJournal = false) :
    (s.markItem i).marksKept = s.marksKept := by
  unfold State.markItem; split <;> simp [hi]

@[simp] theorem State.markIf_marksKept (b : Bool) (i : WriteItem) (s : State) (hi : i.isJournal = false) :
    (s.markIf b i).marksKept = s.marksKept := by
  unfold State.markIf; split <;> simp [hi]

theorem State.marksKept_iff (s : State) : s.marksKept = true ↔
    (s.writer.capacity = 0 → s.writer.waiting = 0) ∧
    (0 < s.writer.capacity → s.writer.writeMark < s.writer.capacity ∧ s.desk.readMark < s.writer.capacity ∧
      s.unread + s.writer.waiting < s.writer.capacity) ∧
    (s.regs.beforeWrites = true → s.writer.writeMark = 0 ∧ s.writer.waiting = 0) := by
  rw [State.marksKept_eq]
  unfold Marked State.unread
  by_cases hc : s.writer.capacity = 0 <;> by_cases hb : s.regs.beforeWrites = true <;>
    simp [hc, hb, Nat.pos_of_ne_zero]

/-- The marks as they were and no more entries waiting. -/
theorem State.marksKept_le {s t : State}
    (h : s.marksKept = true) (hr : t.regs.beforeWrites = true → s.regs.beforeWrites = true)
    (hc : t.writer.capacity = s.writer.capacity) (hw : t.writer.writeMark = s.writer.writeMark)
    (hk : t.desk.readMark = s.desk.readMark) (hn : t.writer.waiting ≤ s.writer.waiting) : t.marksKept = true := by
  rw [State.marksKept_iff] at h ⊢
  unfold State.unread at *
  rw [hc, hw, hk]
  refine ⟨fun c => ?_, fun c => ?_, fun b => ?_⟩
  · have := h.1 c; omega
  · have := h.2.1 c; omega
  · have := h.2.2 (hr b); omega

/-- Unread entries with both marks below the capacity. -/
theorem unread_cases {c w r : Nat} (hw : w < c) (hr : r < c) :
    (w + c - r) % c = if r ≤ w then w - r else w + c - r := by
  split
  · rw [show w + c - r = w - r + c by omega, Nat.add_mod_right, Nat.mod_eq_of_lt (by omega)]
  · rw [Nat.mod_eq_of_lt (by omega)]

/-- One more entry where there is room. -/
theorem State.marksKept_room {s t : State} (h : s.marksKept = true) (hroom : s.journalRoom = true)
    (hb : t.regs.beforeWrites = false)
    (hc : t.writer.capacity = s.writer.capacity) (hw : t.writer.writeMark = s.writer.writeMark)
    (hk : t.desk.readMark = s.desk.readMark) (hn : t.writer.waiting = s.writer.waiting + 1) : t.marksKept = true := by
  rw [State.marksKept_iff] at h ⊢
  unfold State.journalRoom at hroom
  rw [State.journalWaiting_eq] at hroom
  have hroom := of_decide_eq_true hroom
  unfold State.unread at *
  rw [hc, hw, hk, hn]
  refine ⟨fun c => ?_, fun c => ?_, fun b => ?_⟩
  · omega
  · have := h.2.1 c; omega
  · rw [hb] at b; cases b

theorem State.journalOpen_written {s : State} (h : s.journalOpen = true) : s.regs.beforeWrites = false := by
  unfold State.journalOpen at h
  unfold Regs.beforeWrites
  cases hp : s.regs.part <;> rw [hp] at h <;> first | rfl | (cases hs : s.regs.start with
    | none => simp_all
    | some x => cases x <;> simp_all)

theorem dropOldest_marks (n : Nat) (w : Writer) : (dropOldest n w).capacity = w.capacity ∧
    (dropOldest n w).writeMark = w.writeMark ∧ (dropOldest n w).waiting = w.waiting := by
  induction n generalizing w with
  | zero => exact ⟨rfl, rfl, rfl⟩
  | succ n ih => unfold dropOldest; (repeat' split) <;> simp [ih]

@[simp] theorem dropOldest_capacity (n : Nat) (w : Writer) : (dropOldest n w).capacity = w.capacity :=
  (dropOldest_marks n w).1
@[simp] theorem dropOldest_writeMark (n : Nat) (w : Writer) : (dropOldest n w).writeMark = w.writeMark :=
  (dropOldest_marks n w).2.1
@[simp] theorem dropOldest_waiting (n : Nat) (w : Writer) : (dropOldest n w).waiting = w.waiting :=
  (dropOldest_marks n w).2.2

theorem flushEntries_written (n : Nat) (s : State) (h : s.marksKept = true) (hb : s.regs.beforeWrites = false) :
    (flushEntries n s).marksKept = true := by
  induction n generalizing s with
  | zero => exact h
  | succ n ih =>
    unfold flushEntries
    split
    · exact h
    · split
      · next hr => exact ih _ (State.marksKept_room h hr hb rfl rfl rfl
            (by simp [-Writer.waiting_eq, Writer.waiting]; omega)) hb
      · exact h

/-- What is flushed finds room (R178, R179). -/
theorem State.flushJournal_written (s : State) (h : s.marksKept = true) (hb : s.regs.beforeWrites = false) :
    s.flushJournal.marksKept = true := by
  unfold State.flushJournal
  dsimp only
  split
  · next hr =>
    simp only [Bool.and_eq_true] at hr
    have hk := State.marksKept_room (t := { s with
        writer.queue := s.writer.queue ++
          [.journal ⟨.gap, 0, 0, s.clock, [w32 s.writer.drops, s.writer.firstDrop, s.writer.lastDrop]⟩]
        writer.drops := 0 }) h hr.2 hb rfl rfl rfl (by simp [-Writer.waiting_eq, Writer.waiting]; omega)
    simp only [if_true]
    exact flushEntries_written _ _ hk hb
  · split
    · exact flushEntries_written _ _ h hb
    · exact h

/-! ### The pending list -/

/-- What over 32 is dropped: the oldest, counted, with the stamps of the first and the last kept (R179). -/
theorem dropOldest_eq (n : Nat) (w : Writer) (hn : w.pending.length ≤ n) :
    let gone := w.pending.take (w.pending.length - 32)
    dropOldest n w = { w with
      pending := w.pending.drop (w.pending.length - 32)
      drops := if gone = [] then w.drops else min 4294967295 (w.drops + gone.length)
      firstDrop := if w.drops = 0 then (gone.head?.map JournalEntry.stamp).getD w.firstDrop else w.firstDrop
      lastDrop := (gone.getLast?.map JournalEntry.stamp).getD w.lastDrop } := by
  dsimp only
  induction n generalizing w with
  | zero =>
    have : w.pending = [] := List.length_eq_zero_iff.mp (by omega)
    cases w; simp_all [dropOldest]
  | succ n ih =>
    unfold dropOldest
    rw [show Config.pendingListRoom = 32 from rfl]
    by_cases h : w.pending.length ≤ 32
    · rw [if_pos h, show w.pending.length - 32 = 0 by omega]
      simp
    · rw [if_neg h]
      cases hp : w.pending with
      | nil => simp [hp] at h
      | cons e r =>
        dsimp only
        rw [hp, List.length_cons] at h hn
        rw [ih _ (by simpa using hn)]
        obtain ⟨m, hm⟩ : ∃ m, r.length = m + 32 := ⟨r.length - 32, by omega⟩
        have e1 : m + 32 + 1 - 32 = m + 1 := by omega
        have e2 : m + 32 - 32 = m := by omega
        simp only [hm, e1, e2, List.length_cons, List.drop_succ_cons, List.take_succ_cons, Writer.mk.injEq, true_and, and_true]
        have e3 : (r.take m).length = m := by simp [hm]
        refine ⟨?_, ?_, ?_⟩
        · cases m with
          | zero => simp
          | succ m =>
            cases hq : r.take (m + 1) with
            | nil => simp [hq] at e3
            | cons f q => rw [hq] at e3; simp at e3 ⊢; omega
        · cases w.drops <;> simp
        · rw [List.getLast?_cons]; cases (r.take m).getLast? <;> simp

/-- Room for one entry more (R178). -/
theorem State.journalRoom_iff (s : State) :
    s.journalRoom = true ↔ s.unread + s.journalWaiting + 1 < s.writer.capacity := by
  unfold State.journalRoom; simp

/-- The entries that wait, with k journal entries more at the queue's tail. -/
theorem State.journalWaiting_append (s : State) (p : List JournalEntry) (d : Nat) (l : List JournalEntry) :
    State.journalWaiting { s with
      writer := { s.writer with pending := p, drops := d, queue := s.writer.queue ++ l.map .journal } } =
    s.journalWaiting + l.length := by
  rw [State.journalWaiting_eq, State.journalWaiting_eq]
  have h : (l.map WriteItem.journal).filter WriteItem.isJournal = l.map .journal :=
    List.filter_eq_self.mpr fun x hx => by obtain ⟨e, _, rfl⟩ := List.mem_map.mp hx; rfl
  unfold Writer.waiting
  simp only [List.filter_append, List.length_append, h, List.length_map]
  omega

/-- As many of the oldest pending entries join the queue as find room. -/
theorem flushEntries_eq (n : Nat) (s : State) (hn : s.writer.pending.length ≤ n) :
    let m := min s.writer.pending.length (s.writer.capacity - 1 - s.unread - s.journalWaiting)
    flushEntries n s = { s with writer := { s.writer with
      pending := s.writer.pending.drop m
      queue := s.writer.queue ++ (s.writer.pending.take m).map .journal } } := by
  dsimp only
  induction n generalizing s with
  | zero =>
    have h : s.writer.pending = [] := List.length_eq_zero_iff.mp (by omega)
    simp only [h, flushEntries, List.drop_nil, List.take_nil, List.map_nil, List.append_nil]
    rw [← h]
  | succ n ih =>
    unfold flushEntries
    cases hp : s.writer.pending with
    | nil =>
      simp only [List.drop_nil, List.take_nil, List.map_nil, List.append_nil]
      rw [← hp]
    | cons e r =>
      dsimp only
      by_cases h : s.journalRoom = true
      · rw [if_pos h, ih _ (by rw [hp] at hn; simpa using hn)]
        have hr := (State.journalRoom_iff s).mp h
        have hw := State.journalWaiting_append s r s.writer.drops [e]
        simp only [List.map_cons, List.map_nil, List.length_cons, List.length_nil] at hw
        rw [hw]
        show State.mk _ _ _ _ _ _ _ _ _ _ _ _ _ _ _ _ _ = _
        have hm : min (e :: r).length (s.writer.capacity - 1 - s.unread - s.journalWaiting) =
            min r.length (s.writer.capacity - 1 - s.unread - (s.journalWaiting + 1)) + 1 := by
          simp only [List.length_cons]; omega
        rw [hm]
        simp only [List.drop_succ_cons, List.take_succ_cons, List.map_cons, List.append_assoc, List.cons_append,
          List.nil_append]
        rfl
      · rw [if_neg h]
        have hr := mt (State.journalRoom_iff s).mpr h
        rw [show min (e :: r).length (s.writer.capacity - 1 - s.unread - s.journalWaiting) = 0 by
          simp only [List.length_cons]; omega]
        simp only [List.drop_zero, List.take_zero, List.map_nil, List.append_nil]
        rw [← hp]

/-- What room's return queues (R179): a GAP first when entries were dropped, then as many of the oldest pending entries as
find room; with entries dropped and no room nothing. -/
theorem State.flushJournal_eq (s : State) (hn : s.writer.pending.length ≤ 32)
    (h : s.writer.drops = 0 ∨ s.journalRoom = true) :
    let gap : JournalEntry := ⟨.gap, 0, 0, s.clock, [w32 s.writer.drops, s.writer.firstDrop, s.writer.lastDrop]⟩
    let m := min s.writer.pending.length
      (s.writer.capacity - 1 - s.unread - s.journalWaiting - (if s.writer.drops = 0 then 0 else 1))
    s.flushJournal = { s with writer := { s.writer with
      drops := 0, pending := s.writer.pending.drop m
      queue := s.writer.queue ++ (if s.writer.drops = 0 then [] else [gap]).map .journal ++
        (s.writer.pending.take m).map .journal } } := by
  dsimp only
  unfold State.flushJournal
  by_cases hd : s.writer.drops = 0
  · simp only [hd, Nat.lt_irrefl, decide_false, Bool.false_and, Bool.false_eq_true, if_false, if_true]
    rw [flushEntries_eq Config.pendingListRoom s hn]
    simp only [Nat.sub_zero, List.map_nil, List.append_nil]
    rw [← hd]
  · have hr := h.resolve_left hd
    simp only [Nat.pos_of_ne_zero hd, hr, decide_true, Bool.and_self, if_true, hd, if_false]
    refine (flushEntries_eq Config.pendingListRoom _ ?_).trans ?_
    · exact hn
    · dsimp only
      have hw := State.journalWaiting_append s s.writer.pending 0
        [⟨.gap, 0, 0, s.clock, [w32 s.writer.drops, s.writer.firstDrop, s.writer.lastDrop]⟩]
      simp only [List.map_cons, List.map_nil, List.length_cons, List.length_nil] at hw
      rw [hw, ← Nat.sub_sub]
      rfl

/-! ### A PLAN_SWITCH cut off -/

/-- At a fault the PLAN_SWITCH whose copy was being read joins the deferred list (R150, R174). -/
theorem State.deferSwitch_eq (s : State) : ∃ d,
    s.deferSwitch = { s with desk := { s.desk with deferred := d } } ∧
    (s.plan.read = none ∨ s.taking = [] → d = s.desk.deferred) ∧
    ∀ c r, s.plan.read ≠ none → s.taking = c :: r →
      d = s.desk.deferred ++ (if ∃ x, x ∈ s.desk.deferred ∧ x.1 = c.cell then [] else [(c.cell, c.seq)]) := by
  unfold State.deferSwitch
  cases hr : s.plan.read with
  | none => exact ⟨_, rfl, fun _ => rfl, fun c r h => absurd rfl h⟩
  | some x =>
    cases ht : s.taking with
    | nil => exact ⟨_, rfl, fun _ => rfl, fun c r _ h => nomatch h⟩
    | cons c r =>
      dsimp only
      unfold State.defer
      by_cases h : s.desk.deferred.any (fun e => e.1 == c.cell) = true
      · rw [if_pos h]
        refine ⟨_, rfl, fun _ => rfl, fun c' r' _ e => ?_⟩
        cases e
        rw [if_pos (by simpa using h)]; simp
      · rw [if_neg h]
        refine ⟨_, rfl, fun h => ?_, fun c' r' _ e => ?_⟩
        · simp at h
        · cases e
          rw [if_neg (by simpa using h)]

/-! ### The operations, in the order of the files -/

@[simp] theorem State.setSpindle_marksKept (f n : Nat) (x : Spindle) (s : State) (h : s.marksKept = true) :
    (State.setSpindle f n x s).marksKept = true := by
  unfold State.setSpindle; try dsimp only
  (repeat' split) <;> first | simp +contextual (maxDischargeDepth := 40) [h] | exact h

@[simp] theorem State.setStrip_marksKept (c : Nat) (x : Strip) (s : State) (h : s.marksKept = true) :
    (State.setStrip c x s).marksKept = true := by
  unfold State.setStrip; try dsimp only
  (repeat' split) <;> first | simp +contextual (maxDischargeDepth := 40) [h] | exact h

@[simp] theorem State.setSweep_marksKept (f : Nat) (x : Sweep) (s : State) (h : s.marksKept = true) :
    (State.setSweep f x s).marksKept = true := by
  unfold State.setSweep; try dsimp only
  (repeat' split) <;> first | simp +contextual (maxDischargeDepth := 40) [h] | exact h

@[simp] theorem State.setSide_marksKept (d : Nat) (x : Side) (s : State) (h : s.marksKept = true) :
    (State.setSide d x s).marksKept = true := by
  unfold State.setSide; try dsimp only
  (repeat' split) <;> first | simp +contextual (maxDischargeDepth := 40) [h] | exact h

@[simp] theorem State.setPiecer_marksKept (p : Nat) (x : Piecer) (s : State) (h : s.marksKept = true) :
    (State.setPiecer p x s).marksKept = true := by
  unfold State.setPiecer; try dsimp only
  (repeat' split) <;> first | simp +contextual (maxDischargeDepth := 40) [h] | exact h

@[simp] theorem State.setFrame_marksKept (f : Nat) (x : Frame) (s : State) (h : s.marksKept = true) :
    (State.setFrame f x s).marksKept = true := by
  unfold State.setFrame; try dsimp only
  (repeat' split) <;> first | simp +contextual (maxDischargeDepth := 40) [h] | exact h

@[simp] theorem State.setCreel_marksKept (c : Nat) (x : Creel) (s : State) (h : s.marksKept = true) :
    (State.setCreel c x s).marksKept = true := by
  unfold State.setCreel; try dsimp only
  (repeat' split) <;> first | simp +contextual (maxDischargeDepth := 40) [h] | exact h

@[simp] theorem State.setCarrier_marksKept (c : Nat) (x : Carrier) (s : State) (h : s.marksKept = true) :
    (State.setCarrier c x s).marksKept = true := by
  unfold State.setCarrier; try dsimp only
  (repeat' split) <;> first | simp +contextual (maxDischargeDepth := 40) [h] | exact h

@[simp] theorem State.setFeed_marksKept (f : Nat) (x : Feed) (s : State) (h : s.marksKept = true) :
    (State.setFeed f x s).marksKept = true := by
  unfold State.setFeed; try dsimp only
  (repeat' split) <;> first | simp +contextual (maxDischargeDepth := 40) [h] | exact h

@[simp] theorem State.setRoller_marksKept (f : Nat) (x : Roller) (s : State) (h : s.marksKept = true) :
    (State.setRoller f x s).marksKept = true := by
  unfold State.setRoller; try dsimp only
  (repeat' split) <;> first | simp +contextual (maxDischargeDepth := 40) [h] | exact h

@[simp] theorem State.setUnit_marksKept (a : Nat) (x : Unit) (s : State) (h : s.marksKept = true) :
    (State.setUnit a x s).marksKept = true := by
  unfold State.setUnit; try dsimp only
  (repeat' split) <;> first | simp +contextual (maxDischargeDepth := 40) [h] | exact h

@[simp] theorem State.setCellView_marksKept (c : Nat) (x : CellStage) (s : State) (h : s.marksKept = true) :
    (State.setCellView c x s).marksKept = true := by
  unfold State.setCellView; try dsimp only
  (repeat' split) <;> first | simp +contextual (maxDischargeDepth := 40) [h] | exact h

@[simp] theorem State.setPageView_marksKept (p : Nat) (x : PageStage) (s : State) (h : s.marksKept = true) :
    (State.setPageView p x s).marksKept = true := by
  unfold State.setPageView; try dsimp only
  (repeat' split) <;> first | simp +contextual (maxDischargeDepth := 40) [h] | exact h

@[simp] theorem State.oweArbiter_marksKept (s : State) (h : s.marksKept = true) :
    (State.oweArbiter s).marksKept = true := by
  unfold State.oweArbiter; try dsimp only
  (repeat' split) <;> first | simp +contextual (maxDischargeDepth := 40) [h] | exact h

@[simp] theorem State.oweRefill_marksKept (s : State) (h : s.marksKept = true) :
    (State.oweRefill s).marksKept = true := by
  unfold State.oweRefill; try dsimp only
  (repeat' split) <;> first | simp +contextual (maxDischargeDepth := 40) [h] | exact h

@[simp] theorem State.oweRelist_marksKept (d : Nat) (s : State) (h : s.marksKept = true) :
    (State.oweRelist d s).marksKept = true := by
  unfold State.oweRelist; try dsimp only
  (repeat' split) <;> first | simp +contextual (maxDischargeDepth := 40) [h] | exact h

@[simp] theorem State.alarm_marksKept (f : Nat) (s : State) (h : s.marksKept = true) :
    (State.alarm f s).marksKept = true := by
  unfold State.alarm; try dsimp only
  (repeat' split) <;> first | simp +contextual (maxDischargeDepth := 40) [h] | exact h

@[simp] theorem State.unitAlarm_marksKept (f : Nat) (s : State) (h : s.marksKept = true) :
    (State.unitAlarm f s).marksKept = true := by
  unfold State.unitAlarm; try dsimp only
  (repeat' split) <;> first | simp +contextual (maxDischargeDepth := 40) [h] | exact h

@[simp] theorem State.pend_marksKept (e : JournalEntry) (s : State) (h : s.marksKept = true) :
    (s.pend e).marksKept = true := by
  unfold State.pend; exact State.marksKept_le h id (by simp) (by simp) rfl (by simp)

@[simp] theorem State.enterJournal_marksKept (e : JournalEntry) (s : State) (h : s.marksKept = true) :
    (s.enterJournal e).marksKept = true := by
  unfold State.enterJournal
  split
  · next hr =>
    simp only [Bool.and_eq_true] at hr
    exact State.marksKept_room h hr.2 (State.journalOpen_written hr.1.1) rfl rfl rfl
      (by simp [-Writer.waiting_eq, Writer.waiting]; omega)
  · exact State.pend_marksKept e s h

@[simp] theorem State.journal_marksKept (k : JournalKind) (frame unit : Nat) (fields : List Word) (s : State)
    (h : s.marksKept = true) :
    (State.journal k frame unit fields s).marksKept = true := by
  unfold State.journal; try dsimp only
  (repeat' split) <;> first | simp +contextual (maxDischargeDepth := 40) [h] | exact h

@[simp] theorem State.count_marksKept (f : Nat) (g : Counts → Counts) (s : State) (h : s.marksKept = true) :
    (State.count f g s).marksKept = true := by
  unfold State.count; try dsimp only
  (repeat' split) <;> first | simp +contextual (maxDischargeDepth := 40) [h] | exact h

theorem filter_isJournal_not (l : List WriteItem) (i : WriteItem) (hi : i.isJournal = false) :
    ((l.filter fun j => decide (j ≠ i)).filter WriteItem.isJournal) = l.filter WriteItem.isJournal := by
  rw [List.filter_filter]
  refine List.filter_congr fun j _ => ?_
  by_cases hj : j = i
  · subst hj; simp [hi]
  · simp [hj]

@[simp] theorem State.finish_marksKept (cell : Nat) (reason : Option Reason) (words : List Word) (s : State)
    (h : s.marksKept = true) : (s.finish cell reason words).marksKept = true := by
  unfold State.finish
  have hv := State.setCellView_marksKept cell (if reason.isSome then .refused else .done) s h
  generalize s.setCellView cell _ = u at *
  dsimp only
  split
  · exact State.marksKept_le hv id rfl rfl rfl (Nat.le_refl _)
  · refine State.marksKept_le hv id rfl rfl rfl ?_
    simp only [Writer.waiting, List.filter_append, filter_isJournal_not _ (.cellTaken cell) rfl]
    simp

@[simp] theorem State.finishBook_marksKept (sel : BookEntry → Bool) (reason : Option Reason) (words : List Word)
    (s : State) (h : s.marksKept = true) :
    (State.finishBook sel reason words s).marksKept = true := by
  unfold State.finishBook; try dsimp only
  (repeat' split) <;> first | simp +contextual (maxDischargeDepth := 40) [h] | exact h

@[simp] theorem State.journalLost_marksKept (a : Nat) (cause : Word) (s : State) (h : s.marksKept = true) :
    (State.journalLost a cause s).marksKept = true := by
  unfold State.journalLost; try dsimp only
  (repeat' split) <;> first | simp +contextual (maxDischargeDepth := 40) [h] | exact h

@[simp] theorem State.loseUnit_marksKept (a : Nat) (cause : Word) (s : State) (h : s.marksKept = true) :
    (s.loseUnit a cause).marksKept = true := by
  unfold State.loseUnit
  have hu := State.setUnit_marksKept a
    { (s.unit a).emptied with presence := .lost, misses := 0, resync := true, lostStamp := s.clock } s h
  dsimp only
  generalize s.setUnit a _ = u at *
  simp [hu]

@[simp] theorem State.hand_marksKept (a : Nat) (c : Cmd) (s : State) (h : s.marksKept = true) :
    (State.hand a c s).marksKept = true := by
  unfold State.hand; try dsimp only
  (repeat' split) <;> first | simp +contextual (maxDischargeDepth := 40) [h] | exact h

@[simp] theorem State.withdrawDrive_marksKept (f : Nat) (s : State) (h : s.marksKept = true) :
    (State.withdrawDrive f s).marksKept = true := by
  unfold State.withdrawDrive; try dsimp only
  (repeat' split) <;> first | simp +contextual (maxDischargeDepth := 40) [h] | exact h

@[simp] theorem State.emptyQueue_marksKept (a : Nat) (s : State) (h : s.marksKept = true) :
    (State.emptyQueue a s).marksKept = true := by
  unfold State.emptyQueue; try dsimp only
  (repeat' split) <;> first | simp +contextual (maxDischargeDepth := 40) [h] | exact h

@[simp] theorem State.listSpindle_marksKept (f n : Nat) (s : State) (h : s.marksKept = true) :
    (State.listSpindle f n s).marksKept = true := by
  unfold State.listSpindle; try dsimp only
  (repeat' split) <;> first | simp +contextual (maxDischargeDepth := 40) [h] | exact h

@[simp] theorem State.makeDown_marksKept (f n : Nat) (s : State) (h : s.marksKept = true) :
    (State.makeDown f n s).marksKept = true := by
  unfold State.makeDown; try dsimp only
  (repeat' split) <;> first | simp +contextual (maxDischargeDepth := 40) [h] | exact h

@[simp] theorem State.removeEntry_marksKept (f n : Nat) (s : State) (h : s.marksKept = true) :
    (State.removeEntry f n s).marksKept = true := by
  unfold State.removeEntry; try dsimp only
  (repeat' split) <;> first | simp +contextual (maxDischargeDepth := 40) [h] | exact h

@[simp] theorem State.relist_marksKept (d : Nat) (s : State) (h : s.marksKept = true) :
    (State.relist d s).marksKept = true := by
  unfold State.relist; try dsimp only
  (repeat' split) <;> first | simp +contextual (maxDischargeDepth := 40) [h] | exact h

@[simp] theorem State.cutSpindle_marksKept (f n : Nat) (c : CutCause) (s : State) (h : s.marksKept = true) :
    (State.cutSpindle f n c s).marksKept = true := by
  unfold State.cutSpindle; try dsimp only
  (repeat' split) <;> first | simp +contextual (maxDischargeDepth := 40) [h] | exact h

@[simp] theorem State.pieced_marksKept (f n : Nat) (s : State) (h : s.marksKept = true) :
    (State.pieced f n s).marksKept = true := by
  unfold State.pieced; try dsimp only
  (repeat' split) <;> first | simp +contextual (maxDischargeDepth := 40) [h] | exact h

@[simp] theorem State.pieceFail_marksKept (f n p : Nat) (token : Token) (k : FailKind) (stage : Option AttemptStep) (cut : Bool)
    (s : State) (h : s.marksKept = true) :
    (State.pieceFail f n p token k stage cut s).marksKept = true := by
  unfold State.pieceFail; try dsimp only
  (repeat' split) <;> first | simp +contextual (maxDischargeDepth := 40) [h] | exact h

@[simp] theorem State.carrierTakes_marksKept (c k : Nat) (waiting : Holder) (s : State) (h : s.marksKept = true) :
    (State.carrierTakes c k waiting s).marksKept = true := by
  unfold State.carrierTakes; try dsimp only
  (repeat' split) <;> first | simp +contextual (maxDischargeDepth := 40) [h] | exact h

@[simp] theorem State.piecerReleases_marksKept (p k : Nat) (s : State) (h : s.marksKept = true) :
    (State.piecerReleases p k s).marksKept = true := by
  unfold State.piecerReleases; try dsimp only
  (repeat' split) <;> first | simp +contextual (maxDischargeDepth := 40) [h] | exact h

@[simp] theorem State.carrierReleases_marksKept (c k : Nat) (s : State) (h : s.marksKept = true) :
    (State.carrierReleases c k s).marksKept = true := by
  unfold State.carrierReleases; try dsimp only
  (repeat' split) <;> first | simp +contextual (maxDischargeDepth := 40) [h] | exact h

@[simp] theorem State.claimAbandoned_marksKept (f n : Nat) (s : State) (h : s.marksKept = true) :
    (State.claimAbandoned f n s).marksKept = true := by
  unfold State.claimAbandoned; try dsimp only
  (repeat' split) <;> first | simp +contextual (maxDischargeDepth := 40) [h] | exact h

@[simp] theorem State.claimJoined_marksKept (f n : Nat) (s : State) (h : s.marksKept = true) :
    (State.claimJoined f n s).marksKept = true := by
  unfold State.claimJoined; try dsimp only
  (repeat' split) <;> first | simp +contextual (maxDischargeDepth := 40) [h] | exact h

@[simp] theorem State.claimFailed_marksKept (f n p : Nat) (token : Token) (k : FailKind) (stage : Option AttemptStep)
    (s : State) (h : s.marksKept = true) :
    (State.claimFailed f n p token k stage s).marksKept = true := by
  unfold State.claimFailed; try dsimp only
  (repeat' split) <;> first | simp +contextual (maxDischargeDepth := 40) [h] | exact h

@[simp] theorem State.claimNoRoving_marksKept (f n p : Nat) (token : Token) (stage : Option AttemptStep) (s : State)
    (h : s.marksKept = true) :
    (State.claimNoRoving f n p token stage s).marksKept = true := by
  unfold State.claimNoRoving; try dsimp only
  (repeat' split) <;> first | simp +contextual (maxDischargeDepth := 40) [h] | exact h

@[simp] theorem State.journalMove_marksKept (p left dest : Nat) (r : Option MoveReason) (s : State)
    (h : s.marksKept = true) :
    (State.journalMove p left dest r s).marksKept = true := by
  unfold State.journalMove; try dsimp only
  (repeat' split) <;> first | simp +contextual (maxDischargeDepth := 40) [h] | exact h

@[simp] theorem State.unserve_marksKept (p : Nat) (s : State) (h : s.marksKept = true) :
    (State.unserve p s).marksKept = true := by
  unfold State.unserve; try dsimp only
  (repeat' split) <;> first | simp +contextual (maxDischargeDepth := 40) [h] | exact h

@[simp] theorem State.sendToSide_marksKept (p d : Nat) (r : MoveReason) (s : State) (h : s.marksKept = true) :
    (State.sendToSide p d r s).marksKept = true := by
  unfold State.sendToSide; try dsimp only
  (repeat' split) <;> first | simp +contextual (maxDischargeDepth := 40) [h] | exact h

@[simp] theorem State.sendToBay_marksKept (p : Nat) (placement : Placement) (r : Option MoveReason) (s : State)
    (h : s.marksKept = true) :
    (State.sendToBay p placement r s).marksKept = true := by
  unfold State.sendToBay; try dsimp only
  (repeat' split) <;> first | simp +contextual (maxDischargeDepth := 40) [h] | exact h

@[simp] theorem State.attemptOver_marksKept (p : Nat) (s : State) (h : s.marksKept = true) :
    (State.attemptOver p s).marksKept = true := by
  unfold State.attemptOver; try dsimp only
  (repeat' split) <;> first | simp +contextual (maxDischargeDepth := 40) [h] | exact h

@[simp] theorem State.voidAttempt_marksKept (p : Nat) (send : Bool) (s : State) (h : s.marksKept = true) :
    (State.voidAttempt p send s).marksKept = true := by
  unfold State.voidAttempt; try dsimp only
  (repeat' split) <;> first | simp +contextual (maxDischargeDepth := 40) [h] | exact h

@[simp] theorem State.abandon_marksKept (p : Nat) (s : State) (h : s.marksKept = true) :
    (State.abandon p s).marksKept = true := by
  unfold State.abandon; try dsimp only
  (repeat' split) <;> first | simp +contextual (maxDischargeDepth := 40) [h] | exact h

@[simp] theorem State.abandonAll_marksKept (f : Nat) (s : State) (h : s.marksKept = true) :
    (State.abandonAll f s).marksKept = true := by
  unfold State.abandonAll; try dsimp only
  (repeat' split) <;> first | simp +contextual (maxDischargeDepth := 40) [h] | exact h

@[simp] theorem State.abandonDrain_marksKept (f : Nat) (s : State) (h : s.marksKept = true) :
    (State.abandonDrain f s).marksKept = true := by
  unfold State.abandonDrain; try dsimp only
  (repeat' split) <;> first | simp +contextual (maxDischargeDepth := 40) [h] | exact h

@[simp] theorem State.piecerLost_marksKept (p : Nat) (byLink : Bool) (s : State) (h : s.marksKept = true) :
    (State.piecerLost p byLink s).marksKept = true := by
  unfold State.piecerLost; try dsimp only
  (repeat' split) <;> first | simp +contextual (maxDischargeDepth := 40) [h] | exact h

@[simp] theorem State.losePiecer_marksKept (p : Nat) (cause : Word) (s : State) (h : s.marksKept = true) :
    (State.losePiecer p cause s).marksKept = true := by
  unfold State.losePiecer; try dsimp only
  (repeat' split) <;> first | simp +contextual (maxDischargeDepth := 40) [h] | exact h

@[simp] theorem State.queueByStamp_marksKept (c : Nat) (t : Word) (s : State) (h : s.marksKept = true) :
    (s.queueByStamp c t).marksKept = true :=
  State.setCreel_marksKept c { s.creel c with state := .queued, queueStamp := some t } s h

@[simp] theorem State.displaceTail_marksKept (s : State) (h : s.marksKept = true) :
    s.displaceTail.marksKept = true := by
  unfold State.displaceTail
  (repeat' split)
  · exact h
  · exact h
  · exact State.setCreel_marksKept _ _ s h

@[simp] theorem State.queueAtHead_marksKept (c : Nat) (s : State) (h : s.marksKept = true) :
    (s.queueAtHead c).marksKept = true := by
  unfold State.queueAtHead
  exact State.setCreel_marksKept _ _ _ (State.displaceTail_marksKept s h)

@[simp] theorem State.leaveQueue_marksKept (c : Nat) (s : State) (h : s.marksKept = true) :
    (State.leaveQueue c s).marksKept = true := by
  unfold State.leaveQueue; try dsimp only
  (repeat' split) <;> first | simp +contextual (maxDischargeDepth := 40) [h] | exact h

@[simp] theorem refillN_marksKept (n : Nat) (s : State) (h : s.marksKept = true) :
    (refillN n s).marksKept = true := by
  induction n generalizing s with
  | zero => exact h
  | succ n ih =>
    unfold refillN; (repeat' split) <;> first | simp +contextual (maxDischargeDepth := 40) [h, ih] | exact h

@[simp] theorem State.refill_marksKept (s : State) (h : s.marksKept = true) :
    (State.refill s).marksKept = true := by
  unfold State.refill; try dsimp only
  (repeat' split) <;> first | simp +contextual (maxDischargeDepth := 40) [h] | exact h

@[simp] theorem State.lowTest_marksKept (c : Nat) (s : State) (h : s.marksKept = true) :
    (State.lowTest c s).marksKept = true := by
  unfold State.lowTest; try dsimp only
  (repeat' split) <;> first | simp +contextual (maxDischargeDepth := 40) [h] | exact h

@[simp] theorem State.runOutSpindle_marksKept (f n : Nat) (s : State) (h : s.marksKept = true) :
    (State.runOutSpindle f n s).marksKept = true := by
  unfold State.runOutSpindle; try dsimp only
  (repeat' split) <;> first | simp +contextual (maxDischargeDepth := 40) [h] | exact h

@[simp] theorem State.runOutTest_marksKept (c : Nat) (s : State) (h : s.marksKept = true) :
    (State.runOutTest c s).marksKept = true := by
  unfold State.runOutTest; try dsimp only
  (repeat' split) <;> first | simp +contextual (maxDischargeDepth := 40) [h] | exact h

@[simp] theorem State.consume_marksKept (f advance : Nat) (s : State) (h : s.marksKept = true) :
    (State.consume f advance s).marksKept = true := by
  unfold State.consume; try dsimp only
  (repeat' split) <;> first | simp +contextual (maxDischargeDepth := 40) [h] | exact h

@[simp] theorem dispatchN_marksKept (n : Nat) (s : State) (h : s.marksKept = true) :
    (dispatchN n s).marksKept = true := by
  induction n generalizing s with
  | zero => exact h
  | succ n ih =>
    unfold dispatchN; (repeat' split) <;> first | simp +contextual (maxDischargeDepth := 40) [h, ih] | exact h

@[simp] theorem State.dispatch_marksKept (s : State) (h : s.marksKept = true) :
    (State.dispatch s).marksKept = true := by
  unfold State.dispatch; try dsimp only
  (repeat' split) <;> first | simp +contextual (maxDischargeDepth := 40) [h] | exact h

@[simp] theorem State.sendBack_marksKept (c : Nat) (s : State) (h : s.marksKept = true) :
    (State.sendBack c s).marksKept = true := by
  unfold State.sendBack; try dsimp only
  (repeat' split) <;> first | simp +contextual (maxDischargeDepth := 40) [h] | exact h

@[simp] theorem State.sendBackFault_marksKept (c : Nat) (s : State) (h : s.marksKept = true) :
    (State.sendBackFault c s).marksKept = true := by
  unfold State.sendBackFault; try dsimp only
  (repeat' split) <;> first | simp +contextual (maxDischargeDepth := 40) [h] | exact h

@[simp] theorem State.makeIdle_marksKept (c : Nat) (s : State) (h : s.marksKept = true) :
    (State.makeIdle c s).marksKept = true := by
  unfold State.makeIdle; try dsimp only
  (repeat' split) <;> first | simp +contextual (maxDischargeDepth := 40) [h] | exact h

@[simp] theorem State.failChange_marksKept (c : Nat) (s : State) (h : s.marksKept = true) :
    (State.failChange c s).marksKept = true := by
  unfold State.failChange; try dsimp only
  (repeat' split) <;> first | simp +contextual (maxDischargeDepth := 40) [h] | exact h

@[simp] theorem State.creelFault_marksKept (c : Nat) (k : Option Nat) (left : CarrierState) (e : ChangeEnd)
    (s : State) (h : s.marksKept = true) :
    (State.creelFault c k left e s).marksKept = true := by
  unfold State.creelFault; try dsimp only
  (repeat' split) <;> first | simp +contextual (maxDischargeDepth := 40) [h] | exact h

@[simp] theorem State.changeFails_marksKept (c : Nat) (e : ChangeEnd) (s : State) (h : s.marksKept = true) :
    (State.changeFails c e s).marksKept = true := by
  unfold State.changeFails; try dsimp only
  (repeat' split) <;> first | simp +contextual (maxDischargeDepth := 40) [h] | exact h

@[simp] theorem State.changeReturned_marksKept (c : Nat) (s : State) (h : s.marksKept = true) :
    (State.changeReturned c s).marksKept = true := by
  unfold State.changeReturned; try dsimp only
  (repeat' split) <;> first | simp +contextual (maxDischargeDepth := 40) [h] | exact h

@[simp] theorem State.carrierLost_marksKept (c : Nat) (s : State) (h : s.marksKept = true) :
    (State.carrierLost c s).marksKept = true := by
  unfold State.carrierLost; try dsimp only
  (repeat' split) <;> first | simp +contextual (maxDischargeDepth := 40) [h] | exact h

@[simp] theorem State.renewSpindle_marksKept (f n : Nat) (s : State) (h : s.marksKept = true) :
    (State.renewSpindle f n s).marksKept = true := by
  unfold State.renewSpindle; try dsimp only
  (repeat' split) <;> first | simp +contextual (maxDischargeDepth := 40) [h] | exact h

@[simp] theorem State.creelOrderDone_marksKept (c k completion : Nat) (lot : Option Token) (s : State)
    (h : s.marksKept = true) :
    (State.creelOrderDone c k completion lot s).marksKept = true := by
  unfold State.creelOrderDone; try dsimp only
  (repeat' split) <;> first | simp +contextual (maxDischargeDepth := 40) [h] | exact h

@[simp] theorem State.changeDone_marksKept (c k : Nat) (s : State) (h : s.marksKept = true) :
    (State.changeDone c k s).marksKept = true := by
  unfold State.changeDone; try dsimp only
  (repeat' split) <;> first | simp +contextual (maxDischargeDepth := 40) [h] | exact h

@[simp] theorem State.lotCheck_marksKept (c k : Nat) (lot : Token) (s : State) (h : s.marksKept = true) :
    (State.lotCheck c k lot s).marksKept = true := by
  unfold State.lotCheck; try dsimp only
  (repeat' split) <;> first | simp +contextual (maxDischargeDepth := 40) [h] | exact h

@[simp] theorem State.claimLock_marksKept (c k : Nat) (s : State) (h : s.marksKept = true) :
    (State.claimLock c k s).marksKept = true := by
  unfold State.claimLock; try dsimp only
  (repeat' split) <;> first | simp +contextual (maxDischargeDepth := 40) [h] | exact h

@[simp] theorem State.takeLoaded_marksKept (c : Nat) (lot : Token) (s : State) (h : s.marksKept = true) :
    (State.takeLoaded c lot s).marksKept = true := by
  unfold State.takeLoaded; try dsimp only
  (repeat' split) <;> first | simp +contextual (maxDischargeDepth := 40) [h] | exact h

@[simp] theorem State.takeArrived_marksKept (c : Nat) (s : State) (h : s.marksKept = true) :
    (State.takeArrived c s).marksKept = true := by
  unfold State.takeArrived; try dsimp only
  (repeat' split) <;> first | simp +contextual (maxDischargeDepth := 40) [h] | exact h

@[simp] theorem State.takeChangeDone_marksKept (c : Nat) (s : State) (h : s.marksKept = true) :
    (State.takeChangeDone c s).marksKept = true := by
  unfold State.takeChangeDone; try dsimp only
  (repeat' split) <;> first | simp +contextual (maxDischargeDepth := 40) [h] | exact h

@[simp] theorem State.returnFails_marksKept (c : Nat) (e : ChangeEnd) (s : State) (h : s.marksKept = true) :
    (State.returnFails c e s).marksKept = true := by
  unfold State.returnFails; try dsimp only
  (repeat' split) <;> first | simp +contextual (maxDischargeDepth := 40) [h] | exact h

@[simp] theorem State.takeChangeFault_marksKept (c : Nat) (s : State) (h : s.marksKept = true) :
    (State.takeChangeFault c s).marksKept = true := by
  unfold State.takeChangeFault; try dsimp only
  (repeat' split) <;> first | simp +contextual (maxDischargeDepth := 40) [h] | exact h

@[simp] theorem State.takeReturned_marksKept (c : Nat) (s : State) (h : s.marksKept = true) :
    (State.takeReturned c s).marksKept = true := by
  unfold State.takeReturned; try dsimp only
  (repeat' split) <;> first | simp +contextual (maxDischargeDepth := 40) [h] | exact h

@[simp] theorem State.queueNow_marksKept (l : List Nat) (s : State) (h : s.marksKept = true) :
    (State.queueNow l s).marksKept = true := by
  unfold State.queueNow; try dsimp only
  (repeat' split) <;> first | simp +contextual (maxDischargeDepth := 40) [h] | exact h

@[simp] theorem State.creelOut_marksKept (k : Nat) (s : State) (h : s.marksKept = true) :
    (State.creelOut k s).marksKept = true := by
  unfold State.creelOut; try dsimp only
  (repeat' split) <;> first | simp +contextual (maxDischargeDepth := 40) [h] | exact h

@[simp] theorem State.closeStop_marksKept (f : Nat) (s : State) (h : s.marksKept = true) :
    (State.closeStop f s).marksKept = true := by
  unfold State.closeStop; try dsimp only
  (repeat' split) <;> first | simp +contextual (maxDischargeDepth := 40) [h] | exact h

@[simp] theorem State.openStop_marksKept (f : Nat) (s : State) (h : s.marksKept = true) :
    (State.openStop f s).marksKept = true := by
  unfold State.openStop; try dsimp only
  (repeat' split) <;> first | simp +contextual (maxDischargeDepth := 40) [h] | exact h

@[simp] theorem State.leaveFrameEnds_marksKept (f : Nat) (s : State) (h : s.marksKept = true) :
    (s.leaveFrameEnds f).marksKept = true := by
  unfold State.leaveFrameEnds
  exact State.each_marksKept _ _ (fun x t ht => by
    dsimp only; (repeat' split) <;> simp +contextual (maxDischargeDepth := 40) [ht]) s h

@[simp] theorem State.enterState_marksKept (f : Nat) (st : FrameState) (s : State) (h : s.marksKept = true) :
    (State.enterState f st s).marksKept = true := by
  unfold State.enterState; try dsimp only
  (repeat' split) <;> first | simp +contextual (maxDischargeDepth := 40) [h] | exact h

@[simp] theorem State.handDrive_marksKept (f : Nat) (c : Cmd) (s : State) (h : s.marksKept = true) :
    (State.handDrive f c s).marksKept = true := by
  unfold State.handDrive; try dsimp only
  (repeat' split) <;> first | simp +contextual (maxDischargeDepth := 40) [h] | exact h

@[simp] theorem State.grantSlot_marksKept (f k : Nat) (s : State) (h : s.marksKept = true) :
    (State.grantSlot f k s).marksKept = true := by
  unfold State.grantSlot; try dsimp only
  (repeat' split) <;> first | simp +contextual (maxDischargeDepth := 40) [h] | exact h

@[simp] theorem grantN_marksKept (n : Nat) (s : State) (h : s.marksKept = true) :
    (grantN n s).marksKept = true := by
  induction n generalizing s with
  | zero => exact h
  | succ n ih =>
    unfold grantN; (repeat' split) <;> first | simp +contextual (maxDischargeDepth := 40) [h, ih] | exact h

@[simp] theorem State.doffArbiter_marksKept (s : State) (h : s.marksKept = true) :
    (State.doffArbiter s).marksKept = true := by
  unfold State.doffArbiter; try dsimp only
  (repeat' split) <;> first | simp +contextual (maxDischargeDepth := 40) [h] | exact h

@[simp] theorem State.callFrame_marksKept (f : Nat) (c : CallCause) (s : State) (h : s.marksKept = true) :
    (State.callFrame f c s).marksKept = true := by
  unfold State.callFrame; try dsimp only
  (repeat' split) <;> first | simp +contextual (maxDischargeDepth := 40) [h] | exact h

@[simp] theorem State.releaseSlot_marksKept (f : Nat) (s : State) (h : s.marksKept = true) :
    (State.releaseSlot f s).marksKept = true := by
  unfold State.releaseSlot; try dsimp only
  (repeat' split) <;> first | simp +contextual (maxDischargeDepth := 40) [h] | exact h

@[simp] theorem State.completeDoff_marksKept (f : Nat) (s : State) (h : s.marksKept = true) :
    (State.completeDoff f s).marksKept = true := by
  unfold State.completeDoff; try dsimp only
  (repeat' split) <;> first | simp +contextual (maxDischargeDepth := 40) [h] | exact h

@[simp] theorem State.graceSpindle_marksKept (f n : Nat) (afterDoff : Bool) (s : State) (h : s.marksKept = true) :
    (State.graceSpindle f n afterDoff s).marksKept = true := by
  unfold State.graceSpindle; try dsimp only
  (repeat' split) <;> first | simp +contextual (maxDischargeDepth := 40) [h] | exact h

@[simp] theorem State.placeAt_marksKept (f build : Nat) (c : CallCause) (s : State) (h : s.marksKept = true) :
    (State.placeAt f build c s).marksKept = true := by
  unfold State.placeAt; try dsimp only
  (repeat' split) <;> first | simp +contextual (maxDischargeDepth := 40) [h] | exact h

@[simp] theorem State.placeByBuild_marksKept (f : Nat) (c : CallCause) (s : State) (h : s.marksKept = true) :
    (State.placeByBuild f c s).marksKept = true := by
  unfold State.placeByBuild; try dsimp only
  (repeat' split) <;> first | simp +contextual (maxDischargeDepth := 40) [h] | exact h

@[simp] theorem State.graceEnd_marksKept (f : Nat) (s : State) (h : s.marksKept = true) :
    (State.graceEnd f s).marksKept = true := by
  unfold State.graceEnd; try dsimp only
  (repeat' split) <;> first | simp +contextual (maxDischargeDepth := 40) [h] | exact h

@[simp] theorem State.notice_marksKept (f : Nat) (s : State) (h : s.marksKept = true) :
    (State.notice f s).marksKept = true := by
  unfold State.notice; try dsimp only
  (repeat' split) <;> first | simp +contextual (maxDischargeDepth := 40) [h] | exact h

@[simp] theorem State.drainTest_marksKept (f : Nat) (s : State) (h : s.marksKept = true) :
    (State.drainTest f s).marksKept = true := by
  unfold State.drainTest; try dsimp only
  (repeat' split) <;> first | simp +contextual (maxDischargeDepth := 40) [h] | exact h

@[simp] theorem State.haltReport_marksKept (f : Nat) (c : HaltCause) (left : FrameState) (s : State)
    (h : s.marksKept = true) :
    (State.haltReport f c left s).marksKept = true := by
  unfold State.haltReport; try dsimp only
  (repeat' split) <;> first | simp +contextual (maxDischargeDepth := 40) [h] | exact h

@[simp] theorem State.stopFrame_marksKept (f : Nat) (c : HaltCause) (s : State) (h : s.marksKept = true) :
    (State.stopFrame f c s).marksKept = true := by
  unfold State.stopFrame; try dsimp only
  (repeat' split) <;> first | simp +contextual (maxDischargeDepth := 40) [h] | exact h

@[simp] theorem State.doffFails_marksKept (f : Nat) (c : HaltCause) (s : State) (h : s.marksKept = true) :
    (State.doffFails f c s).marksKept = true := by
  unfold State.doffFails; try dsimp only
  (repeat' split) <;> first | simp +contextual (maxDischargeDepth := 40) [h] | exact h

@[simp] theorem State.restart_marksKept (f : Nat) (s : State) (h : s.marksKept = true) :
    (State.restart f s).marksKept = true := by
  unfold State.restart; try dsimp only
  (repeat' split) <;> first | simp +contextual (maxDischargeDepth := 40) [h] | exact h

@[simp] theorem State.takeAtDoff_marksKept (f : Nat) (s : State) (h : s.marksKept = true) :
    (State.takeAtDoff f s).marksKept = true := by
  unfold State.takeAtDoff; try dsimp only
  (repeat' split) <;> first | simp +contextual (maxDischargeDepth := 40) [h] | exact h

@[simp] theorem State.takeDoffDone_marksKept (f : Nat) (s : State) (h : s.marksKept = true) :
    (State.takeDoffDone f s).marksKept = true := by
  unfold State.takeDoffDone; try dsimp only
  (repeat' split) <;> first | simp +contextual (maxDischargeDepth := 40) [h] | exact h

@[simp] theorem State.takeDriveFault_marksKept (f : Nat) (s : State) (h : s.marksKept = true) :
    (State.takeDriveFault f s).marksKept = true := by
  unfold State.takeDriveFault; try dsimp only
  (repeat' split) <;> first | simp +contextual (maxDischargeDepth := 40) [h] | exact h

@[simp] theorem State.takeDriveState_marksKept (f : Nat) (d : DriveState) (s : State) (h : s.marksKept = true) :
    (State.takeDriveState f d s).marksKept = true := by
  unfold State.takeDriveState; try dsimp only
  (repeat' split) <;> first | simp +contextual (maxDischargeDepth := 40) [h] | exact h

@[simp] theorem State.driveBack_marksKept (f : Nat) (s : State) (h : s.marksKept = true) :
    (State.driveBack f s).marksKept = true := by
  unfold State.driveBack; try dsimp only
  (repeat' split) <;> first | simp +contextual (maxDischargeDepth := 40) [h] | exact h

@[simp] theorem State.driveLost_marksKept (f : Nat) (s : State) (h : s.marksKept = true) :
    (State.driveLost f s).marksKept = true := by
  unfold State.driveLost; try dsimp only
  (repeat' split) <;> first | simp +contextual (maxDischargeDepth := 40) [h] | exact h

@[simp] theorem State.updateStop_marksKept (f : Nat) (s : State) (h : s.marksKept = true) :
    (State.updateStop f s).marksKept = true := by
  unfold State.updateStop; try dsimp only
  (repeat' split) <;> first | simp +contextual (maxDischargeDepth := 40) [h] | exact h

@[simp] theorem State.captureLengths_marksKept (f running : Nat) (s : State) (h : s.marksKept = true) :
    (State.captureLengths f running s).marksKept = true := by
  unfold State.captureLengths; try dsimp only
  (repeat' split) <;> first | simp +contextual (maxDischargeDepth := 40) [h] | exact h

@[simp] theorem State.sweepCapture_marksKept (f running planned period : Nat) (s : State) (h : s.marksKept = true) :
    (State.sweepCapture f running planned period s).marksKept = true := by
  unfold State.sweepCapture; try dsimp only
  (repeat' split) <;> first | simp +contextual (maxDischargeDepth := 40) [h] | exact h

@[simp] theorem State.boundaryCapture_marksKept (f : Nat) (s : State) (h : s.marksKept = true) :
    (State.boundaryCapture f s).marksKept = true := by
  unfold State.boundaryCapture; try dsimp only
  (repeat' split) <;> first | simp +contextual (maxDischargeDepth := 40) [h] | exact h

@[simp] theorem closeInQueue_isJournal (c : ClosedPage) (l : List WriteItem) :
    (closeInQueue c l).filter WriteItem.isJournal = l.filter WriteItem.isJournal := by
  induction l with
  | nil => rfl
  | cons i r ih =>
    unfold closeInQueue
    split
    · next hi => subst hi; simp
    · simp [List.filter_cons, ih]

@[simp] theorem State.closePage_marksKept (cause : PageCause) (s : State) (h : s.marksKept = true) :
    (s.closePage cause).marksKept = true := by
  unfold State.closePage
  split
  · exact h
  · refine (State.raise_marksKept _ _).trans (State.journal_marksKept _ _ _ _ _ ?_)
    refine State.each_marksKept _ _ (fun f t ht => State.setRoller_marksKept _ _ _ ht) _
      (State.setPageView_marksKept _ _ _ ?_)
    exact State.marksKept_le h id rfl rfl rfl (by simp [-Writer.waiting_eq, Writer.waiting])

@[simp] theorem State.openNewPage_marksKept (n : Nat) (cause : PageCause) (s : State) (h : s.marksKept = true) :
    (State.openNewPage n cause s).marksKept = true := by
  unfold State.openNewPage; try dsimp only
  (repeat' split) <;> first | simp +contextual (maxDischargeDepth := 40) [h] | exact h

@[simp] theorem State.absorb_marksKept (cause : PageCause) (s : State) (h : s.marksKept = true) :
    (State.absorb cause s).marksKept = true := by
  unfold State.absorb; try dsimp only
  (repeat' split) <;> first | simp +contextual (maxDischargeDepth := 40) [h] | exact h

@[simp] theorem State.rotatePage_marksKept (cause : PageCause) (s : State) (h : s.marksKept = true) :
    (State.rotatePage cause s).marksKept = true := by
  unfold State.rotatePage; try dsimp only
  (repeat' split) <;> first | simp +contextual (maxDischargeDepth := 40) [h] | exact h

@[simp] theorem State.loadShift_marksKept (s : State) (h : s.marksKept = true) :
    (State.loadShift s).marksKept = true := by
  unfold State.loadShift; try dsimp only
  (repeat' split) <;> first | simp +contextual (maxDischargeDepth := 40) [h] | exact h

@[simp] theorem State.boundaryPage_marksKept (cause : PageCause) (s : State) (h : s.marksKept = true) :
    (State.boundaryPage cause s).marksKept = true := by
  unfold State.boundaryPage; try dsimp only
  (repeat' split) <;> first | simp +contextual (maxDischargeDepth := 40) [h] | exact h

@[simp] theorem State.loadCompare_marksKept (f : Nat) (s : State) (h : s.marksKept = true) :
    (State.loadCompare f s).marksKept = true := by
  unfold State.loadCompare; try dsimp only
  (repeat' split) <;> first | simp +contextual (maxDischargeDepth := 40) [h] | exact h

@[simp] theorem State.slipTest_marksKept (f n : Nat) (s : State) (h : s.marksKept = true) :
    (State.slipTest f n s).marksKept = true := by
  unfold State.slipTest; try dsimp only
  (repeat' split) <;> first | simp +contextual (maxDischargeDepth := 40) [h] | exact h

@[simp] theorem State.judge_marksKept (s : State) (f n count : Nat) (h : s.marksKept = true) :
    (s.judge f n count).1.marksKept = true := by
  unfold State.judge; dsimp only; split <;> (try split) <;> simp +contextual (maxDischargeDepth := 40) [h]

@[simp] theorem judgeAll_marksKept (f : Nat) (l : List (Nat × Nat)) (s : State) (h : s.marksKept = true) :
    (judgeAll f l s).1.marksKept = true := by
  induction l generalizing s with
  | nil => exact h
  | cons x r ih =>
    have h := ih _ (s.judge_marksKept f x.1 x.2 h)
    unfold judgeAll; dsimp only; split <;> exact h

@[simp] theorem State.reportBreak_marksKept (f n : Nat) (c : BreakClass) (repeats : Nat) (s : State)
    (h : s.marksKept = true) : (State.reportBreak f n c repeats s).marksKept = true := by
  unfold State.reportBreak; simp [h]

@[simp] theorem State.settleProveFail_marksKept (f n : Nat) (s : State) (h : s.marksKept = true) :
    (State.settleProveFail f n s).marksKept = true := by
  unfold State.settleProveFail; try dsimp only
  (repeat' split) <;> first | simp +contextual (maxDischargeDepth := 40) [h] | exact h

@[simp] theorem State.settleBreak_marksKept (f n : Nat) (c : BreakClass) (s : State) (h : s.marksKept = true) :
    (s.settleBreak f n c).marksKept = true := by
  unfold State.settleBreak; dsimp only
  have hu := State.setSpindle_marksKept f n { s.spindle f n with
    lastClass := some (if (s.creel (creelOfSpindle f n)).remaining = 0 then .starve else c) } s h
  generalize s.setSpindle f n _ = u at *
  (repeat' split) <;> simp +contextual (maxDischargeDepth := 40) [hu]

@[simp] theorem State.judgeStrip_marksKept (f k : Nat) (counts : List Nat) (s : State) (h : s.marksKept = true) :
    (State.judgeStrip f k counts s).marksKept = true := by
  unfold State.judgeStrip; try dsimp only
  (repeat' split) <;> first | simp +contextual (maxDischargeDepth := 40) [h] | exact h

@[simp] theorem State.countRead_marksKept (f k : Nat) (good : Bool) (s : State) (h : s.marksKept = true) :
    (State.countRead f k good s).marksKept = true := by
  unfold State.countRead; try dsimp only
  (repeat' split) <;> first | simp +contextual (maxDischargeDepth := 40) [h] | exact h

@[simp] theorem State.checkReport_marksKept (f k passed failed completion : Nat) (s : State) (h : s.marksKept = true) :
    (State.checkReport f k passed failed completion s).marksKept = true := by
  unfold State.checkReport; try dsimp only
  (repeat' split) <;> first | simp +contextual (maxDischargeDepth := 40) [h] | exact h

@[simp] theorem State.settleChecked_marksKept (f n : Nat) (failed : Bool) (s : State) (h : s.marksKept = true) :
    (State.settleChecked f n failed s).marksKept = true := by
  unfold State.settleChecked; try dsimp only
  (repeat' split) <;> first | simp +contextual (maxDischargeDepth := 40) [h] | exact h

@[simp] theorem State.endCheck_marksKept (f k : Nat) (cutShort : Bool) (s : State) (h : s.marksKept = true) :
    (State.endCheck f k cutShort s).marksKept = true := by
  unfold State.endCheck; try dsimp only
  (repeat' split) <;> first | simp +contextual (maxDischargeDepth := 40) [h] | exact h

@[simp] theorem State.dropCheck_marksKept (f k : Nat) (s : State) (h : s.marksKept = true) :
    (State.dropCheck f k s).marksKept = true := by
  unfold State.dropCheck; try dsimp only
  (repeat' split) <;> first | simp +contextual (maxDischargeDepth := 40) [h] | exact h

@[simp] theorem State.loopSweep_marksKept (f k : Nat) (c : LoopCheck) (values : List Nat) (s : State)
    (h : s.marksKept = true) :
    (State.loopSweep f k c values s).marksKept = true := by
  unfold State.loopSweep; try dsimp only
  (repeat' split) <;> first | simp +contextual (maxDischargeDepth := 40) [h] | exact h

@[simp] theorem State.takeRead_marksKept (f k : Nat) (counts : Option (List Nat)) (s : State) (h : s.marksKept = true) :
    (State.takeRead f k counts s).marksKept = true := by
  unfold State.takeRead; dsimp only; (repeat' split) <;> simp +contextual (maxDischargeDepth := 40) [h]

@[simp] theorem State.sweepEnd_marksKept (f : Nat) (s : State) (h : s.marksKept = true) :
    (State.sweepEnd f s).marksKept = true := by
  unfold State.sweepEnd; dsimp only; (repeat' split) <;> simp +contextual (maxDischargeDepth := 40) [h]

@[simp] theorem State.readStrip_marksKept (f : Nat) (reply : Nat → Option (List Nat)) (s : State)
    (h : s.marksKept = true) :
    (State.readStrip f reply s).marksKept = true := by
  unfold State.readStrip; (repeat' split) <;> simp +contextual (maxDischargeDepth := 40) [h]

@[simp] theorem State.startSweep_marksKept (f : Nat) (s : State) (h : s.marksKept = true) :
    (State.startSweep f s).marksKept = true := by
  unfold State.startSweep; (repeat' split) <;> first | simp +contextual (maxDischargeDepth := 40) [h] | exact h

@[simp] theorem State.spindlesIn_marksKept (f : Nat) (l : List Nat) (s : State) (h : s.marksKept = true) :
    (State.spindlesIn f l s).marksKept = true := by
  unfold State.spindlesIn; try dsimp only
  (repeat' split) <;> first | simp +contextual (maxDischargeDepth := 40) [h] | exact h

@[simp] theorem State.spindlesOut_marksKept (f : Nat) (l : List Nat) (s : State) (h : s.marksKept = true) :
    (State.spindlesOut f l s).marksKept = true := by
  unfold State.spindlesOut; try dsimp only
  (repeat' split) <;> first | simp +contextual (maxDischargeDepth := 40) [h] | exact h

@[simp] theorem State.stripsClear_marksKept (f : Nat) (l : List Nat) (s : State) (h : s.marksKept = true) :
    (State.stripsClear f l s).marksKept = true := by
  unfold State.stripsClear; try dsimp only
  (repeat' split) <;> first | simp +contextual (maxDischargeDepth := 40) [h] | exact h

@[simp] theorem State.recount_marksKept (d : Nat) (s : State) (h : s.marksKept = true) :
    (State.recount d s).marksKept = true := by
  unfold State.recount; try dsimp only
  (repeat' split) <;> first | simp +contextual (maxDischargeDepth := 40) [h] | exact h

@[simp] theorem State.recountAll_marksKept (s : State) (h : s.marksKept = true) :
    (State.recountAll s).marksKept = true := by
  unfold State.recountAll; try dsimp only
  (repeat' split) <;> first | simp +contextual (maxDischargeDepth := 40) [h] | exact h

@[simp] theorem State.startAttempt_marksKept (p d n : Nat) (s : State) (h : s.marksKept = true) :
    (State.startAttempt p d n s).marksKept = true := by
  unfold State.startAttempt; try dsimp only
  (repeat' split) <;> first | simp +contextual (maxDischargeDepth := 40) [h] | exact h

@[simp] theorem State.choose_marksKept (d : Nat) (s : State) (h : s.marksKept = true) :
    (State.choose d s).marksKept = true := by
  unfold State.choose; try dsimp only
  (repeat' split) <;> first | simp +contextual (maxDischargeDepth := 40) [h] | exact h

@[simp] theorem State.chooseAll_marksKept (s : State) (h : s.marksKept = true) :
    (State.chooseAll s).marksKept = true := by
  unfold State.chooseAll; try dsimp only
  (repeat' split) <;> first | simp +contextual (maxDischargeDepth := 40) [h] | exact h

@[simp] theorem State.homePass_marksKept (p : Nat) (s : State) (h : s.marksKept = true) :
    (State.homePass p s).marksKept = true := by
  unfold State.homePass; try dsimp only
  (repeat' split) <;> first | simp +contextual (maxDischargeDepth := 40) [h] | exact h

@[simp] theorem State.lendPass_marksKept (p : Nat) (s : State) (h : s.marksKept = true) :
    (State.lendPass p s).marksKept = true := by
  unfold State.lendPass; try dsimp only
  (repeat' split) <;> first | simp +contextual (maxDischargeDepth := 40) [h] | exact h

@[simp] theorem State.arbitrate_marksKept (s : State) (h : s.marksKept = true) :
    (State.arbitrate s).marksKept = true := by
  unfold State.arbitrate; try dsimp only
  (repeat' split) <;> first | simp +contextual (maxDischargeDepth := 40) [h] | exact h

@[simp] theorem State.frameEnd_marksKept (p : Nat) (s : State) (h : s.marksKept = true) :
    (State.frameEnd p s).marksKept = true := by
  unfold State.frameEnd; try dsimp only
  (repeat' split) <;> first | simp +contextual (maxDischargeDepth := 40) [h] | exact h

@[simp] theorem State.arrive_marksKept (p d pos : Nat) (s : State) (h : s.marksKept = true) :
    (State.arrive p d pos s).marksKept = true := by
  unfold State.arrive; try dsimp only
  (repeat' split) <;> first | simp +contextual (maxDischargeDepth := 40) [h] | exact h

@[simp] theorem State.markReturned_marksKept (p : Nat) (s : State) (h : s.marksKept = true) :
    (State.markReturned p s).marksKept = true := by
  unfold State.markReturned; try dsimp only
  (repeat' split) <;> first | simp +contextual (maxDischargeDepth := 40) [h] | exact h

@[simp] theorem State.journalBack_marksKept (a : Nat) (lost : Word) (s : State) (h : s.marksKept = true) :
    (State.journalBack a lost s).marksKept = true := by
  unfold State.journalBack; try dsimp only
  (repeat' split) <;> first | simp +contextual (maxDischargeDepth := 40) [h] | exact h

@[simp] theorem State.returnByReport_marksKept (p : Nat) (s : State) (h : s.marksKept = true) :
    (State.returnByReport p s).marksKept = true := by
  unfold State.returnByReport; try dsimp only
  (repeat' split) <;> first | simp +contextual (maxDischargeDepth := 40) [h] | exact h

@[simp] theorem State.returnByLink_marksKept (p : Nat) (s : State) (h : s.marksKept = true) :
    (State.returnByLink p s).marksKept = true := by
  unfold State.returnByLink; try dsimp only
  (repeat' split) <;> first | simp +contextual (maxDischargeDepth := 40) [h] | exact h

@[simp] theorem State.placeReturned_marksKept (p d pos : Nat) (s : State) (h : s.marksKept = true) :
    (State.placeReturned p d pos s).marksKept = true := by
  unfold State.placeReturned; try dsimp only
  (repeat' split) <;> first | simp +contextual (maxDischargeDepth := 40) [h] | exact h

@[simp] theorem State.takeAtSide_marksKept (p d pos : Nat) (s : State) (h : s.marksKept = true) :
    (State.takeAtSide p d pos s).marksKept = true := by
  unfold State.takeAtSide; try dsimp only
  (repeat' split) <;> first | simp +contextual (maxDischargeDepth := 40) [h] | exact h

@[simp] theorem State.takeParked_marksKept (p : Nat) (s : State) (h : s.marksKept = true) :
    (State.takeParked p s).marksKept = true := by
  unfold State.takeParked; try dsimp only
  (repeat' split) <;> first | simp +contextual (maxDischargeDepth := 40) [h] | exact h

@[simp] theorem State.stale_marksKept (p : Nat) (r : Report) (t : Token) (o : Option Outcome) (s : State)
    (h : s.marksKept = true) :
    (State.stale p r t o s).marksKept = true := by
  unfold State.stale; try dsimp only
  (repeat' split) <;> first | simp +contextual (maxDischargeDepth := 40) [h] | exact h

@[simp] theorem State.takeStep_marksKept (p : Nat) (t : Token) (st : AttemptStep) (pos : Nat) (s : State)
    (h : s.marksKept = true) :
    (State.takeStep p t st pos s).marksKept = true := by
  unfold State.takeStep; try dsimp only
  (repeat' split) <;> first | simp +contextual (maxDischargeDepth := 40) [h] | exact h

@[simp] theorem State.claimOutcome_marksKept (f n p : Nat) (t : Token) (stage : Option AttemptStep) (o : Outcome)
    (s : State) (h : s.marksKept = true) :
    (State.claimOutcome f n p t stage o s).marksKept = true := by
  unfold State.claimOutcome; try dsimp only
  (repeat' split) <;> first | simp +contextual (maxDischargeDepth := 40) [h] | exact h

@[simp] theorem State.takeResult_marksKept (p : Nat) (t : Token) (o : Outcome) (s : State) (h : s.marksKept = true) :
    (State.takeResult p t o s).marksKept = true := by
  unfold State.takeResult; try dsimp only
  (repeat' split) <;> first | simp +contextual (maxDischargeDepth := 40) [h] | exact h

@[simp] theorem State.attemptExpires_marksKept (p : Nat) (s : State) (h : s.marksKept = true) :
    (State.attemptExpires p s).marksKept = true := by
  unfold State.attemptExpires; try dsimp only
  (repeat' split) <;> first | simp +contextual (maxDischargeDepth := 40) [h] | exact h

@[simp] theorem State.holdRefused_marksKept (k : Nat) (s : State) (h : s.marksKept = true) :
    (State.holdRefused k s).marksKept = true := by
  unfold State.holdRefused; try dsimp only
  (repeat' split) <;> first | simp +contextual (maxDischargeDepth := 40) [h] | exact h

@[simp] theorem State.takeHeld_marksKept (p : Nat) (t : Token) (s : State) (h : s.marksKept = true) :
    (State.takeHeld p t s).marksKept = true := by
  unfold State.takeHeld; try dsimp only
  (repeat' split) <;> first | simp +contextual (maxDischargeDepth := 40) [h] | exact h

@[simp] theorem State.takeRefusedHold_marksKept (p : Nat) (t : Token) (s : State) (h : s.marksKept = true) :
    (State.takeRefusedHold p t s).marksKept = true := by
  unfold State.takeRefusedHold; try dsimp only
  (repeat' split) <;> first | simp +contextual (maxDischargeDepth := 40) [h] | exact h

@[simp] theorem State.tellLoss_marksKept (a : Nat) (s : State) (h : s.marksKept = true) :
    (State.tellLoss a s).marksKept = true := by
  unfold State.tellLoss; try dsimp only
  (repeat' split) <;> first | simp +contextual (maxDischargeDepth := 40) [h] | exact h

@[simp] theorem State.tellLosses_marksKept (s : State) (h : s.marksKept = true) :
    (State.tellLosses s).marksKept = true := by
  unfold State.tellLosses; try dsimp only
  (repeat' split) <;> first | simp +contextual (maxDischargeDepth := 40) [h] | exact h

@[simp] theorem State.relistOwed_marksKept (s : State) (h : s.marksKept = true) :
    (State.relistOwed s).marksKept = true := by
  unfold State.relistOwed; try dsimp only
  (repeat' split) <;> first | simp +contextual (maxDischargeDepth := 40) [h] | exact h

@[simp] theorem State.arbiterOwed_marksKept (s : State) (h : s.marksKept = true) :
    (State.arbiterOwed s).marksKept = true := by
  unfold State.arbiterOwed; try dsimp only
  (repeat' split) <;> first | simp +contextual (maxDischargeDepth := 40) [h] | exact h

@[simp] theorem State.refillOwed_marksKept (s : State) (h : s.marksKept = true) :
    (State.refillOwed s).marksKept = true := by
  unfold State.refillOwed; try dsimp only
  (repeat' split) <;> first | simp +contextual (maxDischargeDepth := 40) [h] | exact h

@[simp] theorem State.settleRound_marksKept (s : State) (h : s.marksKept = true) :
    (State.settleRound s).marksKept = true := by
  unfold State.settleRound; try dsimp only
  (repeat' split) <;> first | simp +contextual (maxDischargeDepth := 40) [h] | exact h

@[simp] theorem settleN_marksKept (n : Nat) (s : State) (h : s.marksKept = true) :
    (settleN n s).marksKept = true := by
  induction n generalizing s with
  | zero => exact h
  | succ n ih =>
    unfold settleN; (repeat' split) <;> first | simp +contextual (maxDischargeDepth := 40) [h, ih] | exact h

@[simp] theorem State.settle_marksKept (s : State) (h : s.marksKept = true) :
    (State.settle s).marksKept = true := by
  unfold State.settle; try dsimp only
  (repeat' split) <;> first | simp +contextual (maxDischargeDepth := 40) [h] | exact h

@[simp] theorem State.poolPiecers_marksKept (f : Nat) (s : State) (h : s.marksKept = true) :
    (s.poolPiecers f).marksKept = true := by
  unfold State.poolPiecers
  exact State.each_marksKept _ _ (fun x t ht => by
    dsimp only; (repeat' split) <;> simp +contextual (maxDischargeDepth := 40) [ht]) s h

@[simp] theorem State.sectionOut_marksKept (f k : Nat) (s : State) (h : s.marksKept = true) :
    (State.sectionOut f k s).marksKept = true := by
  unfold State.sectionOut; try dsimp only
  (repeat' split) <;> first | simp +contextual (maxDischargeDepth := 40) [h] | exact h

@[simp] theorem State.frameOut_marksKept (f n : Nat) (s : State) (h : s.marksKept = true) :
    (State.frameOut f n s).marksKept = true := by
  unfold State.frameOut; try dsimp only
  (repeat' split) <;> first | simp +contextual (maxDischargeDepth := 40) [h] | exact h

@[simp] theorem State.sectionsIn_marksKept (f : Nat) (l : List Nat) (s : State) (h : s.marksKept = true) :
    (State.sectionsIn f l s).marksKept = true := by
  unfold State.sectionsIn; try dsimp only
  (repeat' split) <;> first | simp +contextual (maxDischargeDepth := 40) [h] | exact h

@[simp] theorem State.frameIn_marksKept (f : Nat) (s : State) (h : s.marksKept = true) :
    (State.frameIn f s).marksKept = true := by
  unfold State.frameIn; try dsimp only
  (repeat' split) <;> first | simp +contextual (maxDischargeDepth := 40) [h] | exact h

@[simp] theorem State.frameResized_marksKept (f n m : Nat) (s : State) (h : s.marksKept = true) :
    (State.frameResized f n m s).marksKept = true := by
  unfold State.frameResized; try dsimp only
  (repeat' split) <;> first | simp +contextual (maxDischargeDepth := 40) [h] | exact h

@[simp] theorem State.switchFrames_marksKept (old : Settings) (s : State) (h : s.marksKept = true) :
    (State.switchFrames old s).marksKept = true := by
  unfold State.switchFrames; try dsimp only
  (repeat' split) <;> first | simp +contextual (maxDischargeDepth := 40) [h] | exact h

@[simp] theorem State.switchCompare_marksKept (s : State) (h : s.marksKept = true) :
    (s.switchCompare).marksKept = true := by
  unfold State.switchCompare
  exact State.each_marksKept _ _ (fun x t ht => by
    dsimp only; (repeat' split) <;> simp +contextual (maxDischargeDepth := 40) [ht]) s h

@[simp] theorem State.lotRequeue_marksKept (c : Nat) (s : State) (h : s.marksKept = true) :
    (State.lotRequeue c s).marksKept = true := by
  unfold State.lotRequeue; try dsimp only
  (repeat' split) <;> first | simp +contextual (maxDischargeDepth := 40) [h] | exact h

@[simp] theorem State.switchRoving_marksKept (old : Settings) (s : State) (h : s.marksKept = true) :
    (State.switchRoving old s).marksKept = true := by
  unfold State.switchRoving; try dsimp only
  (repeat' split) <;> first | simp +contextual (maxDischargeDepth := 40) [h] | exact h

@[simp] theorem State.switchShift_marksKept (old : Settings) (cause : Option PageCause) (s : State)
    (h : s.marksKept = true) :
    (State.switchShift old cause s).marksKept = true := by
  unfold State.switchShift; try dsimp only
  (repeat' split) <;> first | simp +contextual (maxDischargeDepth := 40) [h] | exact h

@[simp] theorem State.switchReport_marksKept (left : Option Plan) (old : Settings) (cause : Option PageCause)
    (s : State) (h : s.marksKept = true) :
    (State.switchReport left old cause s).marksKept = true := by
  unfold State.switchReport; try dsimp only
  (repeat' split) <;> first | simp +contextual (maxDischargeDepth := 40) [h] | exact h

@[simp] theorem State.takeHomes_marksKept (s : State) (h : s.marksKept = true) :
    (State.takeHomes s).marksKept = true := by
  unfold State.takeHomes; try dsimp only
  (repeat' split) <;> first | simp +contextual (maxDischargeDepth := 40) [h] | exact h

@[simp] theorem State.applySwitch_marksKept (p : Plan) (cause : Option PageCause) (s : State) (h : s.marksKept = true) :
    (State.applySwitch p cause s).marksKept = true := by
  unfold State.applySwitch; try dsimp only
  (repeat' split) <;> first | simp +contextual (maxDischargeDepth := 40) [h] | exact h

@[simp] theorem State.planBoundary_marksKept (cause : PageCause) (s : State) (h : s.marksKept = true) :
    (State.planBoundary cause s).marksKept = true := by
  unfold State.planBoundary; try dsimp only
  (repeat' split) <;> first | simp +contextual (maxDischargeDepth := 40) [h] | exact h

@[simp] theorem State.boundary_marksKept (cause : PageCause) (s : State) (h : s.marksKept = true) :
    (State.boundary cause s).marksKept = true := by
  unfold State.boundary; try dsimp only
  (repeat' split) <;> first | simp +contextual (maxDischargeDepth := 40) [h] | exact h

@[simp] theorem State.requestRead_marksKept (b : Requester) (offset beats : Nat) (s : State) (h : s.marksKept = true) :
    (State.requestRead b offset beats s).marksKept = true := by
  unfold State.requestRead; try dsimp only
  (repeat' split) <;> first | simp +contextual (maxDischargeDepth := 40) [h] | exact h

@[simp] theorem State.requestWrite_marksKept (offset : Nat) (l : List Word) (s : State) (h : s.marksKept = true) :
    (State.requestWrite offset l s).marksKept = true := by
  unfold State.requestWrite; try dsimp only
  (repeat' split) <;> first | simp +contextual (maxDischargeDepth := 40) [h] | exact h

@[simp] theorem State.holdNumber_marksKept (offset : Nat) (w : Word) (s : State) (h : s.marksKept = true) :
    (State.holdNumber offset w s).marksKept = true := by
  unfold State.holdNumber; try dsimp only
  (repeat' split) <;> first | simp +contextual (maxDischargeDepth := 40) [h] | exact h

/-- The item whose transfers are sent is counted while it is written. -/
theorem State.sendTransfers_marksKept (i : WriteItem) (l : List (Nat × List Word)) (s : State)
    (h : ({ s with writer.current := some ⟨i, false, []⟩ } : State).marksKept = true) :
    (s.sendTransfers i l).marksKept = true := by
  unfold State.sendTransfers
  split
  · exact State.marksKept_le h id rfl rfl rfl (by simp [-Writer.waiting_eq, Writer.waiting])
  · exact State.marksKept_le h id rfl rfl rfl (Nat.le_refl _)

@[simp] theorem State.noteOpenBegun_marksKept (i : WriteItem) (s : State) (h : s.marksKept = true) :
    (s.noteOpenBegun i).marksKept = true := by
  unfold State.noteOpenBegun; split <;> exact h

theorem State.beginNumbered_marksKept (i : WriteItem) (offset : Nat) (held : Word) (s : State)
    (h : ({ s with writer.current := some ⟨i, false, []⟩ } : State).marksKept = true) :
    (s.beginNumbered i offset held).marksKept = true := by
  unfold State.beginNumbered
  refine State.sendTransfers_marksKept _ _ _ ?_
  unfold State.noteOpenBegun State.holdNumber
  split <;> exact State.marksKept_le h id rfl rfl rfl (Nat.le_refl _)

theorem State.beginItem_marksKept (i : WriteItem) (s : State)
    (h : ({ s with writer.current := some ⟨i, false, []⟩ } : State).marksKept = true) :
    (s.beginItem i).marksKept = true := by
  unfold State.beginItem
  (repeat' split)
  · exact State.sendTransfers_marksKept _ _ _ h
  · exact State.beginNumbered_marksKept _ _ _ _ h
  · exact State.marksKept_le h id rfl rfl rfl (Nat.le_refl _)

/-- The item being written is the one counted. -/
theorem State.writing_marksKept {s : State} {u : Update} (hu : s.writer.current = some u) (h : s.marksKept = true) :
    ({ s with writer.current := some ⟨u.item, false, []⟩ } : State).marksKept = true :=
  State.marksKept_le h id rfl rfl rfl (by simp only [Writer.waiting, hu]; exact Nat.le_refl _)

@[simp] theorem State.shiftTest_marksKept (s : State) (h : s.marksKept = true) :
    (State.shiftTest s).marksKept = true := by
  unfold State.shiftTest; try dsimp only
  (repeat' split) <;> first | simp +contextual (maxDischargeDepth := 40) [h] | exact h

@[simp] theorem State.pageWritten_marksKept (left : ShiftWait → ShiftWait) (s : State) (h : s.marksKept = true) :
    (State.pageWritten left s).marksKept = true := by
  unfold State.pageWritten; dsimp only
  split
  · exact h
  · exact State.shiftTest_marksKept _ h

/-- The entry written is unread from then on: it was counted before. -/
theorem State.journalWritten_marksKept (s t : State) (h : t.marksKept = true)
    (hr : s.regs = t.regs) (hc : s.writer.capacity = t.writer.capacity) (hw : s.writer.writeMark = t.writer.writeMark)
    (hk : s.desk.readMark = t.desk.readMark) (hn : s.writer.waiting + 1 ≤ t.writer.waiting) :
    s.journalWritten.marksKept = true := by
  have hv : State.marksKept { s with writer.writeMark := (s.writer.writeMark + 1) % s.writer.capacity } = true := by
    rw [State.marksKept_iff] at h ⊢
    unfold State.unread at *
    simp only [Writer.waiting_mk, Writer.waiting_eq, hr, hk, hc, hw]
    obtain ⟨h1, h2, h3⟩ := h
    refine ⟨fun c => ?_, fun c => ?_, fun b => ?_⟩
    · have := h1 c; omega
    · obtain ⟨hwc, hrc, hu⟩ := h2 c
      have hm : (t.writer.writeMark + 1) % t.writer.capacity < t.writer.capacity := Nat.mod_lt _ c
      refine ⟨hm, hrc, ?_⟩
      rw [unread_cases hwc hrc] at hu
      rw [unread_cases hm hrc]
      by_cases he : t.writer.writeMark + 1 = t.writer.capacity
      · rw [he, Nat.mod_self]
        split at hu <;> split <;> omega
      · rw [Nat.mod_eq_of_lt (by omega)]
        split at hu <;> split <;> omega
    · have := h3 b; omega
  unfold State.journalWritten
  dsimp only
  split <;> simp [hv]

theorem State.itemWritten_marksKept (i : WriteItem) (s : State) (h : s.marksKept = true)
    (hi : waitsIn (some ⟨i, false, []⟩) ≤ waitsIn s.writer.current) : (s.itemWritten i).marksKept = true := by
  have hn : ({ s with writer.current := none } : State).marksKept = true :=
    State.marksKept_le h id rfl rfl rfl (by simp [-Writer.waiting_eq, Writer.waiting])
  unfold State.itemWritten
  dsimp only
  split
  · refine State.journalWritten_marksKept _ s h rfl rfl rfl rfl ?_
    have hi : 1 ≤ waitsIn s.writer.current := hi
    simp only [Writer.waiting, waitsIn_none]
    omega
  all_goals first | exact hn | exact State.pageWritten_marksKept _ _ hn

@[simp] theorem State.writeEnded_marksKept (offset : Nat) (last : Word) (s : State) (h : s.marksKept = true) :
    (s.writeEnded offset last).marksKept = true := by
  unfold State.writeEnded
  split
  · exact h
  · next u hu =>
    split
    · split
      · exact State.itemWritten_marksKept _ _ (by simp [h]) (by
          show _ ≤ waitsIn s.writer.current
          rw [hu]; exact Nat.le_refl _)
      · exact State.itemWritten_marksKept _ _ h (by rw [hu]; exact Nat.le_refl _)
    · exact State.sendTransfers_marksKept _ _ _ (State.writing_marksKept hu h)

@[simp] theorem State.numberRead_marksKept (offset : Nat) (w : Word) (s : State) (h : s.marksKept = true) :
    (s.numberRead offset w).marksKept = true := by
  unfold State.numberRead
  split
  · exact h
  · next u hu =>
    split
    · exact State.beginNumbered_marksKept _ _ _ _ (State.writing_marksKept hu h)
    · exact State.marksKept_le h id rfl rfl rfl (by simp [-Writer.waiting_eq, Writer.waiting, State.holdNumber])

@[simp] theorem State.orderDone_marksKept (c : CellRead) (words : List Word) (s : State) (h : s.marksKept = true) :
    (State.orderDone c words s).marksKept = true := by
  unfold State.orderDone; try dsimp only
  (repeat' split) <;> first | simp +contextual (maxDischargeDepth := 40) [h] | exact h

@[simp] theorem State.orderRefused_marksKept (c : CellRead) (r : Reason) (s : State) (h : s.marksKept = true) :
    (State.orderRefused c r s).marksKept = true := by
  unfold State.orderRefused; try dsimp only
  (repeat' split) <;> first | simp +contextual (maxDischargeDepth := 40) [h] | exact h

@[simp] theorem State.enterBook_marksKept (k : OrderKind) (c : CellRead) (s : State) (h : s.marksKept = true) :
    (s.enterBook k c).marksKept = true := by
  unfold State.enterBook
  exact State.marksKept_le h id rfl rfl rfl (by simp [-Writer.waiting_eq, Writer.waiting, State.setCellView])

@[simp] theorem State.cutOutFirst_marksKept (f n : Nat) (s : State) (h : s.marksKept = true) :
    (State.cutOutFirst f n s).marksKept = true := by
  unfold State.cutOutFirst; try dsimp only
  (repeat' split) <;> first | simp +contextual (maxDischargeDepth := 40) [h] | exact h

@[simp] theorem State.orderCutOut_marksKept (c : CellRead) (s : State) (h : s.marksKept = true) :
    (State.orderCutOut c s).marksKept = true := by
  unfold State.orderCutOut; try dsimp only
  (repeat' split) <;> first | simp +contextual (maxDischargeDepth := 40) [h] | exact h

@[simp] theorem State.uncut_marksKept (f n : Nat) (s : State) (h : s.marksKept = true) :
    (State.uncut f n s).marksKept = true := by
  unfold State.uncut; try dsimp only
  (repeat' split) <;> first | simp +contextual (maxDischargeDepth := 40) [h] | exact h

@[simp] theorem State.orderClearCutout_marksKept (c : CellRead) (s : State) (h : s.marksKept = true) :
    (State.orderClearCutout c s).marksKept = true := by
  unfold State.orderClearCutout; try dsimp only
  (repeat' split) <;> first | simp +contextual (maxDischargeDepth := 40) [h] | exact h

@[simp] theorem State.orderClearSlip_marksKept (c : CellRead) (s : State) (h : s.marksKept = true) :
    (State.orderClearSlip c s).marksKept = true := by
  unfold State.orderClearSlip; try dsimp only
  (repeat' split) <;> first | simp +contextual (maxDischargeDepth := 40) [h] | exact h

@[simp] theorem State.checkSpindle_marksKept (f n : Nat) (s : State) (h : s.marksKept = true) :
    (State.checkSpindle f n s).marksKept = true := by
  unfold State.checkSpindle; try dsimp only
  (repeat' split) <;> first | simp +contextual (maxDischargeDepth := 40) [h] | exact h

@[simp] theorem State.orderSelfCheck_marksKept (c : CellRead) (s : State) (h : s.marksKept = true) :
    (State.orderSelfCheck c s).marksKept = true := by
  unfold State.orderSelfCheck; try dsimp only
  (repeat' split) <;> first | simp +contextual (maxDischargeDepth := 40) [h] | exact h

@[simp] theorem State.orderTableRead_marksKept (c : CellRead) (s : State) (h : s.marksKept = true) :
    (State.orderTableRead c s).marksKept = true := by
  unfold State.orderTableRead; try dsimp only
  (repeat' split) <;> first | simp +contextual (maxDischargeDepth := 40) [h] | exact h

@[simp] theorem State.placeOnSide_marksKept (c : CellRead) (p d : Nat) (s : State) (h : s.marksKept = true) :
    (State.placeOnSide c p d s).marksKept = true := by
  unfold State.placeOnSide; try dsimp only
  (repeat' split) <;> first | simp +contextual (maxDischargeDepth := 40) [h] | exact h

@[simp] theorem State.placeInBay_marksKept (c : CellRead) (p : Nat) (s : State) (h : s.marksKept = true) :
    (State.placeInBay c p s).marksKept = true := by
  unfold State.placeInBay; try dsimp only
  (repeat' split) <;> first | simp +contextual (maxDischargeDepth := 40) [h] | exact h

@[simp] theorem State.placeInPool_marksKept (c : CellRead) (p : Nat) (s : State) (h : s.marksKept = true) :
    (State.placeInPool c p s).marksKept = true := by
  unfold State.placeInPool; try dsimp only
  (repeat' split) <;> first | simp +contextual (maxDischargeDepth := 40) [h] | exact h

@[simp] theorem State.orderPiecerPlace_marksKept (c : CellRead) (s : State) (h : s.marksKept = true) :
    (State.orderPiecerPlace c s).marksKept = true := by
  unfold State.orderPiecerPlace; try dsimp only
  (repeat' split) <;> first | simp +contextual (maxDischargeDepth := 40) [h] | exact h

@[simp] theorem State.orderDoffNow_marksKept (c : CellRead) (s : State) (h : s.marksKept = true) :
    (State.orderDoffNow c s).marksKept = true := by
  unfold State.orderDoffNow; try dsimp only
  (repeat' split) <;> first | simp +contextual (maxDischargeDepth := 40) [h] | exact h

@[simp] theorem State.orderFrameStop_marksKept (c : CellRead) (s : State) (h : s.marksKept = true) :
    (State.orderFrameStop c s).marksKept = true := by
  unfold State.orderFrameStop; try dsimp only
  (repeat' split) <;> first | simp +contextual (maxDischargeDepth := 40) [h] | exact h

@[simp] theorem State.orderFrameStart_marksKept (c : CellRead) (s : State) (h : s.marksKept = true) :
    (State.orderFrameStart c s).marksKept = true := by
  unfold State.orderFrameStart; try dsimp only
  (repeat' split) <;> first | simp +contextual (maxDischargeDepth := 40) [h] | exact h

@[simp] theorem State.orderCreelChange_marksKept (c : CellRead) (s : State) (h : s.marksKept = true) :
    (State.orderCreelChange c s).marksKept = true := by
  unfold State.orderCreelChange; try dsimp only
  (repeat' split) <;> first | simp +contextual (maxDischargeDepth := 40) [h] | exact h

@[simp] theorem State.orderShiftClose_marksKept (c : CellRead) (s : State) (h : s.marksKept = true) :
    (State.orderShiftClose c s).marksKept = true := by
  unfold State.orderShiftClose; try dsimp only
  (repeat' split) <;> first | simp +contextual (maxDischargeDepth := 40) [h] | exact h

@[simp] theorem State.orderPlanSwitch_marksKept (c : CellRead) (s : State) (h : s.marksKept = true) :
    ((s.orderPlanSwitch c).2).marksKept = true := by
  unfold State.orderPlanSwitch; try dsimp only
  (repeat' split) <;> first | simp +contextual (maxDischargeDepth := 40) [h] | exact h

@[simp] theorem State.decideSwitch_marksKept (c : CellRead) (copy : PlanCopy) (l : List Word) (s : State)
    (h : s.marksKept = true) :
    (State.decideSwitch c copy l s).marksKept = true := by
  unfold State.decideSwitch; try dsimp only
  (repeat' split) <;> first | simp +contextual (maxDischargeDepth := 40) [h] | exact h

@[simp] theorem State.withdrawDoff_marksKept (f : Nat) (s : State) (h : s.marksKept = true) :
    (State.withdrawDoff f s).marksKept = true := by
  unfold State.withdrawDoff; try dsimp only
  (repeat' split) <;> first | simp +contextual (maxDischargeDepth := 40) [h] | exact h

@[simp] theorem State.withdrawCreel_marksKept (k : Nat) (s : State) (h : s.marksKept = true) :
    (State.withdrawCreel k s).marksKept = true := by
  unfold State.withdrawCreel; try dsimp only
  (repeat' split) <;> first | simp +contextual (maxDischargeDepth := 40) [h] | exact h

@[simp] theorem State.withdrawPlace_marksKept (p : Nat) (s : State) (h : s.marksKept = true) :
    (State.withdrawPlace p s).marksKept = true := by
  unfold State.withdrawPlace; try dsimp only
  (repeat' split) <;> first | simp +contextual (maxDischargeDepth := 40) [h] | exact h

@[simp] theorem State.withdrawEffect_marksKept (b : BookEntry) (s : State) (h : s.marksKept = true) :
    (State.withdrawEffect b s).marksKept = true := by
  unfold State.withdrawEffect; try dsimp only
  (repeat' split) <;> first | simp +contextual (maxDischargeDepth := 40) [h] | exact h

@[simp] theorem State.undefer_marksKept (cell : Nat) (s : State) (h : s.marksKept = true) :
    (State.undefer cell s).marksKept = true := by
  unfold State.undefer; try dsimp only
  (repeat' split) <;> first | simp +contextual (maxDischargeDepth := 40) [h] | exact h

@[simp] theorem State.orderWithdraw_marksKept (c : CellRead) (s : State) (h : s.marksKept = true) :
    (State.orderWithdraw c s).marksKept = true := by
  unfold State.orderWithdraw; try dsimp only
  (repeat' split) <;> first | simp +contextual (maxDischargeDepth := 40) [h] | exact h

@[simp] theorem State.beginScan_marksKept (s : State) (h : s.marksKept = true) :
    (State.beginScan s).marksKept = true := by
  unfold State.beginScan; try dsimp only
  (repeat' split) <;> first | simp +contextual (maxDischargeDepth := 40) [h] | exact h

@[simp] theorem State.endScan_marksKept (s : State) (h : s.marksKept = true) :
    (State.endScan s).marksKept = true := by
  unfold State.endScan; try dsimp only
  (repeat' split) <;> first | simp +contextual (maxDischargeDepth := 40) [h] | exact h

@[simp] theorem State.lookNow_marksKept (s : State) (h : s.marksKept = true) :
    (State.lookNow s).marksKept = true := by
  unfold State.lookNow; try dsimp only
  (repeat' split) <;> first | simp +contextual (maxDischargeDepth := 40) [h] | exact h

theorem State.freshCell_marksKept (c : CellRead) (s t : State) (h : s.marksKept = true) (ht : s.freshCell c = some t) :
    t.marksKept = true := by
  unfold State.freshCell at ht
  split at ht
  · cases ht; exact h
  · split at ht
    · cases ht; simp [h]
    · cases ht

@[simp] theorem skipUnknown_marksKept (n : Nat) (s : State)
    (h : s.marksKept = true) : (skipUnknown n s).marksKept = true := by
  induction n generalizing s with
  | zero => exact h
  | succ n ih =>
    unfold skipUnknown
    split
    · exact h
    · split
      · exact h
      · dsimp only
        split
        · exact ih _ (by simp [h])
        · next ht => exact ih _ (by simp [State.freshCell_marksKept _ _ _ (by simpa using h) ht])

@[simp] theorem State.goOnTaking_marksKept (s : State) (h : s.marksKept = true) :
    (State.goOnTaking s).marksKept = true := by
  unfold State.goOnTaking; try dsimp only
  (repeat' split) <;> first | simp +contextual (maxDischargeDepth := 40) [h] | exact h

@[simp] theorem State.dropTaken_marksKept (s : State) (h : s.marksKept = true) :
    (State.dropTaken s).marksKept = true := by
  unfold State.dropTaken; try dsimp only
  (repeat' split) <;> first | simp +contextual (maxDischargeDepth := 40) [h] | exact h

@[simp] theorem State.defer_marksKept (c : CellRead) (s : State) (h : s.marksKept = true) :
    (State.defer c s).marksKept = true := by
  unfold State.defer; try dsimp only
  (repeat' split) <;> first | simp +contextual (maxDischargeDepth := 40) [h] | exact h

@[simp] theorem State.handOrder_marksKept (k : OrderKind) (c : CellRead) (s : State) (h : s.marksKept = true) :
    (s.handOrder k c).marksKept = true := by
  unfold State.handOrder
  have hp := s.orderPlanSwitch_marksKept c h
  split
  all_goals first | (simp +contextual (maxDischargeDepth := 40) [h]; done) | skip
  split
  · next ht => rw [ht] at hp; simp +contextual (maxDischargeDepth := 40) [hp]
  · next ht => rw [ht] at hp; exact hp

@[simp] theorem State.takeCell_marksKept (k : OrderKind) (c : CellRead) (s : State) (h : s.marksKept = true) :
    (State.takeCell k c s).marksKept = true := by
  unfold State.takeCell
  split
  · simp +contextual (maxDischargeDepth := 40) [h]
  · next ht =>
    have hf := State.freshCell_marksKept c s _ h ht
    (repeat' split) <;> simp +contextual (maxDischargeDepth := 40) [hf]

@[simp] theorem State.takeOrder_marksKept (k : OrderKind) (ps : List Word) (s : State) (h : s.marksKept = true) :
    (State.takeOrder k ps s).marksKept = true := by
  unfold State.takeOrder; try dsimp only
  (repeat' split) <;> first | simp +contextual (maxDischargeDepth := 40) [h] | exact h

@[simp] theorem State.goTaking_marksKept (l : List CellRead) (s : State) (h : s.marksKept = true) :
    (State.goTaking l s).marksKept = true := by
  unfold State.goTaking; try dsimp only
  (repeat' split) <;> first | simp +contextual (maxDischargeDepth := 40) [h] | exact h

@[simp] theorem State.goCells_marksKept (left : List Nat) (again : Bool) (got : List CellRead) (s : State)
    (h : s.marksKept = true) :
    (State.goCells left again got s).marksKept = true := by
  unfold State.goCells; try dsimp only
  (repeat' split) <;> first | simp +contextual (maxDischargeDepth := 40) [h] | exact h

@[simp] theorem State.goStages_marksKept (left posted : List Nat) (s : State) (h : s.marksKept = true) :
    (State.goStages left posted s).marksKept = true := by
  unfold State.goStages; try dsimp only
  (repeat' split) <;> first | simp +contextual (maxDischargeDepth := 40) [h] | exact h

@[simp] theorem State.afterPages_marksKept (s : State) (h : s.marksKept = true) :
    (State.afterPages s).marksKept = true := by
  unfold State.afterPages; try dsimp only
  (repeat' split) <;> first | simp +contextual (maxDischargeDepth := 40) [h] | exact h

@[simp] theorem State.goPages_marksKept (left : List Nat) (s : State) (h : s.marksKept = true) :
    (State.goPages left s).marksKept = true := by
  unfold State.goPages; try dsimp only
  (repeat' split) <;> first | simp +contextual (maxDischargeDepth := 40) [h] | exact h

/-- A read mark taken lies between the last one and W: fewer entries are unread (R178). -/
theorem State.takeReadMark_marksKept (w : Word) (s : State)
    (h : s.marksKept = true) (hb : s.regs.beforeWrites = false) :
    (s.takeReadMark w).marksKept = true := by
  unfold State.takeReadMark
  dsimp only
  split
  · next hr =>
    refine State.flushJournal_written _ ?_ hb
    rw [State.marksKept_iff] at h ⊢
    obtain ⟨h1, h2, h3⟩ := h
    refine ⟨h1, fun c => ?_, fun b => h3 b⟩
    obtain ⟨hwc, hrc, hu⟩ := h2 c
    refine ⟨hwc, hr.1, ?_⟩
    have hr2 := hr.2
    unfold State.unread at *
    dsimp only
    rw [unread_cases hwc hrc] at hu hr2
    rw [unread_cases hr.1 hrc] at hr2
    rw [unread_cases hwc hr.1]
    split at hu <;> split at hr2 <;> split <;> simp_all <;> omega
  · exact h

@[simp] theorem State.unpost_marksKept (c : Nat) (s : State) (h : s.marksKept = true) :
    (State.unpost c s).marksKept = true := by
  unfold State.unpost; try dsimp only
  (repeat' split) <;> first | simp +contextual (maxDischargeDepth := 40) [h] | exact h

@[simp] theorem State.stageRead_marksKept (c : Nat) (left posted : List Nat) (w : Word) (s : State)
    (h : s.marksKept = true) :
    (State.stageRead c left posted w s).marksKept = true := by
  unfold State.stageRead; try dsimp only
  (repeat' split) <;> first | simp +contextual (maxDischargeDepth := 40) [h] | exact h

@[simp] theorem State.cellRead_marksKept (c : Nat) (left : List Nat) (again : Bool) (w : List Word) (got : List CellRead)
    (s : State) (h : s.marksKept = true) :
    (State.cellRead c left again w got s).marksKept = true := by
  unfold State.cellRead; try dsimp only
  (repeat' split) <;> first | simp +contextual (maxDischargeDepth := 40) [h] | exact h

@[simp] theorem State.cellWords_marksKept (c : Nat) (left : List Nat) (again : Bool) (w : List Word) (got : List CellRead)
    (s : State) (h : s.marksKept = true) :
    (State.cellWords c left again w got s).marksKept = true := by
  unfold State.cellWords; try dsimp only
  (repeat' split) <;> first | simp +contextual (maxDischargeDepth := 40) [h] | exact h

theorem State.scanRead_marksKept (w : List Word) (s : State)
    (h : s.marksKept = true) (hb : s.regs.beforeWrites = false) :
    (s.scanRead w).marksKept = true := by
  unfold State.scanRead
  split
  · exact State.goPages_marksKept _ _ (State.takeReadMark_marksKept _ s h hb)
  all_goals (repeat' split) <;> first | simp +contextual (maxDischargeDepth := 40) [h] | exact h

@[simp] theorem State.scanPage_marksKept (w : Word) (s : State) (h : s.marksKept = true) :
    (State.scanPage w s).marksKept = true := by
  unfold State.scanPage; try dsimp only
  (repeat' split) <;> first | simp +contextual (maxDischargeDepth := 40) [h] | exact h

@[simp] theorem State.switchRead_marksKept (c : CellRead) (r : PlanRead) (s : State) (h : s.marksKept = true) :
    (State.switchRead c r s).marksKept = true := by
  unfold State.switchRead; try dsimp only
  (repeat' split) <;> first | simp +contextual (maxDischargeDepth := 40) [h] | exact h

@[simp] theorem State.giveUpTaking_marksKept (s : State) (h : s.marksKept = true) :
    (State.giveUpTaking s).marksKept = true := by
  unfold State.giveUpTaking; try dsimp only
  (repeat' split) <;> first | simp +contextual (maxDischargeDepth := 40) [h] | exact h

@[simp] theorem State.windDown_marksKept (s : State) (h : s.marksKept = true) :
    (State.windDown s).marksKept = true := by
  unfold State.windDown; try dsimp only
  (repeat' split) <;> first | simp +contextual (maxDischargeDepth := 40) [h] | exact h

@[simp] theorem State.frameFromDrive_marksKept (c : Census) (f : Nat) (s : State) (h : s.marksKept = true) :
    (State.frameFromDrive c f s).marksKept = true := by
  unfold State.frameFromDrive; try dsimp only
  (repeat' split) <;> first | simp +contextual (maxDischargeDepth := 40) [h] | exact h

@[simp] theorem State.buildFrame_marksKept (c : Census) (f : Nat) (s : State) (h : s.marksKept = true) :
    (State.buildFrame c f s).marksKept = true := by
  unfold State.buildFrame; try dsimp only
  (repeat' split) <;> first | simp +contextual (maxDischargeDepth := 40) [h] | exact h

@[simp] theorem State.buildPiecer_marksKept (p : Nat) (s : State) (h : s.marksKept = true) :
    (State.buildPiecer p s).marksKept = true := by
  unfold State.buildPiecer; try dsimp only
  (repeat' split) <;> first | simp +contextual (maxDischargeDepth := 40) [h] | exact h

@[simp] theorem State.buildCarrier_marksKept (c : Nat) (s : State) (h : s.marksKept = true) :
    (State.buildCarrier c s).marksKept = true := by
  unfold State.buildCarrier; try dsimp only
  (repeat' split) <;> first | simp +contextual (maxDischargeDepth := 40) [h] | exact h

@[simp] theorem State.buildTables_marksKept (c : Census) (s : State) (h : s.marksKept = true) :
    (State.buildTables c s).marksKept = true := by
  unfold State.buildTables; try dsimp only
  (repeat' split) <;> first | simp +contextual (maxDischargeDepth := 40) [h] | exact h

@[simp] theorem State.startCell_marksKept (c : Nat) (w : Word) (s : State) (h : s.marksKept = true) :
    (State.startCell c w s).marksKept = true := by
  unfold State.startCell; try dsimp only
  (repeat' split) <;> first | simp +contextual (maxDischargeDepth := 40) [h] | exact h

@[simp] theorem State.startCellRead_marksKept (w : Word) (s : State) (h : s.marksKept = true) :
    (State.startCellRead w s).marksKept = true := by
  unfold State.startCellRead; try dsimp only
  (repeat' split) <;> first | simp +contextual (maxDischargeDepth := 40) [h] | exact h

@[simp] theorem State.closeFound_marksKept (x : FoundPage) (s : State) (h : s.marksKept = true) :
    (State.closeFound x s).marksKept = true := by
  unfold State.closeFound; try dsimp only
  (repeat' split) <;> first | simp +contextual (maxDischargeDepth := 40) [h] | exact h

@[simp] theorem State.settlePages_marksKept (s : State) (h : s.marksKept = true) :
    (State.settlePages s).marksKept = true := by
  unfold State.settlePages; try dsimp only
  (repeat' split) <;> first | simp +contextual (maxDischargeDepth := 40) [h] | exact h

@[simp] theorem State.nextFound_marksKept (s : State) (h : s.marksKept = true) :
    (State.nextFound s).marksKept = true := by
  unfold State.nextFound; try dsimp only
  (repeat' split) <;> first | simp +contextual (maxDischargeDepth := 40) [h] | exact h

@[simp] theorem State.startPageRead_marksKept (offset : Nat) (w : List Word) (s : State) (h : s.marksKept = true) :
    (State.startPageRead offset w s).marksKept = true := by
  unfold State.startPageRead; try dsimp only
  (repeat' split) <;> first | simp +contextual (maxDischargeDepth := 40) [h] | exact h

@[simp] theorem State.startSweeping_marksKept (f : Nat) (s : State) (h : s.marksKept = true) :
    (State.startSweeping f s).marksKept = true := by
  unfold State.startSweeping; try dsimp only
  (repeat' split) <;> first | simp +contextual (maxDischargeDepth := 40) [h] | exact h

@[simp] theorem State.queueHeld_marksKept (s : State) (h : s.marksKept = true) : s.queueHeld.marksKept = true := by
  have hl (l : List Answer) : (l.map WriteItem.cellDone).filter WriteItem.isJournal = [] := by
    induction l with
    | nil => rfl
    | cons a r ih => simpa using ih
  exact State.marksKept_le h id rfl rfl rfl (by simp [-Writer.waiting_eq, Writer.waiting, State.queueHeld, hl])

@[simp] theorem State.queueMark_marksKept (s : State) (h : s.marksKept = true) :
    (State.queueMark s).marksKept = true := by
  unfold State.queueMark; try dsimp only
  (repeat' split) <;> first | simp +contextual (maxDischargeDepth := 40) [h] | exact h

@[simp] theorem State.openVisit_marksKept (a : Nat) (cmd : Option Cmd) (seq : Bool) (s : State)
    (h : s.marksKept = true) :
    (State.openVisit a cmd seq s).marksKept = true := by
  unfold State.openVisit; try dsimp only
  (repeat' split) <;> first | simp +contextual (maxDischargeDepth := 40) [h] | exact h

@[simp] theorem State.visitUnit_marksKept (a : Nat) (s : State) (h : s.marksKept = true) :
    (State.visitUnit a s).marksKept = true := by
  unfold State.visitUnit; try dsimp only
  (repeat' split) <;> first | simp +contextual (maxDischargeDepth := 40) [h] | exact h

@[simp] theorem State.endCycle_marksKept (s : State) (h : s.marksKept = true) :
    (State.endCycle s).marksKept = true := by
  unfold State.endCycle; try dsimp only
  (repeat' split) <;> first | simp +contextual (maxDischargeDepth := 40) [h] | exact h

@[simp] theorem State.visitNext_marksKept (s : State) (h : s.marksKept = true) :
    (State.visitNext s).marksKept = true := by
  unfold State.visitNext; try dsimp only
  (repeat' split) <;> first | simp +contextual (maxDischargeDepth := 40) [h] | exact h

@[simp] theorem State.censusVisit_marksKept (c : Census) (s : State) (h : s.marksKept = true) :
    (State.censusVisit c s).marksKept = true := by
  unfold State.censusVisit; try dsimp only
  (repeat' split) <;> first | simp +contextual (maxDischargeDepth := 40) [h] | exact h

@[simp] theorem State.startVisit_marksKept (s : State) (h : s.marksKept = true) :
    (State.startVisit s).marksKept = true := by
  unfold State.startVisit; try dsimp only
  (repeat' split) <;> first | simp +contextual (maxDischargeDepth := 40) [h] | exact h

@[simp] theorem State.closeVisit_marksKept (a : Nat) (s : State) (h : s.marksKept = true) :
    (State.closeVisit a s).marksKept = true := by
  unfold State.closeVisit; try dsimp only
  (repeat' split) <;> first | simp +contextual (maxDischargeDepth := 40) [h] | exact h

@[simp] theorem State.censusAbsent_marksKept (c : Census) (a : Nat) (s : State) (h : s.marksKept = true) :
    (State.censusAbsent c a s).marksKept = true := by
  unfold State.censusAbsent; try dsimp only
  (repeat' split) <;> first | simp +contextual (maxDischargeDepth := 40) [h] | exact h

@[simp] theorem State.cycleMiss_marksKept (a : Nat) (m : Miss) (s : State) (h : s.marksKept = true) :
    (State.cycleMiss a m s).marksKept = true := by
  unfold State.cycleMiss; try dsimp only
  (repeat' split) <;> first | simp +contextual (maxDischargeDepth := 40) [h] | exact h

@[simp] theorem State.giveReport_marksKept (a : Nat) (r : Report) (s : State) (h : s.marksKept = true) :
    (State.giveReport a r s).marksKept = true := by
  unfold State.giveReport; try dsimp only
  (repeat' split) <;> first | simp +contextual (maxDischargeDepth := 40) [h] | exact h

@[simp] theorem State.ownerBack_marksKept (a : Nat) (s : State) (h : s.marksKept = true) :
    (State.ownerBack a s).marksKept = true := by
  unfold State.ownerBack; try dsimp only
  (repeat' split) <;> first | simp +contextual (maxDischargeDepth := 40) [h] | exact h

@[simp] theorem State.newReport_marksKept (a : Nat) (r : Reply) (rep : Report) (s : State) (h : s.marksKept = true) :
    (State.newReport a r rep s).marksKept = true := by
  unfold State.newReport; try dsimp only
  (repeat' split) <;> first | simp +contextual (maxDischargeDepth := 40) [h] | exact h

@[simp] theorem State.presentReply_marksKept (v : Visit) (r : Reply) (rep : Option Report) (s : State)
    (h : s.marksKept = true) :
    (State.presentReply v r rep s).marksKept = true := by
  unfold State.presentReply; try dsimp only
  (repeat' split) <;> first | simp +contextual (maxDischargeDepth := 40) [h] | exact h

@[simp] theorem State.lostReply_marksKept (v : Visit) (r : Reply) (rep : Option Report) (s : State)
    (h : s.marksKept = true) :
    (State.lostReply v r rep s).marksKept = true := by
  unfold State.lostReply; try dsimp only
  (repeat' split) <;> first | simp +contextual (maxDischargeDepth := 40) [h] | exact h

@[simp] theorem State.idleEnd_marksKept (s : State) (h : s.marksKept = true) :
    (State.idleEnd s).marksKept = true := by
  unfold State.idleEnd; try dsimp only
  (repeat' split) <;> first | simp +contextual (maxDischargeDepth := 40) [h] | exact h

@[simp] theorem State.holdBack_marksKept (s : State) (h : s.marksKept = true) : s.holdBack.marksKept = true := by
  unfold State.holdBack
  exact State.marksKept_le h id (by simp) (by simp) rfl (by simp)

@[simp] theorem State.dropWrites_marksKept (s : State) (h : s.marksKept = true) : s.dropWrites.marksKept = true :=
  State.marksKept_le h id rfl rfl rfl (Nat.zero_le _)

@[simp] theorem State.deferSwitch_marksKept (s : State) (h : s.marksKept = true) :
    (State.deferSwitch s).marksKept = true := by
  unfold State.deferSwitch; try dsimp only
  (repeat' split) <;> first | simp +contextual (maxDischargeDepth := 40) [h] | exact h

@[simp] theorem State.dropScan_marksKept (s : State) (h : s.marksKept = true) :
    (State.dropScan s).marksKept = true := by
  unfold State.dropScan; try dsimp only
  (repeat' split) <;> first | simp +contextual (maxDischargeDepth := 40) [h] | exact h

/-! ### The part's states -/

theorem State.beforeWrites_of_fixed {s t : State} (h : t.fixed = s.fixed) :
    t.regs.beforeWrites = s.regs.beforeWrites := by
  unfold Regs.beforeWrites; rw [State.part_of_fixed h, State.start_of_fixed h]

theorem Regs.beforeWrites_part {r : Regs} (h : r.part ≠ .starting) : r.beforeWrites = false := by
  simp [Regs.beforeWrites, h]

theorem Regs.beforeWrites_start {r : Regs} (h : r.start = none) : r.beforeWrites = false := by
  simp [Regs.beforeWrites, h]

/-- Other registers, the marks as they were and no more entries waiting. -/
theorem State.marksKept_regs {s : State} (h : s.marksKept = true) {t : State} (hr : t.regs.beforeWrites = false)
    (hc : t.writer.capacity = s.writer.capacity) (hw : t.writer.writeMark = s.writer.writeMark)
    (hk : t.desk.readMark = s.desk.readMark) (hn : t.writer.waiting ≤ s.writer.waiting) : t.marksKept = true :=
  State.marksKept_le h (fun b => by rw [hr] at b; cases b) hc hw hk hn

@[simp] theorem State.dropCreelOrders_marksKept (s : State)
    (h : s.marksKept = true) : s.dropCreelOrders.marksKept = true := by
  unfold State.dropCreelOrders; simp +contextual [h]

theorem State.endWrites_marksKept (s : State) (h : s.marksKept = true) (hb : s.regs.beforeWrites = false) :
    s.endWrites.marksKept = true :=
  State.flushJournal_written _ (State.marksKept_regs h hb rfl rfl rfl (Nat.le_refl _)) hb

theorem State.beginEnd_marksKept (s : State) (h : s.marksKept = true) (hp : s.regs.part = .windingDown) :
    s.beginEnd.marksKept = true := by
  unfold State.beginEnd
  dsimp only
  generalize hu : State.finishBook _ _ _ _ = u
  have hm : u.marksKept = true := by
    rw [← hu]
    exact State.finishBook_marksKept _ _ _ _ (State.dropCreelOrders_marksKept _ (State.settle_marksKept _
      (State.boundary_marksKept _ s h)))
  have hf : u.fixed = s.fixed := by rw [← hu]; simp
  exact State.endWrites_marksKept { u with output.wait := none } (by simp [hm])
    ((State.beforeWrites_of_fixed hf).trans (Regs.beforeWrites_part (by rw [hp]; decide)))

@[simp] theorem State.windTest_marksKept (s : State) (h : s.marksKept = true) : s.windTest.marksKept = true := by
  unfold State.windTest
  split
  · next hw => exact State.beginEnd_marksKept s h hw.1
  · exact h

@[simp] theorem State.halt_marksKept (s : State) (h : s.marksKept = true) : s.halt.marksKept = true :=
  State.marksKept_regs h rfl rfl rfl rfl (by simp [-Writer.waiting_eq, Writer.waiting, State.halt])

@[simp] theorem State.failStart_marksKept (c : StartFault) (s : State) (h : s.marksKept = true) :
    (s.failStart c).marksKept = true := by
  unfold State.failStart
  rw [State.raise_marksKept]
  exact State.marksKept_regs (State.halt_marksKept s h) rfl rfl rfl rfl (Nat.le_refl _)

@[simp] theorem State.endGoesOn_marksKept (s : State) (h : s.marksKept = true) : s.endGoesOn.marksKept = true := by
  unfold State.endGoesOn
  split
  · rw [State.markItem_marksKept _ _ rfl]
    exact State.marksKept_le h id rfl rfl rfl (Nat.le_refl _)
  · exact State.halt_marksKept s h
  · exact h

/-! ### The start -/

theorem capacityOf_pos {w : Word} {c : Nat} (h : capacityOf w = some c) : 0 < c := by
  unfold capacityOf at h
  split at h <;> simp at h <;> omega

theorem State.headerFirst_marksKept (w : List Word) (s : State) (h : s.marksKept = true)
    (hb : s.regs.beforeWrites = true) : (s.headerFirst w).marksKept = true := by
  unfold State.headerFirst
  split
  · exact State.failStart_marksKept _ s h
  · next c hc =>
    split
    · next hr =>
      refine (State.requestRead_marksKept _ _ _ _ ?_)
      rw [State.marksKept_iff] at h ⊢
      obtain ⟨hw, hn⟩ := h.2.2 hb
      have hn' : ({ s.writer with capacity := c } : Writer).waiting = 0 := hn
      have := capacityOf_pos hc
      refine ⟨fun _ => hn', fun p => ⟨by simp only [hw]; exact p, hr, ?_⟩, fun _ => ⟨hw, hn'⟩⟩
      rw [hn']
      exact Nat.mod_lt _ p
    · exact State.failStart_marksKept _ s h

theorem State.planInvalid_marksKept (x : PlanFault) (s : State) (h : s.marksKept = true)
    (hb : s.regs.beforeWrites = true) : (s.planInvalid x).marksKept = true := by
  refine State.marksKept_le h (fun _ => hb) rfl rfl rfl ?_
  simp [-Writer.waiting_eq, Writer.waiting, State.planInvalid]

theorem State.headerRest_marksKept (w : List Word) (s : State) (h : s.marksKept = true)
    (hb : s.regs.beforeWrites = true) : (s.headerRest w).marksKept = true := by
  have hv : ({ s with desk.lastTaken := w.getD 3 0#32, regs.start := some .plan } : State).marksKept = true :=
    State.marksKept_le h (fun _ => hb) rfl rfl rfl (Nat.le_refl _)
  have hp : s.regs.part = .starting := by simp [Regs.beforeWrites] at hb; exact hb.1
  unfold State.headerRest
  dsimp only
  split
  · exact State.planInvalid_marksKept _ _ hv (by simp [Regs.beforeWrites, hp])
  · exact State.requestRead_marksKept _ _ _ _ hv

theorem State.headerRead_marksKept (offset : Nat) (w : List Word) (s : State) (h : s.marksKept = true)
    (hb : s.regs.beforeWrites = true) : (s.headerRead offset w).marksKept = true := by
  unfold State.headerRead
  split
  · exact State.headerFirst_marksKept w s h hb
  · exact State.headerRest_marksKept w s h hb

theorem State.startPlanRead_marksKept (r : PlanRead) (s : State) (h : s.marksKept = true)
    (hb : s.regs.beforeWrites = true) : (s.startPlanRead r).marksKept = true := by
  unfold State.startPlanRead
  dsimp only
  (repeat' split)
  · exact State.requestRead_marksKept _ _ _ _ h
  · exact State.planInvalid_marksKept _ s h hb
  · exact State.marksKept_le h (fun _ => hb) rfl rfl rfl (Nat.le_refl _)

@[simp] theorem allMirrors_isJournal : allMirrors.filter WriteItem.isJournal = [] := by
  simp [allMirrors, List.filter_append, List.filter_map, Function.comp_def]

/-- Step 5 begins: nothing is unread and nothing waits, then the pending entries follow (R165, R194). -/
theorem State.startWrites_marksKept (s : State) (h : s.marksKept = true) (hb : s.regs.beforeWrites = true) :
    s.startWrites.marksKept = true := by
  unfold State.startWrites
  dsimp only
  refine State.requestRead_marksKept _ _ _ _ (State.flushJournal_written _ ?_ (by simp [Regs.beforeWrites]))
  rw [State.marksKept_iff] at h ⊢
  obtain ⟨_, hn⟩ := h.2.2 hb
  have hn' : ∀ (m : Nat), ({ s.writer with writeMark := m, queue := allMirrors } : Writer).waiting = 0 := fun m => by
    simp only [Writer.waiting] at hn ⊢
    rw [allMirrors_isJournal]
    simpa using (Nat.add_eq_zero_iff.mp hn).2
  refine ⟨fun _ => hn' _, fun p => ?_, fun b => by simp [Regs.beforeWrites] at b⟩
  have hr := (h.2.1 p).2.1
  exact ⟨hr, hr, by rw [hn' _]; exact Nat.mod_lt _ p⟩

theorem State.startPages_marksKept (s : State) (h : s.marksKept = true) : s.startPages.marksKept = true := by
  unfold State.startPages
  exact State.requestRead_marksKept _ _ _ _
    (State.marksKept_regs h (by simp [Regs.beforeWrites]) rfl rfl rfl (Nat.le_refl _))

theorem State.completeStart_marksKept (s : State) (h : s.marksKept = true) : s.completeStart.marksKept = true := by
  have hv (p : PartState) : ({ s with
      regs.part := p
      regs.start := none
      output.found := []
      desk.scanTimer := Timer.load s.settings.scanInterval } : State).marksKept = true :=
    State.marksKept_regs h (by simp [Regs.beforeWrites]) rfl rfl rfl (Nat.le_refl _)
  unfold State.completeStart
  dsimp only
  generalize hu : State.each _ _ _ = u
  have hm : u.marksKept = true := by
    rw [← hu]
    exact State.each_marksKept _ _ (fun f t ht => State.startSweeping_marksKept f t ht) _ (hv _)
  split <;> simp [hm]

theorem State.pagesWritten_marksKept (s : State) (h : s.marksKept = true) : s.pagesWritten.marksKept = true := by
  unfold State.pagesWritten
  split
  · exact State.completeStart_marksKept s h
  · split
    · simp [h]
    · exact State.failStart_marksKept _ s h

/-! ### RESUME -/

@[simp] theorem State.queueMark_keeps_marks (s : State) (h : s.marksKept = true) : s.queueMark.marksKept = true := by
  unfold State.queueMark; simp [h]

theorem State.beginResume_marksKept (s : State) (h : s.marksKept = true) (hp : s.regs.part = .stalled) :
    s.beginResume.marksKept = true := by
  have h1 : (s.writer.heldPages.map WriteItem.closedPage).filter WriteItem.isJournal = [] := by
    induction s.writer.heldPages with
    | nil => rfl
    | cons a r ih => simp
  have h2 : (s.writer.heldDumps.map WriteItem.dump).filter WriteItem.isJournal = [] := by
    induction s.writer.heldDumps with
    | nil => rfl
    | cons a r ih => simp
  refine State.marksKept_regs h (Regs.beforeWrites_part (by simp [State.beginResume, hp])) rfl rfl rfl ?_
  simp only [Writer.waiting, State.beginResume]
  have h3 : ((if s.output.page.isSome then [WriteItem.openPage] else []).filter WriteItem.isJournal) = [] := by
    split <;> rfl
  simp [-Writer.waiting_eq, h1, h2, h3, List.filter_append, allMirrors_isJournal]

theorem State.resumeCells_marksKept (s : State) (h : s.marksKept = true) (hs : s.regs.start = none) :
    s.resumeCells.marksKept = true := by
  unfold State.resumeCells
  exact State.queueMark_keeps_marks _ (State.queueHeld_marksKept _
    (State.marksKept_regs h (Regs.beforeWrites_start hs) rfl rfl rfl (Nat.le_refl _)))

theorem State.resumeJournal_marksKept (s : State) (h : s.marksKept = true) (hs : s.regs.start = none) :
    s.resumeJournal.marksKept = true := by
  unfold State.resumeJournal
  exact State.queueMark_keeps_marks _ (State.flushJournal_written _
    (State.marksKept_regs h (Regs.beforeWrites_start hs) rfl rfl rfl (Nat.le_refl _)) (Regs.beforeWrites_start hs))

theorem State.resumeReturn_marksKept (s : State) (h : s.marksKept = true) (hs : s.regs.start = none) :
    s.resumeReturn.marksKept = true := by
  unfold State.resumeReturn
  have hv : ({ s with
    regs.part := s.regs.resume.getD .running
    regs.resume := none
    regs.rewriting := none
    desk.scanTimer := Timer.load s.settings.scanInterval } : State).queueHeld.marksKept = true :=
    State.queueHeld_marksKept _ (State.marksKept_regs h (Regs.beforeWrites_start hs) rfl rfl rfl (Nat.le_refl _))
  dsimp only
  split
  · exact State.endWrites_marksKept _ hv (Regs.beforeWrites_start hs)
  · exact hv

/-! ### Serving the write queue -/

@[simp] theorem State.markReached_marksKept (s : State) (h : s.marksKept = true) : s.markReached.marksKept = true := by
  unfold State.markReached
  split
  · exact State.failStart_marksKept _ s h
  · exact State.startPages_marksKept s h
  · exact State.pagesWritten_marksKept s h
  · exact h
  · exact h
  · exact h
  · next hs _ =>
    exact State.resumeCells_marksKept _ (State.shiftTest_marksKept s h) 
      ((congrArg (fun f => f.regs.start) (State.shiftTest_fixed s)).trans hs)
  · next hs _ =>
    split
    · exact State.resumeJournal_marksKept s h hs
    · exact State.resumeCells_marksKept s h hs
  · next hs _ => exact State.resumeReturn_marksKept s h hs
  · exact h

@[simp] theorem serveN_marksKept (n : Nat) (s : State) (h : s.marksKept = true) : (serveN n s).marksKept = true := by
  induction n generalizing s with
  | zero => exact h
  | succ n ih =>
    unfold serveN
    split
    · next hs =>
      have hc : s.writer.current = none := by simp at hs; exact hs.2
      split
      · split
        · exact ih _ (State.endGoesOn_marksKept s h)
        · exact h
      · next i r hq =>
        have hv : ({ s with writer.queue := r } : State).marksKept = true :=
          State.marksKept_le h id rfl rfl rfl (by
            simp only [Writer.waiting, hq, List.filter_cons]
            split <;> simp)
        dsimp only
        split
        · exact ih _ (State.windTest_marksKept _ (State.settle_marksKept _ (State.markReached_marksKept _ hv)))
        · refine ih _ (State.beginItem_marksKept _ _ (State.marksKept_le h id rfl rfl rfl ?_))
          simp only [Writer.waiting, hq, hc, List.filter_cons, waitsIn]
          split <;> simp
    · exact h

/-- What every event ends with. -/
@[simp] theorem State.conclude_marksKept (s : State) (h : s.marksKept = true) : s.conclude.marksKept = true := by
  unfold State.conclude
  exact serveN_marksKept _ _ (State.windTest_marksKept _ (State.settle_marksKept _ h))

/-! ### The link -/

theorem State.census_beforeWrites {s : State} (l : s.fixed.legal = true) (hm : s.link.mode.isCensus = true) :
    s.regs.beforeWrites = true := by
  rw [State.fixed_legal] at l
  unfold Regs.legal at l
  unfold Regs.beforeWrites
  rcases s with ⟨⟨area, run, part, resume, sf, att, atm, flt, start, rw, ending⟩, _⟩
  cases part <;> simp_all <;> grind

theorem State.endCensus_marksKept (c : Census) (s : State) (h : s.marksKept = true) (hb : s.regs.beforeWrites = true) :
    (s.endCensus c).marksKept = true := by
  unfold State.endCensus
  generalize hu : State.buildTables c _ = u
  have hf : u.fixed = { s with link.mode := .cycling : State }.fixed := by rw [← hu]; simp; rfl
  have hm : u.marksKept = true := by rw [← hu]; simp [h]
  exact State.startWrites_marksKept u hm ((State.beforeWrites_of_fixed hf).trans hb)

theorem State.censusNext_marksKept (c : Census) (s : State) (h : s.marksKept = true) (hb : s.regs.beforeWrites = true) :
    (s.censusNext c).marksKept = true := by
  unfold State.censusNext
  dsimp only
  have hm := State.censusAbsent_marksKept c c.next s h
  have hf := State.beforeWrites_of_fixed (State.censusAbsent_fixed c c.next s)
  generalize State.censusAbsent c c.next s = u at *
  (repeat' split)
  · exact hm
  · exact hm
  · exact State.endCensus_marksKept c u hm (hf.trans hb)

theorem State.missVisit_marksKept (v : Visit) (m : Miss) (s : State)
    (h : s.marksKept = true) (l : s.fixed.legal = true) :
    (s.missVisit v m).marksKept = true := by
  unfold State.missVisit
  dsimp only
  have hm := State.closeVisit_marksKept v.addr s h
  rw [← State.closeVisit_fixed v.addr s] at l
  generalize State.closeVisit v.addr s = u at *
  split
  · exact hm
  · next hc =>
    refine State.censusNext_marksKept _ _ (State.cycleMiss_marksKept _ _ _ hm) ?_
    rw [State.beforeWrites_of_fixed (State.cycleMiss_fixed v.addr m u)]
    exact State.census_beforeWrites l (by rw [hc]; rfl)
  · exact State.cycleMiss_marksKept _ _ _ hm

theorem State.censusReply_marksKept (c : Census) (v : Visit) (r : Reply) (rep : Option Report) (s : State)
    (h : s.marksKept = true) (hb : s.regs.beforeWrites = true) : (s.censusReply c v r rep).marksKept = true := by
  unfold State.censusReply
  dsimp only
  refine State.censusNext_marksKept _ _ (State.setUnit_marksKept _ _ s h) ?_
  rw [State.beforeWrites_of_fixed (State.setUnit_fixed v.addr _ s)]
  exact hb

theorem State.validReply_marksKept (v : Visit) (r : Reply) (rep : Option Report) (s : State) (h : s.marksKept = true)
    (l : s.fixed.legal = true) : (s.validReply v r rep).marksKept = true := by
  unfold State.validReply
  dsimp only
  have hm := State.closeVisit_marksKept v.addr s h
  rw [← State.closeVisit_fixed v.addr s] at l
  generalize State.closeVisit v.addr s = u at *
  split
  · exact hm
  · next hc => exact State.censusReply_marksKept _ v r rep u hm (State.census_beforeWrites l (by rw [hc]; rfl))
  · split
    · exact State.presentReply_marksKept _ _ _ _ hm
    · exact State.lostReply_marksKept _ _ _ _ hm
    · exact hm

theorem State.takeReport_marksKept (r : Reply) (rep : Report) (s : State) (h : s.marksKept = true)
    (l : s.fixed.legal = true) : (s.takeReport r rep).marksKept = true := by
  unfold State.takeReport
  (repeat' split) <;> first
    | exact h
    | exact State.missVisit_marksKept _ _ s h l
    | exact State.validReply_marksKept _ _ _ s h l

theorem State.takeNothing_marksKept (r : Reply) (s : State) (h : s.marksKept = true) (l : s.fixed.legal = true) :
    (s.takeNothing r).marksKept = true := by
  unfold State.takeNothing
  split <;> first | exact h | exact State.validReply_marksKept _ _ _ s h l

theorem State.windowEnd_marksKept (s : State) (h : s.marksKept = true) (l : s.fixed.legal = true) :
    s.windowEnd.marksKept = true := by
  unfold State.windowEnd
  (repeat' split) <;> first | exact h | exact State.missVisit_marksKept _ _ s h l

theorem State.badReply_marksKept (late : Bool) (m : List Byte) (s : State) (h : s.marksKept = true)
    (l : s.fixed.legal = true) : (s.badReply late m).marksKept = true := by
  unfold State.badReply
  (repeat' split) <;> first | exact h | exact State.missVisit_marksKept _ _ s h l

/-! ### The end of a transfer, and the memory fault -/

theorem State.start_beforeWrites {s : State} {x : StartStep} (l : s.fixed.legal = true) (h : s.regs.start = some x)
    (hx : x = .header ∨ x = .plan) : s.regs.beforeWrites = true := by
  rw [State.fixed_legal] at l
  unfold Regs.legal at l
  unfold Regs.beforeWrites
  rcases s with ⟨⟨area, run, part, resume, sf, att, atm, flt, start, rw, ending⟩, _⟩
  cases part <;> rcases hx with rfl | rfl <;> simp_all

theorem State.deskRead_marksKept (offset : Nat) (w : List Word) (s : State) (h : s.marksKept = true)
    (l : s.fixed.legal = true) : (s.deskRead offset w).marksKept = true := by
  unfold State.deskRead
  split
  · next hs => exact State.headerRead_marksKept offset w s h (State.start_beforeWrites l hs (.inl rfl))
  · exact State.startCellRead_marksKept _ s h
  · exact h
  · exact h
  · exact h
  · exact h
  · next hs => exact State.scanRead_marksKept w s h (Regs.beforeWrites_start hs)

theorem State.planRead_marksKept (w : List Word) (s : State) (h : s.marksKept = true) (l : s.fixed.legal = true) :
    (s.planRead w).marksKept = true := by
  unfold State.planRead
  dsimp only
  split
  · exact h
  · split
    · next hs => exact State.startPlanRead_marksKept _ s h (State.start_beforeWrites l hs (.inr rfl))
    · split
      · exact State.switchRead_marksKept _ _ _ h
      · exact h

@[simp] theorem State.pageRead_marksKept (offset : Nat) (w : List Word) (s : State) (h : s.marksKept = true) :
    (s.pageRead offset w).marksKept = true := by
  unfold State.pageRead; split <;> simp [h]

theorem State.transferEnded_marksKept (t : Transfer) (s : State) (h : s.marksKept = true) (l : s.fixed.legal = true) :
    (s.transferEnded t).marksKept = true := by
  unfold State.transferEnded
  dsimp only
  have hm : ({ s with port := s.port.finish } : State).marksKept = true := h
  have lm : ({ s with port := s.port.finish } : State).fixed.legal = true := l
  generalize ({ s with port := s.port.finish } : State) = u at *
  split
  · split <;> simp [hm]
  · exact State.deskRead_marksKept _ _ u hm lm
  · exact State.planRead_marksKept _ u hm lm
  · exact State.pageRead_marksKept _ _ u hm

theorem State.stall_marksKept (s : State) (h : s.marksKept = true) : s.stall.marksKept = true := by
  unfold State.stall
  exact State.marksKept_regs (State.holdBack_marksKept _ (State.dropScan_marksKept s h)) rfl rfl rfl rfl (Nat.le_refl _)

@[simp] theorem State.memoryFault_marksKept (addr : Nat) (k : FaultKind) (s : State) (h : s.marksKept = true) :
    (s.memoryFault addr k).marksKept = true := by
  unfold State.memoryFault
  dsimp only
  have hm : (({ s with regs.flt := fltWord addr k, port := Port.idle } : State).raise .fault).marksKept = true := h
  generalize ({ s with regs.flt := fltWord addr k, port := Port.idle } : State).raise .fault = u at *
  split
  · exact State.stall_marksKept u hm
  · exact State.stall_marksKept u hm
  · exact State.failStart_marksKept _ _ (State.dropWrites_marksKept u hm)
  · exact State.marksKept_le (State.holdBack_marksKept u hm) id rfl rfl rfl (Nat.le_refl _)
  · exact State.dropWrites_marksKept u hm

/-! ### The commands -/

theorem State.orderEvent_marksKept (k : OrderKind) (ps : List Word) (s : State) (h : s.marksKept = true) :
    (s.orderEvent k ps).marksKept = true := by
  unfold State.orderEvent; split
  · simp [h]
  · exact h

theorem State.reportEvent_marksKept (r : Reply) (rep : Report) (s : State) (h : s.marksKept = true)
    (l : s.fixed.legal = true) : (s.reportEvent r rep).marksKept = true := by
  unfold State.reportEvent; split
  · simp [State.takeReport_marksKept r rep s h l]
  · exact h

theorem State.beat_marksKept (t : Transfer) (s : State) (h : s.marksKept = true) (l : s.fixed.legal = true) :
    (s.beat t).marksKept = true := by
  unfold State.beat
  dsimp only
  have hm : (s.moveBeat t).marksKept = true := by
    unfold State.moveBeat; dsimp only; split <;> simp [h]
  have lm : (s.moveBeat t).fixed.legal = true := State.moveBeat_keeps t s l
  generalize s.moveBeat t = u at *
  (repeat' split) <;> first | exact hm | exact State.conclude_marksKept _ (State.transferEnded_marksKept _ u hm lm)

theorem execPowerOnReset_marksKept (s : State) :
    ∃ t, execPowerOnReset s = .next t ∧ t.marksKept = true := ⟨_, rfl, by show State.reset.marksKept = true; decide⟩

theorem execSrst_marksKept (s : State) :
    ∃ t, execSrst s = .next t ∧ t.marksKept = true :=
        ⟨_, rfl, State.marksKept_le (s := State.reset) (by decide) id rfl rfl rfl (Nat.le_refl _)⟩

theorem State.enterStarting_marksKept (s : State) : s.enterStarting.marksKept = true :=
  State.requestRead_marksKept _ _ _ _
    ((State.marksKept_iff _).mpr ⟨fun _ => rfl, fun p => absurd p (Nat.lt_irrefl 0), fun _ => ⟨rfl, rfl⟩⟩)

theorem execRunSet_marksKept (s : State) (h : s.marksKept = true) :
    ∃ t, execRunSet s = .next t ∧ t.marksKept = true := by
  unfold execRunSet
  split
  · exact ⟨_, rfl, State.enterStarting_marksKept s⟩
  · exact ⟨_, rfl, State.marksKept_le h id rfl rfl rfl (Nat.le_refl _)⟩
  all_goals exact ⟨_, rfl, h⟩

theorem State.windDown_concluded (s : State) (h : s.marksKept = true) : s.windDown.conclude.marksKept = true :=
  State.conclude_marksKept _ (State.windDown_marksKept s h)

theorem execRunClear_marksKept (s : State) (h : s.marksKept = true) :
    ∃ t, execRunClear s = .next t ∧ t.marksKept = true := by
  unfold execRunClear
  split
  · split
    · exact ⟨_, rfl, State.marksKept_le h id rfl rfl rfl (Nat.le_refl _)⟩
    · exact ⟨_, rfl, State.windDown_concluded _ (State.marksKept_regs h rfl rfl rfl rfl (Nat.le_refl _))⟩
    · next hp => exact ⟨_, rfl, State.windDown_concluded _
        (State.marksKept_regs h (Regs.beforeWrites_part (by simp [hp])) rfl rfl rfl (Nat.le_refl _))⟩
    all_goals exact ⟨_, rfl, h⟩
  · exact ⟨_, rfl, h⟩

theorem execLook_marksKept (s : State) (h : s.marksKept = true) :
    ∃ t, execLook s = .next t ∧ t.marksKept = true := by
  unfold execLook
  (repeat' split) <;> exact ⟨_, rfl, by first | with_reducible exact h | simp (maxDischargeDepth := 40) [h]⟩

theorem execResume_marksKept (s : State) (h : s.marksKept = true) :
    ∃ t, execResume s = .next t ∧ t.marksKept = true := by
  unfold execResume
  split
  · next hp => exact ⟨_, rfl, State.conclude_marksKept _ (State.beginResume_marksKept s h hp.1)⟩
  · exact ⟨_, rfl, h⟩

theorem State.clearFrameBits_marksKept (value : Word) (s : State) (h : s.marksKept = true) :
    (s.clearFrameBits value).marksKept = true := by
  unfold State.clearFrameBits
  exact State.each_marksKept _ _ (fun f t ht => State.setFrame_marksKept _ _ t ht) s h

theorem execAttWrite_marksKept (value : Word) (s : State) (h : s.marksKept = true) :
    ∃ t, execAttWrite value s = .next t ∧ t.marksKept = true :=
  ⟨_, rfl, State.conclude_marksKept _ (State.clearFrameBits_marksKept _ _
    (State.marksKept_le h id rfl rfl rfl (Nat.le_refl _)))⟩

theorem execRegisterWrite_marksKept (reg : HostRegister) (value : Word) (s : State) (h : s.marksKept = true) :
    ∃ t, execRegisterWrite reg value s = .next t ∧ t.marksKept = true := by
  unfold execRegisterWrite
  (repeat' split) <;> exact ⟨_, rfl, State.marksKept_le h id rfl rfl rfl (Nat.le_refl _)⟩

theorem execSweepTimer_marksKept (frame : Nat) (s : State) (h : s.marksKept = true) :
    ∃ t, execSweepTimer frame s = .next t ∧ t.marksKept = true := by
  unfold execSweepTimer
  (repeat' split) <;> exact ⟨_, rfl, by first | with_reducible exact h | simp (maxDischargeDepth := 40) [h]⟩

theorem execStripRead_marksKept (frame : Nat) (reply : List Byte) (s : State) (h : s.marksKept = true) :
    ∃ t, execStripRead frame reply s = .next t ∧ t.marksKept = true := by
  unfold execStripRead
  (repeat' split) <;> exact ⟨_, rfl, by first | with_reducible exact h | simp (maxDischargeDepth := 40) [h]⟩

theorem execStripNoReply_marksKept (frame : Nat) (s : State) (h : s.marksKept = true) :
    ∃ t, execStripNoReply frame s = .next t ∧ t.marksKept = true := by
  unfold execStripNoReply
  (repeat' split) <;> exact ⟨_, rfl, by first | with_reducible exact h | simp (maxDischargeDepth := 40) [h]⟩

theorem execRollerPulse_marksKept (frame : Nat) (s : State) (h : s.marksKept = true) :
    ∃ t, execRollerPulse frame s = .next t ∧ t.marksKept = true := by
  unfold execRollerPulse
  (repeat' split) <;> exact ⟨_, rfl, by first | with_reducible exact h | simp (maxDischargeDepth := 40) [h]⟩

theorem execShiftTimer_marksKept (s : State) (h : s.marksKept = true) :
    ∃ t, execShiftTimer s = .next t ∧ t.marksKept = true := by
  unfold execShiftTimer
  (repeat' split) <;> exact ⟨_, rfl, by first | with_reducible exact h | simp (maxDischargeDepth := 40) [h]⟩

theorem execBoardScan_marksKept (s : State) (h : s.marksKept = true) :
    ∃ t, execBoardScan s = .next t ∧ t.marksKept = true := by
  unfold execBoardScan
  (repeat' split) <;> exact ⟨_, rfl, by first | with_reducible exact h | simp (maxDischargeDepth := 40) [h]⟩

theorem execCutOut_marksKept (frame spindle : Word) (s : State) (h : s.marksKept = true) :
    ∃ t, execCutOut frame spindle s = .next t ∧ t.marksKept = true := ⟨_, rfl, State.orderEvent_marksKept _ _ s h⟩

theorem execClearCutout_marksKept (frame first last : Word) (s : State) (h : s.marksKept = true) :
    ∃ t, execClearCutout frame first last s = .next t ∧ t.marksKept = true :=
        ⟨_, rfl, State.orderEvent_marksKept _ _ s h⟩

theorem execClearSlip_marksKept (frame first last : Word) (s : State) (h : s.marksKept = true) :
    ∃ t, execClearSlip frame first last s = .next t ∧ t.marksKept = true := ⟨_, rfl, State.orderEvent_marksKept _ _ s h⟩

theorem execSelfCheck_marksKept (frame strip : Word) (s : State) (h : s.marksKept = true) :
    ∃ t, execSelfCheck frame strip s = .next t ∧ t.marksKept = true := ⟨_, rfl, State.orderEvent_marksKept _ _ s h⟩

theorem execTableRead_marksKept (s : State) (h : s.marksKept = true) :
    ∃ t, execTableRead s = .next t ∧ t.marksKept = true := ⟨_, rfl, State.orderEvent_marksKept _ _ s h⟩

theorem execPiecerPlace_marksKept (piecer target : Word) (s : State) (h : s.marksKept = true) :
    ∃ t, execPiecerPlace piecer target s = .next t ∧ t.marksKept = true := ⟨_, rfl, State.orderEvent_marksKept _ _ s h⟩

theorem execDoffNow_marksKept (frame : Word) (s : State) (h : s.marksKept = true) :
    ∃ t, execDoffNow frame s = .next t ∧ t.marksKept = true := ⟨_, rfl, State.orderEvent_marksKept _ _ s h⟩

theorem execFrameStop_marksKept (frame : Word) (s : State) (h : s.marksKept = true) :
    ∃ t, execFrameStop frame s = .next t ∧ t.marksKept = true := ⟨_, rfl, State.orderEvent_marksKept _ _ s h⟩

theorem execFrameStart_marksKept (frame : Word) (s : State) (h : s.marksKept = true) :
    ∃ t, execFrameStart frame s = .next t ∧ t.marksKept = true := ⟨_, rfl, State.orderEvent_marksKept _ _ s h⟩

theorem execCreelChange_marksKept (frame creel : Word) (s : State) (h : s.marksKept = true) :
    ∃ t, execCreelChange frame creel s = .next t ∧ t.marksKept = true := ⟨_, rfl, State.orderEvent_marksKept _ _ s h⟩

theorem execShiftClose_marksKept (s : State) (h : s.marksKept = true) :
    ∃ t, execShiftClose s = .next t ∧ t.marksKept = true := ⟨_, rfl, State.orderEvent_marksKept _ _ s h⟩

theorem execPlanSwitch_marksKept (copy mode : Word) (s : State) (h : s.marksKept = true) :
    ∃ t, execPlanSwitch copy mode s = .next t ∧ t.marksKept = true := ⟨_, rfl, State.orderEvent_marksKept _ _ s h⟩

theorem execWithdraw_marksKept (seq : Word) (s : State) (h : s.marksKept = true) :
    ∃ t, execWithdraw seq s = .next t ∧ t.marksKept = true := ⟨_, rfl, State.orderEvent_marksKept _ _ s h⟩

theorem execAttemptTimeout_marksKept (p : Nat) (s : State) (h : s.marksKept = true) :
    ∃ t, execAttemptTimeout p s = .next t ∧ t.marksKept = true := by
  unfold execAttemptTimeout
  (repeat' split) <;> exact ⟨_, rfl, by first | with_reducible exact h | simp (maxDischargeDepth := 40) [h]⟩

theorem execTravelTimeout_marksKept (p : Nat) (s : State) (h : s.marksKept = true) :
    ∃ t, execTravelTimeout p s = .next t ∧ t.marksKept = true := by
  unfold execTravelTimeout
  (repeat' split) <;> exact ⟨_, rfl, by first | with_reducible exact h | simp (maxDischargeDepth := 40) [h]⟩

theorem execReturnPlaceTimeout_marksKept (p : Nat) (s : State) (h : s.marksKept = true) :
    ∃ t, execReturnPlaceTimeout p s = .next t ∧ t.marksKept = true := by
  unfold execReturnPlaceTimeout
  (repeat' split) <;> exact ⟨_, rfl, by first | with_reducible exact h | simp (maxDischargeDepth := 40) [h]⟩

theorem execStopTimeout_marksKept (f : Nat) (s : State) (h : s.marksKept = true) :
    ∃ t, execStopTimeout f s = .next t ∧ t.marksKept = true := by
  unfold execStopTimeout
  (repeat' split) <;> exact ⟨_, rfl, by first | with_reducible exact h | simp (maxDischargeDepth := 40) [h]⟩

theorem execDoffTimeout_marksKept (f : Nat) (s : State) (h : s.marksKept = true) :
    ∃ t, execDoffTimeout f s = .next t ∧ t.marksKept = true := by
  unfold execDoffTimeout
  (repeat' split) <;> exact ⟨_, rfl, by first | with_reducible exact h | simp (maxDischargeDepth := 40) [h]⟩

theorem execChangeTimeout_marksKept (c : Nat) (s : State) (h : s.marksKept = true) :
    ∃ t, execChangeTimeout c s = .next t ∧ t.marksKept = true := by
  unfold execChangeTimeout
  (repeat' split) <;> exact ⟨_, rfl, by first | with_reducible exact h | simp (maxDischargeDepth := 40) [h]⟩

theorem execReturnTimeout_marksKept (c : Nat) (s : State) (h : s.marksKept = true) :
    ∃ t, execReturnTimeout c s = .next t ∧ t.marksKept = true := by
  unfold execReturnTimeout
  (repeat' split) <;> exact ⟨_, rfl, by first | with_reducible exact h | simp (maxDischargeDepth := 40) [h]⟩

theorem execVisitStart_marksKept (s : State) (h : s.marksKept = true) :
    ∃ t, execVisitStart s = .next t ∧ t.marksKept = true := by
  unfold execVisitStart
  (repeat' split) <;> exact ⟨_, rfl, by first | with_reducible exact h | simp (maxDischargeDepth := 40) [h]⟩

theorem execIdleCycle_marksKept (s : State) (h : s.marksKept = true) :
    ∃ t, execIdleCycle s = .next t ∧ t.marksKept = true := by
  unfold execIdleCycle
  (repeat' split) <;> exact ⟨_, rfl, by first | with_reducible exact h | simp (maxDischargeDepth := 40) [h]⟩

theorem execReplyWindowEnd_marksKept (s : State) (h : s.marksKept = true) (l : s.fixed.legal = true) :
    ∃ t, execReplyWindowEnd s = .next t ∧ t.marksKept = true := by
  unfold execReplyWindowEnd
  split
  · exact ⟨_, rfl, State.conclude_marksKept _ (State.windowEnd_marksKept _ h l)⟩
  · exact ⟨_, rfl, h⟩

theorem execBadReply_marksKept (late : Bool) (message : List Byte) (s : State)
    (h : s.marksKept = true) (l : s.fixed.legal = true) :
    ∃ t, execBadReply late message s = .next t ∧ t.marksKept = true := by
  unfold execBadReply
  split
  · exact ⟨_, rfl, State.conclude_marksKept _ (State.badReply_marksKept _ _ _ h l)⟩
  · exact ⟨_, rfl, h⟩

theorem execNothing_marksKept (reply : Reply) (s : State) (h : s.marksKept = true) (l : s.fixed.legal = true) :
    ∃ t, execNothing reply s = .next t ∧ t.marksKept = true := by
  unfold execNothing
  split
  · exact ⟨_, rfl, State.conclude_marksKept _ (State.takeNothing_marksKept _ _ h l)⟩
  · exact ⟨_, rfl, h⟩

theorem execState_marksKept (reply : Reply) (drive : DriveState) (metres : Word) (s : State)
    (h : s.marksKept = true) (l : s.fixed.legal = true) :
    ∃ t, execState reply drive metres s = .next t ∧ t.marksKept = true :=
        ⟨_, rfl, State.reportEvent_marksKept _ _ s h l⟩

theorem execAtDoffPosition_marksKept (reply : Reply) (s : State) (h : s.marksKept = true) (l : s.fixed.legal = true) :
    ∃ t, execAtDoffPosition reply s = .next t ∧ t.marksKept = true := ⟨_, rfl, State.reportEvent_marksKept _ _ s h l⟩

theorem execDoffDone_marksKept (reply : Reply) (s : State) (h : s.marksKept = true) (l : s.fixed.legal = true) :
    ∃ t, execDoffDone reply s = .next t ∧ t.marksKept = true := ⟨_, rfl, State.reportEvent_marksKept _ _ s h l⟩

theorem execDriveFault_marksKept (reply : Reply) (s : State) (h : s.marksKept = true) (l : s.fixed.legal = true) :
    ∃ t, execDriveFault reply s = .next t ∧ t.marksKept = true := ⟨_, rfl, State.reportEvent_marksKept _ _ s h l⟩

theorem execAtSide_marksKept (reply : Reply) (side position : Nat) (s : State)
    (h : s.marksKept = true) (l : s.fixed.legal = true) :
    ∃ t, execAtSide reply side position s = .next t ∧ t.marksKept = true :=
        ⟨_, rfl, State.reportEvent_marksKept _ _ s h l⟩

theorem execStep_marksKept (reply : Reply) (token : Token) (stage : AttemptStep) (position : Nat) (s : State)
    (h : s.marksKept = true) (l : s.fixed.legal = true) :
    ∃ t, execStep reply token stage position s = .next t ∧ t.marksKept = true :=
        ⟨_, rfl, State.reportEvent_marksKept _ _ s h l⟩

theorem execResult_marksKept (reply : Reply) (token : Token) (outcome : Outcome) (s : State)
    (h : s.marksKept = true) (l : s.fixed.legal = true) :
    ∃ t, execResult reply token outcome s = .next t ∧ t.marksKept = true :=
        ⟨_, rfl, State.reportEvent_marksKept _ _ s h l⟩

theorem execHeld_marksKept (reply : Reply) (token : Token) (s : State)
    (h : s.marksKept = true) (l : s.fixed.legal = true) :
    ∃ t, execHeld reply token s = .next t ∧ t.marksKept = true := ⟨_, rfl, State.reportEvent_marksKept _ _ s h l⟩

theorem execRefusedHold_marksKept (reply : Reply) (token : Token) (s : State)
    (h : s.marksKept = true) (l : s.fixed.legal = true) :
    ∃ t, execRefusedHold reply token s = .next t ∧ t.marksKept = true := ⟨_, rfl, State.reportEvent_marksKept _ _ s h l⟩

theorem execParked_marksKept (reply : Reply) (s : State) (h : s.marksKept = true) (l : s.fixed.legal = true) :
    ∃ t, execParked reply s = .next t ∧ t.marksKept = true := ⟨_, rfl, State.reportEvent_marksKept _ _ s h l⟩

theorem execFault_marksKept (reply : Reply) (s : State) (h : s.marksKept = true) (l : s.fixed.legal = true) :
    ∃ t, execFault reply s = .next t ∧ t.marksKept = true := ⟨_, rfl, State.reportEvent_marksKept _ _ s h l⟩

theorem execLoaded_marksKept (reply : Reply) (lot : Token) (s : State)
    (h : s.marksKept = true) (l : s.fixed.legal = true) :
    ∃ t, execLoaded reply lot s = .next t ∧ t.marksKept = true := ⟨_, rfl, State.reportEvent_marksKept _ _ s h l⟩

theorem execArrived_marksKept (reply : Reply) (s : State) (h : s.marksKept = true) (l : s.fixed.legal = true) :
    ∃ t, execArrived reply s = .next t ∧ t.marksKept = true := ⟨_, rfl, State.reportEvent_marksKept _ _ s h l⟩

theorem execChangeDone_marksKept (reply : Reply) (s : State) (h : s.marksKept = true) (l : s.fixed.legal = true) :
    ∃ t, execChangeDone reply s = .next t ∧ t.marksKept = true := ⟨_, rfl, State.reportEvent_marksKept _ _ s h l⟩

theorem execChangeFault_marksKept (reply : Reply) (s : State) (h : s.marksKept = true) (l : s.fixed.legal = true) :
    ∃ t, execChangeFault reply s = .next t ∧ t.marksKept = true := ⟨_, rfl, State.reportEvent_marksKept _ _ s h l⟩

theorem execReturned_marksKept (reply : Reply) (s : State) (h : s.marksKept = true) (l : s.fixed.legal = true) :
    ∃ t, execReturned reply s = .next t ∧ t.marksKept = true := ⟨_, rfl, State.reportEvent_marksKept _ _ s h l⟩

theorem execMemoryBeat_marksKept (host : List HostWrite) (s : State)
    (h : s.marksKept = true) (l : s.fixed.legal = true) :
    ∃ t, execMemoryBeat host s = .next t ∧ t.marksKept = true := by
  unfold execMemoryBeat
  split
  · exact ⟨_, rfl, State.beat_marksKept _ (s.hostWrites host) h l⟩
  · exact ⟨_, rfl, h⟩

theorem execBusGrant_marksKept (s : State) (h : s.marksKept = true) :
    ∃ t, execBusGrant s = .next t ∧ t.marksKept = true := by
  unfold execBusGrant
  (repeat' split) <;> exact ⟨_, rfl, by first | with_reducible exact h | simp (maxDischargeDepth := 40) [h]⟩

theorem execBusYield_marksKept (host : List HostWrite) (s : State) (h : s.marksKept = true) (l : s.fixed.legal = true) :
    ∃ t, execBusYield host s = .next t ∧ t.marksKept = true := by
  unfold execBusYield
  split
  · next t _ =>
    have hm := State.beat_marksKept t (s.hostWrites host) h l
    split
    · exact ⟨_, rfl, hm⟩
    · exact ⟨_, rfl, by simp [State.yieldBus, hm]⟩
  · exact ⟨_, rfl, h⟩

theorem execBeatError_marksKept (s : State) (h : s.marksKept = true) :
    ∃ t, execBeatError s = .next t ∧ t.marksKept = true := by
  unfold execBeatError
  (repeat' split) <;> exact ⟨_, rfl, by first | with_reducible exact h | simp (maxDischargeDepth := 40) [h]⟩

theorem execGrantTimeout_marksKept (s : State) (h : s.marksKept = true) :
    ∃ t, execGrantTimeout s = .next t ∧ t.marksKept = true := by
  unfold execGrantTimeout
  (repeat' split) <;> exact ⟨_, rfl, by first | with_reducible exact h | simp (maxDischargeDepth := 40) [h]⟩

end Sys2Proof.Machine
end

