-- ==== Sys2Proof/Laws/PerInstr.lean ====
section
/-! SUPPORT. The ranges of a well-formed command's operands (5.1, R190), command by command. -/

namespace Sys2Proof.Laws.Ranges

set_option Elab.async false

/-- What the operands of a well-formed command lie in. -/
def operandsIn : Instr → Prop
  | .sweepTimer f => 1 ≤ f ∧ f ≤ 8
  | .stripRead f _ => 1 ≤ f ∧ f ≤ 8
  | .stripNoReply f => 1 ≤ f ∧ f ≤ 8
  | .rollerPulse f => 1 ≤ f ∧ f ≤ 8
  | .attemptTimeout p => 1 ≤ p ∧ p ≤ 8
  | .travelTimeout p => 1 ≤ p ∧ p ≤ 8
  | .returnPlaceTimeout p => 1 ≤ p ∧ p ≤ 8
  | .stopTimeout f => 1 ≤ f ∧ f ≤ 8
  | .doffTimeout f => 1 ≤ f ∧ f ≤ 8
  | .changeTimeout c => 1 ≤ c ∧ c ≤ 4
  | .returnTimeout c => 1 ≤ c ∧ c ≤ 4
  | .state _ _ m => m.toNat ≤ 4294967
  | .atSide _ d n => (1 ≤ d ∧ d ≤ 16) ∧ (1 ≤ n ∧ n ≤ 1824)
  | .step _ _ _ n => 1 ≤ n ∧ n ≤ 1824
  | .memoryBeat h => ∀ x ∈ h, x.1 % 4 = 0 ∧ x.1 < 4294967296
  | .busYield h => ∀ x ∈ h, x.1 % 4 = 0 ∧ x.1 < 4294967296
  | .powerOnReset => True
  | .srst => True
  | .runSet => True
  | .runClear => True
  | .look => True
  | .resume => True
  | .attWrite _ => True
  | .registerWrite _ _ => True
  | .shiftTimer => True
  | .boardScan => True
  | .cutOut _ _ => True
  | .clearCutout _ _ _ => True
  | .clearSlip _ _ _ => True
  | .selfCheck _ _ => True
  | .tableRead => True
  | .piecerPlace _ _ => True
  | .doffNow _ => True
  | .frameStop _ => True
  | .frameStart _ => True
  | .creelChange _ _ => True
  | .shiftClose => True
  | .planSwitch _ _ => True
  | .withdraw _ => True
  | .visitStart => True
  | .idleCycle => True
  | .replyWindowEnd => True
  | .badReply _ _ => True
  | .nothing _ => True
  | .atDoffPosition _ => True
  | .doffDone _ => True
  | .driveFault _ => True
  | .result _ _ _ => True
  | .held _ _ => True
  | .refusedHold _ _ => True
  | .parked _ => True
  | .fault _ => True
  | .loaded _ _ => True
  | .arrived _ => True
  | .changeDone _ => True
  | .changeFault _ => True
  | .returned _ => True
  | .busGrant => True
  | .beatError => True
  | .grantTimeout => True

/-- A command is well-formed exactly when its operands are in range. -/
def Statement (i : Instr) : Prop := i.wellFormed = true ↔ operandsIn i

theorem powerOnReset : Statement (.powerOnReset) := by
  simp [Statement, Instr.wellFormed, operandsIn]

theorem srst : Statement (.srst) := by
  simp [Statement, Instr.wellFormed, operandsIn]

theorem runSet : Statement (.runSet) := by
  simp [Statement, Instr.wellFormed, operandsIn]

theorem runClear : Statement (.runClear) := by
  simp [Statement, Instr.wellFormed, operandsIn]

theorem look : Statement (.look) := by
  simp [Statement, Instr.wellFormed, operandsIn]

theorem resume : Statement (.resume) := by
  simp [Statement, Instr.wellFormed, operandsIn]

theorem attWrite (value : Word) : Statement (.attWrite value) := by
  simp [Statement, Instr.wellFormed, operandsIn]

theorem registerWrite (reg : HostRegister) (value : Word) : Statement (.registerWrite reg value) := by
  simp [Statement, Instr.wellFormed, operandsIn]

theorem sweepTimer (frame : Nat) : Statement (.sweepTimer frame) := by
  simp [Statement, Instr.wellFormed, operandsIn, frameOk]

theorem stripRead (frame : Nat) (reply : List Byte) : Statement (.stripRead frame reply) := by
  simp [Statement, Instr.wellFormed, operandsIn, frameOk]

theorem stripNoReply (frame : Nat) : Statement (.stripNoReply frame) := by
  simp [Statement, Instr.wellFormed, operandsIn, frameOk]

theorem rollerPulse (frame : Nat) : Statement (.rollerPulse frame) := by
  simp [Statement, Instr.wellFormed, operandsIn, frameOk]

theorem shiftTimer : Statement (.shiftTimer) := by
  simp [Statement, Instr.wellFormed, operandsIn]

theorem boardScan : Statement (.boardScan) := by
  simp [Statement, Instr.wellFormed, operandsIn]

theorem cutOut (frame spindle : Word) : Statement (.cutOut frame spindle) := by
  simp [Statement, Instr.wellFormed, operandsIn]

theorem clearCutout (frame first last : Word) : Statement (.clearCutout frame first last) := by
  simp [Statement, Instr.wellFormed, operandsIn]

theorem clearSlip (frame first last : Word) : Statement (.clearSlip frame first last) := by
  simp [Statement, Instr.wellFormed, operandsIn]

theorem selfCheck (frame strip : Word) : Statement (.selfCheck frame strip) := by
  simp [Statement, Instr.wellFormed, operandsIn]

theorem tableRead : Statement (.tableRead) := by
  simp [Statement, Instr.wellFormed, operandsIn]

theorem piecerPlace (piecer target : Word) : Statement (.piecerPlace piecer target) := by
  simp [Statement, Instr.wellFormed, operandsIn]

theorem doffNow (frame : Word) : Statement (.doffNow frame) := by
  simp [Statement, Instr.wellFormed, operandsIn]

theorem frameStop (frame : Word) : Statement (.frameStop frame) := by
  simp [Statement, Instr.wellFormed, operandsIn]

theorem frameStart (frame : Word) : Statement (.frameStart frame) := by
  simp [Statement, Instr.wellFormed, operandsIn]

theorem creelChange (frame creel : Word) : Statement (.creelChange frame creel) := by
  simp [Statement, Instr.wellFormed, operandsIn]

theorem shiftClose : Statement (.shiftClose) := by
  simp [Statement, Instr.wellFormed, operandsIn]

theorem planSwitch (copy mode : Word) : Statement (.planSwitch copy mode) := by
  simp [Statement, Instr.wellFormed, operandsIn]

theorem withdraw (seq : Word) : Statement (.withdraw seq) := by
  simp [Statement, Instr.wellFormed, operandsIn]

theorem attemptTimeout (piecer : Nat) : Statement (.attemptTimeout piecer) := by
  simp [Statement, Instr.wellFormed, operandsIn, piecerOk]

theorem travelTimeout (piecer : Nat) : Statement (.travelTimeout piecer) := by
  simp [Statement, Instr.wellFormed, operandsIn, piecerOk]

theorem returnPlaceTimeout (piecer : Nat) : Statement (.returnPlaceTimeout piecer) := by
  simp [Statement, Instr.wellFormed, operandsIn, piecerOk]

theorem stopTimeout (frame : Nat) : Statement (.stopTimeout frame) := by
  simp [Statement, Instr.wellFormed, operandsIn, frameOk]

theorem doffTimeout (frame : Nat) : Statement (.doffTimeout frame) := by
  simp [Statement, Instr.wellFormed, operandsIn, frameOk]

theorem changeTimeout (carrier : Nat) : Statement (.changeTimeout carrier) := by
  simp [Statement, Instr.wellFormed, operandsIn, carrierOk]

theorem returnTimeout (carrier : Nat) : Statement (.returnTimeout carrier) := by
  simp [Statement, Instr.wellFormed, operandsIn, carrierOk]

theorem visitStart : Statement (.visitStart) := by
  simp [Statement, Instr.wellFormed, operandsIn]

theorem idleCycle : Statement (.idleCycle) := by
  simp [Statement, Instr.wellFormed, operandsIn]

theorem replyWindowEnd : Statement (.replyWindowEnd) := by
  simp [Statement, Instr.wellFormed, operandsIn]

theorem badReply (late : Bool) (message : List Byte) : Statement (.badReply late message) := by
  simp [Statement, Instr.wellFormed, operandsIn]

theorem nothing (reply : Reply) : Statement (.nothing reply) := by
  simp [Statement, Instr.wellFormed, operandsIn]

theorem state (reply : Reply) (drive : DriveState) (metres : Word) : Statement (.state reply drive metres) := by
  simp [Statement, Instr.wellFormed, operandsIn, metresOk]

theorem atDoffPosition (reply : Reply) : Statement (.atDoffPosition reply) := by
  simp [Statement, Instr.wellFormed, operandsIn]

theorem doffDone (reply : Reply) : Statement (.doffDone reply) := by
  simp [Statement, Instr.wellFormed, operandsIn]

theorem driveFault (reply : Reply) : Statement (.driveFault reply) := by
  simp [Statement, Instr.wellFormed, operandsIn]

theorem atSide (reply : Reply) (side position : Nat) : Statement (.atSide reply side position) := by
  simp [Statement, Instr.wellFormed, operandsIn, sideOk, spindleOk]

theorem step (reply : Reply) (token : Token) (stage : AttemptStep) (position : Nat) : Statement (.step reply token stage position) := by
  simp [Statement, Instr.wellFormed, operandsIn, spindleOk]

theorem result (reply : Reply) (token : Token) (outcome : Outcome) : Statement (.result reply token outcome) := by
  simp [Statement, Instr.wellFormed, operandsIn]

theorem held (reply : Reply) (token : Token) : Statement (.held reply token) := by
  simp [Statement, Instr.wellFormed, operandsIn]

theorem refusedHold (reply : Reply) (token : Token) : Statement (.refusedHold reply token) := by
  simp [Statement, Instr.wellFormed, operandsIn]

theorem parked (reply : Reply) : Statement (.parked reply) := by
  simp [Statement, Instr.wellFormed, operandsIn]

theorem fault (reply : Reply) : Statement (.fault reply) := by
  simp [Statement, Instr.wellFormed, operandsIn]

theorem loaded (reply : Reply) (lot : Token) : Statement (.loaded reply lot) := by
  simp [Statement, Instr.wellFormed, operandsIn]

theorem arrived (reply : Reply) : Statement (.arrived reply) := by
  simp [Statement, Instr.wellFormed, operandsIn]

theorem changeDone (reply : Reply) : Statement (.changeDone reply) := by
  simp [Statement, Instr.wellFormed, operandsIn]

theorem changeFault (reply : Reply) : Statement (.changeFault reply) := by
  simp [Statement, Instr.wellFormed, operandsIn]

theorem returned (reply : Reply) : Statement (.returned reply) := by
  simp [Statement, Instr.wellFormed, operandsIn]

theorem memoryBeat (host : List HostWrite) : Statement (.memoryBeat host) := by
  simp [Statement, Instr.wellFormed, operandsIn, hostWriteOk]

theorem busGrant : Statement (.busGrant) := by
  simp [Statement, Instr.wellFormed, operandsIn]

theorem busYield (host : List HostWrite) : Statement (.busYield host) := by
  simp [Statement, Instr.wellFormed, operandsIn, hostWriteOk]

theorem beatError : Statement (.beatError) := by
  simp [Statement, Instr.wellFormed, operandsIn]

theorem grantTimeout : Statement (.grantTimeout) := by
  simp [Statement, Instr.wellFormed, operandsIn]

end Sys2Proof.Laws.Ranges
end

