-- ==== Sys2Proof/Laws/State.lean ====
section
/-! SUPPORT. What each update of a record, and each hand-over to another block, leaves as it was. -/

namespace Sys2Proof.Machine

set_option Elab.async false

/-- What every run of a loop's body keeps, the loop keeps. -/
theorem State.each_keeps {α β : Type} (P : State → β) (l : List α) (g : α → State → State) (h : ∀ x t, P (g x t) = P t)
    (s : State) : P (s.each l g) = P s := by
  induction l generalizing s with
  | nil => rfl
  | cons x r ih => exact (ih (g x s)).trans (h x s)

@[simp] theorem State.markItem_regs (i : WriteItem) (s : State) : (State.markItem i s).regs = s.regs := by
  unfold State.markItem; first | rfl | ((try dsimp only); (repeat' split) <;> simp)
@[simp] theorem State.markItem_clock (i : WriteItem) (s : State) : (State.markItem i s).clock = s.clock := by
  unfold State.markItem; first | rfl | ((try dsimp only); (repeat' split) <;> simp)
@[simp] theorem State.markItem_clockMs (i : WriteItem) (s : State) : (State.markItem i s).clockMs = s.clockMs := by
  unfold State.markItem; first | rfl | ((try dsimp only); (repeat' split) <;> simp)
@[simp] theorem State.markItem_watch (i : WriteItem) (s : State) : (State.markItem i s).watch = s.watch := by
  unfold State.markItem; first | rfl | ((try dsimp only); (repeat' split) <;> simp)
@[simp] theorem State.markItem_rogue (i : WriteItem) (s : State) : (State.markItem i s).rogue = s.rogue := by
  unfold State.markItem; first | rfl | ((try dsimp only); (repeat' split) <;> simp)
@[simp] theorem State.markItem_disp (i : WriteItem) (s : State) : (State.markItem i s).disp = s.disp := by
  unfold State.markItem; first | rfl | ((try dsimp only); (repeat' split) <;> simp)
@[simp] theorem State.markItem_frames (i : WriteItem) (s : State) : (State.markItem i s).frames = s.frames := by
  unfold State.markItem; first | rfl | ((try dsimp only); (repeat' split) <;> simp)
@[simp] theorem State.markItem_roving (i : WriteItem) (s : State) : (State.markItem i s).roving = s.roving := by
  unfold State.markItem; first | rfl | ((try dsimp only); (repeat' split) <;> simp)
@[simp] theorem State.markItem_output (i : WriteItem) (s : State) : (State.markItem i s).output = s.output := by
  unfold State.markItem; first | rfl | ((try dsimp only); (repeat' split) <;> simp)
@[simp] theorem State.markItem_plan (i : WriteItem) (s : State) : (State.markItem i s).plan = s.plan := by
  unfold State.markItem; first | rfl | ((try dsimp only); (repeat' split) <;> simp)
@[simp] theorem State.markItem_desk (i : WriteItem) (s : State) : (State.markItem i s).desk = s.desk := by
  unfold State.markItem; first | rfl | ((try dsimp only); (repeat' split) <;> simp)
@[simp] theorem State.markItem_writer_pending (i : WriteItem) (s : State) : (State.markItem i s).writer.pending = s.writer.pending := by
  unfold State.markItem; first | rfl | ((try dsimp only); (repeat' split) <;> simp)
@[simp] theorem State.markItem_writer_current (i : WriteItem) (s : State) : (State.markItem i s).writer.current = s.writer.current := by
  unfold State.markItem; first | rfl | ((try dsimp only); (repeat' split) <;> simp)
@[simp] theorem State.markItem_writer_numbers (i : WriteItem) (s : State) : (State.markItem i s).writer.numbers = s.writer.numbers := by
  unfold State.markItem; first | rfl | ((try dsimp only); (repeat' split) <;> simp)
@[simp] theorem State.markItem_writer_writeMark (i : WriteItem) (s : State) : (State.markItem i s).writer.writeMark = s.writer.writeMark := by
  unfold State.markItem; first | rfl | ((try dsimp only); (repeat' split) <;> simp)
@[simp] theorem State.markItem_writer_capacity (i : WriteItem) (s : State) : (State.markItem i s).writer.capacity = s.writer.capacity := by
  unfold State.markItem; first | rfl | ((try dsimp only); (repeat' split) <;> simp)
@[simp] theorem State.markItem_port (i : WriteItem) (s : State) : (State.markItem i s).port = s.port := by
  unfold State.markItem; first | rfl | ((try dsimp only); (repeat' split) <;> simp)
@[simp] theorem State.markItem_link (i : WriteItem) (s : State) : (State.markItem i s).link = s.link := by
  unfold State.markItem; first | rfl | ((try dsimp only); (repeat' split) <;> simp)
@[simp] theorem State.markItem_mem (i : WriteItem) (s : State) : (State.markItem i s).mem = s.mem := by
  unfold State.markItem; first | rfl | ((try dsimp only); (repeat' split) <;> simp)
@[simp] theorem State.markItem_work (i : WriteItem) (s : State) : (State.markItem i s).work = s.work := by
  unfold State.markItem; first | rfl | ((try dsimp only); (repeat' split) <;> simp)
@[simp] theorem State.markItem_pending (i : WriteItem) (s : State) : (State.markItem i s).pending = s.pending := by
  unfold State.markItem; first | rfl | ((try dsimp only); (repeat' split) <;> simp)

@[simp] theorem State.markIf_regs (b : Bool) (i : WriteItem) (s : State) : (State.markIf b i s).regs = s.regs := by
  unfold State.markIf; first | rfl | ((try dsimp only); (repeat' split) <;> simp)
@[simp] theorem State.markIf_clock (b : Bool) (i : WriteItem) (s : State) : (State.markIf b i s).clock = s.clock := by
  unfold State.markIf; first | rfl | ((try dsimp only); (repeat' split) <;> simp)
@[simp] theorem State.markIf_clockMs (b : Bool) (i : WriteItem) (s : State) : (State.markIf b i s).clockMs = s.clockMs := by
  unfold State.markIf; first | rfl | ((try dsimp only); (repeat' split) <;> simp)
@[simp] theorem State.markIf_watch (b : Bool) (i : WriteItem) (s : State) : (State.markIf b i s).watch = s.watch := by
  unfold State.markIf; first | rfl | ((try dsimp only); (repeat' split) <;> simp)
@[simp] theorem State.markIf_rogue (b : Bool) (i : WriteItem) (s : State) : (State.markIf b i s).rogue = s.rogue := by
  unfold State.markIf; first | rfl | ((try dsimp only); (repeat' split) <;> simp)
@[simp] theorem State.markIf_disp (b : Bool) (i : WriteItem) (s : State) : (State.markIf b i s).disp = s.disp := by
  unfold State.markIf; first | rfl | ((try dsimp only); (repeat' split) <;> simp)
@[simp] theorem State.markIf_frames (b : Bool) (i : WriteItem) (s : State) : (State.markIf b i s).frames = s.frames := by
  unfold State.markIf; first | rfl | ((try dsimp only); (repeat' split) <;> simp)
@[simp] theorem State.markIf_roving (b : Bool) (i : WriteItem) (s : State) : (State.markIf b i s).roving = s.roving := by
  unfold State.markIf; first | rfl | ((try dsimp only); (repeat' split) <;> simp)
@[simp] theorem State.markIf_output (b : Bool) (i : WriteItem) (s : State) : (State.markIf b i s).output = s.output := by
  unfold State.markIf; first | rfl | ((try dsimp only); (repeat' split) <;> simp)
@[simp] theorem State.markIf_plan (b : Bool) (i : WriteItem) (s : State) : (State.markIf b i s).plan = s.plan := by
  unfold State.markIf; first | rfl | ((try dsimp only); (repeat' split) <;> simp)
@[simp] theorem State.markIf_desk (b : Bool) (i : WriteItem) (s : State) : (State.markIf b i s).desk = s.desk := by
  unfold State.markIf; first | rfl | ((try dsimp only); (repeat' split) <;> simp)
@[simp] theorem State.markIf_writer_pending (b : Bool) (i : WriteItem) (s : State) : (State.markIf b i s).writer.pending = s.writer.pending := by
  unfold State.markIf; first | rfl | ((try dsimp only); (repeat' split) <;> simp)
@[simp] theorem State.markIf_writer_current (b : Bool) (i : WriteItem) (s : State) : (State.markIf b i s).writer.current = s.writer.current := by
  unfold State.markIf; first | rfl | ((try dsimp only); (repeat' split) <;> simp)
@[simp] theorem State.markIf_writer_numbers (b : Bool) (i : WriteItem) (s : State) : (State.markIf b i s).writer.numbers = s.writer.numbers := by
  unfold State.markIf; first | rfl | ((try dsimp only); (repeat' split) <;> simp)
@[simp] theorem State.markIf_writer_writeMark (b : Bool) (i : WriteItem) (s : State) : (State.markIf b i s).writer.writeMark = s.writer.writeMark := by
  unfold State.markIf; first | rfl | ((try dsimp only); (repeat' split) <;> simp)
@[simp] theorem State.markIf_writer_capacity (b : Bool) (i : WriteItem) (s : State) : (State.markIf b i s).writer.capacity = s.writer.capacity := by
  unfold State.markIf; first | rfl | ((try dsimp only); (repeat' split) <;> simp)
@[simp] theorem State.markIf_port (b : Bool) (i : WriteItem) (s : State) : (State.markIf b i s).port = s.port := by
  unfold State.markIf; first | rfl | ((try dsimp only); (repeat' split) <;> simp)
@[simp] theorem State.markIf_link (b : Bool) (i : WriteItem) (s : State) : (State.markIf b i s).link = s.link := by
  unfold State.markIf; first | rfl | ((try dsimp only); (repeat' split) <;> simp)
@[simp] theorem State.markIf_mem (b : Bool) (i : WriteItem) (s : State) : (State.markIf b i s).mem = s.mem := by
  unfold State.markIf; first | rfl | ((try dsimp only); (repeat' split) <;> simp)
@[simp] theorem State.markIf_work (b : Bool) (i : WriteItem) (s : State) : (State.markIf b i s).work = s.work := by
  unfold State.markIf; first | rfl | ((try dsimp only); (repeat' split) <;> simp)
@[simp] theorem State.markIf_pending (b : Bool) (i : WriteItem) (s : State) : (State.markIf b i s).pending = s.pending := by
  unfold State.markIf; first | rfl | ((try dsimp only); (repeat' split) <;> simp)

@[simp] theorem State.setSpindle_regs (f n : Nat) (x : Spindle) (s : State) : (State.setSpindle f n x s).regs = s.regs := by
  unfold State.setSpindle; first | rfl | ((try dsimp only); (repeat' split) <;> simp)
@[simp] theorem State.setSpindle_clock (f n : Nat) (x : Spindle) (s : State) : (State.setSpindle f n x s).clock = s.clock := by
  unfold State.setSpindle; first | rfl | ((try dsimp only); (repeat' split) <;> simp)
@[simp] theorem State.setSpindle_clockMs (f n : Nat) (x : Spindle) (s : State) : (State.setSpindle f n x s).clockMs = s.clockMs := by
  unfold State.setSpindle; first | rfl | ((try dsimp only); (repeat' split) <;> simp)
@[simp] theorem State.setSpindle_watch_strips (f n : Nat) (x : Spindle) (s : State) : (State.setSpindle f n x s).watch.strips = s.watch.strips := by
  unfold State.setSpindle; first | rfl | ((try dsimp only); (repeat' split) <;> simp)
@[simp] theorem State.setSpindle_watch_sweeps (f n : Nat) (x : Spindle) (s : State) : (State.setSpindle f n x s).watch.sweeps = s.watch.sweeps := by
  unfold State.setSpindle; first | rfl | ((try dsimp only); (repeat' split) <;> simp)
@[simp] theorem State.setSpindle_rogue (f n : Nat) (x : Spindle) (s : State) : (State.setSpindle f n x s).rogue = s.rogue := by
  unfold State.setSpindle; first | rfl | ((try dsimp only); (repeat' split) <;> simp)
@[simp] theorem State.setSpindle_disp (f n : Nat) (x : Spindle) (s : State) : (State.setSpindle f n x s).disp = s.disp := by
  unfold State.setSpindle; first | rfl | ((try dsimp only); (repeat' split) <;> simp)
@[simp] theorem State.setSpindle_frames (f n : Nat) (x : Spindle) (s : State) : (State.setSpindle f n x s).frames = s.frames := by
  unfold State.setSpindle; first | rfl | ((try dsimp only); (repeat' split) <;> simp)
@[simp] theorem State.setSpindle_roving (f n : Nat) (x : Spindle) (s : State) : (State.setSpindle f n x s).roving = s.roving := by
  unfold State.setSpindle; first | rfl | ((try dsimp only); (repeat' split) <;> simp)
@[simp] theorem State.setSpindle_output (f n : Nat) (x : Spindle) (s : State) : (State.setSpindle f n x s).output = s.output := by
  unfold State.setSpindle; first | rfl | ((try dsimp only); (repeat' split) <;> simp)
@[simp] theorem State.setSpindle_plan (f n : Nat) (x : Spindle) (s : State) : (State.setSpindle f n x s).plan = s.plan := by
  unfold State.setSpindle; first | rfl | ((try dsimp only); (repeat' split) <;> simp)
@[simp] theorem State.setSpindle_desk (f n : Nat) (x : Spindle) (s : State) : (State.setSpindle f n x s).desk = s.desk := by
  unfold State.setSpindle; first | rfl | ((try dsimp only); (repeat' split) <;> simp)
@[simp] theorem State.setSpindle_writer_pending (f n : Nat) (x : Spindle) (s : State) : (State.setSpindle f n x s).writer.pending = s.writer.pending := by
  unfold State.setSpindle; first | rfl | ((try dsimp only); (repeat' split) <;> simp)
@[simp] theorem State.setSpindle_writer_current (f n : Nat) (x : Spindle) (s : State) : (State.setSpindle f n x s).writer.current = s.writer.current := by
  unfold State.setSpindle; first | rfl | ((try dsimp only); (repeat' split) <;> simp)
@[simp] theorem State.setSpindle_writer_numbers (f n : Nat) (x : Spindle) (s : State) : (State.setSpindle f n x s).writer.numbers = s.writer.numbers := by
  unfold State.setSpindle; first | rfl | ((try dsimp only); (repeat' split) <;> simp)
@[simp] theorem State.setSpindle_writer_writeMark (f n : Nat) (x : Spindle) (s : State) : (State.setSpindle f n x s).writer.writeMark = s.writer.writeMark := by
  unfold State.setSpindle; first | rfl | ((try dsimp only); (repeat' split) <;> simp)
@[simp] theorem State.setSpindle_writer_capacity (f n : Nat) (x : Spindle) (s : State) : (State.setSpindle f n x s).writer.capacity = s.writer.capacity := by
  unfold State.setSpindle; first | rfl | ((try dsimp only); (repeat' split) <;> simp)
@[simp] theorem State.setSpindle_port (f n : Nat) (x : Spindle) (s : State) : (State.setSpindle f n x s).port = s.port := by
  unfold State.setSpindle; first | rfl | ((try dsimp only); (repeat' split) <;> simp)
@[simp] theorem State.setSpindle_link (f n : Nat) (x : Spindle) (s : State) : (State.setSpindle f n x s).link = s.link := by
  unfold State.setSpindle; first | rfl | ((try dsimp only); (repeat' split) <;> simp)
@[simp] theorem State.setSpindle_mem (f n : Nat) (x : Spindle) (s : State) : (State.setSpindle f n x s).mem = s.mem := by
  unfold State.setSpindle; first | rfl | ((try dsimp only); (repeat' split) <;> simp)
@[simp] theorem State.setSpindle_work (f n : Nat) (x : Spindle) (s : State) : (State.setSpindle f n x s).work = s.work := by
  unfold State.setSpindle; first | rfl | ((try dsimp only); (repeat' split) <;> simp)
@[simp] theorem State.setSpindle_pending (f n : Nat) (x : Spindle) (s : State) : (State.setSpindle f n x s).pending = s.pending := by
  unfold State.setSpindle; first | rfl | ((try dsimp only); (repeat' split) <;> simp)

@[simp] theorem State.setStrip_regs (c : Nat) (x : Strip) (s : State) : (State.setStrip c x s).regs = s.regs := by
  unfold State.setStrip; first | rfl | ((try dsimp only); (repeat' split) <;> simp)
@[simp] theorem State.setStrip_clock (c : Nat) (x : Strip) (s : State) : (State.setStrip c x s).clock = s.clock := by
  unfold State.setStrip; first | rfl | ((try dsimp only); (repeat' split) <;> simp)
@[simp] theorem State.setStrip_clockMs (c : Nat) (x : Strip) (s : State) : (State.setStrip c x s).clockMs = s.clockMs := by
  unfold State.setStrip; first | rfl | ((try dsimp only); (repeat' split) <;> simp)
@[simp] theorem State.setStrip_watch_spindles (c : Nat) (x : Strip) (s : State) : (State.setStrip c x s).watch.spindles = s.watch.spindles := by
  unfold State.setStrip; first | rfl | ((try dsimp only); (repeat' split) <;> simp)
@[simp] theorem State.setStrip_watch_sweeps (c : Nat) (x : Strip) (s : State) : (State.setStrip c x s).watch.sweeps = s.watch.sweeps := by
  unfold State.setStrip; first | rfl | ((try dsimp only); (repeat' split) <;> simp)
@[simp] theorem State.setStrip_rogue (c : Nat) (x : Strip) (s : State) : (State.setStrip c x s).rogue = s.rogue := by
  unfold State.setStrip; first | rfl | ((try dsimp only); (repeat' split) <;> simp)
@[simp] theorem State.setStrip_disp (c : Nat) (x : Strip) (s : State) : (State.setStrip c x s).disp = s.disp := by
  unfold State.setStrip; first | rfl | ((try dsimp only); (repeat' split) <;> simp)
@[simp] theorem State.setStrip_frames (c : Nat) (x : Strip) (s : State) : (State.setStrip c x s).frames = s.frames := by
  unfold State.setStrip; first | rfl | ((try dsimp only); (repeat' split) <;> simp)
@[simp] theorem State.setStrip_roving (c : Nat) (x : Strip) (s : State) : (State.setStrip c x s).roving = s.roving := by
  unfold State.setStrip; first | rfl | ((try dsimp only); (repeat' split) <;> simp)
@[simp] theorem State.setStrip_output (c : Nat) (x : Strip) (s : State) : (State.setStrip c x s).output = s.output := by
  unfold State.setStrip; first | rfl | ((try dsimp only); (repeat' split) <;> simp)
@[simp] theorem State.setStrip_plan (c : Nat) (x : Strip) (s : State) : (State.setStrip c x s).plan = s.plan := by
  unfold State.setStrip; first | rfl | ((try dsimp only); (repeat' split) <;> simp)
@[simp] theorem State.setStrip_desk (c : Nat) (x : Strip) (s : State) : (State.setStrip c x s).desk = s.desk := by
  unfold State.setStrip; first | rfl | ((try dsimp only); (repeat' split) <;> simp)
@[simp] theorem State.setStrip_writer_pending (c : Nat) (x : Strip) (s : State) : (State.setStrip c x s).writer.pending = s.writer.pending := by
  unfold State.setStrip; first | rfl | ((try dsimp only); (repeat' split) <;> simp)
@[simp] theorem State.setStrip_writer_current (c : Nat) (x : Strip) (s : State) : (State.setStrip c x s).writer.current = s.writer.current := by
  unfold State.setStrip; first | rfl | ((try dsimp only); (repeat' split) <;> simp)
@[simp] theorem State.setStrip_writer_numbers (c : Nat) (x : Strip) (s : State) : (State.setStrip c x s).writer.numbers = s.writer.numbers := by
  unfold State.setStrip; first | rfl | ((try dsimp only); (repeat' split) <;> simp)
@[simp] theorem State.setStrip_writer_writeMark (c : Nat) (x : Strip) (s : State) : (State.setStrip c x s).writer.writeMark = s.writer.writeMark := by
  unfold State.setStrip; first | rfl | ((try dsimp only); (repeat' split) <;> simp)
@[simp] theorem State.setStrip_writer_capacity (c : Nat) (x : Strip) (s : State) : (State.setStrip c x s).writer.capacity = s.writer.capacity := by
  unfold State.setStrip; first | rfl | ((try dsimp only); (repeat' split) <;> simp)
@[simp] theorem State.setStrip_port (c : Nat) (x : Strip) (s : State) : (State.setStrip c x s).port = s.port := by
  unfold State.setStrip; first | rfl | ((try dsimp only); (repeat' split) <;> simp)
@[simp] theorem State.setStrip_link (c : Nat) (x : Strip) (s : State) : (State.setStrip c x s).link = s.link := by
  unfold State.setStrip; first | rfl | ((try dsimp only); (repeat' split) <;> simp)
@[simp] theorem State.setStrip_mem (c : Nat) (x : Strip) (s : State) : (State.setStrip c x s).mem = s.mem := by
  unfold State.setStrip; first | rfl | ((try dsimp only); (repeat' split) <;> simp)
@[simp] theorem State.setStrip_work (c : Nat) (x : Strip) (s : State) : (State.setStrip c x s).work = s.work := by
  unfold State.setStrip; first | rfl | ((try dsimp only); (repeat' split) <;> simp)
@[simp] theorem State.setStrip_pending (c : Nat) (x : Strip) (s : State) : (State.setStrip c x s).pending = s.pending := by
  unfold State.setStrip; first | rfl | ((try dsimp only); (repeat' split) <;> simp)

@[simp] theorem State.setSweep_regs (f : Nat) (x : Sweep) (s : State) : (State.setSweep f x s).regs = s.regs := by
  unfold State.setSweep; first | rfl | ((try dsimp only); (repeat' split) <;> simp)
@[simp] theorem State.setSweep_clock (f : Nat) (x : Sweep) (s : State) : (State.setSweep f x s).clock = s.clock := by
  unfold State.setSweep; first | rfl | ((try dsimp only); (repeat' split) <;> simp)
@[simp] theorem State.setSweep_clockMs (f : Nat) (x : Sweep) (s : State) : (State.setSweep f x s).clockMs = s.clockMs := by
  unfold State.setSweep; first | rfl | ((try dsimp only); (repeat' split) <;> simp)
@[simp] theorem State.setSweep_watch_spindles (f : Nat) (x : Sweep) (s : State) : (State.setSweep f x s).watch.spindles = s.watch.spindles := by
  unfold State.setSweep; first | rfl | ((try dsimp only); (repeat' split) <;> simp)
@[simp] theorem State.setSweep_watch_strips (f : Nat) (x : Sweep) (s : State) : (State.setSweep f x s).watch.strips = s.watch.strips := by
  unfold State.setSweep; first | rfl | ((try dsimp only); (repeat' split) <;> simp)
@[simp] theorem State.setSweep_rogue (f : Nat) (x : Sweep) (s : State) : (State.setSweep f x s).rogue = s.rogue := by
  unfold State.setSweep; first | rfl | ((try dsimp only); (repeat' split) <;> simp)
@[simp] theorem State.setSweep_disp (f : Nat) (x : Sweep) (s : State) : (State.setSweep f x s).disp = s.disp := by
  unfold State.setSweep; first | rfl | ((try dsimp only); (repeat' split) <;> simp)
@[simp] theorem State.setSweep_frames (f : Nat) (x : Sweep) (s : State) : (State.setSweep f x s).frames = s.frames := by
  unfold State.setSweep; first | rfl | ((try dsimp only); (repeat' split) <;> simp)
@[simp] theorem State.setSweep_roving (f : Nat) (x : Sweep) (s : State) : (State.setSweep f x s).roving = s.roving := by
  unfold State.setSweep; first | rfl | ((try dsimp only); (repeat' split) <;> simp)
@[simp] theorem State.setSweep_output (f : Nat) (x : Sweep) (s : State) : (State.setSweep f x s).output = s.output := by
  unfold State.setSweep; first | rfl | ((try dsimp only); (repeat' split) <;> simp)
@[simp] theorem State.setSweep_plan (f : Nat) (x : Sweep) (s : State) : (State.setSweep f x s).plan = s.plan := by
  unfold State.setSweep; first | rfl | ((try dsimp only); (repeat' split) <;> simp)
@[simp] theorem State.setSweep_desk (f : Nat) (x : Sweep) (s : State) : (State.setSweep f x s).desk = s.desk := by
  unfold State.setSweep; first | rfl | ((try dsimp only); (repeat' split) <;> simp)
@[simp] theorem State.setSweep_writer (f : Nat) (x : Sweep) (s : State) : (State.setSweep f x s).writer = s.writer := by
  unfold State.setSweep; first | rfl | ((try dsimp only); (repeat' split) <;> simp)
@[simp] theorem State.setSweep_port (f : Nat) (x : Sweep) (s : State) : (State.setSweep f x s).port = s.port := by
  unfold State.setSweep; first | rfl | ((try dsimp only); (repeat' split) <;> simp)
@[simp] theorem State.setSweep_link (f : Nat) (x : Sweep) (s : State) : (State.setSweep f x s).link = s.link := by
  unfold State.setSweep; first | rfl | ((try dsimp only); (repeat' split) <;> simp)
@[simp] theorem State.setSweep_mem (f : Nat) (x : Sweep) (s : State) : (State.setSweep f x s).mem = s.mem := by
  unfold State.setSweep; first | rfl | ((try dsimp only); (repeat' split) <;> simp)
@[simp] theorem State.setSweep_work (f : Nat) (x : Sweep) (s : State) : (State.setSweep f x s).work = s.work := by
  unfold State.setSweep; first | rfl | ((try dsimp only); (repeat' split) <;> simp)
@[simp] theorem State.setSweep_pending (f : Nat) (x : Sweep) (s : State) : (State.setSweep f x s).pending = s.pending := by
  unfold State.setSweep; first | rfl | ((try dsimp only); (repeat' split) <;> simp)

@[simp] theorem State.setSide_regs (d : Nat) (x : Side) (s : State) : (State.setSide d x s).regs = s.regs := by
  unfold State.setSide; first | rfl | ((try dsimp only); (repeat' split) <;> simp)
@[simp] theorem State.setSide_clock (d : Nat) (x : Side) (s : State) : (State.setSide d x s).clock = s.clock := by
  unfold State.setSide; first | rfl | ((try dsimp only); (repeat' split) <;> simp)
@[simp] theorem State.setSide_clockMs (d : Nat) (x : Side) (s : State) : (State.setSide d x s).clockMs = s.clockMs := by
  unfold State.setSide; first | rfl | ((try dsimp only); (repeat' split) <;> simp)
@[simp] theorem State.setSide_watch (d : Nat) (x : Side) (s : State) : (State.setSide d x s).watch = s.watch := by
  unfold State.setSide; first | rfl | ((try dsimp only); (repeat' split) <;> simp)
@[simp] theorem State.setSide_rogue (d : Nat) (x : Side) (s : State) : (State.setSide d x s).rogue = s.rogue := by
  unfold State.setSide; first | rfl | ((try dsimp only); (repeat' split) <;> simp)
@[simp] theorem State.setSide_disp_piecers (d : Nat) (x : Side) (s : State) : (State.setSide d x s).disp.piecers = s.disp.piecers := by
  unfold State.setSide; first | rfl | ((try dsimp only); (repeat' split) <;> simp)
@[simp] theorem State.setSide_frames (d : Nat) (x : Side) (s : State) : (State.setSide d x s).frames = s.frames := by
  unfold State.setSide; first | rfl | ((try dsimp only); (repeat' split) <;> simp)
@[simp] theorem State.setSide_roving (d : Nat) (x : Side) (s : State) : (State.setSide d x s).roving = s.roving := by
  unfold State.setSide; first | rfl | ((try dsimp only); (repeat' split) <;> simp)
@[simp] theorem State.setSide_output (d : Nat) (x : Side) (s : State) : (State.setSide d x s).output = s.output := by
  unfold State.setSide; first | rfl | ((try dsimp only); (repeat' split) <;> simp)
@[simp] theorem State.setSide_plan (d : Nat) (x : Side) (s : State) : (State.setSide d x s).plan = s.plan := by
  unfold State.setSide; first | rfl | ((try dsimp only); (repeat' split) <;> simp)
@[simp] theorem State.setSide_desk (d : Nat) (x : Side) (s : State) : (State.setSide d x s).desk = s.desk := by
  unfold State.setSide; first | rfl | ((try dsimp only); (repeat' split) <;> simp)
@[simp] theorem State.setSide_writer_pending (d : Nat) (x : Side) (s : State) : (State.setSide d x s).writer.pending = s.writer.pending := by
  unfold State.setSide; first | rfl | ((try dsimp only); (repeat' split) <;> simp)
@[simp] theorem State.setSide_writer_current (d : Nat) (x : Side) (s : State) : (State.setSide d x s).writer.current = s.writer.current := by
  unfold State.setSide; first | rfl | ((try dsimp only); (repeat' split) <;> simp)
@[simp] theorem State.setSide_writer_numbers (d : Nat) (x : Side) (s : State) : (State.setSide d x s).writer.numbers = s.writer.numbers := by
  unfold State.setSide; first | rfl | ((try dsimp only); (repeat' split) <;> simp)
@[simp] theorem State.setSide_writer_writeMark (d : Nat) (x : Side) (s : State) : (State.setSide d x s).writer.writeMark = s.writer.writeMark := by
  unfold State.setSide; first | rfl | ((try dsimp only); (repeat' split) <;> simp)
@[simp] theorem State.setSide_writer_capacity (d : Nat) (x : Side) (s : State) : (State.setSide d x s).writer.capacity = s.writer.capacity := by
  unfold State.setSide; first | rfl | ((try dsimp only); (repeat' split) <;> simp)
@[simp] theorem State.setSide_port (d : Nat) (x : Side) (s : State) : (State.setSide d x s).port = s.port := by
  unfold State.setSide; first | rfl | ((try dsimp only); (repeat' split) <;> simp)
@[simp] theorem State.setSide_link (d : Nat) (x : Side) (s : State) : (State.setSide d x s).link = s.link := by
  unfold State.setSide; first | rfl | ((try dsimp only); (repeat' split) <;> simp)
@[simp] theorem State.setSide_mem (d : Nat) (x : Side) (s : State) : (State.setSide d x s).mem = s.mem := by
  unfold State.setSide; first | rfl | ((try dsimp only); (repeat' split) <;> simp)
@[simp] theorem State.setSide_work (d : Nat) (x : Side) (s : State) : (State.setSide d x s).work = s.work := by
  unfold State.setSide; first | rfl | ((try dsimp only); (repeat' split) <;> simp)
@[simp] theorem State.setSide_pending (d : Nat) (x : Side) (s : State) : (State.setSide d x s).pending = s.pending := by
  unfold State.setSide; first | rfl | ((try dsimp only); (repeat' split) <;> simp)

@[simp] theorem State.setPiecer_regs (p : Nat) (x : Piecer) (s : State) : (State.setPiecer p x s).regs = s.regs := by
  unfold State.setPiecer; first | rfl | ((try dsimp only); (repeat' split) <;> simp)
@[simp] theorem State.setPiecer_clock (p : Nat) (x : Piecer) (s : State) : (State.setPiecer p x s).clock = s.clock := by
  unfold State.setPiecer; first | rfl | ((try dsimp only); (repeat' split) <;> simp)
@[simp] theorem State.setPiecer_clockMs (p : Nat) (x : Piecer) (s : State) : (State.setPiecer p x s).clockMs = s.clockMs := by
  unfold State.setPiecer; first | rfl | ((try dsimp only); (repeat' split) <;> simp)
@[simp] theorem State.setPiecer_watch (p : Nat) (x : Piecer) (s : State) : (State.setPiecer p x s).watch = s.watch := by
  unfold State.setPiecer; first | rfl | ((try dsimp only); (repeat' split) <;> simp)
@[simp] theorem State.setPiecer_rogue (p : Nat) (x : Piecer) (s : State) : (State.setPiecer p x s).rogue = s.rogue := by
  unfold State.setPiecer; first | rfl | ((try dsimp only); (repeat' split) <;> simp)
@[simp] theorem State.setPiecer_disp_sides (p : Nat) (x : Piecer) (s : State) : (State.setPiecer p x s).disp.sides = s.disp.sides := by
  unfold State.setPiecer; first | rfl | ((try dsimp only); (repeat' split) <;> simp)
@[simp] theorem State.setPiecer_frames (p : Nat) (x : Piecer) (s : State) : (State.setPiecer p x s).frames = s.frames := by
  unfold State.setPiecer; first | rfl | ((try dsimp only); (repeat' split) <;> simp)
@[simp] theorem State.setPiecer_roving (p : Nat) (x : Piecer) (s : State) : (State.setPiecer p x s).roving = s.roving := by
  unfold State.setPiecer; first | rfl | ((try dsimp only); (repeat' split) <;> simp)
@[simp] theorem State.setPiecer_output (p : Nat) (x : Piecer) (s : State) : (State.setPiecer p x s).output = s.output := by
  unfold State.setPiecer; first | rfl | ((try dsimp only); (repeat' split) <;> simp)
@[simp] theorem State.setPiecer_plan (p : Nat) (x : Piecer) (s : State) : (State.setPiecer p x s).plan = s.plan := by
  unfold State.setPiecer; first | rfl | ((try dsimp only); (repeat' split) <;> simp)
@[simp] theorem State.setPiecer_desk (p : Nat) (x : Piecer) (s : State) : (State.setPiecer p x s).desk = s.desk := by
  unfold State.setPiecer; first | rfl | ((try dsimp only); (repeat' split) <;> simp)
@[simp] theorem State.setPiecer_writer_pending (p : Nat) (x : Piecer) (s : State) : (State.setPiecer p x s).writer.pending = s.writer.pending := by
  unfold State.setPiecer; first | rfl | ((try dsimp only); (repeat' split) <;> simp)
@[simp] theorem State.setPiecer_writer_current (p : Nat) (x : Piecer) (s : State) : (State.setPiecer p x s).writer.current = s.writer.current := by
  unfold State.setPiecer; first | rfl | ((try dsimp only); (repeat' split) <;> simp)
@[simp] theorem State.setPiecer_writer_numbers (p : Nat) (x : Piecer) (s : State) : (State.setPiecer p x s).writer.numbers = s.writer.numbers := by
  unfold State.setPiecer; first | rfl | ((try dsimp only); (repeat' split) <;> simp)
@[simp] theorem State.setPiecer_writer_writeMark (p : Nat) (x : Piecer) (s : State) : (State.setPiecer p x s).writer.writeMark = s.writer.writeMark := by
  unfold State.setPiecer; first | rfl | ((try dsimp only); (repeat' split) <;> simp)
@[simp] theorem State.setPiecer_writer_capacity (p : Nat) (x : Piecer) (s : State) : (State.setPiecer p x s).writer.capacity = s.writer.capacity := by
  unfold State.setPiecer; first | rfl | ((try dsimp only); (repeat' split) <;> simp)
@[simp] theorem State.setPiecer_port (p : Nat) (x : Piecer) (s : State) : (State.setPiecer p x s).port = s.port := by
  unfold State.setPiecer; first | rfl | ((try dsimp only); (repeat' split) <;> simp)
@[simp] theorem State.setPiecer_link (p : Nat) (x : Piecer) (s : State) : (State.setPiecer p x s).link = s.link := by
  unfold State.setPiecer; first | rfl | ((try dsimp only); (repeat' split) <;> simp)
@[simp] theorem State.setPiecer_mem (p : Nat) (x : Piecer) (s : State) : (State.setPiecer p x s).mem = s.mem := by
  unfold State.setPiecer; first | rfl | ((try dsimp only); (repeat' split) <;> simp)
@[simp] theorem State.setPiecer_work (p : Nat) (x : Piecer) (s : State) : (State.setPiecer p x s).work = s.work := by
  unfold State.setPiecer; first | rfl | ((try dsimp only); (repeat' split) <;> simp)
@[simp] theorem State.setPiecer_pending (p : Nat) (x : Piecer) (s : State) : (State.setPiecer p x s).pending = s.pending := by
  unfold State.setPiecer; first | rfl | ((try dsimp only); (repeat' split) <;> simp)

@[simp] theorem State.setFrame_regs (f : Nat) (x : Frame) (s : State) : (State.setFrame f x s).regs = s.regs := by
  unfold State.setFrame; first | rfl | ((try dsimp only); (repeat' split) <;> simp)
@[simp] theorem State.setFrame_clock (f : Nat) (x : Frame) (s : State) : (State.setFrame f x s).clock = s.clock := by
  unfold State.setFrame; first | rfl | ((try dsimp only); (repeat' split) <;> simp)
@[simp] theorem State.setFrame_clockMs (f : Nat) (x : Frame) (s : State) : (State.setFrame f x s).clockMs = s.clockMs := by
  unfold State.setFrame; first | rfl | ((try dsimp only); (repeat' split) <;> simp)
@[simp] theorem State.setFrame_watch (f : Nat) (x : Frame) (s : State) : (State.setFrame f x s).watch = s.watch := by
  unfold State.setFrame; first | rfl | ((try dsimp only); (repeat' split) <;> simp)
@[simp] theorem State.setFrame_rogue (f : Nat) (x : Frame) (s : State) : (State.setFrame f x s).rogue = s.rogue := by
  unfold State.setFrame; first | rfl | ((try dsimp only); (repeat' split) <;> simp)
@[simp] theorem State.setFrame_disp (f : Nat) (x : Frame) (s : State) : (State.setFrame f x s).disp = s.disp := by
  unfold State.setFrame; first | rfl | ((try dsimp only); (repeat' split) <;> simp)
@[simp] theorem State.setFrame_roving (f : Nat) (x : Frame) (s : State) : (State.setFrame f x s).roving = s.roving := by
  unfold State.setFrame; first | rfl | ((try dsimp only); (repeat' split) <;> simp)
@[simp] theorem State.setFrame_output (f : Nat) (x : Frame) (s : State) : (State.setFrame f x s).output = s.output := by
  unfold State.setFrame; first | rfl | ((try dsimp only); (repeat' split) <;> simp)
@[simp] theorem State.setFrame_plan (f : Nat) (x : Frame) (s : State) : (State.setFrame f x s).plan = s.plan := by
  unfold State.setFrame; first | rfl | ((try dsimp only); (repeat' split) <;> simp)
@[simp] theorem State.setFrame_desk (f : Nat) (x : Frame) (s : State) : (State.setFrame f x s).desk = s.desk := by
  unfold State.setFrame; first | rfl | ((try dsimp only); (repeat' split) <;> simp)
@[simp] theorem State.setFrame_writer_pending (f : Nat) (x : Frame) (s : State) : (State.setFrame f x s).writer.pending = s.writer.pending := by
  unfold State.setFrame; first | rfl | ((try dsimp only); (repeat' split) <;> simp)
@[simp] theorem State.setFrame_writer_current (f : Nat) (x : Frame) (s : State) : (State.setFrame f x s).writer.current = s.writer.current := by
  unfold State.setFrame; first | rfl | ((try dsimp only); (repeat' split) <;> simp)
@[simp] theorem State.setFrame_writer_numbers (f : Nat) (x : Frame) (s : State) : (State.setFrame f x s).writer.numbers = s.writer.numbers := by
  unfold State.setFrame; first | rfl | ((try dsimp only); (repeat' split) <;> simp)
@[simp] theorem State.setFrame_writer_writeMark (f : Nat) (x : Frame) (s : State) : (State.setFrame f x s).writer.writeMark = s.writer.writeMark := by
  unfold State.setFrame; first | rfl | ((try dsimp only); (repeat' split) <;> simp)
@[simp] theorem State.setFrame_writer_capacity (f : Nat) (x : Frame) (s : State) : (State.setFrame f x s).writer.capacity = s.writer.capacity := by
  unfold State.setFrame; first | rfl | ((try dsimp only); (repeat' split) <;> simp)
@[simp] theorem State.setFrame_port (f : Nat) (x : Frame) (s : State) : (State.setFrame f x s).port = s.port := by
  unfold State.setFrame; first | rfl | ((try dsimp only); (repeat' split) <;> simp)
@[simp] theorem State.setFrame_link (f : Nat) (x : Frame) (s : State) : (State.setFrame f x s).link = s.link := by
  unfold State.setFrame; first | rfl | ((try dsimp only); (repeat' split) <;> simp)
@[simp] theorem State.setFrame_mem (f : Nat) (x : Frame) (s : State) : (State.setFrame f x s).mem = s.mem := by
  unfold State.setFrame; first | rfl | ((try dsimp only); (repeat' split) <;> simp)
@[simp] theorem State.setFrame_work (f : Nat) (x : Frame) (s : State) : (State.setFrame f x s).work = s.work := by
  unfold State.setFrame; first | rfl | ((try dsimp only); (repeat' split) <;> simp)
@[simp] theorem State.setFrame_pending (f : Nat) (x : Frame) (s : State) : (State.setFrame f x s).pending = s.pending := by
  unfold State.setFrame; first | rfl | ((try dsimp only); (repeat' split) <;> simp)

@[simp] theorem State.setCreel_regs (c : Nat) (x : Creel) (s : State) : (State.setCreel c x s).regs = s.regs := by
  unfold State.setCreel; first | rfl | ((try dsimp only); (repeat' split) <;> simp)
@[simp] theorem State.setCreel_clock (c : Nat) (x : Creel) (s : State) : (State.setCreel c x s).clock = s.clock := by
  unfold State.setCreel; first | rfl | ((try dsimp only); (repeat' split) <;> simp)
@[simp] theorem State.setCreel_clockMs (c : Nat) (x : Creel) (s : State) : (State.setCreel c x s).clockMs = s.clockMs := by
  unfold State.setCreel; first | rfl | ((try dsimp only); (repeat' split) <;> simp)
@[simp] theorem State.setCreel_watch (c : Nat) (x : Creel) (s : State) : (State.setCreel c x s).watch = s.watch := by
  unfold State.setCreel; first | rfl | ((try dsimp only); (repeat' split) <;> simp)
@[simp] theorem State.setCreel_rogue (c : Nat) (x : Creel) (s : State) : (State.setCreel c x s).rogue = s.rogue := by
  unfold State.setCreel; first | rfl | ((try dsimp only); (repeat' split) <;> simp)
@[simp] theorem State.setCreel_disp (c : Nat) (x : Creel) (s : State) : (State.setCreel c x s).disp = s.disp := by
  unfold State.setCreel; first | rfl | ((try dsimp only); (repeat' split) <;> simp)
@[simp] theorem State.setCreel_frames (c : Nat) (x : Creel) (s : State) : (State.setCreel c x s).frames = s.frames := by
  unfold State.setCreel; first | rfl | ((try dsimp only); (repeat' split) <;> simp)
@[simp] theorem State.setCreel_roving_queue (c : Nat) (x : Creel) (s : State) : (State.setCreel c x s).roving.queue = s.roving.queue := by
  unfold State.setCreel; first | rfl | ((try dsimp only); (repeat' split) <;> simp)
@[simp] theorem State.setCreel_roving_carriers (c : Nat) (x : Creel) (s : State) : (State.setCreel c x s).roving.carriers = s.roving.carriers := by
  unfold State.setCreel; first | rfl | ((try dsimp only); (repeat' split) <;> simp)
@[simp] theorem State.setCreel_roving_feeds (c : Nat) (x : Creel) (s : State) : (State.setCreel c x s).roving.feeds = s.roving.feeds := by
  unfold State.setCreel; first | rfl | ((try dsimp only); (repeat' split) <;> simp)
@[simp] theorem State.setCreel_output (c : Nat) (x : Creel) (s : State) : (State.setCreel c x s).output = s.output := by
  unfold State.setCreel; first | rfl | ((try dsimp only); (repeat' split) <;> simp)
@[simp] theorem State.setCreel_plan (c : Nat) (x : Creel) (s : State) : (State.setCreel c x s).plan = s.plan := by
  unfold State.setCreel; first | rfl | ((try dsimp only); (repeat' split) <;> simp)
@[simp] theorem State.setCreel_desk (c : Nat) (x : Creel) (s : State) : (State.setCreel c x s).desk = s.desk := by
  unfold State.setCreel; first | rfl | ((try dsimp only); (repeat' split) <;> simp)
@[simp] theorem State.setCreel_writer_pending (c : Nat) (x : Creel) (s : State) : (State.setCreel c x s).writer.pending = s.writer.pending := by
  unfold State.setCreel; first | rfl | ((try dsimp only); (repeat' split) <;> simp)
@[simp] theorem State.setCreel_writer_current (c : Nat) (x : Creel) (s : State) : (State.setCreel c x s).writer.current = s.writer.current := by
  unfold State.setCreel; first | rfl | ((try dsimp only); (repeat' split) <;> simp)
@[simp] theorem State.setCreel_writer_numbers (c : Nat) (x : Creel) (s : State) : (State.setCreel c x s).writer.numbers = s.writer.numbers := by
  unfold State.setCreel; first | rfl | ((try dsimp only); (repeat' split) <;> simp)
@[simp] theorem State.setCreel_writer_writeMark (c : Nat) (x : Creel) (s : State) : (State.setCreel c x s).writer.writeMark = s.writer.writeMark := by
  unfold State.setCreel; first | rfl | ((try dsimp only); (repeat' split) <;> simp)
@[simp] theorem State.setCreel_writer_capacity (c : Nat) (x : Creel) (s : State) : (State.setCreel c x s).writer.capacity = s.writer.capacity := by
  unfold State.setCreel; first | rfl | ((try dsimp only); (repeat' split) <;> simp)
@[simp] theorem State.setCreel_port (c : Nat) (x : Creel) (s : State) : (State.setCreel c x s).port = s.port := by
  unfold State.setCreel; first | rfl | ((try dsimp only); (repeat' split) <;> simp)
@[simp] theorem State.setCreel_link (c : Nat) (x : Creel) (s : State) : (State.setCreel c x s).link = s.link := by
  unfold State.setCreel; first | rfl | ((try dsimp only); (repeat' split) <;> simp)
@[simp] theorem State.setCreel_mem (c : Nat) (x : Creel) (s : State) : (State.setCreel c x s).mem = s.mem := by
  unfold State.setCreel; first | rfl | ((try dsimp only); (repeat' split) <;> simp)
@[simp] theorem State.setCreel_work (c : Nat) (x : Creel) (s : State) : (State.setCreel c x s).work = s.work := by
  unfold State.setCreel; first | rfl | ((try dsimp only); (repeat' split) <;> simp)
@[simp] theorem State.setCreel_pending (c : Nat) (x : Creel) (s : State) : (State.setCreel c x s).pending = s.pending := by
  unfold State.setCreel; first | rfl | ((try dsimp only); (repeat' split) <;> simp)

@[simp] theorem State.setCarrier_regs (c : Nat) (x : Carrier) (s : State) : (State.setCarrier c x s).regs = s.regs := by
  unfold State.setCarrier; first | rfl | ((try dsimp only); (repeat' split) <;> simp)
@[simp] theorem State.setCarrier_clock (c : Nat) (x : Carrier) (s : State) : (State.setCarrier c x s).clock = s.clock := by
  unfold State.setCarrier; first | rfl | ((try dsimp only); (repeat' split) <;> simp)
@[simp] theorem State.setCarrier_clockMs (c : Nat) (x : Carrier) (s : State) : (State.setCarrier c x s).clockMs = s.clockMs := by
  unfold State.setCarrier; first | rfl | ((try dsimp only); (repeat' split) <;> simp)
@[simp] theorem State.setCarrier_watch (c : Nat) (x : Carrier) (s : State) : (State.setCarrier c x s).watch = s.watch := by
  unfold State.setCarrier; first | rfl | ((try dsimp only); (repeat' split) <;> simp)
@[simp] theorem State.setCarrier_rogue (c : Nat) (x : Carrier) (s : State) : (State.setCarrier c x s).rogue = s.rogue := by
  unfold State.setCarrier; first | rfl | ((try dsimp only); (repeat' split) <;> simp)
@[simp] theorem State.setCarrier_disp (c : Nat) (x : Carrier) (s : State) : (State.setCarrier c x s).disp = s.disp := by
  unfold State.setCarrier; first | rfl | ((try dsimp only); (repeat' split) <;> simp)
@[simp] theorem State.setCarrier_frames (c : Nat) (x : Carrier) (s : State) : (State.setCarrier c x s).frames = s.frames := by
  unfold State.setCarrier; first | rfl | ((try dsimp only); (repeat' split) <;> simp)
@[simp] theorem State.setCarrier_roving_creels (c : Nat) (x : Carrier) (s : State) : (State.setCarrier c x s).roving.creels = s.roving.creels := by
  unfold State.setCarrier; first | rfl | ((try dsimp only); (repeat' split) <;> simp)
@[simp] theorem State.setCarrier_roving_queue (c : Nat) (x : Carrier) (s : State) : (State.setCarrier c x s).roving.queue = s.roving.queue := by
  unfold State.setCarrier; first | rfl | ((try dsimp only); (repeat' split) <;> simp)
@[simp] theorem State.setCarrier_roving_feeds (c : Nat) (x : Carrier) (s : State) : (State.setCarrier c x s).roving.feeds = s.roving.feeds := by
  unfold State.setCarrier; first | rfl | ((try dsimp only); (repeat' split) <;> simp)
@[simp] theorem State.setCarrier_output (c : Nat) (x : Carrier) (s : State) : (State.setCarrier c x s).output = s.output := by
  unfold State.setCarrier; first | rfl | ((try dsimp only); (repeat' split) <;> simp)
@[simp] theorem State.setCarrier_plan (c : Nat) (x : Carrier) (s : State) : (State.setCarrier c x s).plan = s.plan := by
  unfold State.setCarrier; first | rfl | ((try dsimp only); (repeat' split) <;> simp)
@[simp] theorem State.setCarrier_desk (c : Nat) (x : Carrier) (s : State) : (State.setCarrier c x s).desk = s.desk := by
  unfold State.setCarrier; first | rfl | ((try dsimp only); (repeat' split) <;> simp)
@[simp] theorem State.setCarrier_writer_pending (c : Nat) (x : Carrier) (s : State) : (State.setCarrier c x s).writer.pending = s.writer.pending := by
  unfold State.setCarrier; first | rfl | ((try dsimp only); (repeat' split) <;> simp)
@[simp] theorem State.setCarrier_writer_current (c : Nat) (x : Carrier) (s : State) : (State.setCarrier c x s).writer.current = s.writer.current := by
  unfold State.setCarrier; first | rfl | ((try dsimp only); (repeat' split) <;> simp)
@[simp] theorem State.setCarrier_writer_numbers (c : Nat) (x : Carrier) (s : State) : (State.setCarrier c x s).writer.numbers = s.writer.numbers := by
  unfold State.setCarrier; first | rfl | ((try dsimp only); (repeat' split) <;> simp)
@[simp] theorem State.setCarrier_writer_writeMark (c : Nat) (x : Carrier) (s : State) : (State.setCarrier c x s).writer.writeMark = s.writer.writeMark := by
  unfold State.setCarrier; first | rfl | ((try dsimp only); (repeat' split) <;> simp)
@[simp] theorem State.setCarrier_writer_capacity (c : Nat) (x : Carrier) (s : State) : (State.setCarrier c x s).writer.capacity = s.writer.capacity := by
  unfold State.setCarrier; first | rfl | ((try dsimp only); (repeat' split) <;> simp)
@[simp] theorem State.setCarrier_port (c : Nat) (x : Carrier) (s : State) : (State.setCarrier c x s).port = s.port := by
  unfold State.setCarrier; first | rfl | ((try dsimp only); (repeat' split) <;> simp)
@[simp] theorem State.setCarrier_link (c : Nat) (x : Carrier) (s : State) : (State.setCarrier c x s).link = s.link := by
  unfold State.setCarrier; first | rfl | ((try dsimp only); (repeat' split) <;> simp)
@[simp] theorem State.setCarrier_mem (c : Nat) (x : Carrier) (s : State) : (State.setCarrier c x s).mem = s.mem := by
  unfold State.setCarrier; first | rfl | ((try dsimp only); (repeat' split) <;> simp)
@[simp] theorem State.setCarrier_work (c : Nat) (x : Carrier) (s : State) : (State.setCarrier c x s).work = s.work := by
  unfold State.setCarrier; first | rfl | ((try dsimp only); (repeat' split) <;> simp)
@[simp] theorem State.setCarrier_pending (c : Nat) (x : Carrier) (s : State) : (State.setCarrier c x s).pending = s.pending := by
  unfold State.setCarrier; first | rfl | ((try dsimp only); (repeat' split) <;> simp)

@[simp] theorem State.setFeed_regs (f : Nat) (x : Feed) (s : State) : (State.setFeed f x s).regs = s.regs := by
  unfold State.setFeed; first | rfl | ((try dsimp only); (repeat' split) <;> simp)
@[simp] theorem State.setFeed_clock (f : Nat) (x : Feed) (s : State) : (State.setFeed f x s).clock = s.clock := by
  unfold State.setFeed; first | rfl | ((try dsimp only); (repeat' split) <;> simp)
@[simp] theorem State.setFeed_clockMs (f : Nat) (x : Feed) (s : State) : (State.setFeed f x s).clockMs = s.clockMs := by
  unfold State.setFeed; first | rfl | ((try dsimp only); (repeat' split) <;> simp)
@[simp] theorem State.setFeed_watch (f : Nat) (x : Feed) (s : State) : (State.setFeed f x s).watch = s.watch := by
  unfold State.setFeed; first | rfl | ((try dsimp only); (repeat' split) <;> simp)
@[simp] theorem State.setFeed_rogue (f : Nat) (x : Feed) (s : State) : (State.setFeed f x s).rogue = s.rogue := by
  unfold State.setFeed; first | rfl | ((try dsimp only); (repeat' split) <;> simp)
@[simp] theorem State.setFeed_disp (f : Nat) (x : Feed) (s : State) : (State.setFeed f x s).disp = s.disp := by
  unfold State.setFeed; first | rfl | ((try dsimp only); (repeat' split) <;> simp)
@[simp] theorem State.setFeed_frames (f : Nat) (x : Feed) (s : State) : (State.setFeed f x s).frames = s.frames := by
  unfold State.setFeed; first | rfl | ((try dsimp only); (repeat' split) <;> simp)
@[simp] theorem State.setFeed_roving_creels (f : Nat) (x : Feed) (s : State) : (State.setFeed f x s).roving.creels = s.roving.creels := by
  unfold State.setFeed; first | rfl | ((try dsimp only); (repeat' split) <;> simp)
@[simp] theorem State.setFeed_roving_queue (f : Nat) (x : Feed) (s : State) : (State.setFeed f x s).roving.queue = s.roving.queue := by
  unfold State.setFeed; first | rfl | ((try dsimp only); (repeat' split) <;> simp)
@[simp] theorem State.setFeed_roving_carriers (f : Nat) (x : Feed) (s : State) : (State.setFeed f x s).roving.carriers = s.roving.carriers := by
  unfold State.setFeed; first | rfl | ((try dsimp only); (repeat' split) <;> simp)
@[simp] theorem State.setFeed_output (f : Nat) (x : Feed) (s : State) : (State.setFeed f x s).output = s.output := by
  unfold State.setFeed; first | rfl | ((try dsimp only); (repeat' split) <;> simp)
@[simp] theorem State.setFeed_plan (f : Nat) (x : Feed) (s : State) : (State.setFeed f x s).plan = s.plan := by
  unfold State.setFeed; first | rfl | ((try dsimp only); (repeat' split) <;> simp)
@[simp] theorem State.setFeed_desk (f : Nat) (x : Feed) (s : State) : (State.setFeed f x s).desk = s.desk := by
  unfold State.setFeed; first | rfl | ((try dsimp only); (repeat' split) <;> simp)
@[simp] theorem State.setFeed_writer (f : Nat) (x : Feed) (s : State) : (State.setFeed f x s).writer = s.writer := by
  unfold State.setFeed; first | rfl | ((try dsimp only); (repeat' split) <;> simp)
@[simp] theorem State.setFeed_port (f : Nat) (x : Feed) (s : State) : (State.setFeed f x s).port = s.port := by
  unfold State.setFeed; first | rfl | ((try dsimp only); (repeat' split) <;> simp)
@[simp] theorem State.setFeed_link (f : Nat) (x : Feed) (s : State) : (State.setFeed f x s).link = s.link := by
  unfold State.setFeed; first | rfl | ((try dsimp only); (repeat' split) <;> simp)
@[simp] theorem State.setFeed_mem (f : Nat) (x : Feed) (s : State) : (State.setFeed f x s).mem = s.mem := by
  unfold State.setFeed; first | rfl | ((try dsimp only); (repeat' split) <;> simp)
@[simp] theorem State.setFeed_work (f : Nat) (x : Feed) (s : State) : (State.setFeed f x s).work = s.work := by
  unfold State.setFeed; first | rfl | ((try dsimp only); (repeat' split) <;> simp)
@[simp] theorem State.setFeed_pending (f : Nat) (x : Feed) (s : State) : (State.setFeed f x s).pending = s.pending := by
  unfold State.setFeed; first | rfl | ((try dsimp only); (repeat' split) <;> simp)

@[simp] theorem State.setRoller_regs (f : Nat) (x : Roller) (s : State) : (State.setRoller f x s).regs = s.regs := by
  unfold State.setRoller; first | rfl | ((try dsimp only); (repeat' split) <;> simp)
@[simp] theorem State.setRoller_clock (f : Nat) (x : Roller) (s : State) : (State.setRoller f x s).clock = s.clock := by
  unfold State.setRoller; first | rfl | ((try dsimp only); (repeat' split) <;> simp)
@[simp] theorem State.setRoller_clockMs (f : Nat) (x : Roller) (s : State) : (State.setRoller f x s).clockMs = s.clockMs := by
  unfold State.setRoller; first | rfl | ((try dsimp only); (repeat' split) <;> simp)
@[simp] theorem State.setRoller_watch (f : Nat) (x : Roller) (s : State) : (State.setRoller f x s).watch = s.watch := by
  unfold State.setRoller; first | rfl | ((try dsimp only); (repeat' split) <;> simp)
@[simp] theorem State.setRoller_rogue (f : Nat) (x : Roller) (s : State) : (State.setRoller f x s).rogue = s.rogue := by
  unfold State.setRoller; first | rfl | ((try dsimp only); (repeat' split) <;> simp)
@[simp] theorem State.setRoller_disp (f : Nat) (x : Roller) (s : State) : (State.setRoller f x s).disp = s.disp := by
  unfold State.setRoller; first | rfl | ((try dsimp only); (repeat' split) <;> simp)
@[simp] theorem State.setRoller_frames (f : Nat) (x : Roller) (s : State) : (State.setRoller f x s).frames = s.frames := by
  unfold State.setRoller; first | rfl | ((try dsimp only); (repeat' split) <;> simp)
@[simp] theorem State.setRoller_roving (f : Nat) (x : Roller) (s : State) : (State.setRoller f x s).roving = s.roving := by
  unfold State.setRoller; first | rfl | ((try dsimp only); (repeat' split) <;> simp)
@[simp] theorem State.setRoller_output_counts (f : Nat) (x : Roller) (s : State) : (State.setRoller f x s).output.counts = s.output.counts := by
  unfold State.setRoller; first | rfl | ((try dsimp only); (repeat' split) <;> simp)
@[simp] theorem State.setRoller_output_page (f : Nat) (x : Roller) (s : State) : (State.setRoller f x s).output.page = s.output.page := by
  unfold State.setRoller; first | rfl | ((try dsimp only); (repeat' split) <;> simp)
@[simp] theorem State.setRoller_output_view (f : Nat) (x : Roller) (s : State) : (State.setRoller f x s).output.view = s.output.view := by
  unfold State.setRoller; first | rfl | ((try dsimp only); (repeat' split) <;> simp)
@[simp] theorem State.setRoller_output_shift (f : Nat) (x : Roller) (s : State) : (State.setRoller f x s).output.shift = s.output.shift := by
  unfold State.setRoller; first | rfl | ((try dsimp only); (repeat' split) <;> simp)
@[simp] theorem State.setRoller_output_wait (f : Nat) (x : Roller) (s : State) : (State.setRoller f x s).output.wait = s.output.wait := by
  unfold State.setRoller; first | rfl | ((try dsimp only); (repeat' split) <;> simp)
@[simp] theorem State.setRoller_plan (f : Nat) (x : Roller) (s : State) : (State.setRoller f x s).plan = s.plan := by
  unfold State.setRoller; first | rfl | ((try dsimp only); (repeat' split) <;> simp)
@[simp] theorem State.setRoller_desk (f : Nat) (x : Roller) (s : State) : (State.setRoller f x s).desk = s.desk := by
  unfold State.setRoller; first | rfl | ((try dsimp only); (repeat' split) <;> simp)
@[simp] theorem State.setRoller_writer (f : Nat) (x : Roller) (s : State) : (State.setRoller f x s).writer = s.writer := by
  unfold State.setRoller; first | rfl | ((try dsimp only); (repeat' split) <;> simp)
@[simp] theorem State.setRoller_port (f : Nat) (x : Roller) (s : State) : (State.setRoller f x s).port = s.port := by
  unfold State.setRoller; first | rfl | ((try dsimp only); (repeat' split) <;> simp)
@[simp] theorem State.setRoller_link (f : Nat) (x : Roller) (s : State) : (State.setRoller f x s).link = s.link := by
  unfold State.setRoller; first | rfl | ((try dsimp only); (repeat' split) <;> simp)
@[simp] theorem State.setRoller_mem (f : Nat) (x : Roller) (s : State) : (State.setRoller f x s).mem = s.mem := by
  unfold State.setRoller; first | rfl | ((try dsimp only); (repeat' split) <;> simp)
@[simp] theorem State.setRoller_work (f : Nat) (x : Roller) (s : State) : (State.setRoller f x s).work = s.work := by
  unfold State.setRoller; first | rfl | ((try dsimp only); (repeat' split) <;> simp)
@[simp] theorem State.setRoller_pending (f : Nat) (x : Roller) (s : State) : (State.setRoller f x s).pending = s.pending := by
  unfold State.setRoller; first | rfl | ((try dsimp only); (repeat' split) <;> simp)

@[simp] theorem State.setUnit_regs (a : Nat) (x : Unit) (s : State) : (State.setUnit a x s).regs = s.regs := by
  unfold State.setUnit; first | rfl | ((try dsimp only); (repeat' split) <;> simp)
@[simp] theorem State.setUnit_clock (a : Nat) (x : Unit) (s : State) : (State.setUnit a x s).clock = s.clock := by
  unfold State.setUnit; first | rfl | ((try dsimp only); (repeat' split) <;> simp)
@[simp] theorem State.setUnit_clockMs (a : Nat) (x : Unit) (s : State) : (State.setUnit a x s).clockMs = s.clockMs := by
  unfold State.setUnit; first | rfl | ((try dsimp only); (repeat' split) <;> simp)
@[simp] theorem State.setUnit_watch (a : Nat) (x : Unit) (s : State) : (State.setUnit a x s).watch = s.watch := by
  unfold State.setUnit; first | rfl | ((try dsimp only); (repeat' split) <;> simp)
@[simp] theorem State.setUnit_rogue (a : Nat) (x : Unit) (s : State) : (State.setUnit a x s).rogue = s.rogue := by
  unfold State.setUnit; first | rfl | ((try dsimp only); (repeat' split) <;> simp)
@[simp] theorem State.setUnit_disp (a : Nat) (x : Unit) (s : State) : (State.setUnit a x s).disp = s.disp := by
  unfold State.setUnit; first | rfl | ((try dsimp only); (repeat' split) <;> simp)
@[simp] theorem State.setUnit_frames (a : Nat) (x : Unit) (s : State) : (State.setUnit a x s).frames = s.frames := by
  unfold State.setUnit; first | rfl | ((try dsimp only); (repeat' split) <;> simp)
@[simp] theorem State.setUnit_roving (a : Nat) (x : Unit) (s : State) : (State.setUnit a x s).roving = s.roving := by
  unfold State.setUnit; first | rfl | ((try dsimp only); (repeat' split) <;> simp)
@[simp] theorem State.setUnit_output (a : Nat) (x : Unit) (s : State) : (State.setUnit a x s).output = s.output := by
  unfold State.setUnit; first | rfl | ((try dsimp only); (repeat' split) <;> simp)
@[simp] theorem State.setUnit_plan (a : Nat) (x : Unit) (s : State) : (State.setUnit a x s).plan = s.plan := by
  unfold State.setUnit; first | rfl | ((try dsimp only); (repeat' split) <;> simp)
@[simp] theorem State.setUnit_desk (a : Nat) (x : Unit) (s : State) : (State.setUnit a x s).desk = s.desk := by
  unfold State.setUnit; first | rfl | ((try dsimp only); (repeat' split) <;> simp)
@[simp] theorem State.setUnit_writer_pending (a : Nat) (x : Unit) (s : State) : (State.setUnit a x s).writer.pending = s.writer.pending := by
  unfold State.setUnit; first | rfl | ((try dsimp only); (repeat' split) <;> simp)
@[simp] theorem State.setUnit_writer_current (a : Nat) (x : Unit) (s : State) : (State.setUnit a x s).writer.current = s.writer.current := by
  unfold State.setUnit; first | rfl | ((try dsimp only); (repeat' split) <;> simp)
@[simp] theorem State.setUnit_writer_numbers (a : Nat) (x : Unit) (s : State) : (State.setUnit a x s).writer.numbers = s.writer.numbers := by
  unfold State.setUnit; first | rfl | ((try dsimp only); (repeat' split) <;> simp)
@[simp] theorem State.setUnit_writer_writeMark (a : Nat) (x : Unit) (s : State) : (State.setUnit a x s).writer.writeMark = s.writer.writeMark := by
  unfold State.setUnit; first | rfl | ((try dsimp only); (repeat' split) <;> simp)
@[simp] theorem State.setUnit_writer_capacity (a : Nat) (x : Unit) (s : State) : (State.setUnit a x s).writer.capacity = s.writer.capacity := by
  unfold State.setUnit; first | rfl | ((try dsimp only); (repeat' split) <;> simp)
@[simp] theorem State.setUnit_port (a : Nat) (x : Unit) (s : State) : (State.setUnit a x s).port = s.port := by
  unfold State.setUnit; first | rfl | ((try dsimp only); (repeat' split) <;> simp)
@[simp] theorem State.setUnit_link_mode (a : Nat) (x : Unit) (s : State) : (State.setUnit a x s).link.mode = s.link.mode := by
  unfold State.setUnit; first | rfl | ((try dsimp only); (repeat' split) <;> simp)
@[simp] theorem State.setUnit_link_cycle (a : Nat) (x : Unit) (s : State) : (State.setUnit a x s).link.cycle = s.link.cycle := by
  unfold State.setUnit; first | rfl | ((try dsimp only); (repeat' split) <;> simp)
@[simp] theorem State.setUnit_link_next (a : Nat) (x : Unit) (s : State) : (State.setUnit a x s).link.next = s.link.next := by
  unfold State.setUnit; first | rfl | ((try dsimp only); (repeat' split) <;> simp)
@[simp] theorem State.setUnit_link_visit (a : Nat) (x : Unit) (s : State) : (State.setUnit a x s).link.visit = s.link.visit := by
  unfold State.setUnit; first | rfl | ((try dsimp only); (repeat' split) <;> simp)
@[simp] theorem State.setUnit_link_idle (a : Nat) (x : Unit) (s : State) : (State.setUnit a x s).link.idle = s.link.idle := by
  unfold State.setUnit; first | rfl | ((try dsimp only); (repeat' split) <;> simp)
@[simp] theorem State.setUnit_mem (a : Nat) (x : Unit) (s : State) : (State.setUnit a x s).mem = s.mem := by
  unfold State.setUnit; first | rfl | ((try dsimp only); (repeat' split) <;> simp)
@[simp] theorem State.setUnit_work (a : Nat) (x : Unit) (s : State) : (State.setUnit a x s).work = s.work := by
  unfold State.setUnit; first | rfl | ((try dsimp only); (repeat' split) <;> simp)
@[simp] theorem State.setUnit_pending (a : Nat) (x : Unit) (s : State) : (State.setUnit a x s).pending = s.pending := by
  unfold State.setUnit; first | rfl | ((try dsimp only); (repeat' split) <;> simp)

@[simp] theorem State.setCellView_regs (c : Nat) (x : CellStage) (s : State) : (State.setCellView c x s).regs = s.regs := by
  unfold State.setCellView; first | rfl | ((try dsimp only); (repeat' split) <;> simp)
@[simp] theorem State.setCellView_clock (c : Nat) (x : CellStage) (s : State) : (State.setCellView c x s).clock = s.clock := by
  unfold State.setCellView; first | rfl | ((try dsimp only); (repeat' split) <;> simp)
@[simp] theorem State.setCellView_clockMs (c : Nat) (x : CellStage) (s : State) : (State.setCellView c x s).clockMs = s.clockMs := by
  unfold State.setCellView; first | rfl | ((try dsimp only); (repeat' split) <;> simp)
@[simp] theorem State.setCellView_watch (c : Nat) (x : CellStage) (s : State) : (State.setCellView c x s).watch = s.watch := by
  unfold State.setCellView; first | rfl | ((try dsimp only); (repeat' split) <;> simp)
@[simp] theorem State.setCellView_rogue (c : Nat) (x : CellStage) (s : State) : (State.setCellView c x s).rogue = s.rogue := by
  unfold State.setCellView; first | rfl | ((try dsimp only); (repeat' split) <;> simp)
@[simp] theorem State.setCellView_disp (c : Nat) (x : CellStage) (s : State) : (State.setCellView c x s).disp = s.disp := by
  unfold State.setCellView; first | rfl | ((try dsimp only); (repeat' split) <;> simp)
@[simp] theorem State.setCellView_frames (c : Nat) (x : CellStage) (s : State) : (State.setCellView c x s).frames = s.frames := by
  unfold State.setCellView; first | rfl | ((try dsimp only); (repeat' split) <;> simp)
@[simp] theorem State.setCellView_roving (c : Nat) (x : CellStage) (s : State) : (State.setCellView c x s).roving = s.roving := by
  unfold State.setCellView; first | rfl | ((try dsimp only); (repeat' split) <;> simp)
@[simp] theorem State.setCellView_output (c : Nat) (x : CellStage) (s : State) : (State.setCellView c x s).output = s.output := by
  unfold State.setCellView; first | rfl | ((try dsimp only); (repeat' split) <;> simp)
@[simp] theorem State.setCellView_plan (c : Nat) (x : CellStage) (s : State) : (State.setCellView c x s).plan = s.plan := by
  unfold State.setCellView; first | rfl | ((try dsimp only); (repeat' split) <;> simp)
@[simp] theorem State.setCellView_desk_book (c : Nat) (x : CellStage) (s : State) : (State.setCellView c x s).desk.book = s.desk.book := by
  unfold State.setCellView; first | rfl | ((try dsimp only); (repeat' split) <;> simp)
@[simp] theorem State.setCellView_desk_deferred (c : Nat) (x : CellStage) (s : State) : (State.setCellView c x s).desk.deferred = s.desk.deferred := by
  unfold State.setCellView; first | rfl | ((try dsimp only); (repeat' split) <;> simp)
@[simp] theorem State.setCellView_desk_scan (c : Nat) (x : CellStage) (s : State) : (State.setCellView c x s).desk.scan = s.desk.scan := by
  unfold State.setCellView; first | rfl | ((try dsimp only); (repeat' split) <;> simp)
@[simp] theorem State.setCellView_desk_lastTaken (c : Nat) (x : CellStage) (s : State) : (State.setCellView c x s).desk.lastTaken = s.desk.lastTaken := by
  unfold State.setCellView; first | rfl | ((try dsimp only); (repeat' split) <;> simp)
@[simp] theorem State.setCellView_desk_held (c : Nat) (x : CellStage) (s : State) : (State.setCellView c x s).desk.held = s.desk.held := by
  unfold State.setCellView; first | rfl | ((try dsimp only); (repeat' split) <;> simp)
@[simp] theorem State.setCellView_writer (c : Nat) (x : CellStage) (s : State) : (State.setCellView c x s).writer = s.writer := by
  unfold State.setCellView; first | rfl | ((try dsimp only); (repeat' split) <;> simp)
@[simp] theorem State.setCellView_port (c : Nat) (x : CellStage) (s : State) : (State.setCellView c x s).port = s.port := by
  unfold State.setCellView; first | rfl | ((try dsimp only); (repeat' split) <;> simp)
@[simp] theorem State.setCellView_link (c : Nat) (x : CellStage) (s : State) : (State.setCellView c x s).link = s.link := by
  unfold State.setCellView; first | rfl | ((try dsimp only); (repeat' split) <;> simp)
@[simp] theorem State.setCellView_mem (c : Nat) (x : CellStage) (s : State) : (State.setCellView c x s).mem = s.mem := by
  unfold State.setCellView; first | rfl | ((try dsimp only); (repeat' split) <;> simp)
@[simp] theorem State.setCellView_work (c : Nat) (x : CellStage) (s : State) : (State.setCellView c x s).work = s.work := by
  unfold State.setCellView; first | rfl | ((try dsimp only); (repeat' split) <;> simp)
@[simp] theorem State.setCellView_pending (c : Nat) (x : CellStage) (s : State) : (State.setCellView c x s).pending = s.pending := by
  unfold State.setCellView; first | rfl | ((try dsimp only); (repeat' split) <;> simp)

@[simp] theorem State.setPageView_regs (p : Nat) (x : PageStage) (s : State) : (State.setPageView p x s).regs = s.regs := by
  unfold State.setPageView; first | rfl | ((try dsimp only); (repeat' split) <;> simp)
@[simp] theorem State.setPageView_clock (p : Nat) (x : PageStage) (s : State) : (State.setPageView p x s).clock = s.clock := by
  unfold State.setPageView; first | rfl | ((try dsimp only); (repeat' split) <;> simp)
@[simp] theorem State.setPageView_clockMs (p : Nat) (x : PageStage) (s : State) : (State.setPageView p x s).clockMs = s.clockMs := by
  unfold State.setPageView; first | rfl | ((try dsimp only); (repeat' split) <;> simp)
@[simp] theorem State.setPageView_watch (p : Nat) (x : PageStage) (s : State) : (State.setPageView p x s).watch = s.watch := by
  unfold State.setPageView; first | rfl | ((try dsimp only); (repeat' split) <;> simp)
@[simp] theorem State.setPageView_rogue (p : Nat) (x : PageStage) (s : State) : (State.setPageView p x s).rogue = s.rogue := by
  unfold State.setPageView; first | rfl | ((try dsimp only); (repeat' split) <;> simp)
@[simp] theorem State.setPageView_disp (p : Nat) (x : PageStage) (s : State) : (State.setPageView p x s).disp = s.disp := by
  unfold State.setPageView; first | rfl | ((try dsimp only); (repeat' split) <;> simp)
@[simp] theorem State.setPageView_frames (p : Nat) (x : PageStage) (s : State) : (State.setPageView p x s).frames = s.frames := by
  unfold State.setPageView; first | rfl | ((try dsimp only); (repeat' split) <;> simp)
@[simp] theorem State.setPageView_roving (p : Nat) (x : PageStage) (s : State) : (State.setPageView p x s).roving = s.roving := by
  unfold State.setPageView; first | rfl | ((try dsimp only); (repeat' split) <;> simp)
@[simp] theorem State.setPageView_output_rollers (p : Nat) (x : PageStage) (s : State) : (State.setPageView p x s).output.rollers = s.output.rollers := by
  unfold State.setPageView; first | rfl | ((try dsimp only); (repeat' split) <;> simp)
@[simp] theorem State.setPageView_output_counts (p : Nat) (x : PageStage) (s : State) : (State.setPageView p x s).output.counts = s.output.counts := by
  unfold State.setPageView; first | rfl | ((try dsimp only); (repeat' split) <;> simp)
@[simp] theorem State.setPageView_output_page (p : Nat) (x : PageStage) (s : State) : (State.setPageView p x s).output.page = s.output.page := by
  unfold State.setPageView; first | rfl | ((try dsimp only); (repeat' split) <;> simp)
@[simp] theorem State.setPageView_output_shift (p : Nat) (x : PageStage) (s : State) : (State.setPageView p x s).output.shift = s.output.shift := by
  unfold State.setPageView; first | rfl | ((try dsimp only); (repeat' split) <;> simp)
@[simp] theorem State.setPageView_output_wait (p : Nat) (x : PageStage) (s : State) : (State.setPageView p x s).output.wait = s.output.wait := by
  unfold State.setPageView; first | rfl | ((try dsimp only); (repeat' split) <;> simp)
@[simp] theorem State.setPageView_plan (p : Nat) (x : PageStage) (s : State) : (State.setPageView p x s).plan = s.plan := by
  unfold State.setPageView; first | rfl | ((try dsimp only); (repeat' split) <;> simp)
@[simp] theorem State.setPageView_desk (p : Nat) (x : PageStage) (s : State) : (State.setPageView p x s).desk = s.desk := by
  unfold State.setPageView; first | rfl | ((try dsimp only); (repeat' split) <;> simp)
@[simp] theorem State.setPageView_writer (p : Nat) (x : PageStage) (s : State) : (State.setPageView p x s).writer = s.writer := by
  unfold State.setPageView; first | rfl | ((try dsimp only); (repeat' split) <;> simp)
@[simp] theorem State.setPageView_port (p : Nat) (x : PageStage) (s : State) : (State.setPageView p x s).port = s.port := by
  unfold State.setPageView; first | rfl | ((try dsimp only); (repeat' split) <;> simp)
@[simp] theorem State.setPageView_link (p : Nat) (x : PageStage) (s : State) : (State.setPageView p x s).link = s.link := by
  unfold State.setPageView; first | rfl | ((try dsimp only); (repeat' split) <;> simp)
@[simp] theorem State.setPageView_mem (p : Nat) (x : PageStage) (s : State) : (State.setPageView p x s).mem = s.mem := by
  unfold State.setPageView; first | rfl | ((try dsimp only); (repeat' split) <;> simp)
@[simp] theorem State.setPageView_work (p : Nat) (x : PageStage) (s : State) : (State.setPageView p x s).work = s.work := by
  unfold State.setPageView; first | rfl | ((try dsimp only); (repeat' split) <;> simp)
@[simp] theorem State.setPageView_pending (p : Nat) (x : PageStage) (s : State) : (State.setPageView p x s).pending = s.pending := by
  unfold State.setPageView; first | rfl | ((try dsimp only); (repeat' split) <;> simp)

@[simp] theorem State.oweArbiter_regs (s : State) : (State.oweArbiter s).regs = s.regs := by
  unfold State.oweArbiter; first | rfl | ((try dsimp only); (repeat' split) <;> simp)
@[simp] theorem State.oweArbiter_clock (s : State) : (State.oweArbiter s).clock = s.clock := by
  unfold State.oweArbiter; first | rfl | ((try dsimp only); (repeat' split) <;> simp)
@[simp] theorem State.oweArbiter_clockMs (s : State) : (State.oweArbiter s).clockMs = s.clockMs := by
  unfold State.oweArbiter; first | rfl | ((try dsimp only); (repeat' split) <;> simp)
@[simp] theorem State.oweArbiter_watch (s : State) : (State.oweArbiter s).watch = s.watch := by
  unfold State.oweArbiter; first | rfl | ((try dsimp only); (repeat' split) <;> simp)
@[simp] theorem State.oweArbiter_rogue (s : State) : (State.oweArbiter s).rogue = s.rogue := by
  unfold State.oweArbiter; first | rfl | ((try dsimp only); (repeat' split) <;> simp)
@[simp] theorem State.oweArbiter_disp (s : State) : (State.oweArbiter s).disp = s.disp := by
  unfold State.oweArbiter; first | rfl | ((try dsimp only); (repeat' split) <;> simp)
@[simp] theorem State.oweArbiter_frames (s : State) : (State.oweArbiter s).frames = s.frames := by
  unfold State.oweArbiter; first | rfl | ((try dsimp only); (repeat' split) <;> simp)
@[simp] theorem State.oweArbiter_roving (s : State) : (State.oweArbiter s).roving = s.roving := by
  unfold State.oweArbiter; first | rfl | ((try dsimp only); (repeat' split) <;> simp)
@[simp] theorem State.oweArbiter_output (s : State) : (State.oweArbiter s).output = s.output := by
  unfold State.oweArbiter; first | rfl | ((try dsimp only); (repeat' split) <;> simp)
@[simp] theorem State.oweArbiter_plan (s : State) : (State.oweArbiter s).plan = s.plan := by
  unfold State.oweArbiter; first | rfl | ((try dsimp only); (repeat' split) <;> simp)
@[simp] theorem State.oweArbiter_desk (s : State) : (State.oweArbiter s).desk = s.desk := by
  unfold State.oweArbiter; first | rfl | ((try dsimp only); (repeat' split) <;> simp)
@[simp] theorem State.oweArbiter_writer (s : State) : (State.oweArbiter s).writer = s.writer := by
  unfold State.oweArbiter; first | rfl | ((try dsimp only); (repeat' split) <;> simp)
@[simp] theorem State.oweArbiter_port (s : State) : (State.oweArbiter s).port = s.port := by
  unfold State.oweArbiter; first | rfl | ((try dsimp only); (repeat' split) <;> simp)
@[simp] theorem State.oweArbiter_link (s : State) : (State.oweArbiter s).link = s.link := by
  unfold State.oweArbiter; first | rfl | ((try dsimp only); (repeat' split) <;> simp)
@[simp] theorem State.oweArbiter_mem (s : State) : (State.oweArbiter s).mem = s.mem := by
  unfold State.oweArbiter; first | rfl | ((try dsimp only); (repeat' split) <;> simp)
@[simp] theorem State.oweArbiter_pending (s : State) : (State.oweArbiter s).pending = s.pending := by
  unfold State.oweArbiter; first | rfl | ((try dsimp only); (repeat' split) <;> simp)

@[simp] theorem State.oweRefill_regs (s : State) : (State.oweRefill s).regs = s.regs := by
  unfold State.oweRefill; first | rfl | ((try dsimp only); (repeat' split) <;> simp)
@[simp] theorem State.oweRefill_clock (s : State) : (State.oweRefill s).clock = s.clock := by
  unfold State.oweRefill; first | rfl | ((try dsimp only); (repeat' split) <;> simp)
@[simp] theorem State.oweRefill_clockMs (s : State) : (State.oweRefill s).clockMs = s.clockMs := by
  unfold State.oweRefill; first | rfl | ((try dsimp only); (repeat' split) <;> simp)
@[simp] theorem State.oweRefill_watch (s : State) : (State.oweRefill s).watch = s.watch := by
  unfold State.oweRefill; first | rfl | ((try dsimp only); (repeat' split) <;> simp)
@[simp] theorem State.oweRefill_rogue (s : State) : (State.oweRefill s).rogue = s.rogue := by
  unfold State.oweRefill; first | rfl | ((try dsimp only); (repeat' split) <;> simp)
@[simp] theorem State.oweRefill_disp (s : State) : (State.oweRefill s).disp = s.disp := by
  unfold State.oweRefill; first | rfl | ((try dsimp only); (repeat' split) <;> simp)
@[simp] theorem State.oweRefill_frames (s : State) : (State.oweRefill s).frames = s.frames := by
  unfold State.oweRefill; first | rfl | ((try dsimp only); (repeat' split) <;> simp)
@[simp] theorem State.oweRefill_roving (s : State) : (State.oweRefill s).roving = s.roving := by
  unfold State.oweRefill; first | rfl | ((try dsimp only); (repeat' split) <;> simp)
@[simp] theorem State.oweRefill_output (s : State) : (State.oweRefill s).output = s.output := by
  unfold State.oweRefill; first | rfl | ((try dsimp only); (repeat' split) <;> simp)
@[simp] theorem State.oweRefill_plan (s : State) : (State.oweRefill s).plan = s.plan := by
  unfold State.oweRefill; first | rfl | ((try dsimp only); (repeat' split) <;> simp)
@[simp] theorem State.oweRefill_desk (s : State) : (State.oweRefill s).desk = s.desk := by
  unfold State.oweRefill; first | rfl | ((try dsimp only); (repeat' split) <;> simp)
@[simp] theorem State.oweRefill_writer (s : State) : (State.oweRefill s).writer = s.writer := by
  unfold State.oweRefill; first | rfl | ((try dsimp only); (repeat' split) <;> simp)
@[simp] theorem State.oweRefill_port (s : State) : (State.oweRefill s).port = s.port := by
  unfold State.oweRefill; first | rfl | ((try dsimp only); (repeat' split) <;> simp)
@[simp] theorem State.oweRefill_link (s : State) : (State.oweRefill s).link = s.link := by
  unfold State.oweRefill; first | rfl | ((try dsimp only); (repeat' split) <;> simp)
@[simp] theorem State.oweRefill_mem (s : State) : (State.oweRefill s).mem = s.mem := by
  unfold State.oweRefill; first | rfl | ((try dsimp only); (repeat' split) <;> simp)
@[simp] theorem State.oweRefill_pending (s : State) : (State.oweRefill s).pending = s.pending := by
  unfold State.oweRefill; first | rfl | ((try dsimp only); (repeat' split) <;> simp)

@[simp] theorem State.oweRelist_regs (d : Nat) (s : State) : (State.oweRelist d s).regs = s.regs := by
  unfold State.oweRelist; first | rfl | ((try dsimp only); (repeat' split) <;> simp)
@[simp] theorem State.oweRelist_clock (d : Nat) (s : State) : (State.oweRelist d s).clock = s.clock := by
  unfold State.oweRelist; first | rfl | ((try dsimp only); (repeat' split) <;> simp)
@[simp] theorem State.oweRelist_clockMs (d : Nat) (s : State) : (State.oweRelist d s).clockMs = s.clockMs := by
  unfold State.oweRelist; first | rfl | ((try dsimp only); (repeat' split) <;> simp)
@[simp] theorem State.oweRelist_watch (d : Nat) (s : State) : (State.oweRelist d s).watch = s.watch := by
  unfold State.oweRelist; first | rfl | ((try dsimp only); (repeat' split) <;> simp)
@[simp] theorem State.oweRelist_rogue (d : Nat) (s : State) : (State.oweRelist d s).rogue = s.rogue := by
  unfold State.oweRelist; first | rfl | ((try dsimp only); (repeat' split) <;> simp)
@[simp] theorem State.oweRelist_disp (d : Nat) (s : State) : (State.oweRelist d s).disp = s.disp := by
  unfold State.oweRelist; first | rfl | ((try dsimp only); (repeat' split) <;> simp)
@[simp] theorem State.oweRelist_frames (d : Nat) (s : State) : (State.oweRelist d s).frames = s.frames := by
  unfold State.oweRelist; first | rfl | ((try dsimp only); (repeat' split) <;> simp)
@[simp] theorem State.oweRelist_roving (d : Nat) (s : State) : (State.oweRelist d s).roving = s.roving := by
  unfold State.oweRelist; first | rfl | ((try dsimp only); (repeat' split) <;> simp)
@[simp] theorem State.oweRelist_output (d : Nat) (s : State) : (State.oweRelist d s).output = s.output := by
  unfold State.oweRelist; first | rfl | ((try dsimp only); (repeat' split) <;> simp)
@[simp] theorem State.oweRelist_plan (d : Nat) (s : State) : (State.oweRelist d s).plan = s.plan := by
  unfold State.oweRelist; first | rfl | ((try dsimp only); (repeat' split) <;> simp)
@[simp] theorem State.oweRelist_desk (d : Nat) (s : State) : (State.oweRelist d s).desk = s.desk := by
  unfold State.oweRelist; first | rfl | ((try dsimp only); (repeat' split) <;> simp)
@[simp] theorem State.oweRelist_writer (d : Nat) (s : State) : (State.oweRelist d s).writer = s.writer := by
  unfold State.oweRelist; first | rfl | ((try dsimp only); (repeat' split) <;> simp)
@[simp] theorem State.oweRelist_port (d : Nat) (s : State) : (State.oweRelist d s).port = s.port := by
  unfold State.oweRelist; first | rfl | ((try dsimp only); (repeat' split) <;> simp)
@[simp] theorem State.oweRelist_link (d : Nat) (s : State) : (State.oweRelist d s).link = s.link := by
  unfold State.oweRelist; first | rfl | ((try dsimp only); (repeat' split) <;> simp)
@[simp] theorem State.oweRelist_mem (d : Nat) (s : State) : (State.oweRelist d s).mem = s.mem := by
  unfold State.oweRelist; first | rfl | ((try dsimp only); (repeat' split) <;> simp)
@[simp] theorem State.oweRelist_pending (d : Nat) (s : State) : (State.oweRelist d s).pending = s.pending := by
  unfold State.oweRelist; first | rfl | ((try dsimp only); (repeat' split) <;> simp)

@[simp] theorem State.raise_regs_part (c : Cause) (s : State) : (State.raise c s).regs.part = s.regs.part := by
  unfold State.raise; first | rfl | ((try dsimp only); (repeat' split) <;> simp)
@[simp] theorem State.raise_regs_run (c : Cause) (s : State) : (State.raise c s).regs.run = s.regs.run := by
  unfold State.raise; first | rfl | ((try dsimp only); (repeat' split) <;> simp)
@[simp] theorem State.raise_regs_resume (c : Cause) (s : State) : (State.raise c s).regs.resume = s.regs.resume := by
  unfold State.raise; first | rfl | ((try dsimp only); (repeat' split) <;> simp)
@[simp] theorem State.raise_regs_start (c : Cause) (s : State) : (State.raise c s).regs.start = s.regs.start := by
  unfold State.raise; first | rfl | ((try dsimp only); (repeat' split) <;> simp)
@[simp] theorem State.raise_regs_area (c : Cause) (s : State) : (State.raise c s).regs.area = s.regs.area := by
  unfold State.raise; first | rfl | ((try dsimp only); (repeat' split) <;> simp)
@[simp] theorem State.raise_regs_atm (c : Cause) (s : State) : (State.raise c s).regs.atm = s.regs.atm := by
  unfold State.raise; first | rfl | ((try dsimp only); (repeat' split) <;> simp)
@[simp] theorem State.raise_regs_flt (c : Cause) (s : State) : (State.raise c s).regs.flt = s.regs.flt := by
  unfold State.raise; first | rfl | ((try dsimp only); (repeat' split) <;> simp)
@[simp] theorem State.raise_regs_startFault (c : Cause) (s : State) : (State.raise c s).regs.startFault = s.regs.startFault := by
  unfold State.raise; first | rfl | ((try dsimp only); (repeat' split) <;> simp)
@[simp] theorem State.raise_regs_rewriting (c : Cause) (s : State) : (State.raise c s).regs.rewriting = s.regs.rewriting := by
  unfold State.raise; first | rfl | ((try dsimp only); (repeat' split) <;> simp)
@[simp] theorem State.raise_regs_ending (c : Cause) (s : State) : (State.raise c s).regs.ending = s.regs.ending := by
  unfold State.raise; first | rfl | ((try dsimp only); (repeat' split) <;> simp)
@[simp] theorem State.raise_clock (c : Cause) (s : State) : (State.raise c s).clock = s.clock := by
  unfold State.raise; first | rfl | ((try dsimp only); (repeat' split) <;> simp)
@[simp] theorem State.raise_clockMs (c : Cause) (s : State) : (State.raise c s).clockMs = s.clockMs := by
  unfold State.raise; first | rfl | ((try dsimp only); (repeat' split) <;> simp)
@[simp] theorem State.raise_watch (c : Cause) (s : State) : (State.raise c s).watch = s.watch := by
  unfold State.raise; first | rfl | ((try dsimp only); (repeat' split) <;> simp)
@[simp] theorem State.raise_rogue (c : Cause) (s : State) : (State.raise c s).rogue = s.rogue := by
  unfold State.raise; first | rfl | ((try dsimp only); (repeat' split) <;> simp)
@[simp] theorem State.raise_disp (c : Cause) (s : State) : (State.raise c s).disp = s.disp := by
  unfold State.raise; first | rfl | ((try dsimp only); (repeat' split) <;> simp)
@[simp] theorem State.raise_frames (c : Cause) (s : State) : (State.raise c s).frames = s.frames := by
  unfold State.raise; first | rfl | ((try dsimp only); (repeat' split) <;> simp)
@[simp] theorem State.raise_roving (c : Cause) (s : State) : (State.raise c s).roving = s.roving := by
  unfold State.raise; first | rfl | ((try dsimp only); (repeat' split) <;> simp)
@[simp] theorem State.raise_output (c : Cause) (s : State) : (State.raise c s).output = s.output := by
  unfold State.raise; first | rfl | ((try dsimp only); (repeat' split) <;> simp)
@[simp] theorem State.raise_plan (c : Cause) (s : State) : (State.raise c s).plan = s.plan := by
  unfold State.raise; first | rfl | ((try dsimp only); (repeat' split) <;> simp)
@[simp] theorem State.raise_desk (c : Cause) (s : State) : (State.raise c s).desk = s.desk := by
  unfold State.raise; first | rfl | ((try dsimp only); (repeat' split) <;> simp)
@[simp] theorem State.raise_writer (c : Cause) (s : State) : (State.raise c s).writer = s.writer := by
  unfold State.raise; first | rfl | ((try dsimp only); (repeat' split) <;> simp)
@[simp] theorem State.raise_port (c : Cause) (s : State) : (State.raise c s).port = s.port := by
  unfold State.raise; first | rfl | ((try dsimp only); (repeat' split) <;> simp)
@[simp] theorem State.raise_link (c : Cause) (s : State) : (State.raise c s).link = s.link := by
  unfold State.raise; first | rfl | ((try dsimp only); (repeat' split) <;> simp)
@[simp] theorem State.raise_mem (c : Cause) (s : State) : (State.raise c s).mem = s.mem := by
  unfold State.raise; first | rfl | ((try dsimp only); (repeat' split) <;> simp)
@[simp] theorem State.raise_work (c : Cause) (s : State) : (State.raise c s).work = s.work := by
  unfold State.raise; first | rfl | ((try dsimp only); (repeat' split) <;> simp)
@[simp] theorem State.raise_pending (c : Cause) (s : State) : (State.raise c s).pending = s.pending := by
  unfold State.raise; first | rfl | ((try dsimp only); (repeat' split) <;> simp)

@[simp] theorem State.alarm_regs_part (f : Nat) (s : State) : (State.alarm f s).regs.part = s.regs.part := by
  unfold State.alarm; first | rfl | ((try dsimp only); (repeat' split) <;> simp)
@[simp] theorem State.alarm_regs_run (f : Nat) (s : State) : (State.alarm f s).regs.run = s.regs.run := by
  unfold State.alarm; first | rfl | ((try dsimp only); (repeat' split) <;> simp)
@[simp] theorem State.alarm_regs_resume (f : Nat) (s : State) : (State.alarm f s).regs.resume = s.regs.resume := by
  unfold State.alarm; first | rfl | ((try dsimp only); (repeat' split) <;> simp)
@[simp] theorem State.alarm_regs_start (f : Nat) (s : State) : (State.alarm f s).regs.start = s.regs.start := by
  unfold State.alarm; first | rfl | ((try dsimp only); (repeat' split) <;> simp)
@[simp] theorem State.alarm_regs_area (f : Nat) (s : State) : (State.alarm f s).regs.area = s.regs.area := by
  unfold State.alarm; first | rfl | ((try dsimp only); (repeat' split) <;> simp)
@[simp] theorem State.alarm_regs_atm (f : Nat) (s : State) : (State.alarm f s).regs.atm = s.regs.atm := by
  unfold State.alarm; first | rfl | ((try dsimp only); (repeat' split) <;> simp)
@[simp] theorem State.alarm_regs_flt (f : Nat) (s : State) : (State.alarm f s).regs.flt = s.regs.flt := by
  unfold State.alarm; first | rfl | ((try dsimp only); (repeat' split) <;> simp)
@[simp] theorem State.alarm_regs_startFault (f : Nat) (s : State) : (State.alarm f s).regs.startFault = s.regs.startFault := by
  unfold State.alarm; first | rfl | ((try dsimp only); (repeat' split) <;> simp)
@[simp] theorem State.alarm_regs_rewriting (f : Nat) (s : State) : (State.alarm f s).regs.rewriting = s.regs.rewriting := by
  unfold State.alarm; first | rfl | ((try dsimp only); (repeat' split) <;> simp)
@[simp] theorem State.alarm_regs_ending (f : Nat) (s : State) : (State.alarm f s).regs.ending = s.regs.ending := by
  unfold State.alarm; first | rfl | ((try dsimp only); (repeat' split) <;> simp)
@[simp] theorem State.alarm_clock (f : Nat) (s : State) : (State.alarm f s).clock = s.clock := by
  unfold State.alarm; first | rfl | ((try dsimp only); (repeat' split) <;> simp)
@[simp] theorem State.alarm_clockMs (f : Nat) (s : State) : (State.alarm f s).clockMs = s.clockMs := by
  unfold State.alarm; first | rfl | ((try dsimp only); (repeat' split) <;> simp)
@[simp] theorem State.alarm_watch (f : Nat) (s : State) : (State.alarm f s).watch = s.watch := by
  unfold State.alarm; first | rfl | ((try dsimp only); (repeat' split) <;> simp)
@[simp] theorem State.alarm_rogue (f : Nat) (s : State) : (State.alarm f s).rogue = s.rogue := by
  unfold State.alarm; first | rfl | ((try dsimp only); (repeat' split) <;> simp)
@[simp] theorem State.alarm_disp (f : Nat) (s : State) : (State.alarm f s).disp = s.disp := by
  unfold State.alarm; first | rfl | ((try dsimp only); (repeat' split) <;> simp)
@[simp] theorem State.alarm_roving (f : Nat) (s : State) : (State.alarm f s).roving = s.roving := by
  unfold State.alarm; first | rfl | ((try dsimp only); (repeat' split) <;> simp)
@[simp] theorem State.alarm_output (f : Nat) (s : State) : (State.alarm f s).output = s.output := by
  unfold State.alarm; first | rfl | ((try dsimp only); (repeat' split) <;> simp)
@[simp] theorem State.alarm_plan (f : Nat) (s : State) : (State.alarm f s).plan = s.plan := by
  unfold State.alarm; first | rfl | ((try dsimp only); (repeat' split) <;> simp)
@[simp] theorem State.alarm_desk (f : Nat) (s : State) : (State.alarm f s).desk = s.desk := by
  unfold State.alarm; first | rfl | ((try dsimp only); (repeat' split) <;> simp)
@[simp] theorem State.alarm_writer_pending (f : Nat) (s : State) : (State.alarm f s).writer.pending = s.writer.pending := by
  unfold State.alarm; first | rfl | ((try dsimp only); (repeat' split) <;> simp)
@[simp] theorem State.alarm_writer_current (f : Nat) (s : State) : (State.alarm f s).writer.current = s.writer.current := by
  unfold State.alarm; first | rfl | ((try dsimp only); (repeat' split) <;> simp)
@[simp] theorem State.alarm_writer_numbers (f : Nat) (s : State) : (State.alarm f s).writer.numbers = s.writer.numbers := by
  unfold State.alarm; first | rfl | ((try dsimp only); (repeat' split) <;> simp)
@[simp] theorem State.alarm_writer_writeMark (f : Nat) (s : State) : (State.alarm f s).writer.writeMark = s.writer.writeMark := by
  unfold State.alarm; first | rfl | ((try dsimp only); (repeat' split) <;> simp)
@[simp] theorem State.alarm_writer_capacity (f : Nat) (s : State) : (State.alarm f s).writer.capacity = s.writer.capacity := by
  unfold State.alarm; first | rfl | ((try dsimp only); (repeat' split) <;> simp)
@[simp] theorem State.alarm_port (f : Nat) (s : State) : (State.alarm f s).port = s.port := by
  unfold State.alarm; first | rfl | ((try dsimp only); (repeat' split) <;> simp)
@[simp] theorem State.alarm_link (f : Nat) (s : State) : (State.alarm f s).link = s.link := by
  unfold State.alarm; first | rfl | ((try dsimp only); (repeat' split) <;> simp)
@[simp] theorem State.alarm_mem (f : Nat) (s : State) : (State.alarm f s).mem = s.mem := by
  unfold State.alarm; first | rfl | ((try dsimp only); (repeat' split) <;> simp)
@[simp] theorem State.alarm_work (f : Nat) (s : State) : (State.alarm f s).work = s.work := by
  unfold State.alarm; first | rfl | ((try dsimp only); (repeat' split) <;> simp)
@[simp] theorem State.alarm_pending (f : Nat) (s : State) : (State.alarm f s).pending = s.pending := by
  unfold State.alarm; first | rfl | ((try dsimp only); (repeat' split) <;> simp)

@[simp] theorem State.unitAlarm_regs_part (f : Nat) (s : State) : (State.unitAlarm f s).regs.part = s.regs.part := by
  unfold State.unitAlarm; first | rfl | ((try dsimp only); (repeat' split) <;> simp)
@[simp] theorem State.unitAlarm_regs_run (f : Nat) (s : State) : (State.unitAlarm f s).regs.run = s.regs.run := by
  unfold State.unitAlarm; first | rfl | ((try dsimp only); (repeat' split) <;> simp)
@[simp] theorem State.unitAlarm_regs_resume (f : Nat) (s : State) : (State.unitAlarm f s).regs.resume = s.regs.resume := by
  unfold State.unitAlarm; first | rfl | ((try dsimp only); (repeat' split) <;> simp)
@[simp] theorem State.unitAlarm_regs_start (f : Nat) (s : State) : (State.unitAlarm f s).regs.start = s.regs.start := by
  unfold State.unitAlarm; first | rfl | ((try dsimp only); (repeat' split) <;> simp)
@[simp] theorem State.unitAlarm_regs_area (f : Nat) (s : State) : (State.unitAlarm f s).regs.area = s.regs.area := by
  unfold State.unitAlarm; first | rfl | ((try dsimp only); (repeat' split) <;> simp)
@[simp] theorem State.unitAlarm_regs_atm (f : Nat) (s : State) : (State.unitAlarm f s).regs.atm = s.regs.atm := by
  unfold State.unitAlarm; first | rfl | ((try dsimp only); (repeat' split) <;> simp)
@[simp] theorem State.unitAlarm_regs_flt (f : Nat) (s : State) : (State.unitAlarm f s).regs.flt = s.regs.flt := by
  unfold State.unitAlarm; first | rfl | ((try dsimp only); (repeat' split) <;> simp)
@[simp] theorem State.unitAlarm_regs_startFault (f : Nat) (s : State) : (State.unitAlarm f s).regs.startFault = s.regs.startFault := by
  unfold State.unitAlarm; first | rfl | ((try dsimp only); (repeat' split) <;> simp)
@[simp] theorem State.unitAlarm_regs_rewriting (f : Nat) (s : State) : (State.unitAlarm f s).regs.rewriting = s.regs.rewriting := by
  unfold State.unitAlarm; first | rfl | ((try dsimp only); (repeat' split) <;> simp)
@[simp] theorem State.unitAlarm_regs_ending (f : Nat) (s : State) : (State.unitAlarm f s).regs.ending = s.regs.ending := by
  unfold State.unitAlarm; first | rfl | ((try dsimp only); (repeat' split) <;> simp)
@[simp] theorem State.unitAlarm_clock (f : Nat) (s : State) : (State.unitAlarm f s).clock = s.clock := by
  unfold State.unitAlarm; first | rfl | ((try dsimp only); (repeat' split) <;> simp)
@[simp] theorem State.unitAlarm_clockMs (f : Nat) (s : State) : (State.unitAlarm f s).clockMs = s.clockMs := by
  unfold State.unitAlarm; first | rfl | ((try dsimp only); (repeat' split) <;> simp)
@[simp] theorem State.unitAlarm_watch (f : Nat) (s : State) : (State.unitAlarm f s).watch = s.watch := by
  unfold State.unitAlarm; first | rfl | ((try dsimp only); (repeat' split) <;> simp)
@[simp] theorem State.unitAlarm_rogue (f : Nat) (s : State) : (State.unitAlarm f s).rogue = s.rogue := by
  unfold State.unitAlarm; first | rfl | ((try dsimp only); (repeat' split) <;> simp)
@[simp] theorem State.unitAlarm_disp (f : Nat) (s : State) : (State.unitAlarm f s).disp = s.disp := by
  unfold State.unitAlarm; first | rfl | ((try dsimp only); (repeat' split) <;> simp)
@[simp] theorem State.unitAlarm_roving (f : Nat) (s : State) : (State.unitAlarm f s).roving = s.roving := by
  unfold State.unitAlarm; first | rfl | ((try dsimp only); (repeat' split) <;> simp)
@[simp] theorem State.unitAlarm_output (f : Nat) (s : State) : (State.unitAlarm f s).output = s.output := by
  unfold State.unitAlarm; first | rfl | ((try dsimp only); (repeat' split) <;> simp)
@[simp] theorem State.unitAlarm_plan (f : Nat) (s : State) : (State.unitAlarm f s).plan = s.plan := by
  unfold State.unitAlarm; first | rfl | ((try dsimp only); (repeat' split) <;> simp)
@[simp] theorem State.unitAlarm_desk (f : Nat) (s : State) : (State.unitAlarm f s).desk = s.desk := by
  unfold State.unitAlarm; first | rfl | ((try dsimp only); (repeat' split) <;> simp)
@[simp] theorem State.unitAlarm_writer_pending (f : Nat) (s : State) : (State.unitAlarm f s).writer.pending = s.writer.pending := by
  unfold State.unitAlarm; first | rfl | ((try dsimp only); (repeat' split) <;> simp)
@[simp] theorem State.unitAlarm_writer_current (f : Nat) (s : State) : (State.unitAlarm f s).writer.current = s.writer.current := by
  unfold State.unitAlarm; first | rfl | ((try dsimp only); (repeat' split) <;> simp)
@[simp] theorem State.unitAlarm_writer_numbers (f : Nat) (s : State) : (State.unitAlarm f s).writer.numbers = s.writer.numbers := by
  unfold State.unitAlarm; first | rfl | ((try dsimp only); (repeat' split) <;> simp)
@[simp] theorem State.unitAlarm_writer_writeMark (f : Nat) (s : State) : (State.unitAlarm f s).writer.writeMark = s.writer.writeMark := by
  unfold State.unitAlarm; first | rfl | ((try dsimp only); (repeat' split) <;> simp)
@[simp] theorem State.unitAlarm_writer_capacity (f : Nat) (s : State) : (State.unitAlarm f s).writer.capacity = s.writer.capacity := by
  unfold State.unitAlarm; first | rfl | ((try dsimp only); (repeat' split) <;> simp)
@[simp] theorem State.unitAlarm_port (f : Nat) (s : State) : (State.unitAlarm f s).port = s.port := by
  unfold State.unitAlarm; first | rfl | ((try dsimp only); (repeat' split) <;> simp)
@[simp] theorem State.unitAlarm_link (f : Nat) (s : State) : (State.unitAlarm f s).link = s.link := by
  unfold State.unitAlarm; first | rfl | ((try dsimp only); (repeat' split) <;> simp)
@[simp] theorem State.unitAlarm_mem (f : Nat) (s : State) : (State.unitAlarm f s).mem = s.mem := by
  unfold State.unitAlarm; first | rfl | ((try dsimp only); (repeat' split) <;> simp)
@[simp] theorem State.unitAlarm_work (f : Nat) (s : State) : (State.unitAlarm f s).work = s.work := by
  unfold State.unitAlarm; first | rfl | ((try dsimp only); (repeat' split) <;> simp)
@[simp] theorem State.unitAlarm_pending (f : Nat) (s : State) : (State.unitAlarm f s).pending = s.pending := by
  unfold State.unitAlarm; first | rfl | ((try dsimp only); (repeat' split) <;> simp)

@[simp] theorem State.pend_regs (e : JournalEntry) (s : State) : (State.pend e s).regs = s.regs := by
  unfold State.pend; first | rfl | ((try dsimp only); (repeat' split) <;> simp)
@[simp] theorem State.pend_clock (e : JournalEntry) (s : State) : (State.pend e s).clock = s.clock := by
  unfold State.pend; first | rfl | ((try dsimp only); (repeat' split) <;> simp)
@[simp] theorem State.pend_clockMs (e : JournalEntry) (s : State) : (State.pend e s).clockMs = s.clockMs := by
  unfold State.pend; first | rfl | ((try dsimp only); (repeat' split) <;> simp)
@[simp] theorem State.pend_watch (e : JournalEntry) (s : State) : (State.pend e s).watch = s.watch := by
  unfold State.pend; first | rfl | ((try dsimp only); (repeat' split) <;> simp)
@[simp] theorem State.pend_rogue (e : JournalEntry) (s : State) : (State.pend e s).rogue = s.rogue := by
  unfold State.pend; first | rfl | ((try dsimp only); (repeat' split) <;> simp)
@[simp] theorem State.pend_disp (e : JournalEntry) (s : State) : (State.pend e s).disp = s.disp := by
  unfold State.pend; first | rfl | ((try dsimp only); (repeat' split) <;> simp)
@[simp] theorem State.pend_frames (e : JournalEntry) (s : State) : (State.pend e s).frames = s.frames := by
  unfold State.pend; first | rfl | ((try dsimp only); (repeat' split) <;> simp)
@[simp] theorem State.pend_roving (e : JournalEntry) (s : State) : (State.pend e s).roving = s.roving := by
  unfold State.pend; first | rfl | ((try dsimp only); (repeat' split) <;> simp)
@[simp] theorem State.pend_output (e : JournalEntry) (s : State) : (State.pend e s).output = s.output := by
  unfold State.pend; first | rfl | ((try dsimp only); (repeat' split) <;> simp)
@[simp] theorem State.pend_plan (e : JournalEntry) (s : State) : (State.pend e s).plan = s.plan := by
  unfold State.pend; first | rfl | ((try dsimp only); (repeat' split) <;> simp)
@[simp] theorem State.pend_desk (e : JournalEntry) (s : State) : (State.pend e s).desk = s.desk := by
  unfold State.pend; first | rfl | ((try dsimp only); (repeat' split) <;> simp)
@[simp] theorem State.pend_port (e : JournalEntry) (s : State) : (State.pend e s).port = s.port := by
  unfold State.pend; first | rfl | ((try dsimp only); (repeat' split) <;> simp)
@[simp] theorem State.pend_link (e : JournalEntry) (s : State) : (State.pend e s).link = s.link := by
  unfold State.pend; first | rfl | ((try dsimp only); (repeat' split) <;> simp)
@[simp] theorem State.pend_mem (e : JournalEntry) (s : State) : (State.pend e s).mem = s.mem := by
  unfold State.pend; first | rfl | ((try dsimp only); (repeat' split) <;> simp)
@[simp] theorem State.pend_work (e : JournalEntry) (s : State) : (State.pend e s).work = s.work := by
  unfold State.pend; first | rfl | ((try dsimp only); (repeat' split) <;> simp)
@[simp] theorem State.pend_pending (e : JournalEntry) (s : State) : (State.pend e s).pending = s.pending := by
  unfold State.pend; first | rfl | ((try dsimp only); (repeat' split) <;> simp)

@[simp] theorem State.enterJournal_regs (e : JournalEntry) (s : State) : (State.enterJournal e s).regs = s.regs := by
  unfold State.enterJournal; first | rfl | ((try dsimp only); (repeat' split) <;> simp)
@[simp] theorem State.enterJournal_clock (e : JournalEntry) (s : State) : (State.enterJournal e s).clock = s.clock := by
  unfold State.enterJournal; first | rfl | ((try dsimp only); (repeat' split) <;> simp)
@[simp] theorem State.enterJournal_clockMs (e : JournalEntry) (s : State) : (State.enterJournal e s).clockMs = s.clockMs := by
  unfold State.enterJournal; first | rfl | ((try dsimp only); (repeat' split) <;> simp)
@[simp] theorem State.enterJournal_watch (e : JournalEntry) (s : State) : (State.enterJournal e s).watch = s.watch := by
  unfold State.enterJournal; first | rfl | ((try dsimp only); (repeat' split) <;> simp)
@[simp] theorem State.enterJournal_rogue (e : JournalEntry) (s : State) : (State.enterJournal e s).rogue = s.rogue := by
  unfold State.enterJournal; first | rfl | ((try dsimp only); (repeat' split) <;> simp)
@[simp] theorem State.enterJournal_disp (e : JournalEntry) (s : State) : (State.enterJournal e s).disp = s.disp := by
  unfold State.enterJournal; first | rfl | ((try dsimp only); (repeat' split) <;> simp)
@[simp] theorem State.enterJournal_frames (e : JournalEntry) (s : State) : (State.enterJournal e s).frames = s.frames := by
  unfold State.enterJournal; first | rfl | ((try dsimp only); (repeat' split) <;> simp)
@[simp] theorem State.enterJournal_roving (e : JournalEntry) (s : State) : (State.enterJournal e s).roving = s.roving := by
  unfold State.enterJournal; first | rfl | ((try dsimp only); (repeat' split) <;> simp)
@[simp] theorem State.enterJournal_output (e : JournalEntry) (s : State) : (State.enterJournal e s).output = s.output := by
  unfold State.enterJournal; first | rfl | ((try dsimp only); (repeat' split) <;> simp)
@[simp] theorem State.enterJournal_plan (e : JournalEntry) (s : State) : (State.enterJournal e s).plan = s.plan := by
  unfold State.enterJournal; first | rfl | ((try dsimp only); (repeat' split) <;> simp)
@[simp] theorem State.enterJournal_desk (e : JournalEntry) (s : State) : (State.enterJournal e s).desk = s.desk := by
  unfold State.enterJournal; first | rfl | ((try dsimp only); (repeat' split) <;> simp)
@[simp] theorem State.enterJournal_port (e : JournalEntry) (s : State) : (State.enterJournal e s).port = s.port := by
  unfold State.enterJournal; first | rfl | ((try dsimp only); (repeat' split) <;> simp)
@[simp] theorem State.enterJournal_link (e : JournalEntry) (s : State) : (State.enterJournal e s).link = s.link := by
  unfold State.enterJournal; first | rfl | ((try dsimp only); (repeat' split) <;> simp)
@[simp] theorem State.enterJournal_mem (e : JournalEntry) (s : State) : (State.enterJournal e s).mem = s.mem := by
  unfold State.enterJournal; first | rfl | ((try dsimp only); (repeat' split) <;> simp)
@[simp] theorem State.enterJournal_work (e : JournalEntry) (s : State) : (State.enterJournal e s).work = s.work := by
  unfold State.enterJournal; first | rfl | ((try dsimp only); (repeat' split) <;> simp)
@[simp] theorem State.enterJournal_pending (e : JournalEntry) (s : State) : (State.enterJournal e s).pending = s.pending := by
  unfold State.enterJournal; first | rfl | ((try dsimp only); (repeat' split) <;> simp)

@[simp] theorem State.journal_regs_part (k : JournalKind) (frame unit : Nat) (fields : List Word) (s : State) : (State.journal k frame unit fields s).regs.part = s.regs.part := by
  unfold State.journal; first | rfl | ((try dsimp only); (repeat' split) <;> simp)
@[simp] theorem State.journal_regs_run (k : JournalKind) (frame unit : Nat) (fields : List Word) (s : State) : (State.journal k frame unit fields s).regs.run = s.regs.run := by
  unfold State.journal; first | rfl | ((try dsimp only); (repeat' split) <;> simp)
@[simp] theorem State.journal_regs_resume (k : JournalKind) (frame unit : Nat) (fields : List Word) (s : State) : (State.journal k frame unit fields s).regs.resume = s.regs.resume := by
  unfold State.journal; first | rfl | ((try dsimp only); (repeat' split) <;> simp)
@[simp] theorem State.journal_regs_start (k : JournalKind) (frame unit : Nat) (fields : List Word) (s : State) : (State.journal k frame unit fields s).regs.start = s.regs.start := by
  unfold State.journal; first | rfl | ((try dsimp only); (repeat' split) <;> simp)
@[simp] theorem State.journal_regs_area (k : JournalKind) (frame unit : Nat) (fields : List Word) (s : State) : (State.journal k frame unit fields s).regs.area = s.regs.area := by
  unfold State.journal; first | rfl | ((try dsimp only); (repeat' split) <;> simp)
@[simp] theorem State.journal_regs_atm (k : JournalKind) (frame unit : Nat) (fields : List Word) (s : State) : (State.journal k frame unit fields s).regs.atm = s.regs.atm := by
  unfold State.journal; first | rfl | ((try dsimp only); (repeat' split) <;> simp)
@[simp] theorem State.journal_regs_flt (k : JournalKind) (frame unit : Nat) (fields : List Word) (s : State) : (State.journal k frame unit fields s).regs.flt = s.regs.flt := by
  unfold State.journal; first | rfl | ((try dsimp only); (repeat' split) <;> simp)
@[simp] theorem State.journal_regs_startFault (k : JournalKind) (frame unit : Nat) (fields : List Word) (s : State) : (State.journal k frame unit fields s).regs.startFault = s.regs.startFault := by
  unfold State.journal; first | rfl | ((try dsimp only); (repeat' split) <;> simp)
@[simp] theorem State.journal_regs_rewriting (k : JournalKind) (frame unit : Nat) (fields : List Word) (s : State) : (State.journal k frame unit fields s).regs.rewriting = s.regs.rewriting := by
  unfold State.journal; first | rfl | ((try dsimp only); (repeat' split) <;> simp)
@[simp] theorem State.journal_regs_ending (k : JournalKind) (frame unit : Nat) (fields : List Word) (s : State) : (State.journal k frame unit fields s).regs.ending = s.regs.ending := by
  unfold State.journal; first | rfl | ((try dsimp only); (repeat' split) <;> simp)
@[simp] theorem State.journal_clock (k : JournalKind) (frame unit : Nat) (fields : List Word) (s : State) : (State.journal k frame unit fields s).clock = s.clock := by
  unfold State.journal; first | rfl | ((try dsimp only); (repeat' split) <;> simp)
@[simp] theorem State.journal_clockMs (k : JournalKind) (frame unit : Nat) (fields : List Word) (s : State) : (State.journal k frame unit fields s).clockMs = s.clockMs := by
  unfold State.journal; first | rfl | ((try dsimp only); (repeat' split) <;> simp)
@[simp] theorem State.journal_watch (k : JournalKind) (frame unit : Nat) (fields : List Word) (s : State) : (State.journal k frame unit fields s).watch = s.watch := by
  unfold State.journal; first | rfl | ((try dsimp only); (repeat' split) <;> simp)
@[simp] theorem State.journal_rogue (k : JournalKind) (frame unit : Nat) (fields : List Word) (s : State) : (State.journal k frame unit fields s).rogue = s.rogue := by
  unfold State.journal; first | rfl | ((try dsimp only); (repeat' split) <;> simp)
@[simp] theorem State.journal_disp (k : JournalKind) (frame unit : Nat) (fields : List Word) (s : State) : (State.journal k frame unit fields s).disp = s.disp := by
  unfold State.journal; first | rfl | ((try dsimp only); (repeat' split) <;> simp)
@[simp] theorem State.journal_frames (k : JournalKind) (frame unit : Nat) (fields : List Word) (s : State) : (State.journal k frame unit fields s).frames = s.frames := by
  unfold State.journal; first | rfl | ((try dsimp only); (repeat' split) <;> simp)
@[simp] theorem State.journal_roving (k : JournalKind) (frame unit : Nat) (fields : List Word) (s : State) : (State.journal k frame unit fields s).roving = s.roving := by
  unfold State.journal; first | rfl | ((try dsimp only); (repeat' split) <;> simp)
@[simp] theorem State.journal_output (k : JournalKind) (frame unit : Nat) (fields : List Word) (s : State) : (State.journal k frame unit fields s).output = s.output := by
  unfold State.journal; first | rfl | ((try dsimp only); (repeat' split) <;> simp)
@[simp] theorem State.journal_plan (k : JournalKind) (frame unit : Nat) (fields : List Word) (s : State) : (State.journal k frame unit fields s).plan = s.plan := by
  unfold State.journal; first | rfl | ((try dsimp only); (repeat' split) <;> simp)
@[simp] theorem State.journal_desk (k : JournalKind) (frame unit : Nat) (fields : List Word) (s : State) : (State.journal k frame unit fields s).desk = s.desk := by
  unfold State.journal; first | rfl | ((try dsimp only); (repeat' split) <;> simp)
@[simp] theorem State.journal_port (k : JournalKind) (frame unit : Nat) (fields : List Word) (s : State) : (State.journal k frame unit fields s).port = s.port := by
  unfold State.journal; first | rfl | ((try dsimp only); (repeat' split) <;> simp)
@[simp] theorem State.journal_link (k : JournalKind) (frame unit : Nat) (fields : List Word) (s : State) : (State.journal k frame unit fields s).link = s.link := by
  unfold State.journal; first | rfl | ((try dsimp only); (repeat' split) <;> simp)
@[simp] theorem State.journal_mem (k : JournalKind) (frame unit : Nat) (fields : List Word) (s : State) : (State.journal k frame unit fields s).mem = s.mem := by
  unfold State.journal; first | rfl | ((try dsimp only); (repeat' split) <;> simp)
@[simp] theorem State.journal_work (k : JournalKind) (frame unit : Nat) (fields : List Word) (s : State) : (State.journal k frame unit fields s).work = s.work := by
  unfold State.journal; first | rfl | ((try dsimp only); (repeat' split) <;> simp)
@[simp] theorem State.journal_pending (k : JournalKind) (frame unit : Nat) (fields : List Word) (s : State) : (State.journal k frame unit fields s).pending = s.pending := by
  unfold State.journal; first | rfl | ((try dsimp only); (repeat' split) <;> simp)

@[simp] theorem State.count_regs (f : Nat) (g : Counts → Counts) (s : State) : (State.count f g s).regs = s.regs := by
  unfold State.count; first | rfl | ((try dsimp only); (repeat' split) <;> simp)
@[simp] theorem State.count_clock (f : Nat) (g : Counts → Counts) (s : State) : (State.count f g s).clock = s.clock := by
  unfold State.count; first | rfl | ((try dsimp only); (repeat' split) <;> simp)
@[simp] theorem State.count_clockMs (f : Nat) (g : Counts → Counts) (s : State) : (State.count f g s).clockMs = s.clockMs := by
  unfold State.count; first | rfl | ((try dsimp only); (repeat' split) <;> simp)
@[simp] theorem State.count_watch (f : Nat) (g : Counts → Counts) (s : State) : (State.count f g s).watch = s.watch := by
  unfold State.count; first | rfl | ((try dsimp only); (repeat' split) <;> simp)
@[simp] theorem State.count_rogue (f : Nat) (g : Counts → Counts) (s : State) : (State.count f g s).rogue = s.rogue := by
  unfold State.count; first | rfl | ((try dsimp only); (repeat' split) <;> simp)
@[simp] theorem State.count_disp (f : Nat) (g : Counts → Counts) (s : State) : (State.count f g s).disp = s.disp := by
  unfold State.count; first | rfl | ((try dsimp only); (repeat' split) <;> simp)
@[simp] theorem State.count_frames (f : Nat) (g : Counts → Counts) (s : State) : (State.count f g s).frames = s.frames := by
  unfold State.count; first | rfl | ((try dsimp only); (repeat' split) <;> simp)
@[simp] theorem State.count_roving (f : Nat) (g : Counts → Counts) (s : State) : (State.count f g s).roving = s.roving := by
  unfold State.count; first | rfl | ((try dsimp only); (repeat' split) <;> simp)
@[simp] theorem State.count_output_rollers (f : Nat) (g : Counts → Counts) (s : State) : (State.count f g s).output.rollers = s.output.rollers := by
  unfold State.count; first | rfl | ((try dsimp only); (repeat' split) <;> simp)
@[simp] theorem State.count_output_page (f : Nat) (g : Counts → Counts) (s : State) : (State.count f g s).output.page = s.output.page := by
  unfold State.count; first | rfl | ((try dsimp only); (repeat' split) <;> simp)
@[simp] theorem State.count_output_view (f : Nat) (g : Counts → Counts) (s : State) : (State.count f g s).output.view = s.output.view := by
  unfold State.count; first | rfl | ((try dsimp only); (repeat' split) <;> simp)
@[simp] theorem State.count_output_shift (f : Nat) (g : Counts → Counts) (s : State) : (State.count f g s).output.shift = s.output.shift := by
  unfold State.count; first | rfl | ((try dsimp only); (repeat' split) <;> simp)
@[simp] theorem State.count_output_wait (f : Nat) (g : Counts → Counts) (s : State) : (State.count f g s).output.wait = s.output.wait := by
  unfold State.count; first | rfl | ((try dsimp only); (repeat' split) <;> simp)
@[simp] theorem State.count_plan (f : Nat) (g : Counts → Counts) (s : State) : (State.count f g s).plan = s.plan := by
  unfold State.count; first | rfl | ((try dsimp only); (repeat' split) <;> simp)
@[simp] theorem State.count_desk (f : Nat) (g : Counts → Counts) (s : State) : (State.count f g s).desk = s.desk := by
  unfold State.count; first | rfl | ((try dsimp only); (repeat' split) <;> simp)
@[simp] theorem State.count_writer_pending (f : Nat) (g : Counts → Counts) (s : State) : (State.count f g s).writer.pending = s.writer.pending := by
  unfold State.count; first | rfl | ((try dsimp only); (repeat' split) <;> simp)
@[simp] theorem State.count_writer_current (f : Nat) (g : Counts → Counts) (s : State) : (State.count f g s).writer.current = s.writer.current := by
  unfold State.count; first | rfl | ((try dsimp only); (repeat' split) <;> simp)
@[simp] theorem State.count_writer_numbers (f : Nat) (g : Counts → Counts) (s : State) : (State.count f g s).writer.numbers = s.writer.numbers := by
  unfold State.count; first | rfl | ((try dsimp only); (repeat' split) <;> simp)
@[simp] theorem State.count_writer_writeMark (f : Nat) (g : Counts → Counts) (s : State) : (State.count f g s).writer.writeMark = s.writer.writeMark := by
  unfold State.count; first | rfl | ((try dsimp only); (repeat' split) <;> simp)
@[simp] theorem State.count_writer_capacity (f : Nat) (g : Counts → Counts) (s : State) : (State.count f g s).writer.capacity = s.writer.capacity := by
  unfold State.count; first | rfl | ((try dsimp only); (repeat' split) <;> simp)
@[simp] theorem State.count_port (f : Nat) (g : Counts → Counts) (s : State) : (State.count f g s).port = s.port := by
  unfold State.count; first | rfl | ((try dsimp only); (repeat' split) <;> simp)
@[simp] theorem State.count_link (f : Nat) (g : Counts → Counts) (s : State) : (State.count f g s).link = s.link := by
  unfold State.count; first | rfl | ((try dsimp only); (repeat' split) <;> simp)
@[simp] theorem State.count_mem (f : Nat) (g : Counts → Counts) (s : State) : (State.count f g s).mem = s.mem := by
  unfold State.count; first | rfl | ((try dsimp only); (repeat' split) <;> simp)
@[simp] theorem State.count_work (f : Nat) (g : Counts → Counts) (s : State) : (State.count f g s).work = s.work := by
  unfold State.count; first | rfl | ((try dsimp only); (repeat' split) <;> simp)
@[simp] theorem State.count_pending (f : Nat) (g : Counts → Counts) (s : State) : (State.count f g s).pending = s.pending := by
  unfold State.count; first | rfl | ((try dsimp only); (repeat' split) <;> simp)

@[simp] theorem State.finish_regs (cell : Nat) (reason : Option Reason) (words : List Word) (s : State) : (State.finish cell reason words s).regs = s.regs := by
  unfold State.finish; first | rfl | ((try dsimp only); (repeat' split) <;> simp)
@[simp] theorem State.finish_clock (cell : Nat) (reason : Option Reason) (words : List Word) (s : State) : (State.finish cell reason words s).clock = s.clock := by
  unfold State.finish; first | rfl | ((try dsimp only); (repeat' split) <;> simp)
@[simp] theorem State.finish_clockMs (cell : Nat) (reason : Option Reason) (words : List Word) (s : State) : (State.finish cell reason words s).clockMs = s.clockMs := by
  unfold State.finish; first | rfl | ((try dsimp only); (repeat' split) <;> simp)
@[simp] theorem State.finish_watch (cell : Nat) (reason : Option Reason) (words : List Word) (s : State) : (State.finish cell reason words s).watch = s.watch := by
  unfold State.finish; first | rfl | ((try dsimp only); (repeat' split) <;> simp)
@[simp] theorem State.finish_rogue (cell : Nat) (reason : Option Reason) (words : List Word) (s : State) : (State.finish cell reason words s).rogue = s.rogue := by
  unfold State.finish; first | rfl | ((try dsimp only); (repeat' split) <;> simp)
@[simp] theorem State.finish_disp (cell : Nat) (reason : Option Reason) (words : List Word) (s : State) : (State.finish cell reason words s).disp = s.disp := by
  unfold State.finish; first | rfl | ((try dsimp only); (repeat' split) <;> simp)
@[simp] theorem State.finish_frames (cell : Nat) (reason : Option Reason) (words : List Word) (s : State) : (State.finish cell reason words s).frames = s.frames := by
  unfold State.finish; first | rfl | ((try dsimp only); (repeat' split) <;> simp)
@[simp] theorem State.finish_roving (cell : Nat) (reason : Option Reason) (words : List Word) (s : State) : (State.finish cell reason words s).roving = s.roving := by
  unfold State.finish; first | rfl | ((try dsimp only); (repeat' split) <;> simp)
@[simp] theorem State.finish_output (cell : Nat) (reason : Option Reason) (words : List Word) (s : State) : (State.finish cell reason words s).output = s.output := by
  unfold State.finish; first | rfl | ((try dsimp only); (repeat' split) <;> simp)
@[simp] theorem State.finish_plan (cell : Nat) (reason : Option Reason) (words : List Word) (s : State) : (State.finish cell reason words s).plan = s.plan := by
  unfold State.finish; first | rfl | ((try dsimp only); (repeat' split) <;> simp)
@[simp] theorem State.finish_desk_deferred (cell : Nat) (reason : Option Reason) (words : List Word) (s : State) : (State.finish cell reason words s).desk.deferred = s.desk.deferred := by
  unfold State.finish; first | rfl | ((try dsimp only); (repeat' split) <;> simp)
@[simp] theorem State.finish_desk_scan (cell : Nat) (reason : Option Reason) (words : List Word) (s : State) : (State.finish cell reason words s).desk.scan = s.desk.scan := by
  unfold State.finish; first | rfl | ((try dsimp only); (repeat' split) <;> simp)
@[simp] theorem State.finish_desk_lastTaken (cell : Nat) (reason : Option Reason) (words : List Word) (s : State) : (State.finish cell reason words s).desk.lastTaken = s.desk.lastTaken := by
  unfold State.finish; first | rfl | ((try dsimp only); (repeat' split) <;> simp)
@[simp] theorem State.finish_writer_pending (cell : Nat) (reason : Option Reason) (words : List Word) (s : State) : (State.finish cell reason words s).writer.pending = s.writer.pending := by
  unfold State.finish; first | rfl | ((try dsimp only); (repeat' split) <;> simp)
@[simp] theorem State.finish_writer_current (cell : Nat) (reason : Option Reason) (words : List Word) (s : State) : (State.finish cell reason words s).writer.current = s.writer.current := by
  unfold State.finish; first | rfl | ((try dsimp only); (repeat' split) <;> simp)
@[simp] theorem State.finish_writer_numbers (cell : Nat) (reason : Option Reason) (words : List Word) (s : State) : (State.finish cell reason words s).writer.numbers = s.writer.numbers := by
  unfold State.finish; first | rfl | ((try dsimp only); (repeat' split) <;> simp)
@[simp] theorem State.finish_writer_writeMark (cell : Nat) (reason : Option Reason) (words : List Word) (s : State) : (State.finish cell reason words s).writer.writeMark = s.writer.writeMark := by
  unfold State.finish; first | rfl | ((try dsimp only); (repeat' split) <;> simp)
@[simp] theorem State.finish_writer_capacity (cell : Nat) (reason : Option Reason) (words : List Word) (s : State) : (State.finish cell reason words s).writer.capacity = s.writer.capacity := by
  unfold State.finish; first | rfl | ((try dsimp only); (repeat' split) <;> simp)
@[simp] theorem State.finish_port (cell : Nat) (reason : Option Reason) (words : List Word) (s : State) : (State.finish cell reason words s).port = s.port := by
  unfold State.finish; first | rfl | ((try dsimp only); (repeat' split) <;> simp)
@[simp] theorem State.finish_link (cell : Nat) (reason : Option Reason) (words : List Word) (s : State) : (State.finish cell reason words s).link = s.link := by
  unfold State.finish; first | rfl | ((try dsimp only); (repeat' split) <;> simp)
@[simp] theorem State.finish_mem (cell : Nat) (reason : Option Reason) (words : List Word) (s : State) : (State.finish cell reason words s).mem = s.mem := by
  unfold State.finish; first | rfl | ((try dsimp only); (repeat' split) <;> simp)
@[simp] theorem State.finish_work (cell : Nat) (reason : Option Reason) (words : List Word) (s : State) : (State.finish cell reason words s).work = s.work := by
  unfold State.finish; first | rfl | ((try dsimp only); (repeat' split) <;> simp)
@[simp] theorem State.finish_pending (cell : Nat) (reason : Option Reason) (words : List Word) (s : State) : (State.finish cell reason words s).pending = s.pending := by
  unfold State.finish; first | rfl | ((try dsimp only); (repeat' split) <;> simp)

@[simp] theorem State.finishBook_regs (sel : BookEntry → Bool) (reason : Option Reason) (words : List Word) (s : State) : (State.finishBook sel reason words s).regs = s.regs :=
  State.each_keeps State.regs _ _ (fun x t => by simp) s
@[simp] theorem State.finishBook_clock (sel : BookEntry → Bool) (reason : Option Reason) (words : List Word) (s : State) : (State.finishBook sel reason words s).clock = s.clock :=
  State.each_keeps State.clock _ _ (fun x t => by simp) s
@[simp] theorem State.finishBook_clockMs (sel : BookEntry → Bool) (reason : Option Reason) (words : List Word) (s : State) : (State.finishBook sel reason words s).clockMs = s.clockMs :=
  State.each_keeps State.clockMs _ _ (fun x t => by simp) s
@[simp] theorem State.finishBook_watch (sel : BookEntry → Bool) (reason : Option Reason) (words : List Word) (s : State) : (State.finishBook sel reason words s).watch = s.watch :=
  State.each_keeps State.watch _ _ (fun x t => by simp) s
@[simp] theorem State.finishBook_rogue (sel : BookEntry → Bool) (reason : Option Reason) (words : List Word) (s : State) : (State.finishBook sel reason words s).rogue = s.rogue :=
  State.each_keeps State.rogue _ _ (fun x t => by simp) s
@[simp] theorem State.finishBook_disp (sel : BookEntry → Bool) (reason : Option Reason) (words : List Word) (s : State) : (State.finishBook sel reason words s).disp = s.disp :=
  State.each_keeps State.disp _ _ (fun x t => by simp) s
@[simp] theorem State.finishBook_frames (sel : BookEntry → Bool) (reason : Option Reason) (words : List Word) (s : State) : (State.finishBook sel reason words s).frames = s.frames :=
  State.each_keeps State.frames _ _ (fun x t => by simp) s
@[simp] theorem State.finishBook_roving (sel : BookEntry → Bool) (reason : Option Reason) (words : List Word) (s : State) : (State.finishBook sel reason words s).roving = s.roving :=
  State.each_keeps State.roving _ _ (fun x t => by simp) s
@[simp] theorem State.finishBook_output (sel : BookEntry → Bool) (reason : Option Reason) (words : List Word) (s : State) : (State.finishBook sel reason words s).output = s.output :=
  State.each_keeps State.output _ _ (fun x t => by simp) s
@[simp] theorem State.finishBook_plan (sel : BookEntry → Bool) (reason : Option Reason) (words : List Word) (s : State) : (State.finishBook sel reason words s).plan = s.plan :=
  State.each_keeps State.plan _ _ (fun x t => by simp) s
@[simp] theorem State.finishBook_desk_deferred (sel : BookEntry → Bool) (reason : Option Reason) (words : List Word) (s : State) : (State.finishBook sel reason words s).desk.deferred = s.desk.deferred :=
  State.each_keeps (fun t => t.desk.deferred) _ _ (fun x t => by simp) s
@[simp] theorem State.finishBook_desk_scan (sel : BookEntry → Bool) (reason : Option Reason) (words : List Word) (s : State) : (State.finishBook sel reason words s).desk.scan = s.desk.scan :=
  State.each_keeps (fun t => t.desk.scan) _ _ (fun x t => by simp) s
@[simp] theorem State.finishBook_desk_lastTaken (sel : BookEntry → Bool) (reason : Option Reason) (words : List Word) (s : State) : (State.finishBook sel reason words s).desk.lastTaken = s.desk.lastTaken :=
  State.each_keeps (fun t => t.desk.lastTaken) _ _ (fun x t => by simp) s
@[simp] theorem State.finishBook_writer_pending (sel : BookEntry → Bool) (reason : Option Reason) (words : List Word) (s : State) : (State.finishBook sel reason words s).writer.pending = s.writer.pending :=
  State.each_keeps (fun t => t.writer.pending) _ _ (fun x t => by simp) s
@[simp] theorem State.finishBook_writer_current (sel : BookEntry → Bool) (reason : Option Reason) (words : List Word) (s : State) : (State.finishBook sel reason words s).writer.current = s.writer.current :=
  State.each_keeps (fun t => t.writer.current) _ _ (fun x t => by simp) s
@[simp] theorem State.finishBook_writer_numbers (sel : BookEntry → Bool) (reason : Option Reason) (words : List Word) (s : State) : (State.finishBook sel reason words s).writer.numbers = s.writer.numbers :=
  State.each_keeps (fun t => t.writer.numbers) _ _ (fun x t => by simp) s
@[simp] theorem State.finishBook_writer_writeMark (sel : BookEntry → Bool) (reason : Option Reason) (words : List Word) (s : State) : (State.finishBook sel reason words s).writer.writeMark = s.writer.writeMark :=
  State.each_keeps (fun t => t.writer.writeMark) _ _ (fun x t => by simp) s
@[simp] theorem State.finishBook_writer_capacity (sel : BookEntry → Bool) (reason : Option Reason) (words : List Word) (s : State) : (State.finishBook sel reason words s).writer.capacity = s.writer.capacity :=
  State.each_keeps (fun t => t.writer.capacity) _ _ (fun x t => by simp) s
@[simp] theorem State.finishBook_port (sel : BookEntry → Bool) (reason : Option Reason) (words : List Word) (s : State) : (State.finishBook sel reason words s).port = s.port :=
  State.each_keeps State.port _ _ (fun x t => by simp) s
@[simp] theorem State.finishBook_link (sel : BookEntry → Bool) (reason : Option Reason) (words : List Word) (s : State) : (State.finishBook sel reason words s).link = s.link :=
  State.each_keeps State.link _ _ (fun x t => by simp) s
@[simp] theorem State.finishBook_mem (sel : BookEntry → Bool) (reason : Option Reason) (words : List Word) (s : State) : (State.finishBook sel reason words s).mem = s.mem :=
  State.each_keeps State.mem _ _ (fun x t => by simp) s
@[simp] theorem State.finishBook_work (sel : BookEntry → Bool) (reason : Option Reason) (words : List Word) (s : State) : (State.finishBook sel reason words s).work = s.work :=
  State.each_keeps State.work _ _ (fun x t => by simp) s
@[simp] theorem State.finishBook_pending (sel : BookEntry → Bool) (reason : Option Reason) (words : List Word) (s : State) : (State.finishBook sel reason words s).pending = s.pending :=
  State.each_keeps State.pending _ _ (fun x t => by simp) s

@[simp] theorem State.journalLost_regs_part (a : Nat) (cause : Word) (s : State) : (State.journalLost a cause s).regs.part = s.regs.part := by
  unfold State.journalLost; first | rfl | ((try dsimp only); (repeat' split) <;> simp)
@[simp] theorem State.journalLost_regs_run (a : Nat) (cause : Word) (s : State) : (State.journalLost a cause s).regs.run = s.regs.run := by
  unfold State.journalLost; first | rfl | ((try dsimp only); (repeat' split) <;> simp)
@[simp] theorem State.journalLost_regs_resume (a : Nat) (cause : Word) (s : State) : (State.journalLost a cause s).regs.resume = s.regs.resume := by
  unfold State.journalLost; first | rfl | ((try dsimp only); (repeat' split) <;> simp)
@[simp] theorem State.journalLost_regs_start (a : Nat) (cause : Word) (s : State) : (State.journalLost a cause s).regs.start = s.regs.start := by
  unfold State.journalLost; first | rfl | ((try dsimp only); (repeat' split) <;> simp)
@[simp] theorem State.journalLost_regs_area (a : Nat) (cause : Word) (s : State) : (State.journalLost a cause s).regs.area = s.regs.area := by
  unfold State.journalLost; first | rfl | ((try dsimp only); (repeat' split) <;> simp)
@[simp] theorem State.journalLost_regs_atm (a : Nat) (cause : Word) (s : State) : (State.journalLost a cause s).regs.atm = s.regs.atm := by
  unfold State.journalLost; first | rfl | ((try dsimp only); (repeat' split) <;> simp)
@[simp] theorem State.journalLost_regs_flt (a : Nat) (cause : Word) (s : State) : (State.journalLost a cause s).regs.flt = s.regs.flt := by
  unfold State.journalLost; first | rfl | ((try dsimp only); (repeat' split) <;> simp)
@[simp] theorem State.journalLost_regs_startFault (a : Nat) (cause : Word) (s : State) : (State.journalLost a cause s).regs.startFault = s.regs.startFault := by
  unfold State.journalLost; first | rfl | ((try dsimp only); (repeat' split) <;> simp)
@[simp] theorem State.journalLost_regs_rewriting (a : Nat) (cause : Word) (s : State) : (State.journalLost a cause s).regs.rewriting = s.regs.rewriting := by
  unfold State.journalLost; first | rfl | ((try dsimp only); (repeat' split) <;> simp)
@[simp] theorem State.journalLost_regs_ending (a : Nat) (cause : Word) (s : State) : (State.journalLost a cause s).regs.ending = s.regs.ending := by
  unfold State.journalLost; first | rfl | ((try dsimp only); (repeat' split) <;> simp)
@[simp] theorem State.journalLost_clock (a : Nat) (cause : Word) (s : State) : (State.journalLost a cause s).clock = s.clock := by
  unfold State.journalLost; first | rfl | ((try dsimp only); (repeat' split) <;> simp)
@[simp] theorem State.journalLost_clockMs (a : Nat) (cause : Word) (s : State) : (State.journalLost a cause s).clockMs = s.clockMs := by
  unfold State.journalLost; first | rfl | ((try dsimp only); (repeat' split) <;> simp)
@[simp] theorem State.journalLost_watch (a : Nat) (cause : Word) (s : State) : (State.journalLost a cause s).watch = s.watch := by
  unfold State.journalLost; first | rfl | ((try dsimp only); (repeat' split) <;> simp)
@[simp] theorem State.journalLost_rogue (a : Nat) (cause : Word) (s : State) : (State.journalLost a cause s).rogue = s.rogue := by
  unfold State.journalLost; first | rfl | ((try dsimp only); (repeat' split) <;> simp)
@[simp] theorem State.journalLost_disp (a : Nat) (cause : Word) (s : State) : (State.journalLost a cause s).disp = s.disp := by
  unfold State.journalLost; first | rfl | ((try dsimp only); (repeat' split) <;> simp)
@[simp] theorem State.journalLost_frames (a : Nat) (cause : Word) (s : State) : (State.journalLost a cause s).frames = s.frames := by
  unfold State.journalLost; first | rfl | ((try dsimp only); (repeat' split) <;> simp)
@[simp] theorem State.journalLost_roving (a : Nat) (cause : Word) (s : State) : (State.journalLost a cause s).roving = s.roving := by
  unfold State.journalLost; first | rfl | ((try dsimp only); (repeat' split) <;> simp)
@[simp] theorem State.journalLost_output (a : Nat) (cause : Word) (s : State) : (State.journalLost a cause s).output = s.output := by
  unfold State.journalLost; first | rfl | ((try dsimp only); (repeat' split) <;> simp)
@[simp] theorem State.journalLost_plan (a : Nat) (cause : Word) (s : State) : (State.journalLost a cause s).plan = s.plan := by
  unfold State.journalLost; first | rfl | ((try dsimp only); (repeat' split) <;> simp)
@[simp] theorem State.journalLost_desk (a : Nat) (cause : Word) (s : State) : (State.journalLost a cause s).desk = s.desk := by
  unfold State.journalLost; first | rfl | ((try dsimp only); (repeat' split) <;> simp)
@[simp] theorem State.journalLost_port (a : Nat) (cause : Word) (s : State) : (State.journalLost a cause s).port = s.port := by
  unfold State.journalLost; first | rfl | ((try dsimp only); (repeat' split) <;> simp)
@[simp] theorem State.journalLost_link (a : Nat) (cause : Word) (s : State) : (State.journalLost a cause s).link = s.link := by
  unfold State.journalLost; first | rfl | ((try dsimp only); (repeat' split) <;> simp)
@[simp] theorem State.journalLost_mem (a : Nat) (cause : Word) (s : State) : (State.journalLost a cause s).mem = s.mem := by
  unfold State.journalLost; first | rfl | ((try dsimp only); (repeat' split) <;> simp)
@[simp] theorem State.journalLost_work (a : Nat) (cause : Word) (s : State) : (State.journalLost a cause s).work = s.work := by
  unfold State.journalLost; first | rfl | ((try dsimp only); (repeat' split) <;> simp)
@[simp] theorem State.journalLost_pending (a : Nat) (cause : Word) (s : State) : (State.journalLost a cause s).pending = s.pending := by
  unfold State.journalLost; first | rfl | ((try dsimp only); (repeat' split) <;> simp)

@[simp] theorem State.loseUnit_regs_part (a : Nat) (cause : Word) (s : State) : (State.loseUnit a cause s).regs.part = s.regs.part := by
  unfold State.loseUnit; first | rfl | ((try dsimp only); (repeat' split) <;> simp)
@[simp] theorem State.loseUnit_regs_run (a : Nat) (cause : Word) (s : State) : (State.loseUnit a cause s).regs.run = s.regs.run := by
  unfold State.loseUnit; first | rfl | ((try dsimp only); (repeat' split) <;> simp)
@[simp] theorem State.loseUnit_regs_resume (a : Nat) (cause : Word) (s : State) : (State.loseUnit a cause s).regs.resume = s.regs.resume := by
  unfold State.loseUnit; first | rfl | ((try dsimp only); (repeat' split) <;> simp)
@[simp] theorem State.loseUnit_regs_start (a : Nat) (cause : Word) (s : State) : (State.loseUnit a cause s).regs.start = s.regs.start := by
  unfold State.loseUnit; first | rfl | ((try dsimp only); (repeat' split) <;> simp)
@[simp] theorem State.loseUnit_regs_area (a : Nat) (cause : Word) (s : State) : (State.loseUnit a cause s).regs.area = s.regs.area := by
  unfold State.loseUnit; first | rfl | ((try dsimp only); (repeat' split) <;> simp)
@[simp] theorem State.loseUnit_regs_atm (a : Nat) (cause : Word) (s : State) : (State.loseUnit a cause s).regs.atm = s.regs.atm := by
  unfold State.loseUnit; first | rfl | ((try dsimp only); (repeat' split) <;> simp)
@[simp] theorem State.loseUnit_regs_flt (a : Nat) (cause : Word) (s : State) : (State.loseUnit a cause s).regs.flt = s.regs.flt := by
  unfold State.loseUnit; first | rfl | ((try dsimp only); (repeat' split) <;> simp)
@[simp] theorem State.loseUnit_regs_startFault (a : Nat) (cause : Word) (s : State) : (State.loseUnit a cause s).regs.startFault = s.regs.startFault := by
  unfold State.loseUnit; first | rfl | ((try dsimp only); (repeat' split) <;> simp)
@[simp] theorem State.loseUnit_regs_rewriting (a : Nat) (cause : Word) (s : State) : (State.loseUnit a cause s).regs.rewriting = s.regs.rewriting := by
  unfold State.loseUnit; first | rfl | ((try dsimp only); (repeat' split) <;> simp)
@[simp] theorem State.loseUnit_regs_ending (a : Nat) (cause : Word) (s : State) : (State.loseUnit a cause s).regs.ending = s.regs.ending := by
  unfold State.loseUnit; first | rfl | ((try dsimp only); (repeat' split) <;> simp)
@[simp] theorem State.loseUnit_clock (a : Nat) (cause : Word) (s : State) : (State.loseUnit a cause s).clock = s.clock := by
  unfold State.loseUnit; first | rfl | ((try dsimp only); (repeat' split) <;> simp)
@[simp] theorem State.loseUnit_clockMs (a : Nat) (cause : Word) (s : State) : (State.loseUnit a cause s).clockMs = s.clockMs := by
  unfold State.loseUnit; first | rfl | ((try dsimp only); (repeat' split) <;> simp)
@[simp] theorem State.loseUnit_watch (a : Nat) (cause : Word) (s : State) : (State.loseUnit a cause s).watch = s.watch := by
  unfold State.loseUnit; first | rfl | ((try dsimp only); (repeat' split) <;> simp)
@[simp] theorem State.loseUnit_rogue (a : Nat) (cause : Word) (s : State) : (State.loseUnit a cause s).rogue = s.rogue := by
  unfold State.loseUnit; first | rfl | ((try dsimp only); (repeat' split) <;> simp)
@[simp] theorem State.loseUnit_disp (a : Nat) (cause : Word) (s : State) : (State.loseUnit a cause s).disp = s.disp := by
  unfold State.loseUnit; first | rfl | ((try dsimp only); (repeat' split) <;> simp)
@[simp] theorem State.loseUnit_frames (a : Nat) (cause : Word) (s : State) : (State.loseUnit a cause s).frames = s.frames := by
  unfold State.loseUnit; first | rfl | ((try dsimp only); (repeat' split) <;> simp)
@[simp] theorem State.loseUnit_roving (a : Nat) (cause : Word) (s : State) : (State.loseUnit a cause s).roving = s.roving := by
  unfold State.loseUnit; first | rfl | ((try dsimp only); (repeat' split) <;> simp)
@[simp] theorem State.loseUnit_output (a : Nat) (cause : Word) (s : State) : (State.loseUnit a cause s).output = s.output := by
  unfold State.loseUnit; first | rfl | ((try dsimp only); (repeat' split) <;> simp)
@[simp] theorem State.loseUnit_plan (a : Nat) (cause : Word) (s : State) : (State.loseUnit a cause s).plan = s.plan := by
  unfold State.loseUnit; first | rfl | ((try dsimp only); (repeat' split) <;> simp)
@[simp] theorem State.loseUnit_desk (a : Nat) (cause : Word) (s : State) : (State.loseUnit a cause s).desk = s.desk := by
  unfold State.loseUnit; first | rfl | ((try dsimp only); (repeat' split) <;> simp)
@[simp] theorem State.loseUnit_port (a : Nat) (cause : Word) (s : State) : (State.loseUnit a cause s).port = s.port := by
  unfold State.loseUnit; first | rfl | ((try dsimp only); (repeat' split) <;> simp)
@[simp] theorem State.loseUnit_link_mode (a : Nat) (cause : Word) (s : State) : (State.loseUnit a cause s).link.mode = s.link.mode := by
  unfold State.loseUnit; first | rfl | ((try dsimp only); (repeat' split) <;> simp)
@[simp] theorem State.loseUnit_link_cycle (a : Nat) (cause : Word) (s : State) : (State.loseUnit a cause s).link.cycle = s.link.cycle := by
  unfold State.loseUnit; first | rfl | ((try dsimp only); (repeat' split) <;> simp)
@[simp] theorem State.loseUnit_link_next (a : Nat) (cause : Word) (s : State) : (State.loseUnit a cause s).link.next = s.link.next := by
  unfold State.loseUnit; first | rfl | ((try dsimp only); (repeat' split) <;> simp)
@[simp] theorem State.loseUnit_link_visit (a : Nat) (cause : Word) (s : State) : (State.loseUnit a cause s).link.visit = s.link.visit := by
  unfold State.loseUnit; first | rfl | ((try dsimp only); (repeat' split) <;> simp)
@[simp] theorem State.loseUnit_link_idle (a : Nat) (cause : Word) (s : State) : (State.loseUnit a cause s).link.idle = s.link.idle := by
  unfold State.loseUnit; first | rfl | ((try dsimp only); (repeat' split) <;> simp)
@[simp] theorem State.loseUnit_mem (a : Nat) (cause : Word) (s : State) : (State.loseUnit a cause s).mem = s.mem := by
  unfold State.loseUnit; first | rfl | ((try dsimp only); (repeat' split) <;> simp)
@[simp] theorem State.loseUnit_pending (a : Nat) (cause : Word) (s : State) : (State.loseUnit a cause s).pending = s.pending := by
  unfold State.loseUnit; first | rfl | ((try dsimp only); (repeat' split) <;> simp)

@[simp] theorem State.hand_regs_part (a : Nat) (c : Cmd) (s : State) : (State.hand a c s).regs.part = s.regs.part := by
  unfold State.hand; first | rfl | ((try dsimp only); (repeat' split) <;> simp)
@[simp] theorem State.hand_regs_run (a : Nat) (c : Cmd) (s : State) : (State.hand a c s).regs.run = s.regs.run := by
  unfold State.hand; first | rfl | ((try dsimp only); (repeat' split) <;> simp)
@[simp] theorem State.hand_regs_resume (a : Nat) (c : Cmd) (s : State) : (State.hand a c s).regs.resume = s.regs.resume := by
  unfold State.hand; first | rfl | ((try dsimp only); (repeat' split) <;> simp)
@[simp] theorem State.hand_regs_start (a : Nat) (c : Cmd) (s : State) : (State.hand a c s).regs.start = s.regs.start := by
  unfold State.hand; first | rfl | ((try dsimp only); (repeat' split) <;> simp)
@[simp] theorem State.hand_regs_area (a : Nat) (c : Cmd) (s : State) : (State.hand a c s).regs.area = s.regs.area := by
  unfold State.hand; first | rfl | ((try dsimp only); (repeat' split) <;> simp)
@[simp] theorem State.hand_regs_atm (a : Nat) (c : Cmd) (s : State) : (State.hand a c s).regs.atm = s.regs.atm := by
  unfold State.hand; first | rfl | ((try dsimp only); (repeat' split) <;> simp)
@[simp] theorem State.hand_regs_flt (a : Nat) (c : Cmd) (s : State) : (State.hand a c s).regs.flt = s.regs.flt := by
  unfold State.hand; first | rfl | ((try dsimp only); (repeat' split) <;> simp)
@[simp] theorem State.hand_regs_startFault (a : Nat) (c : Cmd) (s : State) : (State.hand a c s).regs.startFault = s.regs.startFault := by
  unfold State.hand; first | rfl | ((try dsimp only); (repeat' split) <;> simp)
@[simp] theorem State.hand_regs_rewriting (a : Nat) (c : Cmd) (s : State) : (State.hand a c s).regs.rewriting = s.regs.rewriting := by
  unfold State.hand; first | rfl | ((try dsimp only); (repeat' split) <;> simp)
@[simp] theorem State.hand_regs_ending (a : Nat) (c : Cmd) (s : State) : (State.hand a c s).regs.ending = s.regs.ending := by
  unfold State.hand; first | rfl | ((try dsimp only); (repeat' split) <;> simp)
@[simp] theorem State.hand_clock (a : Nat) (c : Cmd) (s : State) : (State.hand a c s).clock = s.clock := by
  unfold State.hand; first | rfl | ((try dsimp only); (repeat' split) <;> simp)
@[simp] theorem State.hand_clockMs (a : Nat) (c : Cmd) (s : State) : (State.hand a c s).clockMs = s.clockMs := by
  unfold State.hand; first | rfl | ((try dsimp only); (repeat' split) <;> simp)
@[simp] theorem State.hand_watch (a : Nat) (c : Cmd) (s : State) : (State.hand a c s).watch = s.watch := by
  unfold State.hand; first | rfl | ((try dsimp only); (repeat' split) <;> simp)
@[simp] theorem State.hand_rogue (a : Nat) (c : Cmd) (s : State) : (State.hand a c s).rogue = s.rogue := by
  unfold State.hand; first | rfl | ((try dsimp only); (repeat' split) <;> simp)
@[simp] theorem State.hand_disp (a : Nat) (c : Cmd) (s : State) : (State.hand a c s).disp = s.disp := by
  unfold State.hand; first | rfl | ((try dsimp only); (repeat' split) <;> simp)
@[simp] theorem State.hand_frames (a : Nat) (c : Cmd) (s : State) : (State.hand a c s).frames = s.frames := by
  unfold State.hand; first | rfl | ((try dsimp only); (repeat' split) <;> simp)
@[simp] theorem State.hand_roving (a : Nat) (c : Cmd) (s : State) : (State.hand a c s).roving = s.roving := by
  unfold State.hand; first | rfl | ((try dsimp only); (repeat' split) <;> simp)
@[simp] theorem State.hand_output (a : Nat) (c : Cmd) (s : State) : (State.hand a c s).output = s.output := by
  unfold State.hand; first | rfl | ((try dsimp only); (repeat' split) <;> simp)
@[simp] theorem State.hand_plan (a : Nat) (c : Cmd) (s : State) : (State.hand a c s).plan = s.plan := by
  unfold State.hand; first | rfl | ((try dsimp only); (repeat' split) <;> simp)
@[simp] theorem State.hand_desk (a : Nat) (c : Cmd) (s : State) : (State.hand a c s).desk = s.desk := by
  unfold State.hand; first | rfl | ((try dsimp only); (repeat' split) <;> simp)
@[simp] theorem State.hand_port (a : Nat) (c : Cmd) (s : State) : (State.hand a c s).port = s.port := by
  unfold State.hand; first | rfl | ((try dsimp only); (repeat' split) <;> simp)
@[simp] theorem State.hand_link_mode (a : Nat) (c : Cmd) (s : State) : (State.hand a c s).link.mode = s.link.mode := by
  unfold State.hand; first | rfl | ((try dsimp only); (repeat' split) <;> simp)
@[simp] theorem State.hand_link_cycle (a : Nat) (c : Cmd) (s : State) : (State.hand a c s).link.cycle = s.link.cycle := by
  unfold State.hand; first | rfl | ((try dsimp only); (repeat' split) <;> simp)
@[simp] theorem State.hand_link_next (a : Nat) (c : Cmd) (s : State) : (State.hand a c s).link.next = s.link.next := by
  unfold State.hand; first | rfl | ((try dsimp only); (repeat' split) <;> simp)
@[simp] theorem State.hand_link_visit (a : Nat) (c : Cmd) (s : State) : (State.hand a c s).link.visit = s.link.visit := by
  unfold State.hand; first | rfl | ((try dsimp only); (repeat' split) <;> simp)
@[simp] theorem State.hand_link_idle (a : Nat) (c : Cmd) (s : State) : (State.hand a c s).link.idle = s.link.idle := by
  unfold State.hand; first | rfl | ((try dsimp only); (repeat' split) <;> simp)
@[simp] theorem State.hand_mem (a : Nat) (c : Cmd) (s : State) : (State.hand a c s).mem = s.mem := by
  unfold State.hand; first | rfl | ((try dsimp only); (repeat' split) <;> simp)
@[simp] theorem State.hand_pending (a : Nat) (c : Cmd) (s : State) : (State.hand a c s).pending = s.pending := by
  unfold State.hand; first | rfl | ((try dsimp only); (repeat' split) <;> simp)

@[simp] theorem State.withdrawDrive_regs (f : Nat) (s : State) : (State.withdrawDrive f s).regs = s.regs := by
  unfold State.withdrawDrive; first | rfl | ((try dsimp only); (repeat' split) <;> simp)
@[simp] theorem State.withdrawDrive_clock (f : Nat) (s : State) : (State.withdrawDrive f s).clock = s.clock := by
  unfold State.withdrawDrive; first | rfl | ((try dsimp only); (repeat' split) <;> simp)
@[simp] theorem State.withdrawDrive_clockMs (f : Nat) (s : State) : (State.withdrawDrive f s).clockMs = s.clockMs := by
  unfold State.withdrawDrive; first | rfl | ((try dsimp only); (repeat' split) <;> simp)
@[simp] theorem State.withdrawDrive_watch (f : Nat) (s : State) : (State.withdrawDrive f s).watch = s.watch := by
  unfold State.withdrawDrive; first | rfl | ((try dsimp only); (repeat' split) <;> simp)
@[simp] theorem State.withdrawDrive_rogue (f : Nat) (s : State) : (State.withdrawDrive f s).rogue = s.rogue := by
  unfold State.withdrawDrive; first | rfl | ((try dsimp only); (repeat' split) <;> simp)
@[simp] theorem State.withdrawDrive_disp (f : Nat) (s : State) : (State.withdrawDrive f s).disp = s.disp := by
  unfold State.withdrawDrive; first | rfl | ((try dsimp only); (repeat' split) <;> simp)
@[simp] theorem State.withdrawDrive_frames (f : Nat) (s : State) : (State.withdrawDrive f s).frames = s.frames := by
  unfold State.withdrawDrive; first | rfl | ((try dsimp only); (repeat' split) <;> simp)
@[simp] theorem State.withdrawDrive_roving (f : Nat) (s : State) : (State.withdrawDrive f s).roving = s.roving := by
  unfold State.withdrawDrive; first | rfl | ((try dsimp only); (repeat' split) <;> simp)
@[simp] theorem State.withdrawDrive_output (f : Nat) (s : State) : (State.withdrawDrive f s).output = s.output := by
  unfold State.withdrawDrive; first | rfl | ((try dsimp only); (repeat' split) <;> simp)
@[simp] theorem State.withdrawDrive_plan (f : Nat) (s : State) : (State.withdrawDrive f s).plan = s.plan := by
  unfold State.withdrawDrive; first | rfl | ((try dsimp only); (repeat' split) <;> simp)
@[simp] theorem State.withdrawDrive_desk (f : Nat) (s : State) : (State.withdrawDrive f s).desk = s.desk := by
  unfold State.withdrawDrive; first | rfl | ((try dsimp only); (repeat' split) <;> simp)
@[simp] theorem State.withdrawDrive_writer_pending (f : Nat) (s : State) : (State.withdrawDrive f s).writer.pending = s.writer.pending := by
  unfold State.withdrawDrive; first | rfl | ((try dsimp only); (repeat' split) <;> simp)
@[simp] theorem State.withdrawDrive_writer_current (f : Nat) (s : State) : (State.withdrawDrive f s).writer.current = s.writer.current := by
  unfold State.withdrawDrive; first | rfl | ((try dsimp only); (repeat' split) <;> simp)
@[simp] theorem State.withdrawDrive_writer_numbers (f : Nat) (s : State) : (State.withdrawDrive f s).writer.numbers = s.writer.numbers := by
  unfold State.withdrawDrive; first | rfl | ((try dsimp only); (repeat' split) <;> simp)
@[simp] theorem State.withdrawDrive_writer_writeMark (f : Nat) (s : State) : (State.withdrawDrive f s).writer.writeMark = s.writer.writeMark := by
  unfold State.withdrawDrive; first | rfl | ((try dsimp only); (repeat' split) <;> simp)
@[simp] theorem State.withdrawDrive_writer_capacity (f : Nat) (s : State) : (State.withdrawDrive f s).writer.capacity = s.writer.capacity := by
  unfold State.withdrawDrive; first | rfl | ((try dsimp only); (repeat' split) <;> simp)
@[simp] theorem State.withdrawDrive_port (f : Nat) (s : State) : (State.withdrawDrive f s).port = s.port := by
  unfold State.withdrawDrive; first | rfl | ((try dsimp only); (repeat' split) <;> simp)
@[simp] theorem State.withdrawDrive_link_mode (f : Nat) (s : State) : (State.withdrawDrive f s).link.mode = s.link.mode := by
  unfold State.withdrawDrive; first | rfl | ((try dsimp only); (repeat' split) <;> simp)
@[simp] theorem State.withdrawDrive_link_cycle (f : Nat) (s : State) : (State.withdrawDrive f s).link.cycle = s.link.cycle := by
  unfold State.withdrawDrive; first | rfl | ((try dsimp only); (repeat' split) <;> simp)
@[simp] theorem State.withdrawDrive_link_next (f : Nat) (s : State) : (State.withdrawDrive f s).link.next = s.link.next := by
  unfold State.withdrawDrive; first | rfl | ((try dsimp only); (repeat' split) <;> simp)
@[simp] theorem State.withdrawDrive_link_visit (f : Nat) (s : State) : (State.withdrawDrive f s).link.visit = s.link.visit := by
  unfold State.withdrawDrive; first | rfl | ((try dsimp only); (repeat' split) <;> simp)
@[simp] theorem State.withdrawDrive_link_idle (f : Nat) (s : State) : (State.withdrawDrive f s).link.idle = s.link.idle := by
  unfold State.withdrawDrive; first | rfl | ((try dsimp only); (repeat' split) <;> simp)
@[simp] theorem State.withdrawDrive_mem (f : Nat) (s : State) : (State.withdrawDrive f s).mem = s.mem := by
  unfold State.withdrawDrive; first | rfl | ((try dsimp only); (repeat' split) <;> simp)
@[simp] theorem State.withdrawDrive_work (f : Nat) (s : State) : (State.withdrawDrive f s).work = s.work := by
  unfold State.withdrawDrive; first | rfl | ((try dsimp only); (repeat' split) <;> simp)
@[simp] theorem State.withdrawDrive_pending (f : Nat) (s : State) : (State.withdrawDrive f s).pending = s.pending := by
  unfold State.withdrawDrive; first | rfl | ((try dsimp only); (repeat' split) <;> simp)

@[simp] theorem State.emptyQueue_regs (a : Nat) (s : State) : (State.emptyQueue a s).regs = s.regs := by
  unfold State.emptyQueue; first | rfl | ((try dsimp only); (repeat' split) <;> simp)
@[simp] theorem State.emptyQueue_clock (a : Nat) (s : State) : (State.emptyQueue a s).clock = s.clock := by
  unfold State.emptyQueue; first | rfl | ((try dsimp only); (repeat' split) <;> simp)
@[simp] theorem State.emptyQueue_clockMs (a : Nat) (s : State) : (State.emptyQueue a s).clockMs = s.clockMs := by
  unfold State.emptyQueue; first | rfl | ((try dsimp only); (repeat' split) <;> simp)
@[simp] theorem State.emptyQueue_watch (a : Nat) (s : State) : (State.emptyQueue a s).watch = s.watch := by
  unfold State.emptyQueue; first | rfl | ((try dsimp only); (repeat' split) <;> simp)
@[simp] theorem State.emptyQueue_rogue (a : Nat) (s : State) : (State.emptyQueue a s).rogue = s.rogue := by
  unfold State.emptyQueue; first | rfl | ((try dsimp only); (repeat' split) <;> simp)
@[simp] theorem State.emptyQueue_disp (a : Nat) (s : State) : (State.emptyQueue a s).disp = s.disp := by
  unfold State.emptyQueue; first | rfl | ((try dsimp only); (repeat' split) <;> simp)
@[simp] theorem State.emptyQueue_frames (a : Nat) (s : State) : (State.emptyQueue a s).frames = s.frames := by
  unfold State.emptyQueue; first | rfl | ((try dsimp only); (repeat' split) <;> simp)
@[simp] theorem State.emptyQueue_roving (a : Nat) (s : State) : (State.emptyQueue a s).roving = s.roving := by
  unfold State.emptyQueue; first | rfl | ((try dsimp only); (repeat' split) <;> simp)
@[simp] theorem State.emptyQueue_output (a : Nat) (s : State) : (State.emptyQueue a s).output = s.output := by
  unfold State.emptyQueue; first | rfl | ((try dsimp only); (repeat' split) <;> simp)
@[simp] theorem State.emptyQueue_plan (a : Nat) (s : State) : (State.emptyQueue a s).plan = s.plan := by
  unfold State.emptyQueue; first | rfl | ((try dsimp only); (repeat' split) <;> simp)
@[simp] theorem State.emptyQueue_desk (a : Nat) (s : State) : (State.emptyQueue a s).desk = s.desk := by
  unfold State.emptyQueue; first | rfl | ((try dsimp only); (repeat' split) <;> simp)
@[simp] theorem State.emptyQueue_writer_pending (a : Nat) (s : State) : (State.emptyQueue a s).writer.pending = s.writer.pending := by
  unfold State.emptyQueue; first | rfl | ((try dsimp only); (repeat' split) <;> simp)
@[simp] theorem State.emptyQueue_writer_current (a : Nat) (s : State) : (State.emptyQueue a s).writer.current = s.writer.current := by
  unfold State.emptyQueue; first | rfl | ((try dsimp only); (repeat' split) <;> simp)
@[simp] theorem State.emptyQueue_writer_numbers (a : Nat) (s : State) : (State.emptyQueue a s).writer.numbers = s.writer.numbers := by
  unfold State.emptyQueue; first | rfl | ((try dsimp only); (repeat' split) <;> simp)
@[simp] theorem State.emptyQueue_writer_writeMark (a : Nat) (s : State) : (State.emptyQueue a s).writer.writeMark = s.writer.writeMark := by
  unfold State.emptyQueue; first | rfl | ((try dsimp only); (repeat' split) <;> simp)
@[simp] theorem State.emptyQueue_writer_capacity (a : Nat) (s : State) : (State.emptyQueue a s).writer.capacity = s.writer.capacity := by
  unfold State.emptyQueue; first | rfl | ((try dsimp only); (repeat' split) <;> simp)
@[simp] theorem State.emptyQueue_port (a : Nat) (s : State) : (State.emptyQueue a s).port = s.port := by
  unfold State.emptyQueue; first | rfl | ((try dsimp only); (repeat' split) <;> simp)
@[simp] theorem State.emptyQueue_link_mode (a : Nat) (s : State) : (State.emptyQueue a s).link.mode = s.link.mode := by
  unfold State.emptyQueue; first | rfl | ((try dsimp only); (repeat' split) <;> simp)
@[simp] theorem State.emptyQueue_link_cycle (a : Nat) (s : State) : (State.emptyQueue a s).link.cycle = s.link.cycle := by
  unfold State.emptyQueue; first | rfl | ((try dsimp only); (repeat' split) <;> simp)
@[simp] theorem State.emptyQueue_link_next (a : Nat) (s : State) : (State.emptyQueue a s).link.next = s.link.next := by
  unfold State.emptyQueue; first | rfl | ((try dsimp only); (repeat' split) <;> simp)
@[simp] theorem State.emptyQueue_link_visit (a : Nat) (s : State) : (State.emptyQueue a s).link.visit = s.link.visit := by
  unfold State.emptyQueue; first | rfl | ((try dsimp only); (repeat' split) <;> simp)
@[simp] theorem State.emptyQueue_link_idle (a : Nat) (s : State) : (State.emptyQueue a s).link.idle = s.link.idle := by
  unfold State.emptyQueue; first | rfl | ((try dsimp only); (repeat' split) <;> simp)
@[simp] theorem State.emptyQueue_mem (a : Nat) (s : State) : (State.emptyQueue a s).mem = s.mem := by
  unfold State.emptyQueue; first | rfl | ((try dsimp only); (repeat' split) <;> simp)
@[simp] theorem State.emptyQueue_work (a : Nat) (s : State) : (State.emptyQueue a s).work = s.work := by
  unfold State.emptyQueue; first | rfl | ((try dsimp only); (repeat' split) <;> simp)
@[simp] theorem State.emptyQueue_pending (a : Nat) (s : State) : (State.emptyQueue a s).pending = s.pending := by
  unfold State.emptyQueue; first | rfl | ((try dsimp only); (repeat' split) <;> simp)

end Sys2Proof.Machine
end

