-- ==== Sys2Proof/Laws/Records.lean ====
section
/-! SUPPORT. What a record reads as after a write: the record written, when it is not the reset record or the table is in
canonical form; every other record as before. -/

namespace Sys2Proof.Machine

theorem State.markIf_keeps {β : Type} (P : State → β) (h : ∀ i t, P (State.markItem i t) = P t) (b : Bool) (i : WriteItem)
    (s : State) : P (s.markIf b i) = P s := by
  unfold State.markIf; split
  · exact h i s
  · rfl

/-- The table after the write. -/
theorem State.setSpindle_table (f n : Nat) (x : Spindle) (s : State) :
    (s.setSpindle f n x).watch.spindles = tput Spindle.reset s.watch.spindles (spindleKey f n) x := by
  unfold State.setSpindle; first | rfl | simp

theorem State.setSpindle_same (f n : Nat) (x : Spindle) (s : State) (h : x ≠ Spindle.reset) : (s.setSpindle f n x).spindle f n = x := by
  unfold State.spindle; rw [State.setSpindle_table]; exact tget_tput_ne _ h

theorem State.setSpindle_other (f n : Nat) (g m : Nat) (x : Spindle) (s : State) (h : spindleKey g m ≠ spindleKey f n) :
    (s.setSpindle f n x).spindle g m = s.spindle g m := by
  unfold State.spindle; rw [State.setSpindle_table]; exact tget_tput_other _ h

theorem State.setSpindle_formed_same (f n : Nat) (x : Spindle) (s : State) (h : s.formed = true) :
    (s.setSpindle f n x).spindle f n = x := by
  unfold State.spindle; rw [State.setSpindle_table]
  exact tget_tput_same _ _ (by
    simp only [State.formed, Watch.formed, Dispatcher.formed, Roving.formed, Output.formed, Link.formed, Bool.and_eq_true] at h
    simp [h])

/-- The table after the write. -/
theorem State.setStrip_table (c : Nat) (x : Strip) (s : State) :
    (s.setStrip c x).watch.strips = tput Strip.reset s.watch.strips c x := by
  unfold State.setStrip; first | rfl | simp

theorem State.setStrip_same (c : Nat) (x : Strip) (s : State) (h : x ≠ Strip.reset) : (s.setStrip c x).strip c = x := by
  unfold State.strip; rw [State.setStrip_table]; exact tget_tput_ne _ h

theorem State.setStrip_other (c : Nat) (e : Nat) (x : Strip) (s : State) (h : e ≠ c) :
    (s.setStrip c x).strip e = s.strip e := by
  unfold State.strip; rw [State.setStrip_table]; exact tget_tput_other _ h

theorem State.setStrip_formed_same (c : Nat) (x : Strip) (s : State) (h : s.formed = true) :
    (s.setStrip c x).strip c = x := by
  unfold State.strip; rw [State.setStrip_table]
  exact tget_tput_same _ _ (by
    simp only [State.formed, Watch.formed, Dispatcher.formed, Roving.formed, Output.formed, Link.formed, Bool.and_eq_true] at h
    simp [h])

/-- The table after the write. -/
theorem State.setSweep_table (f : Nat) (x : Sweep) (s : State) :
    (s.setSweep f x).watch.sweeps = tput Sweep.reset s.watch.sweeps f x := by
  unfold State.setSweep; first | rfl | simp

theorem State.setSweep_same (f : Nat) (x : Sweep) (s : State) (h : x ≠ Sweep.reset) : (s.setSweep f x).sweep f = x := by
  unfold State.sweep; rw [State.setSweep_table]; exact tget_tput_ne _ h

theorem State.setSweep_other (f : Nat) (e : Nat) (x : Sweep) (s : State) (h : e ≠ f) :
    (s.setSweep f x).sweep e = s.sweep e := by
  unfold State.sweep; rw [State.setSweep_table]; exact tget_tput_other _ h

theorem State.setSweep_formed_same (f : Nat) (x : Sweep) (s : State) (h : s.formed = true) :
    (s.setSweep f x).sweep f = x := by
  unfold State.sweep; rw [State.setSweep_table]
  exact tget_tput_same _ _ (by
    simp only [State.formed, Watch.formed, Dispatcher.formed, Roving.formed, Output.formed, Link.formed, Bool.and_eq_true] at h
    simp [h])

/-- The table after the write. -/
theorem State.setSide_table (d : Nat) (x : Side) (s : State) :
    (s.setSide d x).disp.sides = tput Side.reset s.disp.sides d x := by
  unfold State.setSide; first | rfl | simp

theorem State.setSide_same (d : Nat) (x : Side) (s : State) (h : x ≠ Side.reset) : (s.setSide d x).side d = x := by
  unfold State.side; rw [State.setSide_table]; exact tget_tput_ne _ h

theorem State.setSide_other (d : Nat) (e : Nat) (x : Side) (s : State) (h : e ≠ d) :
    (s.setSide d x).side e = s.side e := by
  unfold State.side; rw [State.setSide_table]; exact tget_tput_other _ h

theorem State.setSide_formed_same (d : Nat) (x : Side) (s : State) (h : s.formed = true) :
    (s.setSide d x).side d = x := by
  unfold State.side; rw [State.setSide_table]
  exact tget_tput_same _ _ (by
    simp only [State.formed, Watch.formed, Dispatcher.formed, Roving.formed, Output.formed, Link.formed, Bool.and_eq_true] at h
    simp [h])

/-- The table after the write. -/
theorem State.setPiecer_table (p : Nat) (x : Piecer) (s : State) :
    (s.setPiecer p x).disp.piecers = tput Piecer.reset s.disp.piecers p x := by
  unfold State.setPiecer; first | rfl | simp

theorem State.setPiecer_same (p : Nat) (x : Piecer) (s : State) (h : x ≠ Piecer.reset) : (s.setPiecer p x).piecer p = x := by
  unfold State.piecer; rw [State.setPiecer_table]; exact tget_tput_ne _ h

theorem State.setPiecer_other (p : Nat) (e : Nat) (x : Piecer) (s : State) (h : e ≠ p) :
    (s.setPiecer p x).piecer e = s.piecer e := by
  unfold State.piecer; rw [State.setPiecer_table]; exact tget_tput_other _ h

theorem State.setPiecer_formed_same (p : Nat) (x : Piecer) (s : State) (h : s.formed = true) :
    (s.setPiecer p x).piecer p = x := by
  unfold State.piecer; rw [State.setPiecer_table]
  exact tget_tput_same _ _ (by
    simp only [State.formed, Watch.formed, Dispatcher.formed, Roving.formed, Output.formed, Link.formed, Bool.and_eq_true] at h
    simp [h])

/-- The table after the write. -/
theorem State.setFrame_table (f : Nat) (x : Frame) (s : State) :
    (s.setFrame f x).frames = tput Frame.reset s.frames f x := by
  unfold State.setFrame; first | rfl | simp

theorem State.setFrame_same (f : Nat) (x : Frame) (s : State) (h : x ≠ Frame.reset) : (s.setFrame f x).frame f = x := by
  unfold State.frame; rw [State.setFrame_table]; exact tget_tput_ne _ h

theorem State.setFrame_other (f : Nat) (e : Nat) (x : Frame) (s : State) (h : e ≠ f) :
    (s.setFrame f x).frame e = s.frame e := by
  unfold State.frame; rw [State.setFrame_table]; exact tget_tput_other _ h

theorem State.setFrame_formed_same (f : Nat) (x : Frame) (s : State) (h : s.formed = true) :
    (s.setFrame f x).frame f = x := by
  unfold State.frame; rw [State.setFrame_table]
  exact tget_tput_same _ _ (by
    simp only [State.formed, Watch.formed, Dispatcher.formed, Roving.formed, Output.formed, Link.formed, Bool.and_eq_true] at h
    simp [h])

/-- The table after the write. -/
theorem State.setCreel_table (c : Nat) (x : Creel) (s : State) :
    (s.setCreel c x).roving.creels = tput Creel.reset s.roving.creels c x := by
  unfold State.setCreel; first | rfl | simp

theorem State.setCreel_same (c : Nat) (x : Creel) (s : State) (h : x ≠ Creel.reset) : (s.setCreel c x).creel c = x := by
  unfold State.creel; rw [State.setCreel_table]; exact tget_tput_ne _ h

theorem State.setCreel_other (c : Nat) (e : Nat) (x : Creel) (s : State) (h : e ≠ c) :
    (s.setCreel c x).creel e = s.creel e := by
  unfold State.creel; rw [State.setCreel_table]; exact tget_tput_other _ h

theorem State.setCreel_formed_same (c : Nat) (x : Creel) (s : State) (h : s.formed = true) :
    (s.setCreel c x).creel c = x := by
  unfold State.creel; rw [State.setCreel_table]
  exact tget_tput_same _ _ (by
    simp only [State.formed, Watch.formed, Dispatcher.formed, Roving.formed, Output.formed, Link.formed, Bool.and_eq_true] at h
    simp [h])

/-- The table after the write. -/
theorem State.setFeed_table (f : Nat) (x : Feed) (s : State) :
    (s.setFeed f x).roving.feeds = tput Feed.reset s.roving.feeds f x := by
  unfold State.setFeed; first | rfl | simp

theorem State.setFeed_same (f : Nat) (x : Feed) (s : State) (h : x ≠ Feed.reset) : (s.setFeed f x).feed f = x := by
  unfold State.feed; rw [State.setFeed_table]; exact tget_tput_ne _ h

theorem State.setFeed_other (f : Nat) (e : Nat) (x : Feed) (s : State) (h : e ≠ f) :
    (s.setFeed f x).feed e = s.feed e := by
  unfold State.feed; rw [State.setFeed_table]; exact tget_tput_other _ h

theorem State.setFeed_formed_same (f : Nat) (x : Feed) (s : State) (h : s.formed = true) :
    (s.setFeed f x).feed f = x := by
  unfold State.feed; rw [State.setFeed_table]
  exact tget_tput_same _ _ (by
    simp only [State.formed, Watch.formed, Dispatcher.formed, Roving.formed, Output.formed, Link.formed, Bool.and_eq_true] at h
    simp [h])

/-- The table after the write. -/
theorem State.setRoller_table (f : Nat) (x : Roller) (s : State) :
    (s.setRoller f x).output.rollers = tput Roller.reset s.output.rollers f x := by
  unfold State.setRoller; first | rfl | simp

theorem State.setRoller_same (f : Nat) (x : Roller) (s : State) (h : x ≠ Roller.reset) : (s.setRoller f x).roller f = x := by
  unfold State.roller; rw [State.setRoller_table]; exact tget_tput_ne _ h

theorem State.setRoller_other (f : Nat) (e : Nat) (x : Roller) (s : State) (h : e ≠ f) :
    (s.setRoller f x).roller e = s.roller e := by
  unfold State.roller; rw [State.setRoller_table]; exact tget_tput_other _ h

theorem State.setRoller_formed_same (f : Nat) (x : Roller) (s : State) (h : s.formed = true) :
    (s.setRoller f x).roller f = x := by
  unfold State.roller; rw [State.setRoller_table]
  exact tget_tput_same _ _ (by
    simp only [State.formed, Watch.formed, Dispatcher.formed, Roving.formed, Output.formed, Link.formed, Bool.and_eq_true] at h
    simp [h])

/-- The table after the write. -/
theorem State.setUnit_table (a : Nat) (x : Unit) (s : State) :
    (s.setUnit a x).link.units = tput Unit.reset s.link.units a x := by
  unfold State.setUnit; first | rfl | simp

theorem State.setUnit_same (a : Nat) (x : Unit) (s : State) (h : x ≠ Unit.reset) : (s.setUnit a x).unit a = x := by
  unfold State.unit; rw [State.setUnit_table]; exact tget_tput_ne _ h

theorem State.setUnit_other (a : Nat) (e : Nat) (x : Unit) (s : State) (h : e ≠ a) :
    (s.setUnit a x).unit e = s.unit e := by
  unfold State.unit; rw [State.setUnit_table]; exact tget_tput_other _ h

theorem State.setUnit_formed_same (a : Nat) (x : Unit) (s : State) (h : s.formed = true) :
    (s.setUnit a x).unit a = x := by
  unfold State.unit; rw [State.setUnit_table]
  exact tget_tput_same _ _ (by
    simp only [State.formed, Watch.formed, Dispatcher.formed, Roving.formed, Output.formed, Link.formed, Bool.and_eq_true] at h
    simp [h])

/-- The table after the write; a change of state takes the time left for the mirror (R127). -/
theorem State.setCarrier_table (c : Nat) (x : Carrier) (s : State) :
    (s.setCarrier c x).roving.carriers = tput Carrier.reset s.roving.carriers c
      (if x.state = (s.carrier c).state then x else { x with shownLeft := x.secondsLeft }) := by
  unfold State.setCarrier; simp

theorem State.setCarrier_same (c : Nat) (x : Carrier) (s : State) (h : x.state ≠ .absent) :
    (s.setCarrier c x).carrier c =
      if x.state = (s.carrier c).state then x else { x with shownLeft := x.secondsLeft } := by
  unfold State.carrier; rw [State.setCarrier_table]
  refine tget_tput_ne _ fun e => h ?_
  have := congrArg Carrier.state e
  split at this <;> exact this

theorem State.setCarrier_other (c e : Nat) (x : Carrier) (s : State) (h : e ≠ c) :
    (s.setCarrier c x).carrier e = s.carrier e := by
  unfold State.carrier; rw [State.setCarrier_table]; exact tget_tput_other _ h

/-- The settings are the plan's. -/
theorem State.settings_of_plan {s t : State} (h : t.plan = s.plan) : t.settings = s.settings := by
  unfold State.settings; rw [h]

theorem State.frameSettings_of_plan {s t : State} (h : t.plan = s.plan) (f : Nat) : t.frameSettings f = s.frameSettings f := by
  unfold State.frameSettings; rw [State.settings_of_plan h]

end Sys2Proof.Machine
end

