-- ==== Sys2Proof/Tests/Slice0.lean ====
section
/-! SUPPORT. Tests: the checks of WellFormed refuse ill-formed commands; the hypotheses of the statements are met by small
concrete states, clause by clause; and a few effects on those states. -/

namespace Sys2Proof.Tests

set_option Elab.async false

open Sys2Proof.Machine

/-! ### WellFormed refuses -/

theorem test_wellFormed_frame : (Instr.sweepTimer 0).wellFormed = false ∧ (Instr.stripRead 9 []).wellFormed = false ∧
    (Instr.doffTimeout 8).wellFormed = true := by decide
theorem test_wellFormed_piecer : (Instr.attemptTimeout 9).wellFormed = false ∧
    (Instr.travelTimeout 0).wellFormed = false ∧ (Instr.returnPlaceTimeout 1).wellFormed = true := by decide
theorem test_wellFormed_carrier : (Instr.changeTimeout 5).wellFormed = false ∧
    (Instr.returnTimeout 4).wellFormed = true := by decide
theorem test_wellFormed_side : (Instr.atSide ⟨true, true⟩ 17 1).wellFormed = false ∧
    (Instr.atSide ⟨true, true⟩ 16 1824).wellFormed = true := by decide
theorem test_wellFormed_spindle : (Instr.step ⟨true, true⟩ 1#16 .find 1825).wellFormed = false ∧
    (Instr.atSide ⟨true, true⟩ 1 0).wellFormed = false := by decide
theorem test_wellFormed_metres : (Instr.state ⟨true, true⟩ .running 4294968#32).wellFormed = false ∧
    (Instr.state ⟨true, true⟩ .running 4294967#32).wellFormed = true := by decide
theorem test_wellFormed_hostWrite : (Instr.memoryBeat [(2, 0#32)]).wellFormed = false ∧
    (Instr.busYield [(4294967296, 0#32)]).wellFormed = false ∧
    (Instr.busYield [(4294967292, 0#32)]).wellFormed = true := by decide
theorem test_decode_nothing : decodeTableWord 32 7 = none ∧ State.reset.withFetchWord 32 7 = State.reset := by decide

/-! ### Small states -/

/-- A frame of 24 spindles per side. -/
def frame24 : FrameSettings := ⟨true, 24, 1476, 385, 8482, 4, 4800, 300, 12, 7, 2500, 200, []⟩

/-- A plan of one frame. -/
def plan1 : Plan := ⟨.p, 77#32, ⟨250, 200, 6, 3, 2, 10, 4, 120, 3, 45, 180, 6, 1, 90, 300, 600, 480, 64, [1], [frame24]⟩⟩

/-- A part RUNNING on that plan, with the link in its cycles. -/
def running : State := { State.reset with
  regs := { State.reset.regs with run := true, part := .running }
  plan := { State.reset.plan with active := some plan1 }
  link := { State.reset.link with mode := .cycling }
  clock := 50#32 }

def stalled : State := { running with regs := { running.regs with part := .stalled, resume := some .running } }
def starting : State := { State.reset with regs := { State.reset.regs with run := true, part := .starting, start := some .header } }
def winding : State := { running with regs := { running.regs with run := false, part := .windingDown } }

/-- The same state with a record. -/
def withSpindle (n : Nat) (x : Spindle) (s : State) : State := { s with watch := { s.watch with spindles := [(n, x)] } }
def withFrame (x : Frame) (s : State) : State := { s with frames := [(1, x)] }
def withCreel (x : Creel) (s : State) : State := { s with roving := { s.roving with creels := [(1, x)] } }
def withCarrier (x : Carrier) (s : State) : State := { s with roving := { s.roving with carriers := [(1, x)] } }
def withPiecer (x : Piecer) (s : State) : State := { s with disp := { s.disp with piecers := [(1, x)] } }
def withSide (x : Side) (s : State) : State := { s with disp := { s.disp with sides := [(1, x)] } }
def withUnit (a : Nat) (x : Machine.Unit) (s : State) : State := { s with link := { s.link with units := [(a, x)] } }
def withBook (b : BookEntry) (s : State) : State := { s with desk := { s.desk with book := [b] } }

def spindleIn (x : SpindleState) : Spindle := { Spindle.reset with state := x }
def frameIn (x : FrameState) : Frame := { Frame.reset with state := x }
def carrierIn (x : CarrierState) : Carrier := { Carrier.reset with state := x, creel := some 1 }

/-- A piecer in an attempt on spindle 3 with token 5, at a step. -/
def attempting (step : Option AttemptStep) : Piecer := { Piecer.reset with
  state := .attempting, side := some 1, spindle := some 3, current := some 5#16, counter := 5#16, stage := step
  position := some 3, attempt := ⟨true, 0⟩ }

/-- The cell of an order in cell 1. -/
def cellOf (k : OrderKind) (p1 p2 p3 : Nat) : CellRead :=
  ⟨1, 1#32, w32 k.code, w32 p1, w32 p2, w32 p3, 0#32, false⟩

/-- The board scan has come to that order. -/
def ordered (k : OrderKind) (p1 p2 p3 : Nat) (s : State) : State :=
  { s with desk := { s.desk with scan := some (.taking [cellOf k p1 p2 p3]) } }

/-- A unit that answers. -/
def answers : Machine.Unit := { Machine.Unit.reset with presence := .present, resync := false }

/-- A visit of a unit that answers, carrying a POLL. -/
def visitOf (a : Nat) : Visit := ⟨a, none, [], ⟨true, 1⟩⟩
def visited (a : Nat) (s : State) : State :=
  { s with link := { s.link with units := [(a, answers)], visit := some (visitOf a) } }

/-- A reply with a new report. -/
def fresh : Reply := ⟨false, true⟩

/-- A write of two words at board address 0x1000, granted, at a beat. -/
def writing (beat : Nat) (s : State) : State :=
  { s with port := { s.port with
    current := some ⟨.reportWriter, true, 0x1000, 2, beat, [0x11223344#32, 0x55#32]⟩, xreq := true, granted := true } }

/-- A read of two words, granted, at a beat. -/
def reading (beat : Nat) (s : State) : State :=
  { s with port := { s.port with
    current := some ⟨.outputCounter, false, 0x1000, 2, beat, []⟩, xreq := true, granted := true } }

/-- A copy with every frame out of plan, and its check word. -/
def planWords : List Word :=
  let l := (77 :: [250, 200, 6, 3, 2, 10, 4, 120, 3, 45, 180, 6, 1, 90, 300, 600, 480, 64]).map w32 ++
    List.replicate 2028 0#32
  l ++ [~~~ wordSum l]

/-- A page open and another FREE. -/
def paged (s : State) : State := { s with output := { s.output with
  page := some ⟨1, 0#32, .start, 0⟩, view := [(1, some .opened), (2, some .free)], shift := ⟨true, 0⟩ } }
/-- The same with no page FREE. -/
def crowded (s : State) : State := { s with output := { s.output with
  page := some ⟨1, 0#32, .start, 0⟩, view := [(1, some .opened), (2, some .closed)], shift := ⟨true, 0⟩ } }

/-! ### Witnesses: the machine and part control -/

theorem test_witness_StepRunsTheFrontCommand : { State.reset with pending := [Instr.look] }.pending = .look :: [] := by decide
theorem test_witness_EmptyStepPassesAMillisecond :
    State.reset.pending = [] ∧ State.reset.regs.part = .halted ∧ running.pending = [] ∧ running.regs.part ≠ .halted ∧
      running.clockMs ≠ 99 ∧ { running with clockMs := 99 }.clockMs = 99 := by decide
theorem test_witness_EveryStepKeeps : running.sound = true ∧ running.formed = true ∧ State.reset.sound = true ∧
    step State.reset = .next State.reset := by
  refine ⟨by decide, by decide, by decide, rfl⟩
theorem test_witness_WhatCommandsLeaveAlone : exec .look State.reset = .next State.reset := rfl
theorem test_witness_RunSetStartsTheGroup : State.reset.formed = true ∧ State.reset.regs.part = .halted ∧
    starting.regs.part = .starting ∧ running.regs.part ≠ .halted ∧ running.regs.part ≠ .starting := by decide

/-- A start at a step. -/
def startingAt (x : StartStep) : State := { starting with regs := { starting.regs with start := some x } }
/-- A read of the common area whose words have moved. -/
def readBy (b : Requester) (offset : Nat) (l : List Word) : Transfer := ⟨b, false, offset, l.length, l.length, l⟩

theorem test_witness_RunSetStartsTheGroup_header :
    let s := startingAt .header
    let word (l : List Word) (n : Nat) := ((readBy .orderDesk 0 l).words.getD n 0#32).toNat
    s.formed = true ∧ s.regs.start = some .header ∧ s.transferOffset (readBy .orderDesk 0 []) = 0 ∧
    4 < word [0#32, 5#32] 1 ∧ 256 ≤ word [0#32, 0#32, 256#32] 2 ∧ word [0#32, 4#32, 4095#32] 1 ≤ 4 ∧
    word [0#32, 4#32, 4095#32] 2 < 256 * 2 ^ word [0#32, 4#32, 4095#32] 1 ∧
    s.transferOffset (readBy .orderDesk 0x20 []) ≠ 0 ∧ s.plan.read = none ∧
    { s.plan with read := some ⟨.p, []⟩ }.read = some ⟨.p, []⟩ := by decide
theorem test_witness_RunSetStartsTheGroup_plan :
    (startingAt .plan).regs.start = some .plan ∧ (startingAt .plan).formed = true ∧
    2048 ≤ (readBy .planStore 0x2fe0 (planWords.drop 2040)).words.length +
      (⟨.p, (planWords.take 2040).reverse⟩ : PlanRead).words.length ∧
    copyFault 256 planWords = none ∧ (copyFault 4 planWords).isSome = true := by decide +kernel
theorem test_witness_RunSetStartsTheGroup_batches :
    let found (s : State) : State := { s with output := { s.output with found := [⟨1, 0#32, 0#32⟩] } }
    let marked : State := { startingAt .writes with writer := { starting.writer with queue := [.mark] } }
    (startingAt .writes).regs.part = .starting ∧ (startingAt .writes).regs.start = some .writes ∧
    { starting.desk with startCells := [1] }.startCells = 1 :: [] ∧
    marked.served = true ∧ marked.writer.current = none ∧ marked.writer.queue = .mark :: [] ∧
    (found running).output.found ≠ [] ∧ running.output.found = [] ∧ running.freePages = [] ∧
    (paged running).freePages = 2 :: [] ∧ (startingAt .planFault).regs.start = some .planFault ∧
    (startingAt .pages).regs.start = some .pages ∧ (startingAt .pages).output.page = none ∧
    (startingAt .pages).writer.queue = [] ∧ (State.markItem .header (startingAt .pages)).writer.queue = [.header] ∧
    (State.markItem .header (startingAt .pages)).regs.start = some .pages ∧
    (State.markItem .header (startingAt .pages)).output.page = none ∧
    (paged (startingAt .pages)).output.page ≠ none ∧ (paged (startingAt .pages)).regs.run = true ∧
    { startingAt .pages with regs := { (startingAt .pages).regs with run := false } }.formed = true := by decide
theorem test_witness_RunClearWindsDown : winding.regs.run = false ∧ (starting.regs.run = true ∧ starting.regs.part = .starting) ∧
    (running.regs.run = true ∧ running.regs.part = .running) ∧ (stalled.regs.run = true ∧ stalled.regs.part = .stalled) ∧
    ({ winding.regs with run := true }.run = true ∧ { winding.regs with run := true }.part = .windingDown) := by decide
theorem test_witness_RunClearWindsDown_entered :
    let s : State := { running with
      watch := { running.watch with
        spindles := [(1, spindleIn .checking), (2, { spindleIn .checking with saved := some .starved }), (3, spindleIn .cutOut)]
        strips := [(1, ⟨false, 0, 0, some ⟨2, 0#24⟩⟩)] }
      disp := { running.disp with piecers := [(1, { Piecer.reset with state := .onSide, side := some 1 }),
        (2, { Piecer.reset with state := .moving, side := some 2 }), (3, { Piecer.reset with state := .parked }),
        (4, { Piecer.reset with state := .parked, placement := .park })] } }
    s.formed = true ∧ s.regs.run = true ∧ s.regs.part = .running ∧ (s.strip 1).check ≠ none ∧
    1 ∈ spindlesOfSection (creelIndex 1) ∧ (s.spindle (creelFrame 1) 1).state = .checking ∧
    (s.spindle 1 2).saved = some .starved ∧ (s.spindle 1 3).state ≠ .checking ∧ (s.piecer 1).state = .onSide ∧
    (s.piecer 2).state = .moving ∧ ((s.piecer 3).state = .parked ∧ (s.piecer 3).placement ≠ .park) ∧
    ((s.piecer 4).state = .parked ∧ (s.piecer 4).placement = .park) ∧ (s.piecer 8).state = .absent := by decide
theorem test_witness_ScansBegin : running.regs.part = .running ∧ running.desk.scan = none ∧
    (ordered .tableRead 0 0 0 winding).regs.part = .windingDown ∧ (ordered .tableRead 0 0 0 winding).desk.scan ≠ none ∧
    stalled.regs.part ≠ .running ∧ stalled.regs.part ≠ .windingDown ∧
    { running.desk with scanTimer := ⟨true, 0⟩ }.scanTimer.expired = true ∧ running.desk.scanTimer.expired = false := by
  decide
theorem test_witness_ResumeRewritesTheArea : stalled.regs.part = .stalled ∧ stalled.regs.rewriting = none ∧
    running.regs.part ≠ .stalled := by decide
/-- A RESUME at the mark of a step's batch, with this held. -/
def resuming (x : ResumeStep) (held : List Answer) (ending : Option EndStep) : State := { stalled with
  regs := { stalled.regs with rewriting := some x, ending := ending }
  writer := { stalled.writer with queue := [.mark] }, desk := { stalled.desk with held := held } }

theorem test_witness_ResumeRewritesTheArea_marks :
    let a : Answer := ⟨3, none, [], 9#32⟩
    (resuming .rewrite [a] none).regs.part = .stalled ∧ (resuming .rewrite [a] none).regs.rewriting = some .rewrite ∧
    (resuming .rewrite [a] none).writer.current = none ∧ (resuming .rewrite [a] none).writer.queue = .mark :: [] ∧
    (resuming .rewrite [a] none).regs.start = none ∧ (resuming .cells [a] none).desk.held ≠ [] ∧
    (resuming .cells [] none).desk.held = [] ∧ (resuming .journal [] none).regs.ending = none ∧
    (resuming .journal [] (some .writing)).regs.ending ≠ none := by decide
theorem test_resume_returns : (resuming .journal [⟨3, none, [], 9#32⟩] none).markReached.regs.part = .running ∧
    (resuming .journal [⟨3, none, [], 9#32⟩] none).markReached.writer.queue = [.mark, .cellDone ⟨3, none, [], 9#32⟩] ∧
    (resuming .cells [] none).markReached.regs.rewriting = some .journal := by decide
/-- A HALTED part whose frame 1 shows ALARM. -/
def haltedAlarm : State := withFrame { frameIn .halted with alarm := true } State.reset

theorem test_witness_RegistersAreWritten_att : running.formed = true ∧ running.regs.att &&& ~~~attMask = 0#32 ∧
    haltedAlarm.formed = true ∧ haltedAlarm.regs.part = .halted ∧
    (haltedAlarm.clearFrameBits 8#32).frame 1 ≠ haltedAlarm.frame 1 ∧
    (haltedAlarm.clearFrameBits 8#32).writer.queue = [.frame 1] := by decide
theorem test_witness_RegistersAreWritten : State.reset.regs.part = .halted ∧ running.regs.part ≠ .halted := by decide

/-! ### Witnesses: the memory port -/

theorem test_witness_BeatMovesOneWord : Memory.ok running.mem = true ∧ running.granted = none ∧
    (∃ t, (writing 0 running).granted = some t ∧ t.write = true ∧ t.next + 1 < t.beats) ∧
    (∃ t, (writing 1 running).granted = some t ∧ t.write = true ∧ t.beats ≤ t.next + 1) ∧
    (∃ t, (reading 0 running).granted = some t ∧ t.write = false ∧ t.next + 1 < t.beats) ∧
    ∃ t, (reading 1 running).granted = some t ∧ t.write = false ∧ t.beats ≤ t.next + 1 :=
  ⟨by decide, by decide, ⟨_, rfl, by decide⟩, ⟨_, rfl, by decide⟩, ⟨_, rfl, by decide⟩, ⟨_, rfl, by decide⟩⟩
theorem test_witness_BusGrantYieldAndRetry : (writing 0 running).port.xreq = true ∧ running.port.xreq = false ∧
    running.granted = none ∧ (writing 0 running).port.retried = false := by decide

/-- A second error on a beat, and a transfer without a grant for 10 ms. -/
def failing (s : State) : State := { writing 0 s with port := { (writing 0 s).port with retried := true } }
def ungrantedNow (s : State) : State :=
  { writing 0 s with port := { (writing 0 s).port with granted := false, grantTimer := ⟨true, 0⟩ } }

theorem test_witness_MemoryFaultByPartState :
    ((failing running).granted.isSome = true ∧ (failing running).port.retried = true) ∧
    (ungrantedNow running).ungranted.isSome = true ∧ running.ungranted = none ∧
    running.regs.part = .running ∧ winding.regs.part = .windingDown ∧ starting.regs.part = .starting ∧
    stalled.regs.part = .stalled ∧ haltedAlarm.regs.part = .halted := by decide
theorem test_witness_MemoryFaultByPartState_switch :
    let c := cellOf .planSwitch 2 1 0
    let s : State := { ordered .planSwitch 2 1 0 running with plan := { running.plan with read := some ⟨.q, []⟩ } }
    running.plan.read = none ∧ s.plan.read ≠ none ∧ s.taking = c :: [] ∧
    (s.memoryFault 8 .busError).desk.deferred = [(1, 1#32)] := by decide
theorem test_memoryFault_holds_back :
    let e (n : Nat) : JournalEntry := ⟨.slip, 1, 0, w32 n, []⟩
    let a : Answer := ⟨3, none, [], 9#32⟩
    let p : ClosedPage := ⟨⟨1, 0#32, .start, 0⟩, 5#32, .shiftTimer, []⟩
    let s : State := { running with writer := { running.writer with
      current := some ⟨.journal (e 1), false, []⟩, queue := [.cellDone a, .journal (e 2), .closedPage p]
      pending := List.replicate 31 (e 3) } }
    let u := s.memoryFault 8 .busError
    u.writer.pending = e 2 :: List.replicate 31 (e 3) ∧ u.writer.drops = 1 ∧ u.writer.firstDrop = 1#32 ∧
    u.writer.lastDrop = 1#32 ∧ u.desk.held = [a] ∧ u.writer.heldPages = [p] := by decide

/-! ### Witnesses: Spindle Watch -/

/-- A frame whose sweep stands at these sections, with a timer, and whose roller input has this prescaler. -/
def sweeping (left : List Nat) (t : Timer) (pre : Nat) (s : State) : State := { s with
  watch := { s.watch with sweeps := [(1, ⟨t, 250, left⟩)] }
  output := { s.output with rollers := [(1, { Roller.reset with prescaler := pre, lastRunning := 1 })] } }

theorem test_witness_SweepTimerAndRollerPulse :
    (sweeping [] ⟨true, 0⟩ 0 running).formed = true ∧ State.reset.regs.part = .halted ∧ running.regs.part ≠ .halted ∧
    ((sweeping [] ⟨true, 0⟩ 0 running).roller 1).prescaler = 0 ∧
    ((sweeping [] ⟨true, 0⟩ 1 running).roller 1).prescaler = 1 ∧
    1 < ((sweeping [] ⟨true, 0⟩ 2 running).roller 1).prescaler ∧
    ((sweeping [] ⟨true, 0⟩ 0 running).sweep 1).timer = ⟨true, 0⟩ ∧
    ((sweeping [] ⟨true, 0⟩ 0 running).sweep 1).left = [] ∧ ((sweeping [1] ⟨true, 0⟩ 0 running).sweep 1).left ≠ [] ∧
    ((sweeping [1] ⟨true, 1⟩ 0 running).sweep 1).timer ≠ ⟨true, 0⟩ := by decide
theorem test_witness_SweepTimerAndRollerPulse_ending :
    { winding.regs with ending := some .writing }.ending ≠ none ∧ winding.regs.ending = none := by decide

/-- The reply of section 39 with counts 1 and 2 in its first byte. -/
def goodReply : List Byte := [39#8, 0x12#8, 0#8, 0#8, 0#8, 0#8, 0#8, 0#8, 0#8, 0#8, 0#8, 0#8, 0#8, 0xC6#8]

theorem test_witness_StripReadIsTakenWhole : (stripCounts 39 goodReply).isSome = true ∧
    ((stripCounts 39 goodReply).getD []).length = 24 ∧ stripCounts 1 goodReply = none ∧ stripCounts 39 [] = none ∧
    State.reset.live = false ∧ (running.sweep 1).left = [] ∧
    (sweeping [1, 39] ⟨true, 9⟩ 0 running).live = true ∧
    ((sweeping [1, 39] ⟨true, 9⟩ 0 running).sweep 1).left = 1 :: [39] ∧
    ((sweeping [39] ⟨true, 9⟩ 0 running).sweep 1).left = 39 :: [] ∧
    (running.frameSettings 1).sectionIn 1 = true ∧ (running.frameSettings 1).sectionIn 39 = true := by decide

/-- A strip with its two runs. -/
def withStrip (x : Strip) (s : State) : State := { s with watch := { s.watch with strips := [(1, x)] } }

theorem test_witness_StripReadIsTakenWhole_blindness : (withStrip ⟨false, 2, 0, none⟩ running).formed = true ∧
    ((withStrip ⟨false, 2, 0, none⟩ running).strip 1).blind = false ∧
    (((withStrip ⟨false, 2, 0, none⟩ running).countRead 1 1 false).strip 1).blind = true ∧
    (((withStrip ⟨true, 0, 2, none⟩ running).countRead 1 1 true).strip 1).blind = false ∧
    (((withStrip ⟨false, 1, 0, none⟩ running).countRead 1 1 false).strip 1).blind = false := by decide
theorem test_witness_StripReadIsTakenWhole_good :
    let s (x : FrameState) (b : Bool) (c : Option LoopCheck) := withFrame (frameIn x) (withStrip ⟨b, 0, 0, c⟩ running)
    let judges (s : State) : Prop := (s.frame 1).state = .building ∨ (s.frame 1).state = .nearing ∨
      (s.frame 1).state = .called ∨ (s.frame 1).state = .draining
    (judges (s .building false none) ∧ ((s .building false none).strip 1).blind = false ∧
      ((s .building false none).strip 1).check = none) ∧
    ¬judges (s .halted false none) ∧ ((s .draining true none).strip 1).blind = true ∧
    ((s .draining false (some ⟨1, 0#24⟩)).strip 1).check = some ⟨1, 0#24⟩ ∧ judges (s .draining false (some ⟨1, 0#24⟩)) ∧
    ((s .stopping false (some ⟨1, 0#24⟩)).strip 1).check ≠ none ∧ ¬judges (s .stopping false (some ⟨1, 0#24⟩)) ∧
    ({ running with watch := { running.watch with sweeps := [(1, ⟨⟨true, 9⟩, 250, [2]⟩)] } }.frameSettings 1).sectionIn 2 =
      false := by decide

/-- A spindle at a state with a history and a count of sweeps. -/
def spindleAt (x : SpindleState) (h : BitVec 32) (n : Nat) : Spindle := { Spindle.reset with state := x, history := h, since := n }

theorem test_witness_SettlingIsJudged :
    let s (h : BitVec 32) (n : Nat) := withSpindle 1 (spindleAt .settling h n) running
    (s 1#32 5).formed = true ∧ ((s 1#32 5).spindle 1 1).state = .settling ∧
    (((s 1#32 5).spindle 1 1).push true).highRun 2 = true ∧
    (((s 1#32 5).spindle 1 1).push false).highRun 2 = false ∧
    (((s 8#32 5).spindle 1 1).push false).lowRun 3 = true ∧
    (((s 1#32 31).spindle 1 1).push false).since = 32 := by decide
theorem test_witness_RunningIsJudged :
    let s (h : BitVec 32) := withSpindle 1 (spindleAt .running h 32) running
    (s 8#32).formed = true ∧ ((s 8#32).spindle 1 1).state = .running ∧
    (((s 8#32).spindle 1 1).push false).lowRun 3 = true ∧ (((s 9#32).spindle 1 1).push true).lowRun 3 = false ∧
    10 < (((s 9#32).spindle 1 1).push true).lows ∧ (((s 9#32).spindle 1 1).push true).slip = false ∧
    (s 9#32).output.page = none ∧ (paged (s 9#32)).output.page ≠ none := by decide
theorem test_slip_counts :
    let s := paged (withSpindle 1 (spindleAt .running 9#32 32) running)
    ((s.judge 1 1 250).1.counts 1).slips = 1 ∧ (((s.judge 1 1 250).1.judge 1 1 250).1.counts 1).slips = 1 := by decide
theorem test_witness_ProvingIsJudged :
    let s (h : BitVec 32) := withSpindle 1 (spindleAt .proving h 5) running
    (s 1#32).formed = true ∧ ((s 1#32).spindle 1 1).state = .proving ∧
    (((s 1#32).spindle 1 1).push true).highRun 2 = true ∧ (((s 1#32).spindle 1 1).push false).highRun 2 = false ∧
    (((s 8#32).spindle 1 1).push false).lowRun 3 = true := by decide
theorem test_witness_OtherStatesHaveNoTest : running.formed = true ∧ (running.spindle 1 1).state = .absent ∧
    ((withSpindle 1 (spindleIn .checking) running).spindle 1 1).state = .checking ∧
    ((withSpindle 1 (spindleIn .down) running).spindle 1 1).state = .down ∧
    ((withSpindle 1 (spindleIn .cutOut) running).spindle 1 1).state = .cutOut := by decide
theorem test_witness_BreaksAreSettled :
    let s := withSpindle 1 (spindleIn .running) running
    let full := withCreel { Creel.reset with remaining := 5 } s
    let hot : State := { full with rogue := ⟨[(4, ⟨true, 1, 3, 40#32⟩)], []⟩ }
    s.formed = true ∧ (s.creel 1).remaining = 0 ∧ full.formed = true ∧ (full.creel 1).remaining ≠ 0 ∧
    (full.side 1).entries.length < 64 ∧
    (full.rogue.lookup (spindleKey 1 1) full.clock (600 * full.settings.rogueWindow) full.settings.rogueLimit).2.rogue = false ∧
    hot.formed = true ∧
    (hot.rogue.lookup (spindleKey 1 1) hot.clock (600 * hot.settings.rogueWindow) hot.settings.rogueLimit).2.rogue = true := by
  decide
theorem test_witness_BreaksAreSettled_proveFail :
    let s (n : Nat) := withCreel { Creel.reset with remaining := 5 } (withSpindle 1 { spindleIn .proving with attempts := n } running)
    (s 1).formed = true ∧ ((s 1).creel (creelNo 1 1)).remaining ≠ 0 ∧
    min 7 (((s 1).spindle 1 1).attempts + 1) < (s 1).settings.attemptLimit ∧ (s 2).formed = true ∧
    (s 2).settings.attemptLimit ≤ min 7 (((s 2).spindle 1 1).attempts + 1) := by decide

/-! ### Witnesses: the end of a sweep -/

theorem test_witness_SweepsEnd_capture :
    let s (x : FrameState) := paged (withFrame (frameIn x) running)
    let stopped : State := { s .halted with output := { (s .halted).output with
      rollers := [(1, { Roller.reset with stopMark := some 4#32 })] } }
    let pending := withFrame { frameIn .restarting with doffFinish := .pending } running
    (s .building).formed = true ∧ (s .building).output.page ≠ none ∧ running.output.page = none ∧
    (s .building).frame 1 = frameIn .building ∧ ((s .halted).frame 1).state = .halted ∧
    (stopped.formed = true ∧ (stopped.roller 1).stopMark = some 4#32) ∧ (running.frameSettings 1).perSide ≤ 912 ∧
    ((pending.frame 1).state = .restarting ∧ (pending.frame 1).doffFinish = .pending) := by decide
theorem test_witness_SweepsEnd_sections :
    let s (r : Nat) := withCreel { Creel.reset with remaining := r } running
    let long : State := { s 200000 with roving := { (s 200000).roving with queue := List.replicate 32 2 } }
    ((s 200000).formed = true ∧ ((s 200000).creel 1).state = .fed ∧
      ((s 200000).creel 1).remaining / 1000 ≤ (running.frameSettings 1).lowThreshold) ∧
    ¬((s 2000000).creel 1).remaining / 1000 ≤ (running.frameSettings 1).lowThreshold ∧
    (s 200000).roving.queue.length < 32 ∧ (long.formed = true ∧ 32 ≤ long.roving.queue.length) ∧
    ((s 0).creel 1).remaining = 0 ∧ ((s 5).creel 1).remaining ≠ 0 := by decide
theorem test_witness_SweepsEnd_runOut :
    let s (x : Spindle) := withSide { Side.reset with piecer := some 1, entries := [⟨3, 1#32, none⟩] } (withSpindle 3 x
      (withPiecer (attempting none) running))
    (s { spindleIn .down with listed := true }).formed = true ∧
    ((s { spindleIn .down with listed := true }).spindle 1 3).listed = true ∧
    ((s (spindleIn .piecing)).spindle 1 3).state = .piecing ∧
    (((s (spindleIn .piecing)).side 1).piecer = some 1 ∧ ((s (spindleIn .piecing)).piecer 1).side = some 1 ∧
      ((s (spindleIn .piecing)).piecer 1).current ≠ none ∧ ((s (spindleIn .piecing)).piecer 1).spindle = some 3) ∧
    ((s { spindleIn .checking with saved := some .down }).spindle 1 3).saved = some .down ∧ sideOf 1 3 = 1 := by decide

/-- A frame with its roller, where 9000 m are the doff length and 8000 m nearing. -/
def built (x : Frame) (build : Nat) (s : State) : State := withFrame x { s with output := { s.output with
  rollers := [(1, { Roller.reset with build := build, nearingValue := 8000000, doffValue := 9000000 })] } }

theorem test_witness_SweepsEnd_notice :
    let s (x : FrameState) (b : Nat) := built (frameIn x) b running
    let taken := { s .building 9000000 with plan := { running.plan with active := none } }
    ((s .building 9000000).formed = true ∧ ((s .building 9000000).frame 1).state = .building ∧
      ((s .building 9000000).roller 1).doffValue ≤ ((s .building 9000000).roller 1).build) ∧
    (taken.formed = true ∧ taken.freeSlot = none) ∧
    (((s .building 8000000).roller 1).nearingValue ≤ ((s .building 8000000).roller 1).build ∧
      ((s .building 8000000).roller 1).build < ((s .building 8000000).roller 1).doffValue) ∧
    ((s .nearing 8000000).frame 1).state ≠ .restarting ∧
    (let y := built { frameIn .restarting with grace := some 1 } 0 running
    y.formed = true ∧ (y.frame 1).state = .restarting ∧ (y.frame 1).grace = some 1) := by decide
/-- A book with a FRAME_START and a DOFF_NOW of frame 1, in cells 2 and 4. -/
def both (s : State) : State := { s with
  desk := { s.desk with book := [⟨2, 9#32, .frameStart, 1#32, 0#32⟩, ⟨4, 8#32, .doffNow, 1#32, 0#32⟩] } }

theorem test_witness_SweepsEnd_grace :
    let s (x : Frame) := withBook ⟨2, 9#32, .frameStart, 1#32, 0#32⟩ (paged (built x 0 running))
    let finish : Frame := { frameIn .restarting with doffFinish := .pending, grace := some 1, buildM := 9000 }
    let owed : Frame := { frameIn .restarting with doffOwed := true }
    ((s finish).formed = true ∧ ((s finish).frame 1).doffFinish = .pending ∧ ((s finish).frame 1).state ≠ .called ∧
      ¬((s finish).frame 1).doffOwed = true) ∧ ((s owed).formed = true ∧ ((s owed).frame 1).doffOwed = true) ∧
    ((s owed).frame 1).doffFinish = .none ∧
    (∀ b, b ∈ (s finish).desk.book → b.kind = .frameStart ∧ b.p1 = w32 1) ∧ (s finish).desk.book ≠ [] ∧
    (both (s finish)).formed = true ∧ ((both (s finish)).desk.book.map BookEntry.cell).Nodup ∧
    ((both (s finish)).desk.book.map BookEntry.kind = [.frameStart, .doffNow]) ∧
    ((withSpindle 3 { spindleIn .proving with slip := true } (s finish)).spindle 1 3).state ≠ .piecing := by decide

/-! ### Witnesses: the repeat-breaker table -/

/-- Set 1 with its four ways. -/
def fullSet : RogueTable := ⟨[(4, ⟨true, 1, 1, 9#32⟩), (5, ⟨true, 17, 2, 9#32⟩), (6, ⟨true, 33, 3, 9#32⟩),
  (7, ⟨true, 49, 1, 9#32⟩)], [(1, ⟨true, false, false⟩)]⟩

theorem test_witness_KeysAndSets : spindleKey 8 1824 = 16160 ∧ setOfKey 16160 = 0 ∧ sideOf 8 913 = 16 ∧ sideOf 8 912 = 15 := by decide
theorem test_witness_LookupsAndTargets_targets : (State.reset.rogue.entry 1 0).valid = false ∧ State.reset.rogue.target 1 = 0 ∧
    (∀ w, w < 4 → (fullSet.entry 1 w).valid = true) ∧ fullSet.target 1 = 2 := by decide
theorem test_witness_LookupsAndTargets_lookups : fullSet.formed = true ∧
    (∀ w, w < 4 → ¬((fullSet.entry 1 w).valid = true ∧ (fullSet.entry 1 w).key = 65)) ∧ 65 % 16 = 1 ∧
    (fullSet.entry 1 1).valid = true ∧ (fullSet.entry 1 1).key = 17 ∧
    ¬((fullSet.entry 1 0).valid = true ∧ (fullSet.entry 1 0).key = 17) ∧
    5 < (15#32 - (fullSet.entry 1 1).firstStamp).toNat ∧ (10#32 - (fullSet.entry 1 1).firstStamp).toNat ≤ 5 ∧
    (fullSet.entry 1 1).count + 1 < 4 ∧ 3 ≤ (fullSet.entry 1 1).count + 1 := by decide

/-! ### Witnesses: lists and queues -/

def fullSide : Side := ⟨List.replicate 64 ⟨3, 1#32, none⟩, 0, none, none⟩

theorem test_witness_ListingTakesTheTail : running.formed = true ∧ (running.side 1).entries.length < 64 ∧
    (withSide fullSide running).formed = true ∧ 64 ≤ ((withSide fullSide running).side 1).entries.length := by decide
theorem test_witness_JournalKeepsItsMarks :
    let s (cap mark : Nat) (p : List JournalEntry) (drops : Nat) : State := { running with
      writer := { running.writer with capacity := cap, writeMark := mark, pending := p, drops := drops } }
    let e : JournalEntry := ⟨.slip, 1, 0, 9#32, []⟩
    ((s 256 0 [] 0).formed = true ∧ (s 256 0 [] 0).journalOpen = true ∧ (s 256 0 [] 0).journalRoom = true) ∧
    ((s 256 255 [] 0).journalRoom = false ∧ (s 256 255 [] 0).formed = true) ∧ State.reset.journalOpen = false ∧
    (s 256 255 [e] 0).writer.pending.length < 32 ∧
    ((s 256 255 (List.replicate 32 e) 0).formed = true ∧
      (s 256 255 (List.replicate 32 e) 0).writer.pending = e :: List.replicate 31 e) ∧
    ((s 256 63 [] 0).unread < running.settings.journalThreshold ∧
      running.settings.journalThreshold ≤ (s 256 64 [] 0).unread) ∧
    ((9#32).toNat < 256 ∧ ((9#32).toNat + 256 - (s 256 63 [] 0).desk.readMark) % 256 ≤ (s 256 63 [] 0).unread) ∧
    ¬((99#32).toNat + 256 - (s 256 63 [] 0).desk.readMark) % 256 ≤ (s 256 63 [] 0).unread ∧
    (0 < (s 256 255 [e] 2).writer.drops ∧ (s 256 255 [e] 2).journalRoom = false) ∧
    ((s 256 9 [e] 2).journalRoom = true ∧ (s 256 9 [e] 0).writer.drops = 0) := by decide
/-- A part RUNNING with a journal of 256 entries, of which this many are unread. -/
def journalOf (unread : Nat) (p : List JournalEntry) (drops : Nat) : State := { running with
  writer := { running.writer with capacity := 256, writeMark := unread, pending := p, drops := drops } }

theorem test_witness_JournalKeepsItsMarks_step : (journalOf 255 [] 0).marksKept = true ∧
    0 < (journalOf 255 [] 0).writer.capacity ∧ (journalOf 255 [] 0).sound = true ∧
    (∃ t, step (journalOf 255 [] 0) = .next t) ∧ (journalOf 256 [] 0).marksKept = false :=
  ⟨by decide, by decide, by decide, ⟨_, rfl⟩, by decide⟩
theorem test_flush_stops_at_room :
    let e (n : Nat) : JournalEntry := ⟨.slip, 1, 0, w32 n, []⟩
    let u := (journalOf 253 [e 1, e 2, e 3] 2).flushJournal
    u.writer.pending = [e 2, e 3] ∧ u.writer.queue.length = 2 ∧ u.journalRoom = false ∧ u.marksKept = true := by decide
theorem test_witness_HandedCommandsQueue :
    let q (l : List Cmd) (sent : Bool) := withUnit 9 { answers with queue := l, sent := sent } running
    (running.unit 9).presence ≠ .present ∧ (q [.status] false).formed = true ∧
    ((q [.status] false).unit 9).queue.contains .status = true ∧ ((q [.park] true).unit 9).presence = .present ∧
    (q [.status, .goto 1, .goto 2, .goto 3] true).formed = true ∧
    ((q [.hold 1#16, .hold 2#16, .hold 3#16, .hold 4#16] true).unit 9).queue.length = 4 := by decide
theorem test_witness_EventsSettle_round :
    let s (w : Work) : State := { running with work := w }
    State.reset.regs.part = .halted ∧ running.regs.part ≠ .halted ∧ running.settleRound.work = ⟨false, false, [], []⟩ ∧
    (s ⟨true, true, [], []⟩).working = true ∧ (s ⟨true, true, [], []⟩).work.arbiter = true ∧
    (s ⟨true, true, [], []⟩).work.refill = true ∧ running.work.refill = false ∧ winding.working = false := by
  decide +kernel
theorem test_witness_EventsSettle_losses :
    let s := withCarrier (carrierIn .working) (withPiecer (attempting none) running)
    s.formed = true ∧ (s.carrier 1).state.serving = true ∧ (s.carrier 1).creel = some 1 ∧ (s.carrier 2).state = .absent ∧
    (s.piecer 1).state ≠ .lost ∧ (s.piecer 2).state = .absent := by decide

/-- Two ends of side 1, and a piecer ON_SIDE there at spindle 5. -/
def ended (x : Frame) : State := withFrame x { running with
  watch := { running.watch with
    spindles := [(3, { spindleIn .down with listed := true }), (9, { spindleIn .down with listed := true })] }
  disp := { running.disp with
    sides := [(1, ⟨[⟨9, 1#32, some .run⟩, ⟨3, 2#32, some .run⟩], 2, some 1#32, some 1⟩)]
    piecers := [(1, { Piecer.reset with state := .onSide, side := some 1, position := some 5 })] } }

theorem test_witness_EventsSettle_ends :
    let s := ended (frameIn .building)
    (s.formed = true ∧ (s.side 1).piecer = some 1 ∧ (s.piecer 1).state = .onSide ∧ s.working = true) ∧
    s.eligible 1 = [⟨9, 1#32, some .run⟩, ⟨3, 2#32, some .run⟩] ∧ (ended (frameIn .halted)).eligible 1 = [] ∧
    chooseEnd false 5 [9, 3] = some (9, false) ∧ chooseEnd true 5 [9, 3] = some (3, true) ∧
    chooseEnd false 5 [3] = some (3, true) ∧ chooseEnd false 5 [] = none ∧ (s.side 2).piecer = none ∧
    (withSpindle 7 (spindleIn .down) running).formed = true := by decide
theorem test_witness_EventsSettle_pool :
    let s (x : Piecer) := withFrame (frameIn .building) (withPiecer x { running with
      disp := { running.disp with sides := [(1, ⟨[], 6, some 3#32, none⟩), (2, ⟨[], 6, some 3#32, none⟩)] } })
    let t (x : Piecer) : State := { s x with disp := { (s x).disp with piecers := [(1, x)] } }
    let parked : Piecer := { Piecer.reset with state := .parked }
    let onSide : Piecer := { Piecer.reset with state := .onSide, side := some 3 }
    ((t parked).formed = true ∧ parked.placement = .pool ∧ ((t parked).side 1).piecer = none ∧
      running.settings.lendThreshold ≤ ((t parked).side 1).backlog ∧ (t parked).lendTarget allSides = some 1) ∧
    ((t { parked with home := some 2 }).frame ((2 + 1) / 2)).state = .building ∧
    (((t { onSide with home := some 2 }).side 3).backlog = 0 ∧ 1 ≤ ((t { onSide with home := some 2 }).side 2).backlog) ∧
    running.lendTarget allSides = none ∧ (running.side 4).piecer = none ∧ parked.side ≠ some 4 := by decide
theorem test_witness_EventsSettle_carriers :
    let s (l : List Nat) : State := { running with roving := { running.roving with
      queue := l, carriers := [(1, { Carrier.reset with state := .idle })]
      creels := [(1, { Creel.reset with state := .queued }), (2, { Creel.reset with state := .low })] } }
    let drain := withFrame (frameIn .draining) running
    (drain.formed = true ∧ (drain.frame 1).state = .draining ∧ drain.attemptsOn 1 = []) ∧
    (running.frame 1).state ≠ .draining ∧ ((s [1]).formed = true ∧ (s [1]).working = true) ∧
    ((s [1]).carrier 1).state = .idle ∧ (s [1]).roving.queue = 1 :: [] ∧ (s []).roving.queue = [] ∧
    ((s []).creel 2).state = .low ∧ (∀ c, c < 5 → (running.carrier c).state ≠ .idle) := by decide

/-! ### Witnesses: orders -/

/-- Seventeen orders are too many for the book. -/
def fullBook : List BookEntry := List.replicate 16 ⟨9, 9#32, .doffNow, 8#32, 0#32⟩

theorem test_witness_CellsAreTakenInTurn :
    let c := cellOf .doffNow 1 0 0
    let s := ordered .doffNow 1 0 0 running
    running.orderIsNext .doffNow [1#32] = none ∧ s.orderIsNext .doffNow [1#32] = some c ∧
    later c.seq s.desk.lastTaken = true ∧ c.deferred = false ∧ isLong .doffNow c = true ∧ s.duplicate .doffNow c = false ∧
    later c.seq 1#32 = false ∧ later c.seq 5#32 = false ∧
    (withBook ⟨2, 0#32, .doffNow, 1#32, 0#32⟩ s).duplicate .doffNow c = true ∧
    { s with desk := { s.desk with book := fullBook } }.duplicate .doffNow c = false ∧ 16 ≤ fullBook.length := by decide

/-- An order that is taken. -/
def isTaken (s : State) (k : OrderKind) (ps : List Word) (c : CellRead) : Bool :=
  s.formed && s.orderIsNext k ps == some c && later c.seq s.desk.lastTaken && !s.duplicate k c &&
    decide (s.desk.book.length < 16)

theorem taken_of_isTaken (s : State) (k : OrderKind) (ps : List Word) (c : CellRead) (h : isTaken s k ps c = true) :
    s.formed = true ∧ s.takes k ps c := by
  simp only [isTaken, Bool.and_eq_true, beq_iff_eq, Bool.not_eq_true', decide_eq_true_eq] at h
  obtain ⟨⟨⟨⟨hf, hn⟩, hl⟩, hd⟩, hb⟩ := h
  exact ⟨hf, hn, .inr hl, fun _ => ⟨hd, hb⟩⟩

theorem test_witness_CutOutsAreMadeAndCleared_cutOut :
    let c := cellOf .cutOut 1 3 0
    let s (x : SpindleState) := withSpindle 3 (spindleIn x) (ordered .cutOut 1 3 0 running)
    isTaken (s .running) .cutOut [1#32, 3#32] c = true ∧ isTaken (s .cutOut) .cutOut [1#32, 3#32] c = true ∧
    isTaken (s .piecing) .cutOut [1#32, 3#32] c = true ∧ isTaken (s .down) .cutOut [1#32, 3#32] c = true ∧
    isTaken (ordered .cutOut 1 3 0 running) .cutOut [1#32, 3#32] c = true ∧
    isTaken (ordered .cutOut 9 1824 0 running) .cutOut [9#32, 1824#32] (cellOf .cutOut 9 1824 0) = true ∧
    isTaken (ordered .cutOut 8 1825 0 running) .cutOut [8#32, 1825#32] (cellOf .cutOut 8 1825 0) = true := by decide
theorem test_witness_CutOutsAreMadeAndCleared_clear :
    isTaken (withSpindle 3 (spindleIn .cutOut) (ordered .clearCutout 1 1 3 running)) .clearCutout [1#32, 1#32, 3#32]
      (cellOf .clearCutout 1 1 3) = true ∧ rangeOk (cellOf .clearCutout 1 1 3) = true ∧
    isTaken (ordered .clearCutout 1 4 3 running) .clearCutout [1#32, 4#32, 3#32] (cellOf .clearCutout 1 4 3) = true ∧
    rangeOk (cellOf .clearCutout 1 4 3) = false ∧ rangeOk (cellOf .clearCutout 8 1824 1824) = true ∧
    rangeOk (cellOf .clearCutout 9 1 1) = false := by decide
theorem test_witness_ClearSlipClearsTheRange :
    isTaken (withSpindle 3 { spindleIn .absent with slip := true } (ordered .clearSlip 1 3 3 running)) .clearSlip
      [1#32, 3#32, 3#32] (cellOf .clearSlip 1 3 3) = true ∧ rangeOk (cellOf .clearSlip 1 3 3) = true ∧
    isTaken (ordered .clearSlip 0 1 1 running) .clearSlip [0#32, 1#32, 1#32] (cellOf .clearSlip 0 1 1) = true ∧
    rangeOk (cellOf .clearSlip 0 1 1) = false := by decide
theorem test_witness_SelfCheckBegins :
    let s := withFrame (frameIn .building) (ordered .selfCheck 1 1 0 running)
    let c := cellOf .selfCheck 1 1 0
    isTaken (withSpindle 3 (spindleIn .running) s) .selfCheck [1#32, 1#32] c = true ∧ (s.frame 1).state ≠ .out ∧
    (s.frameSettings 1).sectionIn 1 = true ∧ (s.frameSettings 1).sectionIn 2 = false ∧ (s.creel 1).lock = .none ∧
    isTaken (withSpindle 24 (spindleIn .proving) s) .selfCheck [1#32, 1#32] c = true ∧
    isTaken (withCreel { Creel.reset with lock := .piecer 1 } s) .selfCheck [1#32, 1#32] c = true ∧
    isTaken (ordered .selfCheck 1 77 0 running) .selfCheck [1#32, 77#32] (cellOf .selfCheck 1 77 0) = true := by decide
theorem test_witness_SelfChecksRunAndEnd :
    let s (n : Nat) : State := withBook ⟨2, 9#32, .selfCheck, 1#32, 1#32⟩ (paged (withSpindle 3 { spindleIn .checking with
      saved := some .down } (withStrip ⟨false, 0, 0, some ⟨n, 4#24⟩⟩ running)))
    (s 3).formed = true ∧ ((s 3).strip (creelNo 1 1)).check = some ⟨3, 4#24⟩ ∧ (List.replicate 24 0).length = 24 ∧
    (⟨3, 4#24⟩ : LoopCheck).sweeps + 1 = 4 ∧ (⟨1, 4#24⟩ : LoopCheck).sweeps + 1 ≠ 4 ∧
    ((s 3).spindle 1 3).state = .checking ∧ (4#24 : BitVec 24).getLsbD ((3 - 1) % 24) = true ∧
    ((s 3).spindle 1 4).state ≠ .checking ∧ (s 3).output.page ≠ none ∧ ((s 3).counts 1).cutSensor ≤ 4294967295 ∧
    (∀ b, b ∈ (s 3).desk.book → b.kind = .selfCheck ∧ b.p1 = w32 1 ∧ b.p2 = w32 1) ∧ (s 3).desk.book ≠ [] := by decide
theorem test_witness_TableReadTakesASnapshot :
    isTaken (ordered .tableRead 0 0 0 running) .tableRead [] (cellOf .tableRead 0 0 0) = true := by decide

theorem test_witness_PiecerPlaceByTarget :
    let s (d : Nat) (x : Piecer) := withFrame (frameIn .building) (withPiecer x (ordered .piecerPlace 1 d 0 running))
    let t (d : Nat) (x : Piecer) := isTaken (s d x) .piecerPlace [1#32, w32 d] (cellOf .piecerPlace 1 d 0) = true
    let onSide : Piecer := { Piecer.reset with state := .onSide, side := some 1 }
    let parked : Piecer := { Piecer.reset with state := .parked }
    t 1 onSide ∧ t 2 onSide ∧ t 1 { onSide with state := .moving } ∧ t 2 { onSide with state := .moving } ∧ t 17 onSide ∧
    t 17 (attempting (some .join)) ∧ t 17 (attempting (some .find)) ∧ t 17 parked ∧ t 17 { parked with atBay := true } ∧
    t 18 parked ∧ t 19 parked ∧ t 1 { parked with state := .lost } ∧
    ((s 2 onSide).side 2).piecer = none ∧ onSide.current = none ∧ (attempting none).spindle ≠ none ∧
    pastJoin (some .join) = true ∧ pastJoin (some .thread) = false ∧
    isTaken (withSide { Side.reset with piecer := some 2 } (s 1 parked)) .piecerPlace [1#32, 1#32] (cellOf .piecerPlace 1 1 0)
      = true := by decide
theorem test_witness_DoffNowAndFrameStopAct_now :
    let t (x : FrameState) := isTaken (withFrame (frameIn x) (ordered .doffNow 1 0 0 running)) .doffNow [1#32]
      (cellOf .doffNow 1 0 0) = true
    t .building ∧ t .nearing ∧ t .called ∧ t .halted ∧ t .restarting ∧
    isTaken (ordered .doffNow 1 0 0 running) .doffNow [1#32] (cellOf .doffNow 1 0 0) = true ∧
    isTaken (ordered .doffNow 9 0 0 running) .doffNow [9#32] (cellOf .doffNow 9 0 0) = true ∧ State.reset.freeSlot = none ∧
    running.freeSlot = some 1 ∧ running.nextCalled = none := by decide
theorem test_witness_DoffNowAndFrameStopAct_stop :
    let t (x : Frame) := isTaken (withFrame x (ordered .frameStop 1 0 0 running)) .frameStop [1#32] (cellOf .frameStop 1 0 0)
      = true
    t (frameIn .building) ∧ t (frameIn .halted) ∧ t { frameIn .restarting with doffFinish := .pending } ∧
    t { frameIn .draining with slot := some 1 } ∧ t (frameIn .called) ∧
    isTaken (both (withFrame { frameIn .restarting with doffFinish := .pending } (ordered .frameStop 1 0 0 running))) .frameStop
      [1#32] (cellOf .frameStop 1 0 0) = true ∧ ((both running).desk.book.map BookEntry.cell).Nodup ∧
    isTaken (ordered .frameStop 0 0 0 running) .frameStop [0#32] (cellOf .frameStop 0 0 0) = true ∧
    isTaken (ordered .frameStop 1 0 0 running) .frameStop [1#32] (cellOf .frameStop 1 0 0) = true := by decide
theorem test_witness_FrameStartRestartsAFrame :
    let t (x : Frame) (u : Machine.Unit) := isTaken (withUnit 1 u (withFrame x (ordered .frameStart 1 0 0 running))) .frameStart
      [1#32] (cellOf .frameStart 1 0 0) = true
    t (frameIn .halted) answers ∧ t (frameIn .halted) { answers with presence := .lost } ∧ t (frameIn .building) answers ∧
    t (frameIn .halted) { answers with presence := .absent } ∧
    isTaken (ordered .frameStart 9 0 0 running) .frameStart [9#32] (cellOf .frameStart 9 0 0) = true := by decide
theorem test_witness_CreelChangeQueuesASection :
    let s := withFrame (frameIn .building) (ordered .creelChange 1 39 0 running)
    let t (s : State) := isTaken s .creelChange [1#32, 39#32] (cellOf .creelChange 1 39 0) = true
    t s ∧ (s.frameSettings 1).sectionIn 39 = true ∧ (s.creel 39).state = .fed ∧ s.roving.queue.length < 32 ∧
    t { s with roving := { s.roving with queue := List.replicate 32 2 } } ∧
    t { s with roving := { s.roving with creels := [(39, { Creel.reset with state := .queued })] } } ∧
    t (ordered .creelChange 1 39 0 running) ∧
    isTaken (ordered .creelChange 1 0 0 running) .creelChange [1#32, 0#32] (cellOf .creelChange 1 0 0) = true := by decide

theorem test_witness_ShiftBoundariesTurnThePage :
    (paged running).formed = true ∧ (paged running).output.shift = ⟨true, 0⟩ ∧ (paged running).freePages = 2 :: [] ∧
    (crowded running).freePages = [] ∧ running.plan.pending = none ∧ running.output.shift ≠ ⟨true, 0⟩ ∧
    isTaken (paged (ordered .shiftClose 0 0 0 running)) .shiftClose [] (cellOf .shiftClose 0 0 0) = true ∧
    isTaken (crowded (ordered .shiftClose 0 0 0 running)) .shiftClose [] (cellOf .shiftClose 0 0 0) = true := by decide
theorem test_witness_PlanSwitchIsDecided :
    let t (c m : Nat) := isTaken (ordered .planSwitch c m 0 running) .planSwitch [w32 c, w32 m] (cellOf .planSwitch c m 0) = true
    t 1 1 ∧ t 2 2 ∧ t 3 1 ∧ t 1 0 ∧
    (isTaken { ordered .planSwitch 2 1 0 running with plan := { running.plan with pending := some ⟨plan1, 9#32⟩ } }
      .planSwitch [2#32, 1#32] (cellOf .planSwitch 2 1 0) = true) := by decide

theorem test_witness_PlanSwitchIsDecided_read :
    2048 ≤ (⟨.q, planWords.reverse⟩ : PlanRead).words.length ∧
    { running with writer := { running.writer with capacity := 256 } }.switchFault .q planWords = none ∧
    (running.switchFault .q planWords).isSome = true ∧ (running.switchFault .p planWords).isSome = true := by
  decide +kernel
/-- The same copy with some words changed and its check word right. -/
def planWith (l : List (Nat × Nat)) : List Word :=
  let w := (l.foldl (fun w e => w.set e.1 (w32 e.2)) planWords).take 2047
  w ++ [~~~ wordSum w]

theorem test_witness_PlanSwitchIsDecided_items :
    let s : State := { withFrame (frameIn .building) running with writer := { running.writer with capacity := 256 } }
    let f (x : List (Nat × Nat)) := s.switchFault .q (planWith x)
    planWords.length = 2048 ∧ s.switchFault .p planWords = some ⟨1, 0, 0⟩ ∧
    s.switchFault .q (planWords.set 0 0#32) = some ⟨2, 0, 0⟩ ∧ f [(1, 99)] = some ⟨3, 0, 1⟩ ∧ f [(18, 256)] = some ⟨4, 0, 18⟩ ∧
    f [(26, 17)] = some ⟨3, 0, 26⟩ ∧ f [(64, 2)] = some ⟨3, 1, 1⟩ ∧ f [(64, 1), (65, 25)] = some ⟨3, 1, 2⟩ ∧
    f [(19, 3), (20, 3)] = some ⟨5, 0, 20⟩ ∧ f [] = some ⟨6, 1, 1⟩ := by decide +kernel

theorem test_witness_WithdrawAnswersByTheNamedOrder :
    let t (s : State) := isTaken s .withdraw [9#32] (cellOf .withdraw 9 0 0) = true
    let s := ordered .withdraw 9 0 0 running
    let named (k : OrderKind) := withBook ⟨2, 9#32, k, 1#32, 1#32⟩ s
    t s ∧ t (withFrame (frameIn .called) (named .doffNow)) ∧ t (withFrame (frameIn .doffing) (named .doffNow)) ∧
    t (withCreel { Creel.reset with state := .queued } (named .creelChange)) ∧
    t (withPiecer { Piecer.reset with state := .moving } (named .piecerPlace)) ∧
    t { named .planSwitch with plan := { running.plan with pending := some ⟨plan1, 9#32⟩ } } ∧
    t { s with desk := { s.desk with deferred := [(2, 9#32)] } } := by decide

/-! ### Witnesses: timeouts -/

theorem test_witness_AttemptsTimeOutAndHold :
    let s := withSpindle 3 (spindleIn .piecing) (withPiecer (attempting none) running)
    s.formed = true ∧ s.regs.part ≠ .halted ∧ (s.piecer 1).attempt = ⟨true, 0⟩ ∧ (s.piecer 1).current = some 5#16 ∧
    (s.piecer 1).spindle = some 3 ∧ (s.piecer 1).side = some 1 ∧ (s.spindle 1 3).state = .piecing ∧
    (running.piecer 1).attempt ≠ ⟨true, 0⟩ := by decide
theorem test_witness_PiecersAreLostOrPlacedInTheBay :
    let out (x : PiecerState) : Piecer := { Piecer.reset with state := x, travel := ⟨true, 0⟩ }
    (withPiecer (out .moving) running).formed = true ∧ (out .parked).state = .parked ∧
    (withPiecer { out .lost with returned := true } running).formed = true ∧ { out .lost with returned := true }.returned = true ∧
    (running.piecer 1).travel ≠ ⟨true, 0⟩ ∧ (out .moving).state ≠ .absent ∧ (out .moving).state ≠ .lost := by decide
theorem test_witness_DoffTimersHaltTheFrame :
    let s := withFrame { frameIn .stopping with slot := some 1, stopTimer := ⟨true, 0⟩ } running
    let t := withFrame { frameIn .doffing with slot := some 1, doffTimer := ⟨true, 0⟩ } running
    s.formed = true ∧ t.formed = true ∧ s.regs.part ≠ .halted ∧ (s.frame 1).stopTimer = ⟨true, 0⟩ ∧
    (t.frame 1).doffTimer = ⟨true, 0⟩ ∧ (s.frame 1).doffTimer ≠ ⟨true, 0⟩ ∧ s.nextCalled = none := by decide
theorem test_witness_ChangesEnd_fail :
    let s := withCarrier { carrierIn .working with change := ⟨true, 0⟩ } running
    s.formed = true ∧ s.regs.part ≠ .halted ∧ (s.carrier 1).change = ⟨true, 0⟩ ∧ (s.carrier 1).creel = some 1 ∧
    (s.carrier 1).state.serving = true ∧ (running.carrier 1).change ≠ ⟨true, 0⟩ := by decide

/-! ### Witnesses: the unit link -/

/-- A new report from a unit at an address. -/
def isReporting (s : State) (a : Nat) : Bool :=
  s.formed && s.awaiting == some (visitOf a) && s.link.mode == .cycling && decide ((s.unit a).presence = .present) &&
    fresh.seq != (s.unit a).ack

theorem reports_of_isReporting (s : State) (a : Nat) (h : isReporting s a = true) :
    s.formed = true ∧ s.reports (visitOf a) fresh (unitKind a) := by
  simp only [isReporting, Bool.and_eq_true, beq_iff_eq, bne_iff_ne, decide_eq_true_eq] at h
  obtain ⟨⟨⟨⟨hf, hv⟩, hm⟩, hp⟩, hs⟩ := h
  exact ⟨hf, ⟨hv, hm, hp⟩, rfl, hs⟩
theorem test_witness_PiecersAreLostOrPlacedInTheBay_back :
    let s (x : Piecer) (y : Frame) := visited 9 (withFrame y (withPiecer { x with state := .lost } running))
    let t (x : Piecer) (y : Frame) : Prop := isReporting (s x y) 9 = true
    let x := Piecer.reset
    let y := frameIn .building
    let out : Frame := { frameIn .out with alarm := true }
    t x y ∧ t { x with byLink := true } y ∧ t { x with returned := true, void := some 3#16 } y ∧
    t { x with returned := true, home := some 1 } out ∧ ((s x y).side 1).piecer = none ∧
    ((s x y).frame ((1 + 1) / 2)).state ≠ .out ∧ ((s x out).frame ((1 + 1) / 2)).state = .out ∧
    (s x y).working = true ∧ (s x y).winding = false ∧ (s x y).lendTarget allSides = none ∧
    isReporting (visited 9 (withPiecer { x with state := .lost } winding)) 9 = true ∧ winding.winding = true ∧
    isReporting (visited 9 (withPiecer (attempting none) running)) 9 = true ∧ 9 = 8 + 1 := by decide
theorem test_witness_ChangesEnd_failReports :
    let t (x : CarrierState) := isReporting (visited 17 (withCarrier (carrierIn x) running)) 17 = true
    t .idle ∧ t .returning ∧ t .fault ∧ t .lost ∧ t .working ∧ (CarrierState.working).serving = true ∧ 17 = 16 + 1 := by decide

theorem test_witness_VisitsBegin :
    let s (x : Machine.Unit) := withUnit 9 x running
    running.link.visit = none ∧ running.link.idle = none ∧ running.link.mode = .cycling ∧ State.reset.link.mode = .off ∧
    (s { answers with queue := [.park] }).formed = true ∧ (s answers).link.next = 1 ∧
    (∀ b, b < 9 → 1 ≤ b → ((s answers).unit b).presence = .absent) ∧ ((s answers).unit 9).presence = .present ∧
    ((s { answers with queue := [.park] }).unit 9).queue = .park :: [] ∧
    ((s { answers with queue := [.status], resync := true }).unit 9).queue = .status :: [] ∧
    ((s { answers with queue := [.park], resync := true }).unit 9).resync = true ∧
    ((s { answers with presence := .lost }).link.cycle = 0) ∧
    (∀ a, a < 21 → 1 ≤ a → (running.unit a).presence = .absent) ∧
    { running.link with idle := some ⟨true, 0⟩ }.idle = some ⟨true, 0⟩ := by decide
theorem test_witness_VisitsBegin_census :
    let c (round next : Nat) : Census := ⟨round, next, [1], [9], [(1, .running, 5)]⟩
    let s (round next : Nat) (v : Option Visit) : State := { startingAt .census with
      plan := running.plan, link := { State.reset.link with mode := .census (c round next), visit := v } }
    let counting : State := { s 2 1 none with link := { (s 2 1 none).link with units := [(1, answers), (9, answers)] } }
    let gone : State := visited 9 running
    let lost : State := { gone with link := { gone.link with units := [(9, { answers with presence := .lost })] } }
    (s 2 1 none).formed = true ∧ (s 2 1 none).link.visit = none ∧ (s 2 1 none).regs.part ≠ .halted ∧
    (s 1 9 (some (visitOf 9))).awaiting = some (visitOf 9) ∧ (s 2 1 (some (visitOf 1))).awaiting = some (visitOf 1) ∧
    (1 ≤ 8 ∧ 1 ∈ (c 2 1).answered) ∧ (((s 2 9 none).unit 9).presence = .absent ∧ 9 ∈ (c 2 9).wrong) ∧
    (kindOwner (Report.state .running 5).kind = some (unitKind 1) ∧ (Report.state .running 5).inRange = true) ∧
    (counting.formed = true ∧ ∀ a, a < 21 → (counting.unit a).queue = []) ∧
    (counting.frameSettings 1).inPlan = true ∧ (counting.frameSettings 2).inPlan = false ∧
    (c 2 20).drives.find? (fun e => e.1 == 1) = some (1, .running, 5) ∧
    lost.formed = true ∧ lost.awaiting = some (visitOf 9) ∧ lost.link.mode = .cycling ∧
    (lost.unit 9).presence = .lost ∧ (lost.unit 9).queue = [] := by decide
theorem test_witness_VisitsEnd_misses :
    let s := visited 9 running
    let bad := linkMessage 9 44 true false 0#16 []
    s.formed = true ∧ s.link.visit = some (visitOf 9) ∧ s.link.mode = .cycling ∧ running.link.visit = none ∧
    (visitOf 9).window ≠ ⟨true, 0⟩ ∧ { visitOf 9 with window := ⟨true, 0⟩ }.window = ⟨true, 0⟩ ∧
    judgeReply 9 false (linkMessage 9 41 true false 0#16 []) = none ∧ judgeReply 9 false bad = some .wrongKind ∧
    judgeReply 9 true [] = some .badReply ∧ (s.unit 9).misses ≠ 2 ∧
    ((withUnit 9 { answers with misses := 2 } s).unit 9).misses = 2 ∧
    (withUnit 9 { answers with presence := .lost } s).formed = true ∧
    kindOwner (Report.arrived).kind ≠ some (unitKind 9) ∧ s.awaiting = some (visitOf 9) := by decide +kernel
theorem test_witness_VisitsEnd_replies :
    let s := visited 9 running
    let v : Visit := { visitOf 9 with cmd := some .park }
    let t : State := { s with link := { s.link with
      units := [(9, { answers with queue := [.park], sent := true, headSeq := some true })], visit := some v } }
    isReporting s 9 = true ∧ t.formed = true ∧ t.awaiting = some v ∧ (t.unit 9).presence = .present ∧
    t.link.mode = .cycling ∧ (t.unit 9).headSeq = some true ∧ (t.unit 9).sent = true ∧
    kindOwner (Report.parked).kind = some (unitKind 9) ∧ (Report.parked).inRange = true ∧ (t.unit 9).ack = false := by decide

/-! ### Witnesses: reports -/

theorem test_witness_DriveReportsByFrameState :
    let t (x : Frame) := isReporting (visited 1 (withFrame x running)) 1 = true
    (isReporting (visited 1 running) 1 = true ∧ t (frameIn .halted) ∧ t (frameIn .building) ∧ t (frameIn .stopping) ∧ t (frameIn .doffing) ∧
      t { frameIn .halted with haltCause := some .doffTimeout, doffOwed := true }) ∧
    unitKind 1 = .drive ∧ unitKind 8 = .drive ∧ (4294967#32).toNat ≤ 4294967 := by decide
theorem test_witness_PiecersArrive :
    let t (x : Piecer) := isReporting (visited 9 (withPiecer x running)) 9 = true
    let x : Piecer := { Piecer.reset with state := .moving, side := some 1 }
    (t x ∧ t { x with parkOwed := true } ∧ t { x with state := .onSide } ∧ t { x with state := .parked, side := none } ∧
      t { x with state := .parked, side := none, atBay := true } ∧ t { x with state := .lost, side := none }) ∧
    unitKind 9 = .piecer ∧ unitKind 16 = .piecer := by decide
theorem test_witness_StepsAndResults_steps :
    isReporting (visited 9 (withPiecer (attempting none) running)) 9 = true ∧
    isReporting (visited 9 (withPiecer (attempting (some .join)) running)) 9 = true ∧
    (attempting none).current = some 5#16 ∧ (attempting none).side = some 1 ∧ (attempting none).state = .attempting := by
  decide
theorem test_witness_StepsAndResults_results :
    let s (x : Spindle) := visited 9 (withSpindle 3 x (withPiecer (attempting none) running))
    isReporting (s (spindleIn .piecing)) 9 = true ∧ ((s (spindleIn .piecing)).spindle 1 3).state = .piecing ∧
    min 7 ((s (spindleIn .piecing)).spindle 1 3).attempts + 1 < 3 ∧
    isReporting (s { spindleIn .piecing with attempts := 2 }) 9 = true ∧
    ((s (spindleIn .piecing)).creel 1).remaining = 0 ∧
    isReporting (withCreel { Creel.reset with remaining := 9 } (s (spindleIn .piecing))) 9 = true := by decide
theorem test_witness_VoidTokenReports :
    let s := visited 9 (withPiecer { attempting none with void := some 4#16 } running)
    isReporting s 9 = true ∧ (s.piecer 1).void = some 4#16 ∧ (s.piecer 1).current ≠ some 4#16 ∧
    (s.piecer 1).current ≠ some 6#16 ∧ (s.piecer 1).void ≠ some 6#16 ∧
    isReporting (visited 9 (withPiecer { attempting none with state := .held } running)) 9 = true ∧
    isReporting (visited 9 (withPiecer { Piecer.reset with void := some 4#16 } running)) 9 = true := by decide
theorem test_witness_AttemptsTimeOutAndHold_hold :
    let s (o : Option AttemptStep) (x : Creel) := visited 9 (withCreel x (withPiecer (attempting o) running))
    let claimed : Creel := { Creel.reset with lock := .piecer 1, waiting := .carrier 1, holdSent := true }
    isReporting (s (some .thread) claimed) 9 = true ∧ isReporting (s (some .join) claimed) 9 = true ∧
    isReporting (s none { claimed with waiting := .none }) 9 = true ∧ creelNo 1 ((3 - 1) / 24 + 1) = 1 ∧
    ((s none claimed).creel 1).waiting = .carrier 1 ∧
    isReporting (visited 9 (withPiecer { attempting none with state := .held } running)) 9 = true := by decide
theorem test_witness_LotsAndArrivals_lots :
    isReporting (visited 17 (withCarrier (carrierIn .loading) running)) 17 = true ∧
    isReporting (visited 17 (withCarrier (carrierIn .idle) running)) 17 = true ∧
    (carrierIn .loading).creel = some 1 ∧ BitVec.ofNat 16 (running.frameSettings 1).lot = 7#16 ∧ unitKind 17 = .carrier := by
  decide
theorem test_witness_LotsAndArrivals_arrivals :
    let s (x : Creel) := visited 17 (withCreel x (withPiecer (attempting none) (withCarrier (carrierIn .travel) running)))
    isReporting (visited 17 (withCarrier (carrierIn .travel) running)) 17 = true ∧
    isReporting (s { Creel.reset with lock := .piecer 1 }) 17 = true ∧
    ((s { Creel.reset with lock := .piecer 1 }).creel 1).lock = .piecer 1 ∧
    isReporting (visited 17 (withCarrier (carrierIn .idle) running)) 17 = true ∧ pastJoin none = false := by decide
theorem test_witness_ChangesEnd_done :
    let s (x : Creel) := visited 17 (withCreel x (withCarrier (carrierIn .working) running))
    isReporting (s { Creel.reset with lock := .carrier 1 }) 17 = true ∧
    isReporting (withSpindle 3 (spindleIn .starved) (s { Creel.reset with lock := .carrier 1, waiting := .piecer 1 })) 17 = true ∧
    isReporting (visited 17 (withCarrier (carrierIn .travel) running)) 17 = true := by decide
theorem test_witness_CarriersReturn :
    let t (x : CarrierState) := isReporting (visited 17 (withCarrier (carrierIn x) running)) 17 = true
    (t .returning ∧ t .fault ∧ t .working ∧ t .idle ∧ t .lost) ∧ (CarrierState.working).serving = true ∧
    (withCarrier { carrierIn .returning with back := ⟨true, 0⟩ } running).formed = true ∧
    ((withCarrier { carrierIn .returning with back := ⟨true, 0⟩ } running).carrier 1).back = ⟨true, 0⟩ := by decide

/-! ### Witnesses: the board, the switch, the end, the writer -/

/-- The board scan stands at a step. -/
def scanning (x : ScanStep) (s : State) : State := { s with desk := { s.desk with scan := some x } }
/-- The order's cell is TAKEN in the view, or POSTED. -/
def viewed (x : CellStage) (s : State) : State := { s with desk := { s.desk with view := [(2, x)] } }

theorem test_witness_EveryStepKeepsTheBook :
    let s := viewed .taken (withBook ⟨2, 9#32, .doffNow, 1#32, 0#32⟩ (ordered .planSwitch 1 2 0 running))
    running.booked = true ∧ s.sound = true ∧ s.formed = true ∧ s.booked = true ∧
    { s with plan := { s.plan with read := some ⟨.p, []⟩ } }.booked = true ∧
    (viewed .posted (scanning (.stages [3, 5] [2]) running)).booked = true ∧
    (viewed .taken (scanning (.stages [3, 5] [2]) running)).booked = false ∧ starting.booked = true := by decide
theorem test_witness_ScansReadTheBoard :
    let s (x : ScanStep) := (scanning x running).desk.scan
    let cell (l : List Word) := (readBy .orderDesk 0x100 l).words
    running.regs.start = none ∧ running.regs.part = .running ∧ winding.regs.start = none ∧ winding.regs.part ≠ .running ∧
    s .readMark = some .readMark ∧ s (.pages [1]) = some (.pages (1 :: [])) ∧
    s (.stages [2, 3] [1]) = some (.stages (2 :: [3]) [1]) ∧
    s (.cells [2] true [] []) = some (.cells (2 :: []) true [] []) ∧
    s (.cells [2] false [] []) = some (.cells (2 :: []) false [] []) ∧
    ([] ++ cell (List.replicate 8 1#32)).length < 15 ∧
    (List.replicate 8 1#32 ++ cell (List.replicate 7 1#32)).length = 15 ∧
    16 ≤ (List.replicate 15 1#32 ++ cell [1#32]).length ∧
    (List.replicate 15 1#32 ++ cell [1#32]).getD 0 0#32 = (List.replicate 15 1#32 ++ cell [1#32]).getD 15 0#32 ∧
    (List.replicate 15 1#32 ++ cell [4#32]).getD 0 0#32 ≠ (List.replicate 15 1#32 ++ cell [4#32]).getD 15 0#32 ∧
    (List.replicate 15 4#32 ++ cell [4#32]).getD 0 0#32 ≠ 1#32 := by decide
theorem test_witness_ScansReadTheBoard_taking :
    let s : State := { running with desk := { running.desk with deferred := [(7, 9#32), (5, 8#32)] } }
    let c (n : Nat) (d : Bool) : CellRead := { cellOf .doffNow 1 0 0 with cell := n, deferred := d }
    let odd (k : Nat) (d : Bool) : CellRead := { c 1 d with kind := w32 k }
    (s.desk.deferred.map Prod.fst).Nodup ∧
    ([c 1 false, c 5 true, c 6 false, c 7 true].map CellRead.cell).Pairwise (fun a b => a < b) ∧
    s.takingOrder [c 1 false, c 5 true, c 6 false, c 7 true] = [c 7 true, c 5 true, c 1 false, c 6 false] ∧
    (scanning (.taking []) running).desk.scan = some (.taking []) ∧
    (ordered .doffNow 1 0 0 running).desk.scan = some (.taking (cellOf .doffNow 1 0 0 :: [])) ∧
    (1 ≤ (c 1 false).kind.toNat ∧ (c 1 false).kind.toNat ≤ 13) ∧
    (scanning (.taking [odd 14 false]) running).desk.scan = some (.taking (odd 14 false :: [])) ∧
    ¬(odd 14 false).kind.toNat ≤ 13 ∧ ¬1 ≤ (odd 0 true).kind.toNat ∧ later (odd 14 false).seq running.desk.lastTaken = true ∧
    later (odd 14 false).seq 5#32 = false ∧ (odd 0 true).deferred = true ∧ ([] : List CellRead).length < 32 := by decide
theorem test_witness_WindingDownEnds :
    let none' (s : State) : Prop := (∀ f, f < 9 → (s.frame f).slot = none) ∧ (∀ c, c < 5 → (s.carrier c).state = .absent) ∧
      ∀ p, p < 9 → (s.piecer p).state = .absent
    let at' (x : Option EndStep) : State := { winding with regs := { winding.regs with ending := x } }
    winding.regs.part = .windingDown ∧ winding.regs.ending = none ∧ none' winding ∧ winding.formed = true ∧
    ((withFrame { frameIn .draining with slot := some 1 } winding).frame 1).slot ≠ none ∧ running.regs.part ≠ .windingDown ∧
    (paged winding).formed = true ∧ (paged winding).output.page ≠ none ∧ winding.plan.pending = none ∧
    (both winding).desk.book ≠ [] ∧ (at' (some .writing)).regs.ending = some .writing ∧
    (at' (some .lostWord)).regs.ending = some .lostWord ∧ winding.writer.current = none ∧ winding.writer.queue = [] := by decide
theorem test_witness_WindingDownEnds_resumed :
    let s : State := { winding with regs := { winding.regs with
      part := .stalled, resume := some .windingDown, rewriting := some .journal, ending := some .lostWord } }
    s.formed = true ∧ s.regs.part = .stalled ∧ s.regs.start = none ∧ s.regs.rewriting = some .journal ∧
    s.regs.resume = some .windingDown ∧ s.regs.ending ≠ none ∧ s.sound = true := by decide

/-- An item waits to be written, and the change number of its place is held, or not. -/
def queued (i : WriteItem) (numbers : List (Nat × Option Word)) (s : State) : State :=
  { s with writer := { s.writer with queue := [i], numbers := numbers } }
/-- An item is being written. -/
def writingItem (i : WriteItem) (left : List (Nat × List Word)) (s : State) : State :=
  { s with writer := { s.writer with current := some ⟨i, false, left⟩ } }

theorem test_witness_UpdatesAreNumbered :
    let s (n : List (Nat × Option Word)) := queued (.creel 2) n running
    let t : Transfer := ⟨.reportWriter, true, 0x6010, 1, 1, [6#32]⟩
    let page : OpenPage := ⟨1, 0#32, .start, 0⟩
    ((5#32).toNat % 2 ≠ 0 ∧ (6#32).toNat % 2 = 0) ∧ (paged running).output.page = some page ∧ page.number = 1 ∧
    running.numberPlace .mark = none ∧ stalled.served = false ∧ starting.served = false ∧ State.reset.served = true ∧
    (s []).served = true ∧ (s []).writer.current = none ∧
    (s []).writer.queue = .creel 2 :: [] ∧ WriteItem.creel 2 ≠ .mark ∧ (s []).formed = true ∧
    (s []).numberPlace (.creel 2) = some 0x6010 ∧ (s [(0x6010, some 4#32)]).numberHeld 0x6010 = some 4#32 ∧
    (s [(0x6010, none)]).numberHeld 0x6010 = none ∧
    (writingItem (.creel 2) [(0x6010, [6#32])] running).formed = true ∧
    (writingItem (.creel 2) [(0x6010, [6#32])] running).writer.current = some ⟨.creel 2, false, (0x6010, [6#32]) :: []⟩ ∧
    (writingItem (.creel 2) [] running).writer.current = some ⟨.creel 2, false, []⟩ ∧
    running.transferOffset { t with write := false } = 0x6010 ∧ t.block = .reportWriter ∧ t.write = true ∧
    running.numberPlace .openPage = none ∧ running.numberPlace (.cellTaken 1) = none ∧
    (spindleIn .proving).attempts ≤ 7 := by decide
theorem test_cell_answer : running.fieldRuns (.cellDone ⟨3, some .notFound, [7#32], 9#32⟩) =
    [(0x19C, [12#32, 7#32, 0#32, 0#32, 0#32, 0#32, 0#32, 9#32]), (0x180, [4#32])] ∧
    (running.itemWritten (.cellDone ⟨3, none, [], 9#32⟩)).regs.att = 1#32 := by decide
theorem test_map_entry :
    let x : Spindle := { spindleIn .cutOut with
      listed := true, attempts := 5, cutCause := some .sensor, lastClass := some .starve }
    x.entry = 0x4B58 := by decide
theorem test_section_mirror :
    let x : Creel := { Creel.reset with state := .low, remaining := 300999, queueStamp := some 0x01020304#32 }
    (withCreel x running).creelWords 1 =
      [2#32, 0x012C0000#32, 0x01020304#32] := by decide
theorem test_witness_ShiftCloseWaitsForItsPages :
    let w (x : Bool) (n : Nat) (a b c : Bool) : State :=
      withBook ⟨2, 9#32, .shiftClose, 0#32, 0#32⟩ { paged running with output := { (paged running).output with
        wait := some ⟨x, 2, n, 0#32, 0, a, b, c⟩ } }
    (paged running).formed = true ∧ running.regs.part = .running ∧ (paged running).output.page ≠ none ∧
    (paged running).freePages = 2 :: [] ∧ (crowded running).formed = true ∧ (crowded running).freePages = [] ∧
    (w false 1 true true false).formed = true ∧ (w false 1 true false true).output.wait ≠ none ∧
    (w true 2 false true true).formed = true ∧ (w true 2 false true true).desk.book ≠ [] ∧
    (⟨⟨2, 0#32, .start, 0⟩, 1#32, .shiftTimer, []⟩ : ClosedPage).page.number = 2 := by decide

/-- A RESUME in its rewriting, at a page write or at the step's end mark, with a SHIFT_CLOSE of a rotation in the book (page
2 closed, page 1 opened at 40) and an answer held. -/
def closing (openLeft : Bool) : State :=
  let s := withBook ⟨2, 9#32, .shiftClose, 0#32, 0#32⟩ (paged (resuming .rewrite [⟨3, none, [], 9#32⟩] none))
  { s with output := { s.output with wait := some ⟨false, 2, 1, 40#32, 7, false, openLeft, true⟩ } }

theorem test_witness_ShiftCloseWaitsForItsPages_resume :
    (closing true).formed = true ∧ (closing true).regs.part = .stalled ∧ (closing true).regs.start = none ∧
    (closing true).regs.rewriting = some .rewrite ∧ (closing true).output.wait ≠ none ∧
    (closing false).formed = true ∧ (closing false).output.wait = some ⟨false, 2, 1, 40#32, 7, false, false, true⟩ ∧
    (closing false).desk.book.map BookEntry.kind = [.shiftClose] ∧ running.regs.rewriting ≠ some .rewrite := by decide
/-- R184: the last page write of step 1 leaves the order in the book; step 2 finishes it, behind the cell held before it, with
the mill clock 50 of that event, CLOSED, page 2, the stamp and the merged count (R145). -/
theorem test_shiftClose_done_at_step_2 :
    ((closing true).itemWritten .openPage).desk.book.length = 1 ∧
    ((closing true).itemWritten .openPage).desk.held.length = 1 ∧
    ((closing true).itemWritten .openPage).markReached.desk.book = [] ∧
    ((closing true).itemWritten .openPage).markReached.writer.queue =
      [.mark, .cellDone ⟨3, none, [], 9#32⟩, .cellDone ⟨2, none, [1#32, 2#32, 40#32, 7#32], 50#32⟩, .mark] := by decide

/-- A plan pending, switched in at the next boundary, and its order in the book. -/
def switching (t : Settings) (s : State) : State := withBook ⟨2, 9#32, .planSwitch, 2#32, 2#32⟩ { s with
  plan := { s.plan with pending := some ⟨⟨.q, 78#32, t⟩, 9#32⟩ } }

theorem test_witness_SwitchesTakeEffect :
    let t := plan1.settings
    let s (x : Frame) (p : Settings) := switching p (withFrame x running)
    let stays (s : State) (p : Settings) (f : Nat) : Prop := (s.frame f).state ≠ .halted → (s.frame f).state ≠ .out →
      (p.frame f).inPlan = (s.frameSettings f).inPlan ∧ (p.frame f).perSide = (s.frameSettings f).perSide
    let held : Frame := { frameIn .draining with slot := some 1 }
    (s (frameIn .building) t).formed = true ∧ ((s (frameIn .building) t).desk.book.map BookEntry.cell).Nodup ∧
    (s (frameIn .building) t).plan.pending = some ⟨⟨.q, 78#32, t⟩, 9#32⟩ ∧ running.plan.pending = none ∧
    (∀ f, f < 9 → stays (s (frameIn .building) t) t f) ∧ ¬stays (s (frameIn .building) t) { t with frames := [] } 1 ∧
    ((List.range' 1 8).filter fun f => ((s held t).frame f).slot.isSome).length = 1 ∧
    (s held { t with doffSlots := 0 }).formed = true := by decide
theorem test_witness_SwitchesTakeEffect_stages :
    let t := plan1.settings
    let s (x : FrameState) (b : Nat) := built { frameIn x with buildM := b } 0 running
    let lots (l : List Nat) : State := { withCreel { Creel.reset with state := .lotHold } running with
      roving := { (withCreel { Creel.reset with state := .lotHold } running).roving with queue := l } }
    ((s .building 9000).formed = true ∧ ((s .building 9000).frame 1).state = .building ∧
      ((s .building 9000).roller 1).doffValue ≤ 1000 * ((s .building 9000).frame 1).buildM) ∧
    ((s .nearing 8000).frame 1).state = .nearing ∧
    1000 * ((s .nearing 8000).frame 1).buildM < ((s .nearing 8000).roller 1).doffValue ∧
    ((lots []).formed = true ∧ ((lots []).creel 1).state = .lotHold ∧ (lots []).roving.queue.length < 32) ∧
    ((lots (List.replicate 32 2)).formed = true ∧ 32 ≤ (lots (List.replicate 32 2)).roving.queue.length) ∧
    (running.creel 1).state ≠ .lotHold ∧ ({ t with shiftLength := 0 }.shiftLength = 0 ∧ t.shiftLength ≠ 0) ∧
    running.freeSlot = some 1 ∧ State.reset.freeSlot = none ∧ running.formed = true := by decide
theorem test_witness_FramesEnterAndLeaveThePlan :
    let s : State := withPiecer { Piecer.reset with state := .onSide, side := some 1, placement := .side }
      (withSide { Side.reset with piecer := some 1, entries := [⟨3, 1#32, none⟩] } (withFrame (frameIn .halted)
        (withCreel { Creel.reset with state := .changing, carrier := some 1 } (withCarrier (carrierIn .working)
          (withUnit 17 answers (withStrip ⟨false, 0, 0, some ⟨1, 0#24⟩⟩ (paged running)))))))
    let t : State := { s with
      desk := { s.desk with book := [⟨2, 9#32, .doffNow, 1#32, 0#32⟩, ⟨3, 9#32, .creelChange, 1#32, 1#32⟩,
        ⟨4, 9#32, .selfCheck, 1#32, 1#32⟩] }
      output := { s.output with rollers := [(1, { Roller.reset with stopMark := some 4#32 })] } }
    (t.formed = true ∧ (t.desk.book.map BookEntry.cell).Nodup ∧ (t.frame 1).state = .halted) ∧
    (running.frame 2).state = .out ∧ (t.roller 1).stopMark = some 4#32 ∧ t.output.page ≠ none ∧
    sectionsInPlan 24 = [1, 39] ∧ (t.creel 1).carrier = some 1 ∧ (t.unit 17).presence = .present ∧ (t.strip 1).check ≠ none ∧
    ((t.side 1).piecer = some 1 ∧ (t.piecer 1).placement = .side) := by decide
theorem test_witness_FramesEnterAndLeaveThePlan_comes :
    let p (x : FrameSettings) : State := { running with plan := { running.plan with
      active := some { plan1 with settings := { plan1.settings with frames := [x] } } } }
    (running.frameSettings 1).perSide = 24 ∧ 24 % 24 = 0 ∧ 48 % 24 = 0 ∧ 48 ≤ 912 ∧
    (running.frameSettings 1).start 1 ≤ (running.frameSettings 1).lowThreshold ∧
    (p { frame24 with starts := [900] }).formed = true ∧
    ¬((p { frame24 with starts := [900] }).frameSettings 1).start 1 ≤
      ((p { frame24 with starts := [900] }).frameSettings 1).lowThreshold ∧
    sectionsInPlan 48 = [1, 2, 39, 40] ∧ running.roving.queue.length < 32 := by decide

/-! ### Effects -/

/-- The state that a command answers. -/
def after (c : Instr) (s : State) : State :=
  match exec c s with
  | .next t => t
  | .fault _ | .refused _ => State.reset

theorem test_attention : ({ running with regs := { running.regs with att := 8#32, atm := 40#32 } }).attentionLine = true ∧
    running.attentionLine = false := by decide +kernel
theorem test_crc : crc16 [0x31#8, 0x32#8, 0x33#8, 0x34#8, 0x35#8, 0x36#8, 0x37#8, 0x38#8, 0x39#8] = 0x29B1#16 := by decide +kernel
theorem test_poll_message : visitMessage 9 none true false =
    [9#8, 16#8, 1#8, 0#8, 0#8, 0#8] ++ be16 (crc16 [9#8, 16#8, 1#8, 0#8, 0#8, 0#8]) := by decide +kernel
theorem test_registerWrite_area : (after (.registerWrite .area 0x12345678#32) State.reset).regs.area = 0x12340000#32 := by decide +kernel
theorem test_runSet_pst : (after .runSet State.reset).pst = 1#32 ∧ running.pst = 2#32 ∧ stalled.pst = 36#32 := by decide +kernel
theorem test_memoryBeat_write : (after (.memoryBeat []) (writing 0 running)).mem =
    [(0x1000, 0x44#8), (0x1001, 0x33#8), (0x1002, 0x22#8), (0x1003, 0x11#8)] := by decide +kernel
theorem test_attWrite_rewrites_in_halted : (after (.attWrite 8#32) haltedAlarm).port.current =
    some ⟨.reportWriter, false, 0x5000, 1, 0, []⟩ ∧ (after (.attWrite 8#32) haltedAlarm).regs.part = .halted := by
  decide +kernel
theorem test_beatError_fault_in_halted : (after .beatError (failing haltedAlarm)).regs.part = .halted ∧
    (after .beatError (failing haltedAlarm)).regs.flt = 0x1002#32 := by decide +kernel
theorem test_noTallyPage_waits : (State.markItem .header (startingAt .pages)).markReached.regs.part = .starting ∧
    (startingAt .pages).markReached.regs.startFault = .noTallyPage := by decide +kernel
theorem test_beatError_fault : (after .beatError (failing running)).regs.flt = 0x1002#32 ∧
    (after .beatError (failing running)).regs.part = .stalled := by decide +kernel
theorem test_grantTimeout_fault : (after .grantTimeout (ungrantedNow running)).regs.flt = 0x1001#32 := by decide +kernel
theorem test_cutOut : ((after (.cutOut 1#32 3#32) (withSpindle 3 (spindleIn .running) (ordered .cutOut 1 3 0 running))).spindle
    1 3).state = .cutOut := by decide +kernel
theorem test_frameStop : ((after (.frameStop 1#32) (withFrame (frameIn .building) (ordered .frameStop 1 0 0 running))).frame
    1).state = .halted := by decide +kernel
theorem test_result_joined : ((after (.result fresh 5#16 .joined)
    (visited 9 (withSpindle 3 (spindleIn .piecing) (withPiecer (attempting none) running)))).spindle 1 3).state = .proving := by
  decide +kernel
theorem test_arrived_works : ((after (.arrived fresh) (visited 17 (withCarrier (carrierIn .travel) running))).carrier 1).state =
    .working := by decide +kernel
theorem test_stripRead_ends_sweep : ((after (.stripRead 1 goodReply) (sweeping [39] ⟨true, 9⟩ 1 running)).sweep 1).left = [] := by
  decide +kernel

end Sys2Proof.Tests
end

section
/-! PROOFS. What the operations on spindle records, the write queue, journal entries, counts and orders do: the rules that
the statements on spindles and breaks rest on. -/

namespace Sys2Proof.Machine

/-! ### Spindle records -/

@[simp] theorem Spindle.push_shown (b : Bool) (x : Spindle) : (x.push b).shown = x.shown := rfl

/-- A spindle of the reset record is ABSENT (R24). -/
theorem Spindle.ne_reset {x : Spindle} (h : x.state ≠ .absent) : x ≠ Spindle.reset := fun e => h (congrArg Spindle.state e)

/-- The map shows the fields that make a spindle an unlisted DOWN one. -/
theorem Spindle.unlistedDown_of_shown {x y : Spindle} (h : x.shown = y.shown) : x.unlistedDown = y.unlistedDown := by
  have hstate : x.state = y.state := congrArg Prod.fst h
  have hlisted : x.listed = y.listed := congrArg (fun p => p.2.1) h
  simp only [Spindle.unlistedDown, hstate, hlisted]

theorem State.spindle_of_watch {s t : State} (h : t.watch = s.watch) (f n : Nat) : t.spindle f n = s.spindle f n := by
  unfold State.spindle; rw [h]

theorem State.spindle_of_key {f g n m : Nat} {s : State} (h : spindleKey g m = spindleKey f n) :
    s.spindle g m = s.spindle f n := by
  unfold State.spindle; rw [h]

@[simp] theorem State.markIf_false (i : WriteItem) (s : State) : s.markIf false i = s := rfl

/-- A write that changes nothing the map shows marks no mirror (R23). -/
theorem State.setSpindle_of_shown {f n : Nat} {x : Spindle} {s : State} (h : x.shown = (s.spindle f n).shown) :
    s.setSpindle f n x = { s with watch.spindles := tput Spindle.reset s.watch.spindles (spindleKey f n) x } := by
  simp [State.setSpindle, h, Spindle.unlistedDown_of_shown h]

/-- Of two writes of one record, the first of which shows nothing new, the later alone counts. -/
theorem State.setSpindle_setSpindle {f n : Nat} {x y : Spindle} {s : State} (h : x.shown = (s.spindle f n).shown)
    (hx : x ≠ Spindle.reset) (hy : y ≠ Spindle.reset) :
    (s.setSpindle f n x).setSpindle f n y = s.setSpindle f n y := by
  have hold : (s.setSpindle f n x).spindle f n = x := State.setSpindle_same f n x s hx
  rw [State.setSpindle_of_shown h] at hold ⊢
  simp only [State.setSpindle, hold, h, Spindle.unlistedDown_of_shown h, tput_tput _ _ hx hy]

/-! ### The write queue -/

/-- Items in the write queue after a mark (R170). -/
theorem State.mem_markItem {i j : WriteItem} {s : State} :
    j ∈ (s.markItem i).writer.queue ↔ j ∈ s.writer.queue ∨ j = i := by
  unfold State.markItem
  split
  · next hi => exact ⟨.inl, fun h => h.elim id fun e => e ▸ hi⟩
  · simp

theorem State.mem_markIf {b : Bool} {i j : WriteItem} {s : State} :
    j ∈ (s.markIf b i).writer.queue ↔ j ∈ s.writer.queue ∨ b = true ∧ j = i := by
  cases b with
  | false => simp
  | true => simp [State.markIf, State.mem_markItem]

/-- Items in the write queue after a write of a spindle: its block, and the frame's mirror for the unlisted count (R23, R61). -/
theorem State.mem_setSpindle {f n : Nat} {x : Spindle} {s : State} {j : WriteItem} :
    j ∈ (s.setSpindle f n x).writer.queue ↔ j ∈ s.writer.queue ∨
      (x.shown ≠ (s.spindle f n).shown ∧ j = .block (creelNo f (sectionOf n))) ∨
      (x.unlistedDown ≠ (s.spindle f n).unlistedDown ∧ j = .frame f) := by
  simp [State.setSpindle, State.mem_markIf, or_assoc]

/-! ### Journal entries and counts -/

/-- An entry that joins the pending list stands in it: a full list drops its oldest (R179). -/
theorem State.mem_pend (e : JournalEntry) (s : State) : e ∈ (s.pend e).writer.pending := by
  unfold State.pend dropOldest
  cases hp : s.writer.pending with
  | nil => simp [Config.pendingListRoom]
  | cons a r =>
    split
    · simp
    · simp [dropOldest]

/-- A journal entry generated stands in the write queue or in the pending list (R178, R179). -/
theorem State.journal_journalled (k : JournalKind) (frame unit : Nat) (fields : List Word) (s : State) :
    (s.journal k frame unit fields).journalled k frame unit fields := by
  have entered (e : JournalEntry) (t : State) :
      .journal e ∈ (t.enterJournal e).writer.queue ∨ e ∈ (t.enterJournal e).writer.pending := by
    unfold State.enterJournal
    split
    · exact .inl (by simp)
    · exact .inr (State.mem_pend e t)
  unfold State.journalled
  rw [State.journal_clock]
  exact entered _ _

/-- A count changes nothing without an open page (R135). -/
theorem State.count_of_no_page {f : Nat} {g : Counts → Counts} {s : State} (h : s.output.page = none) :
    s.count f g = s := by
  unfold State.count; rw [h]

/-- With an open page a count writes the frame's accumulators, and the page is marked (R135, R138). -/
theorem State.count_of_page {f : Nat} {g : Counts → Counts} {s : State} (h : s.output.page ≠ none) :
    s.count f g =
      { s with output.counts := tput Counts.reset s.output.counts f (g (s.counts f)) }.markItem .openPage := by
  unfold State.count
  split
  · contradiction
  · rfl

/-- A count changes the accumulators of the output and marks the page, and nothing else (R135, R138). -/
theorem State.count_eq_markItem {f : Nat} {g : Counts → Counts} {s : State} (h : s.output.page ≠ none) :
    s.count f g = State.markItem .openPage { s with output := (s.count f g).output } := by
  rw [State.count_of_page h, State.markItem_output]

theorem State.count_output {f : Nat} {g : Counts → Counts} {s : State} :
    (s.count f g).output = { s.output with counts := (s.count f g).output.counts } := by
  by_cases h : s.output.page = none
  · rw [State.count_of_no_page h]
  · rw [State.count_of_page h, State.markItem_output]

/-- A count takes no journal entry away. -/
theorem State.count_journalled {f : Nat} {g : Counts → Counts} {s : State} {k : JournalKind} {frame unit : Nat}
    {fields : List Word} (h : s.journalled k frame unit fields) : (s.count f g).journalled k frame unit fields := by
  by_cases hp : s.output.page = none
  · rwa [State.count_of_no_page hp]
  · rw [State.count_of_page hp]
    unfold State.journalled at h ⊢
    rw [State.mem_markItem, State.markItem_clock, State.markItem_writer_pending]
    exact h.imp_left .inl

/-- The accumulators of the frame counted. -/
theorem State.count_counts_same {f : Nat} {g : Counts → Counts} {s : State} (hs : s.formed = true)
    (hp : s.output.page ≠ none) : (s.count f g).counts f = g (s.counts f) := by
  have hwf : tableWf Counts.reset s.output.counts = true := by
    simp only [State.formed, Output.formed, Bool.and_eq_true] at hs
    simp [hs]
  rw [State.count_of_page hp, State.counts, State.markItem_output]
  exact tget_tput_same _ _ hwf

/-- The accumulators of every other frame stand. -/
theorem State.count_counts_other {f e : Nat} {g : Counts → Counts} {s : State} (h : e ≠ f) :
    (s.count f g).counts e = s.counts e := by
  by_cases hp : s.output.page = none
  · rw [State.count_of_no_page hp]
  · rw [State.count_of_page hp, State.counts, State.markItem_output]
    exact tget_tput_other _ h

theorem State.counts_of_output {s t : State} (h : t.output = s.output) (f : Nat) : t.counts f = s.counts f := by
  unfold State.counts; rw [h]

/-! ### Ends pieced (R8, R13) -/

@[simp] theorem State.pieced_watch (f n : Nat) (s : State) : (s.pieced f n).watch = s.watch := by
  simp [State.pieced]

theorem State.pieced_journalled (f n : Nat) (s : State) : (s.pieced f n).journalled .pieced f 0 [w32 n] :=
  State.count_journalled (State.journal_journalled ..)

theorem State.pieced_counts {f n : Nat} {s : State} (hs : s.formed = true) (hp : s.output.page ≠ none) :
    ((s.pieced f n).counts f).pieced = min 4294967295 ((s.counts f).pieced + 1) := by
  unfold State.pieced
  rw [State.count_counts_same (State.journal_formed _ _ _ _ _ hs) (by simpa using hp),
    State.counts_of_output (State.journal_output ..)]
  rfl

/-! ### Numbers listed in a table -/

section
variable {α : Type}

/-- A record that is not the reset record is listed. -/
theorem mem_keys_of_tget_ne {d : α} {t : List (Nat × α)} {n : Nat} (h : tget d t n ≠ d) : n ∈ t.map Prod.fst := by
  induction t with
  | nil => exact absurd rfl h
  | cons e r ih =>
    obtain ⟨k, v⟩ := e
    by_cases hk : n = k
    · simp [hk]
    · exact List.mem_cons_of_mem _ (ih (by rwa [tget, if_neg hk] at h))

variable [DecidableEq α]

/-- A canonical table lists no number at or below a bound that lies under its first. -/
theorem lt_of_mem_keys_above {d : α} {t : List (Nat × α)} {m n : Nat} (hw : tableWf d t = true) (h : Above m t)
    (hn : n ∈ t.map Prod.fst) : m < n := by
  induction t generalizing m with
  | nil => simp at hn
  | cons e r ih =>
    obtain ⟨k, v⟩ := e
    obtain ⟨_, habove, hr⟩ := tableWf_cons.mp hw
    obtain rfl | hn := List.mem_cons.mp hn
    · exact h
    · exact Nat.lt_trans h (ih hr habove hn)

/-- A canonical table lists each number once. -/
theorem nodup_keys {d : α} {t : List (Nat × α)} (hw : tableWf d t = true) : (t.map Prod.fst).Nodup := by
  induction t with
  | nil => simp
  | cons e r ih =>
    obtain ⟨k, v⟩ := e
    obtain ⟨_, habove, hr⟩ := tableWf_cons.mp hw
    exact List.nodup_cons.mpr ⟨fun hk => Nat.lt_irrefl _ (lt_of_mem_keys_above hr habove hk), ih hr⟩

end

theorem mem_keysIn {α : Type} {t : List (Nat × α)} {lo hi n : Nat} :
    n ∈ keysIn t lo hi ↔ n ∈ t.map Prod.fst ∧ lo ≤ n ∧ n ≤ hi := by
  simp [keysIn]

theorem nodup_keysIn {α : Type} [DecidableEq α] {d : α} {t : List (Nat × α)} (hw : tableWf d t = true) (lo hi : Nat) :
    (keysIn t lo hi).Nodup :=
  (nodup_keys hw).sublist (List.filter_sublist.map _)

/-! ### The spindles of a frame -/

theorem State.spindles_wf {s : State} (hs : s.formed = true) : tableWf Spindle.reset s.watch.spindles = true := by
  simp only [State.formed, Watch.formed, Bool.and_eq_true] at hs
  simp [hs]

/-- The spindles listed for a frame are those whose key is in the table (R26). -/
theorem State.mem_spindlesOfFrame {s : State} {f n : Nat} :
    n ∈ s.spindlesOfFrame f ↔ 1 ≤ n ∧ n ≤ 1824 ∧ spindleKey f n ∈ s.watch.spindles.map Prod.fst := by
  unfold State.spindlesOfFrame
  simp only [List.mem_map (f := (· - (f - 1) * 2048)), mem_keysIn]
  constructor
  · rintro ⟨k, ⟨hk, hlo, hhi⟩, hn⟩
    have hkey : k = spindleKey f n := by unfold spindleKey at *; omega
    unfold spindleKey at hlo hhi
    exact ⟨by omega, by omega, hkey ▸ hk⟩
  · rintro ⟨hlo, hhi, hk⟩
    exact ⟨_, ⟨hk, by unfold spindleKey; omega⟩, by unfold spindleKey; omega⟩

theorem State.nodup_spindlesOfFrame {s : State} (hs : s.formed = true) (f : Nat) : (s.spindlesOfFrame f).Nodup := by
  refine List.Nodup.map_on (fun a ha b hb hab => ?_) (nodup_keysIn (State.spindles_wf hs) _ _)
  obtain ⟨_, hloA, _⟩ := mem_keysIn.mp ha
  obtain ⟨_, hloB, _⟩ := mem_keysIn.mp hb
  unfold spindleKey at hloA hloB
  omega

/-- One key, one spindle (R26). -/
theorem spindleKey_inj {f g n m : Nat} (hf : 1 ≤ f) (hg : 1 ≤ g) (hn : n ≤ 1824) (hm : m ≤ 1824)
    (h : spindleKey g m = spindleKey f n) : g = f ∧ m = n := by
  unfold spindleKey at h
  omega

theorem spindleKey_inj_frame {f n m : Nat} (h : spindleKey f n = spindleKey f m) : n = m := Nat.add_left_cancel h

/-! ### Finished orders (R175) -/

section
variable (cell : Nat) (r : Option Reason) (w : List Word) (s : State)

/-- The write queue after an answer (R175): the answer at its tail, an unwritten TAKEN gone (log entry 12). -/
theorem State.finish_writer_queue : (s.finish cell r w).writer.queue =
    if s.regs.part = .stalled then s.writer.queue
    else (s.writer.queue.filter fun i => decide (i ≠ .cellTaken cell)) ++ [.cellDone ⟨cell, r, w, s.clock⟩] := by
  by_cases h : s.regs.part = .stalled <;> simp [State.finish, h]

/-- The answers held (R175). -/
theorem State.finish_desk_held : (s.finish cell r w).desk.held =
    if s.regs.part = .stalled then s.desk.held ++ [⟨cell, r, w, s.clock⟩] else s.desk.held := by
  by_cases h : s.regs.part = .stalled <;> simp [State.finish, h]

theorem State.finish_desk_view : (s.finish cell r w).desk.view =
    tput .empty s.desk.view cell (if r.isSome then .refused else .done) := by
  by_cases h : s.regs.part = .stalled <;> simp [State.finish, State.setCellView, h]

/-- A finished order's cell is answered (R175). -/
theorem State.finish_answered : (s.finish cell r w).answered cell r w := by
  unfold State.answered State.cellView
  rw [State.finish_desk_view, State.finish_desk_held, State.finish_writer_queue, State.finish_regs, State.finish_clock]
  refine ⟨tget_tput_ne _ (by split <;> simp), ?_⟩
  split <;> simp

variable {cell r w s} {j : WriteItem}

/-- An answer takes only the cell's unwritten TAKEN out of the write queue. -/
theorem State.mem_finish_of_mem (hj : j ≠ .cellTaken cell) (h : j ∈ s.writer.queue) :
    j ∈ (s.finish cell r w).writer.queue := by
  rw [State.finish_writer_queue]
  split
  · exact h
  · exact List.mem_append_left _ (List.mem_filter.mpr ⟨h, decide_eq_true hj⟩)

/-- An answer brings only the finished cell into the write queue. -/
theorem State.mem_of_mem_finish (hj : ∀ a, j ≠ .cellDone a) (h : j ∈ (s.finish cell r w).writer.queue) :
    j ∈ s.writer.queue := by
  rw [State.finish_writer_queue] at h
  split at h
  · exact h
  · obtain h | h := List.mem_append.mp h
    · exact (List.mem_filter.mp h).1
    · exact absurd (List.mem_singleton.mp h) (hj _)

end

/-! ### The taking of an order (R173, R174) -/

/-- A cell that is deferred or later than last_taken passes the test against it (R173). -/
theorem State.freshCell_of_later {s : State} {c : CellRead}
    (h : c.deferred = true ∨ later c.seq s.desk.lastTaken = true) :
    s.freshCell c = some (if c.deferred then s else { s with desk.lastTaken := c.seq }.markItem .header) := by
  cases hd : c.deferred with
  | true => simp [State.freshCell, hd]
  | false => simp [State.freshCell, hd, h.resolve_left (by simp [hd])]

/-- An order that its owner takes comes to it in the state that has heard of the cell. -/
theorem State.takeCell_of_takes {s : State} {k : OrderKind} {ps : List Word} {c : CellRead} (h : s.takes k ps c) :
    s.takeCell k c = (s.heard c).handOrder k c := by
  obtain ⟨_, hlater, hlong⟩ := h
  unfold State.takeCell State.heard
  rw [State.freshCell_of_later hlater]
  generalize ht : (if c.deferred then s else { s with desk.lastTaken := c.seq }.markItem .header) = t
  have hbook : t.desk.book = s.desk.book := by rw [← ht]; split <;> simp
  cases hk : isLong k c with
  | false => simp
  | true =>
    obtain ⟨hnew, hroom⟩ := hlong hk
    have hnew' : t.duplicate k c = false := by rwa [State.duplicate, hbook]
    simp [hnew', hbook, Nat.not_le.mpr hroom]

/-- The event of an order that its owner takes. -/
theorem State.orderEvent_of_takes {s : State} {k : OrderKind} {ps : List Word} {c : CellRead} (h : s.takes k ps c) :
    s.orderEvent k ps = ((s.heard c).handOrder k c).conclude := by
  unfold State.orderEvent State.takeOrder
  rw [h.1, ← State.takeCell_of_takes h]
  rfl

section
variable (c : CellRead) (s : State)

/-- The hearing of a cell writes the desk and the write queue, and nothing else (R173, R174). -/
theorem State.heard_keeps {β : Type} (P : State → β) (hP : ∀ t d w, P { t with desk := d, writer.queue := w } = P t) :
    P (s.heard c) = P s := by
  unfold State.heard State.undefer State.markItem
  dsimp only
  split
  · exact hP s _ s.writer.queue
  · split
    · exact hP s _ s.writer.queue
    · exact hP s _ _

@[simp] theorem State.heard_watch : (s.heard c).watch = s.watch := State.heard_keeps c s State.watch fun _ _ _ => rfl
@[simp] theorem State.heard_disp : (s.heard c).disp = s.disp := State.heard_keeps c s State.disp fun _ _ _ => rfl
@[simp] theorem State.heard_roving : (s.heard c).roving = s.roving := State.heard_keeps c s State.roving fun _ _ _ => rfl
@[simp] theorem State.heard_frames : (s.heard c).frames = s.frames := State.heard_keeps c s State.frames fun _ _ _ => rfl
@[simp] theorem State.heard_rogue : (s.heard c).rogue = s.rogue := State.heard_keeps c s State.rogue fun _ _ _ => rfl
@[simp] theorem State.heard_writer_pending : (s.heard c).writer.pending = s.writer.pending :=
  State.heard_keeps c s (fun t => t.writer.pending) fun _ _ _ => rfl

theorem State.heard_formed (h : s.formed = true) : (s.heard c).formed = true := by
  unfold State.heard
  refine State.undefer_formed _ _ ?_
  split
  · exact h
  · exact State.markItem_formed _ _ |>.trans h

/-- Hearing of a cell brings only the header into the write queue (R173). -/
theorem State.mem_of_mem_heard {j : WriteItem} (hj : j ≠ .header) (h : j ∈ (s.heard c).writer.queue) :
    j ∈ s.writer.queue := by
  unfold State.heard State.undefer at h
  split at h
  · exact h
  · exact (State.mem_markItem.mp h).resolve_right hj

end

end Sys2Proof.Machine
end

section
/-! PROOFS. The judgement of a spindle under test and of a RUNNING one (R6, R7, R8, R14). -/

namespace Sys2Proof.Machine

/-! ### The judgement of a spindle, state by state -/

/-- The record of a judged spindle with this sweep's result in its history (R4). -/
def State.sweptSpindle (s : State) (f n count : Nat) : Spindle :=
  (s.spindle f n).push (decide (s.settings.passThreshold ≤ count))

/-- The break of a spindle under test (R6, R8): a low run, or 32 sweeps without a run. -/
def Spindle.testBreak (kd : Nat) (c : BreakClass) (y : Spindle) : Option BreakClass :=
  if y.lowRun kd = true ∨ y.since = 32 then some c else none

section
variable {s : State} {f n count : Nat}

theorem State.judge_settling_high (h : (s.spindle f n).state = .settling)
    (hr : (s.sweptSpindle f n count).highRun s.settings.ku = true) :
    s.judge f n count = (s.setSpindle f n ((s.sweptSpindle f n count).to .running), none) := by
  unfold State.sweptSpindle at *
  simp [State.judge, h, hr]

theorem State.judge_settling_else (h : (s.spindle f n).state = .settling)
    (hr : (s.sweptSpindle f n count).highRun s.settings.ku = false) :
    s.judge f n count = (s.setSpindle f n (s.sweptSpindle f n count),
      (s.sweptSpindle f n count).testBreak s.settings.kd .doffStart) := by
  unfold State.sweptSpindle at *
  simp [State.judge, h, hr, Spindle.testBreak]

theorem State.judge_proving_high (h : (s.spindle f n).state = .proving)
    (hr : (s.sweptSpindle f n count).highRun s.settings.ku = true) :
    s.judge f n count =
      ((s.setSpindle f n { (s.sweptSpindle f n count).to .running with attempts := 0 }).pieced f n, none) := by
  unfold State.sweptSpindle at *
  simp [State.judge, h, hr]

theorem State.judge_proving_else (h : (s.spindle f n).state = .proving)
    (hr : (s.sweptSpindle f n count).highRun s.settings.ku = false) :
    s.judge f n count = (s.setSpindle f n (s.sweptSpindle f n count),
      (s.sweptSpindle f n count).testBreak s.settings.kd .proveFail) := by
  unfold State.sweptSpindle at *
  simp [State.judge, h, hr, Spindle.testBreak]

theorem State.judge_running_low (h : (s.spindle f n).state = .running)
    (hr : (s.sweptSpindle f n count).lowRun s.settings.kd = true) :
    s.judge f n count = (s.setSpindle f n (s.sweptSpindle f n count), some .run) := by
  unfold State.sweptSpindle at *
  simp [State.judge, h, hr]

theorem State.judge_running_else (h : (s.spindle f n).state = .running)
    (hr : (s.sweptSpindle f n count).lowRun s.settings.kd = false) :
    s.judge f n count = ((s.setSpindle f n (s.sweptSpindle f n count)).slipTest f n, none) := by
  unfold State.sweptSpindle at *
  simp [State.judge, h, hr]

end

/-! ### The slip test (R14) -/

/-- One slip more, up to the top of the count (R14, R135). -/
def Counts.addSlip (x : Counts) : Counts := { x with slips := addTo top32 x.slips 1 }

/-- A spindle set slipping, with SLIP journalled (R14). -/
def State.slipNow (f n : Nat) (x : Spindle) (s : State) : State :=
  (s.setSpindle f n { x with slip := true }).journal .slip f 0 [w32 n]

/-- More lows than the slip limit on a spindle whose slip is clear (R14). -/
def State.slips (s : State) (x : Spindle) : Prop := s.settings.slipLimit < x.lows ∧ x.slip = false

section
variable {s : State} {f n count : Nat}

theorem State.slipTest_of_slips (h : s.slips (s.spindle f n)) :
    s.slipTest f n = (s.slipNow f n (s.spindle f n)).count f Counts.addSlip := if_pos h

theorem State.slipTest_of_not_slips (h : ¬s.slips (s.spindle f n)) : s.slipTest f n = s := if_neg h

/-- The swept record is no reset record unless the spindle is ABSENT. -/
theorem State.sweptSpindle_ne_reset (h : (s.spindle f n).state ≠ .absent) : s.sweptSpindle f n count ≠ Spindle.reset :=
  Spindle.ne_reset h

/-- A sweep's result does not show in the map (R23). -/
theorem State.sweptSpindle_shown : (s.sweptSpindle f n count).shown = (s.spindle f n).shown := Spindle.push_shown ..

theorem State.slips_setSpindle (x y : Spindle) : (s.setSpindle f n x).slips y ↔ s.slips y := by
  unfold State.slips; rw [State.settings_of_plan (State.setSpindle_plan ..)]

/-- Setting slip takes a write of the record that showed nothing new into itself. -/
theorem State.slipNow_setSpindle {x : Spindle} (h : x.shown = (s.spindle f n).shown) (hx : x.state ≠ .absent) :
    (s.setSpindle f n x).slipNow f n x = s.slipNow f n x :=
  congrArg (State.journal .slip f 0 [w32 n])
    (State.setSpindle_setSpindle h (Spindle.ne_reset hx) (Spindle.ne_reset (x := { x with slip := true }) hx))

/-- A RUNNING spindle that begins to slip (R14). -/
theorem State.judge_running_slips (h : (s.spindle f n).state = .running)
    (hr : (s.sweptSpindle f n count).lowRun s.settings.kd = false) (hs : s.slips (s.sweptSpindle f n count)) :
    s.judge f n count = ((s.slipNow f n (s.sweptSpindle f n count)).count f Counts.addSlip, none) := by
  have habsent : (s.spindle f n).state ≠ .absent := by simp [h]
  have hy : (s.setSpindle f n (s.sweptSpindle f n count)).spindle f n = s.sweptSpindle f n count :=
    State.setSpindle_same _ _ _ _ (State.sweptSpindle_ne_reset habsent)
  rw [State.judge_running_else h hr, State.slipTest_of_slips (by rwa [hy, State.slips_setSpindle]), hy,
    State.slipNow_setSpindle State.sweptSpindle_shown habsent]

/-- A RUNNING spindle that does not begin to slip (R14). -/
theorem State.judge_running_no_slip (h : (s.spindle f n).state = .running)
    (hr : (s.sweptSpindle f n count).lowRun s.settings.kd = false) (hs : ¬s.slips (s.sweptSpindle f n count)) :
    s.judge f n count = (s.setSpindle f n (s.sweptSpindle f n count), none) := by
  have hy : (s.setSpindle f n (s.sweptSpindle f n count)).spindle f n = s.sweptSpindle f n count :=
    State.setSpindle_same _ _ _ _ (State.sweptSpindle_ne_reset (by simp [h]))
  rw [State.judge_running_else h hr, State.slipTest_of_not_slips (by rwa [hy, State.slips_setSpindle])]

theorem State.slipNow_watch (x : Spindle) :
    (s.slipNow f n x).watch = (s.setSpindle f n { x with slip := true }).watch := State.journal_watch ..

theorem State.slipNow_output (x : Spindle) : (s.slipNow f n x).output = s.output := by simp [State.slipNow]

theorem State.slipNow_formed (x : Spindle) (hs : s.formed = true) : (s.slipNow f n x).formed = true := by
  simp [State.slipNow, hs]

/-- What the test leaves in the record: slip is set by more lows than the limit and cleared by nothing (R14). -/
theorem State.slip_or_of_not_slips {y : Spindle} (hs : ¬s.slips y) :
    { y with slip := y.slip || decide (s.settings.slipLimit < y.lows) } = y := by
  have hslip : (y.slip || decide (s.settings.slipLimit < y.lows)) = y.slip := by
    unfold State.slips at hs
    cases hy : y.slip <;> simp_all
  rw [hslip]

theorem State.slip_or_of_slips {y : Spindle} (hs : s.slips y) :
    (y.slip || decide (s.settings.slipLimit < y.lows)) = true := by
  simp [hs.1]

end

/-- What a new slip does (R14): the record, SLIP journalled, and the count of the open page. -/
theorem State.slip_effects {s : State} {f n : Nat} {y : Spindle} (hs : s.formed = true) :
    let v := s.slipNow f n y
    let u := v.count f Counts.addSlip
    u.spindle f n = { y with slip := true } ∧ u.journalled .slip f 0 [w32 n] ∧ (s.output.page = none → u = v) ∧
      (s.output.page ≠ none →
        u.counts f = { s.counts f with slips := min 4294967295 ((s.counts f).slips + 1) } ∧
        (∀ g, g ≠ f → u.counts g = s.counts g) ∧ u.output = { s.output with counts := u.output.counts } ∧
        u = State.markItem .openPage { v with output := u.output }) := by
  have hout : (s.slipNow f n y).output = s.output := State.slipNow_output y
  refine ⟨?_, State.count_journalled (State.journal_journalled ..), fun hp => ?_, fun hp => ⟨?_, fun g hg => ?_, ?_, ?_⟩⟩
  · rw [State.spindle_of_watch (State.count_watch ..), State.spindle_of_watch (State.slipNow_watch y)]
    exact State.setSpindle_formed_same _ _ _ _ hs
  · exact State.count_of_no_page (by rwa [hout])
  · rw [State.count_counts_same (State.slipNow_formed y hs) (by rwa [hout]), State.counts_of_output hout]
    rfl
  · rw [State.count_counts_other hg, State.counts_of_output hout]
  · rw [← hout]; exact State.count_output
  · exact State.count_eq_markItem (by rwa [hout])

/-! ### The judgements (1.3) -/

/-- Settles O20, by the two branches of R6: a high run or none. -/
theorem settlingIsJudged : Obligations.SettlingIsJudged := by
  unfold Obligations.SettlingIsJudged
  intro s f n count hs hst
  refine ⟨fun hr => ?_, fun hr => ?_⟩
  · rw [State.judge_settling_high hst hr]
    exact ⟨rfl, State.setSpindle_formed_same _ _ _ _ hs⟩
  · rw [State.judge_settling_else hst hr]
    exact ⟨State.setSpindle_formed_same _ _ _ _ hs, rfl⟩

/-- Settles O22, by the two branches of R8: a high run, with the end pieced, or none. -/
theorem provingIsJudged : Obligations.ProvingIsJudged := by
  unfold Obligations.ProvingIsJudged
  intro s f n count hs hst
  refine ⟨fun hr => ?_, fun hr => ?_⟩
  · rw [State.judge_proving_high hst hr]
    refine ⟨rfl, ?_, State.pieced_journalled .., fun hp => ?_⟩
    · exact (State.spindle_of_watch (State.pieced_watch ..) f n).trans (State.setSpindle_formed_same _ _ _ _ hs)
    · rw [State.pieced_counts (State.setSpindle_formed _ _ _ _ hs) (by simpa using hp),
        State.counts_of_output (State.setSpindle_output ..)]
  · rw [State.judge_proving_else hst hr]
    exact ⟨State.setSpindle_formed_same _ _ _ _ hs, rfl⟩

/-- Settles O21, by the three outcomes of R7 and R14: a low run, a new slip, or neither. -/
theorem runningIsJudged : Obligations.RunningIsJudged := by
  unfold Obligations.RunningIsJudged
  intro s f n count hs hst y u
  have written : (s.setSpindle f n y).spindle f n = y := State.setSpindle_formed_same _ _ _ _ hs
  cases hlow : y.lowRun s.settings.kd with
  | true =>
    have hu : u = (s.setSpindle f n y, some .run) := State.judge_running_low hst hlow
    rw [hu]
    exact ⟨rfl, fun _ => written, by simp, rfl, by simp, fun _ => rfl⟩
  | false =>
    by_cases hslip : s.slips y
    · have hu : u = ((s.slipNow f n y).count f Counts.addSlip, none) := State.judge_running_slips hst hlow hslip
      obtain ⟨hspindle, hrest⟩ := State.slip_effects (f := f) (n := n) (y := y) hs
      rw [hu]
      exact ⟨rfl, by simp, fun _ => by rw [hspindle, State.slip_or_of_slips hslip], rfl, fun _ => hrest,
        fun hno => absurd ⟨rfl, hslip⟩ hno⟩
    · have hu : u = (s.setSpindle f n y, none) := State.judge_running_no_slip hst hlow hslip
      rw [hu]
      exact ⟨rfl, by simp, fun _ => by rw [written, State.slip_or_of_not_slips hslip], rfl,
        fun hyes => absurd hyes.2 hslip, fun _ => rfl⟩

end Sys2Proof.Machine
end

section
/-! PROOFS. CLEAR_SLIP (R17). -/

namespace Sys2Proof.Machine

/-! ### The loop over the slipping spindles of a range -/

/-- A spindle record with slip clear. -/
def Spindle.unslipped (x : Spindle) : Spindle := { x with slip := false }

/-- The spindles of a range whose slip is set. -/
def State.slipped (s : State) (f first last : Nat) : List Nat :=
  (s.spindlesFrom f first last).filter fun n => (s.spindle f n).slip

/-- Slip cleared on each of a list of spindles. -/
def State.clearSlips (f : Nat) (l : List Nat) (s : State) : State :=
  s.each l fun n t => t.setSpindle f n (t.spindle f n).unslipped

theorem Spindle.unslipped_of_clear {x : Spindle} (h : x.slip = false) : x.unslipped = x := by
  cases x; cases h; rfl

theorem Spindle.unslipped_shown_ne {x : Spindle} (h : x.slip = true) : x.unslipped.shown ≠ x.shown := by
  simp [Spindle.shown, Spindle.unslipped, h]

section
variable {s : State} {f n first last : Nat}

/-- A spindle whose slip is set is listed, so the range finds it. -/
theorem State.mem_slipped : n ∈ s.slipped f first last ↔
    (1 ≤ n ∧ n ≤ 1824) ∧ (first ≤ n ∧ n ≤ last) ∧ (s.spindle f n).slip = true := by
  have listed (h : (s.spindle f n).slip = true) : spindleKey f n ∈ s.watch.spindles.map Prod.fst :=
    mem_keys_of_tget_ne (d := Spindle.reset) fun e => by
      rw [State.spindle, e] at h
      cases h
  simp only [State.slipped, State.spindlesFrom, List.mem_filter, State.mem_spindlesOfFrame, Bool.and_eq_true,
    decide_eq_true_eq]
  constructor
  · rintro ⟨⟨⟨hlo, hhi, _⟩, hrange⟩, hslip⟩
    exact ⟨⟨hlo, hhi⟩, hrange, hslip⟩
  · rintro ⟨⟨hlo, hhi⟩, hrange, hslip⟩
    exact ⟨⟨⟨hlo, hhi, listed hslip⟩, hrange⟩, hslip⟩

/-- Each spindle of the range whose slip is set is counted once. -/
theorem State.length_slipped (hs : s.formed = true) : (s.slipped f first last).length =
    ((List.range' 1 1824).filter fun n => decide (first ≤ n ∧ n ≤ last) && (s.spindle f n).slip).length := by
  have hleft : (s.slipped f first last).Nodup := ((State.nodup_spindlesOfFrame hs f).filter _).filter _
  have hright := (List.nodup_range' (s := 1) (n := 1824)).filter
    fun n => decide (first ≤ n ∧ n ≤ last) && (s.spindle f n).slip
  refine ((List.perm_ext_iff_of_nodup hleft hright).mpr fun n => ?_).length_eq
  rw [State.mem_slipped, List.mem_filter, List.mem_range'_1, Bool.and_eq_true, decide_eq_true_eq]
  exact and_congr_left fun _ => by omega

variable {l : List Nat}

theorem State.clearSlips_cons : s.clearSlips f (n :: l) = (s.setSpindle f n (s.spindle f n).unslipped).clearSlips f l :=
  rfl

/-- The spindles of the list have slip clear; every other spindle stands. -/
theorem State.clearSlips_spindle (hs : s.formed = true) (g m : Nat) : (s.clearSlips f l).spindle g m =
    if ∃ n ∈ l, spindleKey g m = spindleKey f n then (s.spindle g m).unslipped else s.spindle g m := by
  induction l generalizing s with
  | nil => simp [State.clearSlips, State.each]
  | cons n l ih =>
    rw [State.clearSlips_cons, ih (State.setSpindle_formed _ _ _ _ hs)]
    by_cases hkey : spindleKey g m = spindleKey f n
    · have hset : (s.setSpindle f n (s.spindle f n).unslipped).spindle g m = (s.spindle f n).unslipped :=
        (State.spindle_of_key hkey).trans (State.setSpindle_formed_same f n _ s hs)
      have hin : ∃ k ∈ n :: l, spindleKey g m = spindleKey f k := ⟨n, List.mem_cons_self, hkey⟩
      rw [if_pos hin, hset, State.spindle_of_key hkey]
      split <;> rfl
    · rw [State.setSpindle_other f n g m _ s hkey]
      simp [hkey]

theorem State.mem_clearSlips_of_mem {j : WriteItem} (h : j ∈ s.writer.queue) : j ∈ (s.clearSlips f l).writer.queue := by
  induction l generalizing s with
  | nil => exact h
  | cons n l ih => exact ih (State.mem_setSpindle.mpr (.inl h))

/-- The clearing shows in the spindle map (R23). -/
theorem State.block_mem_clearSlips (hn : n ∈ l) (hslip : (s.spindle f n).slip = true) :
    .block (creelNo f (sectionOf n)) ∈ (s.clearSlips f l).writer.queue := by
  induction l generalizing s with
  | nil => cases hn
  | cons m l ih =>
    rw [State.clearSlips_cons]
    by_cases hm : n = m
    · subst hm
      exact State.mem_clearSlips_of_mem (State.mem_setSpindle.mpr (.inr (.inl ⟨Spindle.unslipped_shown_ne hslip, rfl⟩)))
    · refine ih ((List.mem_cons.mp hn).resolve_left hm) ?_
      rwa [State.setSpindle_other _ _ _ _ _ _ fun h => hm (spindleKey_inj_frame h)]

/-- The clearing writes no journal entry. -/
theorem State.journal_mem_of_mem_clearSlips {e : JournalEntry} (h : .journal e ∈ (s.clearSlips f l).writer.queue) :
    .journal e ∈ s.writer.queue := by
  induction l generalizing s with
  | nil => exact h
  | cons n l ih =>
    obtain h | ⟨_, h⟩ | ⟨_, h⟩ := State.mem_setSpindle.mp (ih h)
    · exact h
    · cases h
    · cases h

/-- What every write of a spindle keeps, the clearing keeps. -/
theorem State.clearSlips_keeps {β : Type} (P : State → β) (h : ∀ n x t, P (State.setSpindle f n x t) = P t) :
    P (s.clearSlips f l) = P s :=
  State.each_keeps P l _ (fun n t => h n _ t) s

end

/-! ### The order -/

section
variable {c : CellRead} {s : State}

theorem State.orderClearSlip_refused (h : rangeOk c = false) :
    s.orderClearSlip c = s.finish c.cell (some .outOfRange) [] := by
  simp [State.orderClearSlip, State.orderRefused, h]

theorem State.orderClearSlip_done (h : rangeOk c = true) : s.orderClearSlip c =
    (s.clearSlips c.p1.toNat (s.slipped c.p1.toNat c.p2.toNat c.p3.toNat)).finish c.cell none
      [w32 (s.slipped c.p1.toNat c.p2.toNat c.p3.toNat).length] := by
  simp only [State.orderClearSlip, h]
  rfl

/-- What a write of a spindle and an answer keep, CLEAR_SLIP keeps. -/
theorem State.orderClearSlip_keeps {β : Type} (P : State → β) (hset : ∀ f n x t, P (State.setSpindle f n x t) = P t)
    (hfinish : ∀ n r w t, P (State.finish n r w t) = P t) : P (s.orderClearSlip c) = P s := by
  cases h : rangeOk c with
  | false => rw [State.orderClearSlip_refused h, hfinish]
  | true => rw [State.orderClearSlip_done h, hfinish, State.clearSlips_keeps P (hset _)]

theorem rangeOk_iff : rangeOk c = true ↔ (1 ≤ c.p1.toNat ∧ c.p1.toNat ≤ 8) ∧ (1 ≤ c.p2.toNat ∧ c.p2.toNat ≤ 1824) ∧
    (1 ≤ c.p3.toNat ∧ c.p3.toNat ≤ 1824) ∧ c.p2.toNat ≤ c.p3.toNat := by
  simp [rangeOk, frameOk, spindleOk, and_assoc]

/-- The spindles after CLEAR_SLIP (R17). -/
theorem State.orderClearSlip_spindle (hs : s.formed = true) (h : rangeOk c = true) {g n : Nat} (hg : 1 ≤ g) (hn : 1 ≤ n)
    (hn' : n ≤ 1824) : (s.orderClearSlip c).spindle g n =
      if g = c.p1.toNat ∧ c.p2.toNat ≤ n ∧ n ≤ c.p3.toNat then (s.spindle c.p1.toNat n).unslipped
      else s.spindle g n := by
  obtain ⟨⟨hf, _⟩, _⟩ := rangeOk_iff.mp h
  have cleared : (∃ m ∈ s.slipped c.p1.toNat c.p2.toNat c.p3.toNat, spindleKey g n = spindleKey c.p1.toNat m) ↔
      (g = c.p1.toNat ∧ c.p2.toNat ≤ n ∧ n ≤ c.p3.toNat) ∧ (s.spindle c.p1.toNat n).slip = true := by
    constructor
    · rintro ⟨m, hm, hkey⟩
      obtain ⟨⟨_, hm'⟩, hrange, hslip⟩ := State.mem_slipped.mp hm
      obtain ⟨rfl, rfl⟩ := spindleKey_inj hf hg hm' hn' hkey
      exact ⟨⟨rfl, hrange⟩, hslip⟩
    · rintro ⟨⟨rfl, hrange⟩, hslip⟩
      exact ⟨n, State.mem_slipped.mpr ⟨⟨hn, hn'⟩, hrange, hslip⟩, rfl⟩
  rw [State.orderClearSlip_done h, State.spindle_of_watch (State.finish_watch ..), State.clearSlips_spindle hs]
  simp only [cleared]
  by_cases hrange : g = c.p1.toNat ∧ c.p2.toNat ≤ n ∧ n ≤ c.p3.toNat
  · obtain ⟨rfl, hin⟩ := hrange
    cases hslip : (s.spindle c.p1.toNat n).slip with
    | true => simp [hin]
    | false => simp [hin, Spindle.unslipped_of_clear hslip]
  · simp [hrange]

/-- Every slip that CLEAR_SLIP clears shows in the spindle map (R23). -/
theorem State.block_mem_orderClearSlip (h : rangeOk c = true) {n : Nat} (hn : c.p2.toNat ≤ n ∧ n ≤ c.p3.toNat)
    (hslip : (s.spindle c.p1.toNat n).slip = true) :
    .block (creelNo c.p1.toNat (sectionOf n)) ∈ (s.orderClearSlip c).writer.queue := by
  obtain ⟨_, ⟨hfirst, _⟩, ⟨_, hlast⟩, _⟩ := rangeOk_iff.mp h
  rw [State.orderClearSlip_done h]
  refine State.mem_finish_of_mem (by simp) (State.block_mem_clearSlips ?_ hslip)
  exact State.mem_slipped.mpr ⟨⟨by omega, by omega⟩, hn, hslip⟩

theorem State.journal_mem_of_mem_orderClearSlip (h : rangeOk c = true) {e : JournalEntry}
    (he : .journal e ∈ (s.orderClearSlip c).writer.queue) : .journal e ∈ s.writer.queue := by
  rw [State.orderClearSlip_done h] at he
  exact State.journal_mem_of_mem_clearSlips (State.mem_of_mem_finish (by simp) he)

end

/-- Settles O35: the order is heard, and the loop over the slipping spindles of the range does the rest. -/
theorem clearSlipClearsTheRange : Obligations.ClearSlipClearsTheRange := by
  unfold Obligations.ClearSlipClearsTheRange
  intro s c hs htakes f u inRange
  have hformed : (s.heard c).formed = true := State.heard_formed c s hs
  have hspindle (g n : Nat) : (s.heard c).spindle g n = s.spindle g n := State.spindle_of_watch (State.heard_watch c s) g n
  refine ⟨?_, fun hno => ?_, fun hok => ⟨?_, fun g n hg hn hn' => ?_, fun n hn hslip => ?_, ?_, fun e he => ?_⟩, ?_⟩
  · exact congrArg Host.Outcome.next (State.orderEvent_of_takes htakes)
  · have hu : u = (s.heard c).finish c.cell (some .outOfRange) [] := State.orderClearSlip_refused hno
    rw [hu, State.finish_watch, State.heard_watch]
    exact ⟨State.finish_answered .., rfl⟩
  · have hcount := State.length_slipped (f := f) (first := c.p2.toNat) (last := c.p3.toNat) hformed
    simp only [hspindle] at hcount
    have hu : u = _ := State.orderClearSlip_done hok
    rw [hu, ← hcount]
    exact State.finish_answered ..
  · rw [← hspindle f n, ← hspindle g n]
    exact State.orderClearSlip_spindle hformed hok hg hn hn'
  · exact State.block_mem_orderClearSlip hok hn (by rwa [hspindle])
  · exact (State.orderClearSlip_keeps (fun t => t.writer.pending) (by simp) (by simp)).trans (State.heard_writer_pending c s)
  · exact State.mem_of_mem_heard c s (by simp) (State.journal_mem_of_mem_orderClearSlip hok he)
  · exact ⟨(State.orderClearSlip_keeps State.disp (by simp) (by simp)).trans (State.heard_disp c s),
      (State.orderClearSlip_keeps State.roving (by simp) (by simp)).trans (State.heard_roving c s),
      (State.orderClearSlip_keeps State.frames (by simp) (by simp)).trans (State.heard_frames c s),
      (State.orderClearSlip_keeps State.rogue (by simp) (by simp)).trans (State.heard_rogue c s)⟩

end Sys2Proof.Machine
end

section
/-! PROOFS. Keys and sets of spindles (R26). -/

namespace Sys2Proof.Machine

/-! ### The keys -/

/-- The keys run from 1 to 16,160 (R26). -/
theorem spindleKey_mem_range {f n : Nat} (hf : f ≤ 8) (hn : 1 ≤ n) (hn' : n ≤ 1824) :
    1 ≤ spindleKey f n ∧ spindleKey f n ≤ 16160 := by
  unfold spindleKey
  omega

/-! ### The sets -/

/-- A frame's keys begin at a multiple of 16, so the frame does not enter into the set (R26). -/
theorem setOfKey_spindleKey (f n : Nat) : setOfKey (spindleKey f n) = n % 16 := by
  unfold setOfKey spindleKey
  omega

/-- A round of 16 numbers, or any count of rounds, leads back to the same set. -/
theorem setOfKey_eq_periodic (k rounds : Nat) : Function.Periodic (fun n => setOfKey n = k) (16 * rounds) :=
  fun n => congrArg (· = k) (Nat.add_mul_mod_self_left n 16 rounds)

/-- Any `16 * rounds` numbers in a row hold `rounds` of each set. -/
theorem length_filter_setOfKey {k : Nat} (hk : k < 16) (first rounds : Nat) :
    ((List.range' first (16 * rounds)).filter fun n => setOfKey n == k).length = rounds := by
  have hcount : (16 * rounds).count (fun n => setOfKey n = k) = rounds := by
    have hmodEq : (fun n => setOfKey n = k) = (· ≡ k [MOD 16]) := by
      funext n
      simp [setOfKey, Nat.ModEq, Nat.mod_eq_of_lt hk]
    simp [hmodEq, Nat.count_modEq_card]
  have hrun := Nat.filter_multiset_Ico_card_eq_of_periodic first _ _ (setOfKey_eq_periodic k rounds)
  simpa [hcount, Multiset.Ico, Nat.Ico_eq_range', beq_eq_decide] using hrun

/-! ### The statement -/

/-- Settles O26: the 1824 positions of a frame are 114 rounds of the 16 sets. -/
theorem keysAndSets : Obligations.KeysAndSets := by
  unfold Obligations.KeysAndSets
  refine ⟨fun f n => ⟨rfl, rfl, setOfKey_spindleKey f n⟩, fun f n g m hf hf' hn hn' hg _ _ hm' => ?_, rfl, rfl,
    fun k hk => length_filter_setOfKey hk 1 114⟩
  obtain ⟨hlo, hhi⟩ := spindleKey_mem_range hf' hn hn'
  exact ⟨hlo, hhi, spindleKey_inj hg hf hm' hn'⟩

end Sys2Proof.Machine
end

section
/-! PROOFS. New reports of the unit link (R188 to R190), and the reports with a token that do not act (R56, R57). -/

namespace Sys2Proof.Machine

/-! ### A new report comes to its owner -/

theorem unitNumber_of_piecer {a : Nat} (h : unitKind a = .piecer) : unitNumber a = a - 8 := by
  unfold unitKind at h
  unfold unitNumber
  split at h
  · cases h
  · next hdrive =>
    split at h
    · next hpiecer => rw [if_neg hdrive, if_pos hpiecer]
    · cases h

@[simp] theorem State.replyTaken_disp (v : Visit) (r : Reply) (s : State) : (s.replyTaken v r).disp = s.disp := by
  simp [State.replyTaken, State.replyCounted, State.closeVisit]

/-- The acknowledgement of a report leaves the piecer pool to the report's owner (R189). -/
@[simp] theorem State.replyTaken_piecer (v : Visit) (r : Reply) (s : State) (p : Nat) :
    (s.replyTaken v r).piecer p = s.piecer p := by
  simp [State.piecer]

section
variable {s : State} {v : Visit} {r : Reply} {rep : Report} {k : UnitKind}

/-- A report with its fields in their ranges from a unit of its own kind is no miss (R187, R190). -/
theorem judgeReport_eq_none {a : Nat} (howner : kindOwner rep.kind = some (unitKind a)) (hrange : rep.inRange = true) :
    judgeReport a rep = none := by
  simp [judgeReport, howner, hrange]

/-- A valid reply with a new report is counted and acknowledged, and its owner takes the report (R188, R189). -/
theorem State.validReply_of_reports (h : s.reports v r k) :
    s.validReply v r (some rep) = (s.replyTaken v r).giveReport v.addr rep := by
  obtain ⟨⟨_, hmode, hpresent⟩, _, hnew⟩ := h
  have hmode' : (s.closeVisit v.addr).link.mode = .cycling := hmode
  have hpresent' : ((s.closeVisit v.addr).unit v.addr).presence = .present := hpresent
  have hnew' : r.seq ≠ ((s.closeVisit v.addr).unit v.addr).ack := hnew
  simp only [State.validReply, hmode', hpresent', State.presentReply, if_neg hnew']
  rfl

/-- The event of a new report: its owner takes it, in the state that has acknowledged it. -/
theorem State.reportEvent_of_reports (h : s.reports v r k) (howner : kindOwner rep.kind = some k)
    (hrange : rep.inRange = true) :
    s.reportEvent r rep = ((s.replyTaken v r).giveReport v.addr rep).conclude := by
  have ⟨⟨hawaiting, _, _⟩, hkind, _⟩ := h
  have hvalid : judgeReport v.addr rep = none := judgeReport_eq_none (hkind ▸ howner) hrange
  simp only [State.reportEvent, State.takeReport, hawaiting, hvalid, Option.isSome_some, if_true]
  rw [State.validReply_of_reports h]

end

/-! ### A piecer's token reports come to the Dispatcher (R190) -/

section
variable {s : State} {v : Visit} {r : Reply} {t : Token} (h : s.reports v r .piecer)
include h

theorem State.reports_unitNumber : unitNumber v.addr = v.addr - 8 :=
  let ⟨_, hkind, _⟩ := h
  unitNumber_of_piecer hkind

theorem exec_result_of_reports (o : Outcome) :
    exec (.result r t o) s = .next ((s.replyTaken v r).takeResult (v.addr - 8) t o).conclude :=
  State.reports_unitNumber h ▸ congrArg Host.Outcome.next (State.reportEvent_of_reports h rfl rfl)

theorem exec_step_of_reports {pos : Nat} (hlo : 1 ≤ pos) (hhi : pos ≤ 1824) (st : AttemptStep) :
    exec (.step r t st pos) s = .next ((s.replyTaken v r).takeStep (v.addr - 8) t st pos).conclude :=
  have hrange : (Report.step t st pos).inRange = true := by simp [Report.inRange, within, hlo, hhi]
  State.reports_unitNumber h ▸ congrArg Host.Outcome.next (State.reportEvent_of_reports h rfl hrange)

theorem exec_held_of_reports :
    exec (.held r t) s = .next ((s.replyTaken v r).takeHeld (v.addr - 8) t).conclude :=
  State.reports_unitNumber h ▸ congrArg Host.Outcome.next (State.reportEvent_of_reports h rfl rfl)

theorem exec_refusedHold_of_reports :
    exec (.refusedHold r t) s = .next ((s.replyTaken v r).takeRefusedHold (v.addr - 8) t).conclude :=
  State.reports_unitNumber h ▸ congrArg Host.Outcome.next (State.reportEvent_of_reports h rfl rfl)

end

/-! ### Reports with a token that do not act -/

section
variable {s : State} {p : Nat} {t : Token}

/-- The entry of a stale report shows the piecer's current token, 0 for none, and the outcome of a RESULT, 0 for any other
report (R56). -/
theorem State.stale_eq_journal (rep : Report) (o : Option Outcome) : s.stale p rep t o =
    s.journal .staleReport 0 p [w32 rep.kind, t.setWidth 32, (s.piecer p).current.elim 0#32 (BitVec.setWidth 32),
      w32 (o.elim 0 outcomeCode)] := by
  unfold State.stale
  cases (s.piecer p).current <;> cases o <;> rfl

/-- ABANDONED with the void token clears it (R57). -/
theorem State.takeResult_of_void (hvoid : (s.piecer p).void = some t) (hcur : (s.piecer p).current ≠ some t) :
    s.takeResult p t .abandoned = s.setPiecer p { s.piecer p with void := none } := by
  simp [State.takeResult, hvoid, hcur]

/-- A RESULT is stale unless it acknowledges the ABANDON or ends the attempt (R56, R57). -/
theorem State.takeResult_of_stale {o : Outcome}
    (h : ((s.piecer p).current ≠ some t ∧ ((s.piecer p).void ≠ some t ∨ o ≠ .abandoned)) ∨
      ((s.piecer p).current = some t ∧ (s.piecer p).state ≠ .attempting)) :
    s.takeResult p t o = s.stale p (.result t o) t (some o) := by
  obtain ⟨hcur, hno⟩ | ⟨hcur, hstate⟩ := h
  · have hack : ¬((s.piecer p).void = some t ∧ o = .abandoned) := fun hyes => hno.elim (· hyes.1) (· hyes.2)
    simp [State.takeResult, hcur, hack]
  · simp [State.takeResult, hcur, hstate]

/-- A STEP is stale unless the piecer is ATTEMPTING with its token (R47, R56). -/
theorem State.takeStep_of_stale {st : AttemptStep} {pos : Nat}
    (h : (s.piecer p).current ≠ some t ∨ (s.piecer p).state ≠ .attempting) :
    s.takeStep p t st pos = s.stale p (.step t st pos) t none :=
  if_neg (not_and_or.mpr h)

/-- The answers to a HOLD are stale with a token that is not the current one (R56, R117). -/
theorem State.takeHeld_of_stale (h : (s.piecer p).current ≠ some t) : s.takeHeld p t = s.stale p (.held t) t none :=
  if_pos h

theorem State.takeRefusedHold_of_stale (h : (s.piecer p).current ≠ some t) :
    s.takeRefusedHold p t = s.stale p (.refusedHold t) t none :=
  if_pos h

end

/-! ### The statement -/

/-- Settles O59: the report comes to its piecer, whose record the acknowledgement left alone, and there does not act. -/
theorem voidTokenReports : Obligations.VoidTokenReports := by
  unfold Obligations.VoidTokenReports
  intro s v r token h p x t current stale
  have hx : t.piecer p = x := State.replyTaken_piecer v r s p
  have hcurrent : x.current.elim 0#32 (BitVec.setWidth 32) = current := by
    unfold current
    cases x.current <;> rfl
  have hstale (rep : Report) (o : Option Outcome) :
      t.stale p rep token o = stale (w32 rep.kind) (w32 (o.elim 0 outcomeCode)) := by
    rw [State.stale_eq_journal, hx, hcurrent]
  refine ⟨fun hvoid hcur => ?_, fun o ho => ?_, fun st pos hlo hhi hno => ?_, fun hcur => ⟨?_, ?_⟩⟩
  · rw [exec_result_of_reports h, State.takeResult_of_void (by rwa [hx]) (by rwa [hx]), hx]
  · rw [exec_result_of_reports h, State.takeResult_of_stale (by rwa [hx]), hstale]
    rfl
  · rw [exec_step_of_reports h hlo hhi, State.takeStep_of_stale (by rwa [hx]), hstale]
    rfl
  · rw [exec_held_of_reports h, State.takeHeld_of_stale (by rwa [hx]), hstale]
    rfl
  · rw [exec_refusedHold_of_reports h, State.takeRefusedHold_of_stale (by rwa [hx]), hstale]
    rfl

end Sys2Proof.Machine
end

section
/-! PROOFS. The step of the machine: what every step keeps and what commands leave alone, by the lemmas of each command
(Laws/Commands), and the step on an empty queue. -/

namespace Sys2Proof.Machine

/-! ### Every command -/

/-- Every command answers a state whose tables are in canonical form and whose lists are within their rooms. -/
theorem exec_formed (c : Instr) (s : State) (h : s.formed = true) : ∃ t, exec c s = .next t ∧ t.formed = true := by
  cases c with
  | powerOnReset => exact execPowerOnReset_formed s
  | srst => exact execSrst_formed s
  | runSet => exact execRunSet_formed s h
  | runClear => exact execRunClear_formed s h
  | look => exact execLook_formed s h
  | resume => exact execResume_formed s h
  | attWrite value => exact execAttWrite_formed value s h
  | registerWrite reg value => exact execRegisterWrite_formed reg value s h
  | sweepTimer frame => exact execSweepTimer_formed frame s h
  | stripRead frame reply => exact execStripRead_formed frame reply s h
  | stripNoReply frame => exact execStripNoReply_formed frame s h
  | rollerPulse frame => exact execRollerPulse_formed frame s h
  | shiftTimer => exact execShiftTimer_formed s h
  | boardScan => exact execBoardScan_formed s h
  | cutOut frame spindle => exact execCutOut_formed frame spindle s h
  | clearCutout frame first last => exact execClearCutout_formed frame first last s h
  | clearSlip frame first last => exact execClearSlip_formed frame first last s h
  | selfCheck frame strip => exact execSelfCheck_formed frame strip s h
  | tableRead => exact execTableRead_formed s h
  | piecerPlace piecer target => exact execPiecerPlace_formed piecer target s h
  | doffNow frame => exact execDoffNow_formed frame s h
  | frameStop frame => exact execFrameStop_formed frame s h
  | frameStart frame => exact execFrameStart_formed frame s h
  | creelChange frame creel => exact execCreelChange_formed frame creel s h
  | shiftClose => exact execShiftClose_formed s h
  | planSwitch copy mode => exact execPlanSwitch_formed copy mode s h
  | withdraw seq => exact execWithdraw_formed seq s h
  | attemptTimeout piecer => exact execAttemptTimeout_formed piecer s h
  | travelTimeout piecer => exact execTravelTimeout_formed piecer s h
  | returnPlaceTimeout piecer => exact execReturnPlaceTimeout_formed piecer s h
  | stopTimeout frame => exact execStopTimeout_formed frame s h
  | doffTimeout frame => exact execDoffTimeout_formed frame s h
  | changeTimeout carrier => exact execChangeTimeout_formed carrier s h
  | returnTimeout carrier => exact execReturnTimeout_formed carrier s h
  | visitStart => exact execVisitStart_formed s h
  | idleCycle => exact execIdleCycle_formed s h
  | replyWindowEnd => exact execReplyWindowEnd_formed s h
  | badReply late message => exact execBadReply_formed late message s h
  | nothing reply => exact execNothing_formed reply s h
  | state reply drive metres => exact execState_formed reply drive metres s h
  | atDoffPosition reply => exact execAtDoffPosition_formed reply s h
  | doffDone reply => exact execDoffDone_formed reply s h
  | driveFault reply => exact execDriveFault_formed reply s h
  | atSide reply side position => exact execAtSide_formed reply side position s h
  | step reply token stage position => exact execStep_formed reply token stage position s h
  | result reply token outcome => exact execResult_formed reply token outcome s h
  | held reply token => exact execHeld_formed reply token s h
  | refusedHold reply token => exact execRefusedHold_formed reply token s h
  | parked reply => exact execParked_formed reply s h
  | fault reply => exact execFault_formed reply s h
  | loaded reply lot => exact execLoaded_formed reply lot s h
  | arrived reply => exact execArrived_formed reply s h
  | changeDone reply => exact execChangeDone_formed reply s h
  | changeFault reply => exact execChangeFault_formed reply s h
  | returned reply => exact execReturned_formed reply s h
  | memoryBeat host => exact execMemoryBeat_formed host s h
  | busGrant => exact execBusGrant_formed s h
  | busYield host => exact execBusYield_formed host s h
  | beatError => exact execBeatError_formed s h
  | grantTimeout => exact execGrantTimeout_formed s h

/-- Every command keeps the registers in agreement with the part state. -/
theorem exec_keeps (c : Instr) (s : State) : ∃ t, exec c s = .next t ∧ Keeps s t := by
  cases c with
  | powerOnReset => exact execPowerOnReset_keeps s
  | srst => exact execSrst_keeps s
  | runSet => exact execRunSet_keeps s
  | runClear => exact execRunClear_keeps s
  | look => exact execLook_keeps s
  | resume => exact execResume_keeps s
  | attWrite value => exact execAttWrite_keeps value s
  | registerWrite reg value => exact execRegisterWrite_keeps reg value s
  | sweepTimer frame => exact execSweepTimer_keeps frame s
  | stripRead frame reply => exact execStripRead_keeps frame reply s
  | stripNoReply frame => exact execStripNoReply_keeps frame s
  | rollerPulse frame => exact execRollerPulse_keeps frame s
  | shiftTimer => exact execShiftTimer_keeps s
  | boardScan => exact execBoardScan_keeps s
  | cutOut frame spindle => exact execCutOut_keeps frame spindle s
  | clearCutout frame first last => exact execClearCutout_keeps frame first last s
  | clearSlip frame first last => exact execClearSlip_keeps frame first last s
  | selfCheck frame strip => exact execSelfCheck_keeps frame strip s
  | tableRead => exact execTableRead_keeps s
  | piecerPlace piecer target => exact execPiecerPlace_keeps piecer target s
  | doffNow frame => exact execDoffNow_keeps frame s
  | frameStop frame => exact execFrameStop_keeps frame s
  | frameStart frame => exact execFrameStart_keeps frame s
  | creelChange frame creel => exact execCreelChange_keeps frame creel s
  | shiftClose => exact execShiftClose_keeps s
  | planSwitch copy mode => exact execPlanSwitch_keeps copy mode s
  | withdraw seq => exact execWithdraw_keeps seq s
  | attemptTimeout piecer => exact execAttemptTimeout_keeps piecer s
  | travelTimeout piecer => exact execTravelTimeout_keeps piecer s
  | returnPlaceTimeout piecer => exact execReturnPlaceTimeout_keeps piecer s
  | stopTimeout frame => exact execStopTimeout_keeps frame s
  | doffTimeout frame => exact execDoffTimeout_keeps frame s
  | changeTimeout carrier => exact execChangeTimeout_keeps carrier s
  | returnTimeout carrier => exact execReturnTimeout_keeps carrier s
  | visitStart => exact execVisitStart_keeps s
  | idleCycle => exact execIdleCycle_keeps s
  | replyWindowEnd => exact execReplyWindowEnd_keeps s
  | badReply late message => exact execBadReply_keeps late message s
  | nothing reply => exact execNothing_keeps reply s
  | state reply drive metres => exact execState_keeps reply drive metres s
  | atDoffPosition reply => exact execAtDoffPosition_keeps reply s
  | doffDone reply => exact execDoffDone_keeps reply s
  | driveFault reply => exact execDriveFault_keeps reply s
  | atSide reply side position => exact execAtSide_keeps reply side position s
  | step reply token stage position => exact execStep_keeps reply token stage position s
  | result reply token outcome => exact execResult_keeps reply token outcome s
  | held reply token => exact execHeld_keeps reply token s
  | refusedHold reply token => exact execRefusedHold_keeps reply token s
  | parked reply => exact execParked_keeps reply s
  | fault reply => exact execFault_keeps reply s
  | loaded reply lot => exact execLoaded_keeps reply lot s
  | arrived reply => exact execArrived_keeps reply s
  | changeDone reply => exact execChangeDone_keeps reply s
  | changeFault reply => exact execChangeFault_keeps reply s
  | returned reply => exact execReturned_keeps reply s
  | memoryBeat host => exact execMemoryBeat_keeps host s
  | busGrant => exact execBusGrant_keeps s
  | busYield host => exact execBusYield_keeps host s
  | beatError => exact execBeatError_keeps s
  | grantTimeout => exact execGrantTimeout_keeps s

/-- The commands that write something of the fixed part: the resets, the register writes, the mill clock's clearing, the
events of the bus. -/
def Instr.writesBase : Instr → Bool
  | .powerOnReset | .srst | .runSet | .attWrite _ | .registerWrite _ _ | .memoryBeat _ | .busYield _ | .beatError
  | .grantTimeout => true
  | _ => false

/-- Every other command leaves the fixed part alone. -/
theorem exec_base (c : Instr) (s : State) (h : Instr.writesBase c = false) :
    ∃ t, exec c s = .next t ∧ t.fixed.base = s.fixed.base := by
  cases c with
  | powerOnReset | srst | runSet | attWrite | registerWrite | memoryBeat | busYield | beatError | grantTimeout => cases h
  | runClear => exact execRunClear_base s
  | look => exact execLook_base s
  | resume => exact execResume_base s
  | sweepTimer frame => exact execSweepTimer_base frame s
  | stripRead frame reply => exact execStripRead_base frame reply s
  | stripNoReply frame => exact execStripNoReply_base frame s
  | rollerPulse frame => exact execRollerPulse_base frame s
  | shiftTimer => exact execShiftTimer_base s
  | boardScan => exact execBoardScan_base s
  | cutOut frame spindle => exact execCutOut_base frame spindle s
  | clearCutout frame first last => exact execClearCutout_base frame first last s
  | clearSlip frame first last => exact execClearSlip_base frame first last s
  | selfCheck frame strip => exact execSelfCheck_base frame strip s
  | tableRead => exact execTableRead_base s
  | piecerPlace piecer target => exact execPiecerPlace_base piecer target s
  | doffNow frame => exact execDoffNow_base frame s
  | frameStop frame => exact execFrameStop_base frame s
  | frameStart frame => exact execFrameStart_base frame s
  | creelChange frame creel => exact execCreelChange_base frame creel s
  | shiftClose => exact execShiftClose_base s
  | planSwitch copy mode => exact execPlanSwitch_base copy mode s
  | withdraw seq => exact execWithdraw_base seq s
  | attemptTimeout piecer => exact execAttemptTimeout_base piecer s
  | travelTimeout piecer => exact execTravelTimeout_base piecer s
  | returnPlaceTimeout piecer => exact execReturnPlaceTimeout_base piecer s
  | stopTimeout frame => exact execStopTimeout_base frame s
  | doffTimeout frame => exact execDoffTimeout_base frame s
  | changeTimeout carrier => exact execChangeTimeout_base carrier s
  | returnTimeout carrier => exact execReturnTimeout_base carrier s
  | visitStart => exact execVisitStart_base s
  | idleCycle => exact execIdleCycle_base s
  | replyWindowEnd => exact execReplyWindowEnd_base s
  | badReply late message => exact execBadReply_base late message s
  | nothing reply => exact execNothing_base reply s
  | state reply drive metres => exact execState_base reply drive metres s
  | atDoffPosition reply => exact execAtDoffPosition_base reply s
  | doffDone reply => exact execDoffDone_base reply s
  | driveFault reply => exact execDriveFault_base reply s
  | atSide reply side position => exact execAtSide_base reply side position s
  | step reply token stage position => exact execStep_base reply token stage position s
  | result reply token outcome => exact execResult_base reply token outcome s
  | held reply token => exact execHeld_base reply token s
  | refusedHold reply token => exact execRefusedHold_base reply token s
  | parked reply => exact execParked_base reply s
  | fault reply => exact execFault_base reply s
  | loaded reply lot => exact execLoaded_base reply lot s
  | arrived reply => exact execArrived_base reply s
  | changeDone reply => exact execChangeDone_base reply s
  | changeFault reply => exact execChangeFault_base reply s
  | returned reply => exact execReturned_base reply s
  | busGrant => exact execBusGrant_base s

/-! ### The commands that write something of the fixed part -/

theorem execRunSet_base (s : State) : ∃ t, execRunSet s = .next t ∧
    (t.fixed.base = s.fixed.base ∨ t.fixed.base = ({ s with clock := 0#32, clockMs := 0 } : State).fixed.base) := by
  unfold execRunSet
  (repeat' split) <;> refine ⟨_, rfl, ?_⟩
  · exact .inr rfl
  all_goals exact .inl rfl

theorem execAttWrite_base (value : Word) (s : State) : ∃ t, execAttWrite value s = .next t ∧
    t.fixed.base = ({ s with regs.att := s.regs.att &&& ~~~value } : State).fixed.base := by
  refine ⟨_, rfl, ?_⟩
  rw [State.conclude_base, State.clearFrameBits, State.each_fixed _ _ (by simp)]

theorem State.moveBeat_base (t : Transfer) (s : State) :
    (s.moveBeat t).fixed.base = ({ s with mem := (s.moveBeat t).mem } : State).fixed.base := by
  unfold State.moveBeat
  cases t.write <;> rfl

/-- A beat writes the memory by its own word alone: what the transfer's end brings leaves the memory. -/
theorem State.beat_base (t : Transfer) (s : State) :
    (s.beat t).fixed.base = ({ s with mem := (s.moveBeat t).mem } : State).fixed.base := by
  rw [← State.moveBeat_base]
  unfold State.beat
  dsimp only
  (repeat' split) <;> simp

/-- The memory after MEMORY_BEAT and BUS_YIELD: the host's writes, then the word of a write beat. -/
def State.beatMem (host : List HostWrite) (s : State) : List Host.Cell :=
  match s.granted with
  | some t => ((s.hostWrites host).moveBeat t).mem
  | none => (s.hostWrites host).mem

theorem execMemoryBeat_base (host : List HostWrite) (s : State) : ∃ t, execMemoryBeat host s = .next t ∧
    t.fixed.base = ({ s with mem := s.beatMem host } : State).fixed.base := by
  cases hgranted : s.granted with
  | none => simp only [execMemoryBeat, State.beatMem, hgranted]; exact ⟨_, rfl, rfl⟩
  | some t => simp only [execMemoryBeat, State.beatMem, hgranted]; exact ⟨_, rfl, State.beat_base _ _⟩

theorem execBusYield_base (host : List HostWrite) (s : State) : ∃ t, execBusYield host s = .next t ∧
    t.fixed.base = ({ s with mem := s.beatMem host } : State).fixed.base := by
  cases hgranted : s.granted with
  | none => simp only [execBusYield, State.beatMem, hgranted]; exact ⟨_, rfl, rfl⟩
  | some t =>
    simp only [execBusYield, State.beatMem, hgranted]
    have hbeat := State.beat_base t (s.hostWrites host)
    split
    · exact ⟨_, rfl, hbeat⟩
    · exact ⟨_, rfl, hbeat⟩

/-! ### The form of the memory and the reserved bits -/

/-- What State.sound says of the fixed part, the part state apart. -/
def State.baseSound (s : State) : Bool := Memory.ok s.mem && s.regs.reservedClear && decide (s.clockMs < 100)

theorem State.sound_iff (s : State) : s.sound = true ↔ s.baseSound = true ∧ s.fixed.legal = true := by
  rw [State.fixed_legal]
  simp only [State.sound, State.baseSound, Bool.and_eq_true]
  tauto

theorem State.baseSound_iff (s : State) : s.baseSound = true ↔ Memory.ok s.mem = true ∧ s.clockMs < 100 ∧
    s.regs.area &&& ~~~areaMask = 0#32 ∧ s.regs.att &&& ~~~attMask = 0#32 ∧ s.regs.atm &&& ~~~attMask = 0#32 := by
  simp only [State.baseSound, Regs.reservedClear, Bool.and_eq_true, beq_iff_eq, decide_eq_true_eq]
  tauto

theorem State.baseSound_of_base {s t : State} (h : t.fixed.base = s.fixed.base) : t.baseSound = s.baseSound := by
  simp only [Fixed.base, State.fixed, Regs.still, Prod.mk.injEq] at h
  obtain ⟨hmem, _, hms, _, harea, hatm, hatt, _⟩ := h
  simp only [State.baseSound, Regs.reservedClear, hmem, hms, harea, hatm, hatt]

theorem Memory.ok_beatMem (host : List HostWrite) (s : State) (h : Memory.ok s.mem = true) :
    Memory.ok (s.beatMem host) = true := by
  have hhost : Memory.ok (s.hostWrites host).mem = true := Memory.ok_hostWrites host h
  unfold State.beatMem
  split
  · unfold State.moveBeat
    dsimp only
    split
    · exact Memory.ok_putWord _ _ hhost
    · exact hhost
  · exact hhost

/-- A mask leaves bits that are 0 as they are. -/
theorem and_and_eq_zero {x m : Word} (y : Word) (h : x &&& m = 0#32) : x &&& y &&& m = 0#32 := by
  rw [BitVec.and_assoc, BitVec.and_comm y m, ← BitVec.and_assoc, h, BitVec.zero_and]

theorem and_mask_clear (x m : Word) : x &&& m &&& ~~~m = 0#32 := by
  rw [BitVec.and_assoc, BitVec.and_not_self]; exact BitVec.and_zero

/-- Every command keeps the form of the memory and the reserved bits 0. -/
theorem exec_baseSound (c : Instr) (s : State) (h : s.baseSound = true) :
    ∃ t, exec c s = .next t ∧ t.baseSound = true := by
  cases hc : Instr.writesBase c with
  | false =>
    obtain ⟨t, hexec, hbase⟩ := exec_base c s hc
    exact ⟨t, hexec, (State.baseSound_of_base hbase).trans h⟩
  | true =>
    obtain ⟨hmem, hms, harea, hatt, hatm⟩ := (State.baseSound_iff s).mp h
    cases c with
    | powerOnReset => exact ⟨_, rfl, (State.baseSound_iff _).mpr ⟨hmem, Nat.zero_lt_succ 99, BitVec.zero_and,
      BitVec.zero_and, BitVec.zero_and⟩⟩
    | srst => exact ⟨_, rfl, (State.baseSound_iff _).mpr ⟨hmem, Nat.zero_lt_succ 99, harea, BitVec.zero_and,
      BitVec.zero_and⟩⟩
    | runSet =>
      obtain ⟨t, hexec, hbase | hbase⟩ := execRunSet_base s
      · exact ⟨t, hexec, (State.baseSound_of_base hbase).trans h⟩
      · refine ⟨t, hexec, (State.baseSound_of_base hbase).trans ?_⟩
        exact (State.baseSound_iff _).mpr ⟨hmem, Nat.zero_lt_succ 99, harea, hatt, hatm⟩
    | attWrite value =>
      obtain ⟨t, hexec, hbase⟩ := execAttWrite_base value s
      refine ⟨t, hexec, (State.baseSound_of_base hbase).trans ?_⟩
      exact (State.baseSound_iff _).mpr ⟨hmem, hms, harea, and_and_eq_zero _ hatt, hatm⟩
    | registerWrite reg value =>
      cases reg with
      | area =>
        by_cases hpart : s.regs.part = .halted
        · refine ⟨_, if_pos hpart, ?_⟩
          exact (State.baseSound_iff _).mpr ⟨hmem, hms, and_mask_clear _ _, hatt, hatm⟩
        · exact ⟨s, if_neg hpart, h⟩
      | atm => exact ⟨_, rfl, (State.baseSound_iff _).mpr ⟨hmem, hms, harea, hatt, and_mask_clear _ _⟩⟩
      | pst | flt => exact ⟨s, rfl, h⟩
    | memoryBeat host =>
      obtain ⟨t, hexec, hbase⟩ := execMemoryBeat_base host s
      refine ⟨t, hexec, (State.baseSound_of_base hbase).trans ?_⟩
      exact (State.baseSound_iff _).mpr ⟨Memory.ok_beatMem host s hmem, hms, harea, hatt, hatm⟩
    | busYield host =>
      obtain ⟨t, hexec, hbase⟩ := execBusYield_base host s
      refine ⟨t, hexec, (State.baseSound_of_base hbase).trans ?_⟩
      exact (State.baseSound_iff _).mpr ⟨Memory.ok_beatMem host s hmem, hms, harea, hatt, hatm⟩
    | beatError =>
      obtain ⟨t, w, hexec, hbase⟩ := execBeatError_base s
      exact ⟨t, hexec, (State.baseSound_of_base hbase).trans h⟩
    | grantTimeout =>
      obtain ⟨t, w, hexec, hbase⟩ := execGrantTimeout_base s
      exact ⟨t, hexec, (State.baseSound_of_base hbase).trans h⟩
    | _ => cases hc

/-! ### The step on an empty queue -/

theorem State.tick_legal (s : State) : s.tick.fixed.legal = s.fixed.legal := by
  rw [State.fixed_legal, State.fixed_legal]
  unfold State.tick State.tickTimers State.tickClock
  (repeat' split) <;> rfl

theorem State.tick_baseSound (s : State) (h : s.baseSound = true) : s.tick.baseSound = true := by
  obtain ⟨hmem, hms, hbits⟩ := (State.baseSound_iff s).mp h
  unfold State.tick
  split
  · exact h
  · unfold State.tickClock
    split
    · exact (State.baseSound_iff _).mpr ⟨hmem, Nat.zero_lt_succ 99, hbits⟩
    · next hne =>
      have hlater : s.clockMs + 1 < 100 := by have : s.clockMs ≠ 99 := hne; omega
      exact (State.baseSound_iff _).mpr ⟨hmem, hlater, hbits⟩

/-! ### The statements -/

/-- What a millisecond and every command keep, every step keeps. -/
theorem step_keeps {P : State → Prop} (hqueue : ∀ s r, P s → P { s with pending := r }) (htick : ∀ s, P s → P s.tick)
    (hexec : ∀ c s, P s → ∃ t, exec c s = .next t ∧ P t) {s t : State} (h : P s) (hstep : step s = .next t) : P t := by
  unfold step at hstep
  split at hstep
  · cases hstep
    exact htick s h
  · next c r _ =>
    obtain ⟨u, hu, hP⟩ := hexec c _ (hqueue s r h)
    rw [hu] at hstep
    cases hstep
    exact hP

/-- Settles O3: the memory and the reserved bits by what each command leaves of the fixed part, the registers by Keeps.
-/
theorem everyStepKeepsSound : Obligations.EveryStepKeepsSound := by
  unfold Obligations.EveryStepKeepsSound
  intro s t hs hstep
  refine step_keeps (P := fun s => s.sound = true) (fun _ _ h => h) (fun s h => ?_) (fun c s h => ?_) hs hstep
  · obtain ⟨hbase, hlegal⟩ := (State.sound_iff s).mp h
    exact (State.sound_iff _).mpr ⟨State.tick_baseSound s hbase, (State.tick_legal s).trans hlegal⟩
  · obtain ⟨hbase, hlegal⟩ := (State.sound_iff s).mp h
    obtain ⟨t, hexec, hbase⟩ := exec_baseSound c s hbase
    obtain ⟨u, hexec', hkeeps⟩ := exec_keeps c s
    obtain rfl : t = u := Host.Outcome.next.inj (hexec.symm.trans hexec')
    exact ⟨t, hexec, (State.sound_iff t).mpr ⟨hbase, hkeeps hlegal⟩⟩

/-- Settles O4: a millisecond and every command keep the form. -/
theorem everyStepKeepsFormed : Obligations.EveryStepKeepsFormed := by
  unfold Obligations.EveryStepKeepsFormed
  intro s t
  exact step_keeps (P := fun s => s.formed = true) (fun _ _ h => h) State.tick_formed exec_formed

/-- Settles O1: the step by definition. -/
theorem stepRunsTheFrontCommand : Obligations.StepRunsTheFrontCommand := by
  unfold Obligations.StepRunsTheFrontCommand
  intro c r s h
  unfold step
  rw [h]

/-! ### One millisecond (O2) -/

theorem tget_mapTable {α : Type} {d : α} {g : α → α} (hd : g d = d) (t : List (Nat × α)) (n : Nat) :
    tget d (mapTable g t) n = g (tget d t n) := by
  induction t with
  | nil => exact hd.symm
  | cons e r ih =>
    obtain ⟨k, v⟩ := e
    simp only [mapTable, List.map_cons, tget] at ih ⊢
    split
    · rfl
    · exact ih

/-- Settles O2: a record of each table after the millisecond is the record before it with its timers run. -/
theorem emptyStepPassesAMillisecond : Obligations.EmptyStepPassesAMillisecond := by
  unfold Obligations.EmptyStepPassesAMillisecond
  refine ⟨fun x => ⟨fun h => ?_, fun h => ?_⟩, fun s hempty => ⟨s.tick, ?_, fun hhalt => ?_, fun hrun => ?_⟩⟩
  · simp [Timer.tick, h]
  · simp [Timer.tick, h]
  · simp only [step, hempty]
  · unfold State.tick
    rw [if_pos hhalt]
    rfl
  · have htick : s.tick = s.tickTimers.tickClock := if_neg hrun
    have hrecords : s.tick = { s.tickTimers with clock := s.tick.clock, clockMs := s.tick.clockMs } := by
      rw [htick]
      unfold State.tickClock
      split <;> rfl
    refine ⟨?_, fun hlast => ?_, fun hmore => ?_, fun f => ?_, fun f => ?_, fun p => ?_, fun c => ?_⟩
    · rw [hrecords]
      rfl
    · rw [htick, State.tickClock, if_pos (by exact hlast)]
      exact ⟨rfl, rfl⟩
    · rw [htick, State.tickClock, if_neg (by exact hmore)]
      exact ⟨rfl, rfl⟩
    · rw [hrecords]
      exact tget_mapTable (g := Sweep.tick) rfl _ f
    · rw [hrecords]
      exact tget_mapTable (g := Frame.tick) rfl _ f
    · rw [hrecords]
      exact tget_mapTable (g := Piecer.tick) rfl _ p
    · rw [hrecords]
      exact tget_mapTable (g := Carrier.tick) rfl _ c

/-! ### What commands leave alone (O6) -/

/-- What the state's fixed part says of the records that O6 names. -/
theorem State.base_eq_iff {s t : State} : t.fixed.base = s.fixed.base ↔ t.mem = s.mem ∧ t.clock = s.clock ∧
    t.clockMs = s.clockMs ∧ t.pending = s.pending ∧ t.regs.area = s.regs.area ∧ t.regs.atm = s.regs.atm ∧
    t.regs.still.att = s.regs.still.att ∧ t.regs.flt = s.regs.flt := by
  simp only [Fixed.base, State.fixed, Regs.still, Prod.mk.injEq]

theorem State.byte_of_mem {s t : State} (h : t.mem = s.mem) (a : Nat) : t.byte a = s.byte a := by
  unfold State.byte; rw [h]

/-- Settles O6: each command by what it leaves of the fixed part. -/
theorem whatCommandsLeaveAlone : Obligations.WhatCommandsLeaveAlone := by
  unfold Obligations.WhatCommandsLeaveAlone
  intro c s t hexec
  cases hc : Instr.writesBase c with
  | false =>
    obtain ⟨u, hu, hbase⟩ := exec_base c s hc
    obtain rfl : u = t := Host.Outcome.next.inj (hu.symm.trans hexec)
    obtain ⟨hmem, hclock, hms, hpending, harea, hatm, _, hflt⟩ := State.base_eq_iff.mp hbase
    simp [hpending, State.byte_of_mem (s := s) hmem, hclock, hms, harea, hatm, hflt]
  | true =>
    cases c with
    | powerOnReset => cases hexec; simp [State.powerOn, State.byte]
    | srst => cases hexec; simp [State.powerOn, State.byte]
    | runSet =>
      obtain ⟨u, hu, hbase⟩ := execRunSet_base s
      obtain rfl : u = t := Host.Outcome.next.inj (hu.symm.trans hexec)
      obtain hbase | hbase := hbase <;>
        obtain ⟨hmem, _, _, hpending, harea, hatm, _, hflt⟩ := State.base_eq_iff.mp hbase <;>
        simp [hpending, State.byte_of_mem (s := s) hmem, harea, hatm, hflt]
    | attWrite value =>
      obtain ⟨u, hu, hbase⟩ := execAttWrite_base value s
      obtain rfl : u = t := Host.Outcome.next.inj (hu.symm.trans hexec)
      obtain ⟨hmem, hclock, hms, hpending, harea, hatm, _, hflt⟩ := State.base_eq_iff.mp hbase
      simp [hpending, State.byte_of_mem (s := s) hmem, hclock, hms, harea, hatm, hflt]
    | registerWrite reg value =>
      simp only [exec, execRegisterWrite] at hexec
      (repeat' split at hexec) <;> cases hexec <;> simp [State.byte]
    | memoryBeat host =>
      obtain ⟨u, hu, hbase⟩ := execMemoryBeat_base host s
      obtain rfl : u = t := Host.Outcome.next.inj (hu.symm.trans hexec)
      obtain ⟨_, hclock, hms, hpending, harea, hatm, _, hflt⟩ := State.base_eq_iff.mp hbase
      simp [hpending, hclock, hms, harea, hatm, hflt]
    | busYield host =>
      obtain ⟨u, hu, hbase⟩ := execBusYield_base host s
      obtain rfl : u = t := Host.Outcome.next.inj (hu.symm.trans hexec)
      obtain ⟨_, hclock, hms, hpending, harea, hatm, _, hflt⟩ := State.base_eq_iff.mp hbase
      simp [hpending, hclock, hms, harea, hatm, hflt]
    | beatError =>
      obtain ⟨u, w, hu, hbase⟩ := execBeatError_base s
      obtain rfl : u = t := Host.Outcome.next.inj (hu.symm.trans hexec)
      obtain ⟨hmem, hclock, hms, hpending, harea, hatm, _, _⟩ := State.base_eq_iff.mp hbase
      simp [hpending, State.byte_of_mem (s := s) hmem, hclock, hms, harea, hatm]
    | grantTimeout =>
      obtain ⟨u, w, hu, hbase⟩ := execGrantTimeout_base s
      obtain rfl : u = t := Host.Outcome.next.inj (hu.symm.trans hexec)
      obtain ⟨hmem, hclock, hms, hpending, harea, hatm, _, _⟩ := State.base_eq_iff.mp hbase
      simp [hpending, State.byte_of_mem (s := s) hmem, hclock, hms, harea, hatm]
    | _ => cases hc

/-! ### The resets (O7) -/

/-- Settles O7: the reset state, record by record. -/
theorem resetsClearThePart : Obligations.ResetsClearThePart := by
  unfold Obligations.ResetsClearThePart
  refine ⟨by decide, fun s => ⟨rfl, rfl⟩, rfl, rfl, fun _ _ => rfl, fun _ => rfl, fun _ => rfl, fun _ _ => rfl,
    fun _ => rfl, fun _ => rfl, fun _ => rfl, fun _ => rfl, fun _ => rfl, rfl, fun _ => rfl, fun _ => rfl, fun _ => rfl,
    fun _ => rfl, rfl, rfl, fun _ => rfl, rfl, rfl, rfl, fun _ => rfl, rfl⟩

end Sys2Proof.Machine
end

section
/-! PROOFS. The Memory Port: beats, grants, yields, errors (R181) and the memory fault (R182 to R184). -/

namespace Sys2Proof.Machine

/-! ### The bytes of words in memory -/

/-- A written word's bytes read back, least significant first (R198). -/
theorem tget_putWord_same {m : List Host.Cell} {i : Nat} (a : Nat) (w : Word) (h : Memory.ok m = true) (hi : i < 4) :
    tget 0#8 (putWord m a w) ((a + i) % 4294967296) = w.extractLsb' (8 * i) 8 := by
  have h0 := Memory.ok_putByte a (w.extractLsb' 0 8) h
  have h1 := Memory.ok_putByte (a + 1) (w.extractLsb' 8 8) h0
  have h2 := Memory.ok_putByte (a + 2) (w.extractLsb' 16 8) h1
  unfold putWord
  obtain rfl | rfl | rfl | rfl : i = 0 ∨ i = 1 ∨ i = 2 ∨ i = 3 := by omega
  · rw [tget_putByte_other _ (by omega), tget_putByte_other _ (by omega), tget_putByte_other _ (by omega)]
    exact tget_putByte_same a _ h
  · rw [tget_putByte_other _ (by omega), tget_putByte_other _ (by omega)]
    exact tget_putByte_same (a + 1) _ h0
  · rw [tget_putByte_other _ (by omega)]
    exact tget_putByte_same (a + 2) _ h1
  · exact tget_putByte_same (a + 3) _ h2

/-- The last of the host's writes. -/
theorem State.hostWrites_append (host : List HostWrite) (a : Nat) (w : Word) (s : State) :
    (s.hostWrites (host ++ [(a, w)])).mem = putWord (s.hostWrites host).mem a w := by
  simp [State.hostWrites]

/-! ### A beat -/

/-- A beat changes the memory and the port's transfer alone. -/
theorem State.moveBeat_eq (t : Transfer) (s : State) : s.moveBeat t = { s with
    mem := (s.moveBeat t).mem
    port := { s.port with current := some (t.moved (s.word t.beatAddr)), retried := false } } := by
  unfold State.moveBeat
  cases t.write <;> rfl

theorem State.moveBeat_mem (t : Transfer) (s : State) : (s.moveBeat t).mem =
    if t.write then putWord s.mem t.beatAddr (t.words.getD t.next 0#32) else s.mem := by
  unfold State.moveBeat
  dsimp only
  split <;> rfl

/-- A beat before the last leaves the next one due. -/
theorem State.beat_of_more {t : Transfer} {s : State} (h : t.next + 1 < t.beats) : s.beat t = s.moveBeat t := by
  have hnot : (t.moved (s.word t.beatAddr)).done = false := by
    exact decide_eq_false (Nat.not_le.mpr h)
  rw [State.beat, State.moveBeat_eq]
  simp only [hnot]
  rfl

/-- After the last beat the event is the transfer's end. -/
theorem State.beat_of_last {t : Transfer} {s : State} (h : t.beats ≤ t.next + 1) :
    s.beat t = ((s.moveBeat t).transferEnded (t.moved (s.word t.beatAddr))).conclude := by
  have hdone : (t.moved (s.word t.beatAddr)).done = true := by
    exact decide_eq_true h
  rw [State.beat, State.moveBeat_eq]
  simp only [hdone, if_true]

theorem State.beat_mem (t : Transfer) (s : State) : (s.beat t).mem = (s.moveBeat t).mem :=
  (State.base_eq_iff.mp (State.beat_base t s)).1

theorem execMemoryBeat_of_granted {s : State} {t : Transfer} (host : List HostWrite) (h : s.granted = some t) :
    exec (.memoryBeat host) s = .next ((s.hostWrites host).beat t) := by
  simp only [exec, execMemoryBeat, h]

/-- Settles O15: the host's writes and the beat's word are writes of four bytes each. -/
theorem beatMovesOneWord : Obligations.BeatMovesOneWord := by
  unfold Obligations.BeatMovesOneWord
  intro s host hmem
  have hhost : Memory.ok (s.hostWrites host).mem = true := Memory.ok_hostWrites host hmem
  refine ⟨rfl, fun a w => ⟨fun i hi => ?_, fun b hb => ?_⟩, fun hnone => ?_, fun t ht => ?_⟩
  · rw [State.byte, State.hostWrites_append]
    exact tget_putWord_same a w hhost hi
  · rw [State.byte, State.hostWrites_append]
    exact tget_putWord_other w hb
  · simp only [exec, execMemoryBeat, hnone]
  · intro m moved
    refine ⟨_, execMemoryBeat_of_granted host ht, fun hread a => ?_, fun hwrite => ⟨fun i hi => ?_, fun a ha => ?_⟩,
      fun hmore => ?_, fun hlast => ?_⟩
    · rw [State.byte, State.beat_mem, State.moveBeat_mem, hread]
      rfl
    · rw [State.byte, State.beat_mem, State.moveBeat_mem, if_pos hwrite]
      exact tget_putWord_same _ _ hhost hi
    · rw [State.byte, State.beat_mem, State.moveBeat_mem, if_pos hwrite]
      exact tget_putWord_other _ ha
    · rw [State.beat_of_more hmore]
      exact State.moveBeat_eq t m
    · rw [State.beat_mem, State.beat_of_last hlast]
      exact congrArg (fun u => (State.transferEnded moved u).conclude) (State.moveBeat_eq t m)

/-- Settles O16: each event by its cases. -/
theorem busGrantYieldAndRetry : Obligations.BusGrantYieldAndRetry := by
  unfold Obligations.BusGrantYieldAndRetry
  intro s host
  refine ⟨fun hreq => ?_, fun hreq => ?_, fun t ht hmore => ?_, fun t ht hlast => ?_, fun hnone => ⟨?_, ?_⟩,
    fun t ht hfirst => ?_⟩
  · simp only [exec, execBusGrant, hreq, if_true]
  · simp [exec, execBusGrant, hreq]
  · refine ⟨_, _, execMemoryBeat_of_granted host ht, ?_, rfl⟩
    simp only [exec, execBusYield, ht, if_neg (Nat.not_le.mpr hmore)]
    rfl
  · simp only [exec, execBusYield, execMemoryBeat, ht, if_pos hlast]
  · simp only [exec, execBusYield, hnone]
  · simp only [exec, execBeatError, hnone]
  · simp [exec, execBeatError, ht, hfirst]

/-! ### The memory fault -/

/-- The Report Writer with the first k entries of the pending list dropped and counted (R179). -/
def Writer.shed (k : Nat) (w : Writer) : Writer :=
  let gone := w.pending.take k
  { w with
    pending := w.pending.drop k
    drops := if gone = [] then w.drops else min 4294967295 (w.drops + gone.length)
    firstDrop := if w.drops = 0 then (gone.head?.map JournalEntry.stamp).getD w.firstDrop else w.firstDrop
    lastDrop := (gone.getLast?.map JournalEntry.stamp).getD w.lastDrop }

@[simp] theorem Writer.shed_zero (w : Writer) : w.shed 0 = w := by
  simp [Writer.shed]

/-- Entries are dropped one by one, the oldest first. -/
theorem Writer.shed_succ {w : Writer} {e : JournalEntry} {r : List JournalEntry} (h : w.pending = e :: r) (k : Nat) :
    w.shed (k + 1) = Writer.shed k { w with
      pending := r
      drops := min 4294967295 (w.drops + 1)
      firstDrop := if w.drops = 0 then e.stamp else w.firstDrop
      lastDrop := e.stamp } := by
  have hcount : min 4294967295 (w.drops + 1) ≠ 0 := by omega
  simp only [Writer.shed, h, List.take_succ_cons, List.drop_succ_cons, hcount, if_false]
  cases hgone : r.take k with
  | nil => simp
  | cons a l =>
    simp only [List.length_cons, List.getLast?_cons_cons, reduceCtorEq, if_false, List.head?_cons, Option.map_some,
      Option.getD_some, Writer.mk.injEq, true_and, and_true]
    refine ⟨by omega, ?_⟩
    rw [List.getLast?_cons]
    rfl

/-- The pending list keeps its newest 32 entries, when the number of repetitions reaches the rest (R179). -/
theorem dropOldest_eq_shed {n : Nat} {w : Writer} (h : w.pending.length ≤ n + 32) :
    dropOldest n w = w.shed (w.pending.length - 32) := by
  induction n generalizing w with
  | zero =>
    rw [Nat.sub_eq_zero_of_le (by simpa using h), Writer.shed_zero]
    rfl
  | succ n ih =>
    unfold dropOldest
    split
    · next hroom => rw [Nat.sub_eq_zero_of_le (show w.pending.length ≤ 32 from hroom), Writer.shed_zero]
    · next hover =>
      have hover : 32 < w.pending.length := Nat.lt_of_not_le hover
      cases hp : w.pending with
      | nil => simp [hp] at hover
      | cons e r =>
        rw [hp, List.length_cons] at h hover
        rw [List.length_cons, show r.length + 1 - 32 = r.length - 32 + 1 by omega, Writer.shed_succ hp]
        exact ih (Nat.le_of_succ_le_succ h)

theorem Writer.items_eq (w : Writer) : w.items = w.current.toList.map Update.item ++ w.queue := by
  unfold Writer.items
  cases w.current <;> rfl

/-- What a fault holds back of the items that wait (R138, R183, R184). -/
theorem State.holdBack_eq {s : State} {l : List WriteItem} (h : s.writer.items = l) : s.holdBack = { s with
    writer := Writer.shed ((itemEntries l ++ s.writer.pending).length - 32) { s.writer with
      pending := itemEntries l ++ s.writer.pending
      queue := []
      current := none
      heldPages := itemPages l ++ s.writer.heldPages
      heldDumps := itemDumps l ++ s.writer.heldDumps }
    desk := { s.desk with held := itemAnswers l ++ s.desk.held }
    output := { s.output with wait := s.output.wait.map fun w => { w with openBegun := false } } } := by
  subst h
  exact congrArg (fun w : Writer => ({ s with
    writer := w
    desk := { s.desk with held := itemAnswers s.writer.items ++ s.desk.held }
    output := { s.output with wait := s.output.wait.map fun x => { x with openBegun := false } } } : State))
    (dropOldest_eq_shed (Nat.le_add_right _ _))

theorem or_and_self_right (x c : Word) : (x ||| c) &&& c = c := by
  ext i
  simp +contextual

/-- A copy's order joins the deferred list at its tail, unless it stands there (R174). -/
theorem State.deferSwitch_desk (s : State) : s.deferSwitch = { s with desk := { s.desk with
    deferred := s.deferSwitch.desk.deferred } } := by
  unfold State.deferSwitch State.defer
  (repeat' split) <;> rfl

theorem State.deferSwitch_deferred_of_no_read {s : State} (h : s.plan.read = none ∨ s.taking = []) :
    s.deferSwitch.desk.deferred = s.desk.deferred := by
  unfold State.deferSwitch
  obtain h | h := h <;> simp [h]

theorem State.deferSwitch_deferred_of_read {s : State} {c : CellRead} {r : List CellRead} (hread : s.plan.read ≠ none)
    (h : s.taking = c :: r) : s.deferSwitch.desk.deferred = s.desk.deferred ++
      (if ∃ x, x ∈ s.desk.deferred ∧ x.1 = c.cell then [] else [(c.cell, c.seq)]) := by
  obtain ⟨x, hx⟩ := Option.ne_none_iff_exists'.mp hread
  simp only [State.deferSwitch, State.defer, hx, h, List.any_eq_true, beq_iff_eq]
  split <;> simp_all

/-- A fault's registers and the port given up, before the part's state is looked at (R182). -/
def State.faulted (addr : Nat) (k : FaultKind) (s : State) : State :=
  { s with
    regs := { s.regs with flt := fltWord addr k, att := s.regs.att ||| 32#32 }
    port := ⟨none, [], false, false, Timer.off, false⟩ }

section
variable (addr : Nat) (k : FaultKind) {s : State}

/-- What follows by the part's state (R182). -/
theorem State.memoryFault_cases : s.memoryFault addr k =
    if s.regs.part = .running ∨ s.regs.part = .windingDown then (s.faulted addr k).stall
    else if s.regs.part = .starting then (s.faulted addr k).dropWrites.failStart .memoryFault
    else if s.regs.part = .stalled then { (s.faulted addr k).holdBack with
      regs := { (s.faulted addr k).regs with rewriting := none } }
    else (s.faulted addr k).dropWrites := by
  have hpart : (s.faulted addr k).regs.part = s.regs.part := rfl
  rw [← hpart]
  unfold State.memoryFault
  change (match (s.faulted addr k).regs.part with
    | .running | .windingDown => (s.faulted addr k).stall
    | .starting => (s.faulted addr k).dropWrites.failStart .memoryFault
    | .stalled => { (s.faulted addr k).holdBack with regs.rewriting := none }
    | .halted => (s.faulted addr k).dropWrites) = _
  cases (s.faulted addr k).regs.part <;> rfl

end

/-- The part stalls with its desk's scan dropped and its writes held back (R182 to R184). -/
theorem State.stall_eq (s : State) : s.stall = { s with
    regs := { s.regs with part := .stalled, resume := some s.regs.part }
    writer := s.holdBack.writer
    output := s.holdBack.output
    plan := { s.plan with read := none }
    desk := { s.desk with
      scan := none, scanTimer := ⟨false, 0⟩, lookAgain := false
      held := s.holdBack.desk.held, deferred := s.deferSwitch.desk.deferred } } := by
  unfold State.stall State.dropScan
  rw [State.deferSwitch_desk]
  rfl

/-- Settles O17: the fault in each part state. -/
theorem memoryFaultByPartState : Obligations.MemoryFaultByPartState := by
  unfold Obligations.MemoryFaultByPartState
  intro s t
  refine ⟨fun ht hretried => ?_, fun ht => ?_, fun hnone => ?_, fun k => ?_⟩
  · simp [exec, execBeatError, ht, hretried]
  · simp only [exec, execGrantTimeout, ht]
  · simp only [exec, execGrantTimeout, hnone]
  · intro u items entries answers pages dumps all gone writer held output
    have hbit : (s.regs.att ||| 32#32) &&& 32#32 = 32#32 := or_and_self_right _ _
    have hflt : fltWord t.beatAddr k = w32 (t.beatAddr / 4 * 4 + (if k = .grantTimeout then 1 else 2)) := by
      cases k <;> rfl
    have hitems : s.writer.items = items := Writer.items_eq s.writer
    have hholds : (s.faulted t.beatAddr k).holdBack = { s.faulted t.beatAddr k with
        writer := writer, desk := { s.desk with held := held }, output := output } :=
      State.holdBack_eq (s := s.faulted t.beatAddr k) hitems
    have hu : u = _ := State.memoryFault_cases t.beatAddr k
    cases hpart : s.regs.part with
    | running | windingDown =>
      have hu : u = (s.faulted t.beatAddr k).stall := by simpa [hpart] using hu
      rw [hu, State.stall_eq, hholds]
      refine ⟨rfl, rfl, fun _ => rfl, hflt, hbit, rfl, rfl, rfl, rfl, rfl, rfl, rfl,
        fun _ => ⟨by rw [← hpart]; rfl, rfl, rfl, rfl, rfl, ?_, ?_⟩, nofun, nofun, nofun⟩
      · exact State.deferSwitch_deferred_of_no_read (s := s.faulted t.beatAddr k)
      · exact fun c r => State.deferSwitch_deferred_of_read (s := s.faulted t.beatAddr k)
    | starting =>
      have hu : u = (s.faulted t.beatAddr k).dropWrites.failStart .memoryFault := by simpa [hpart] using hu
      rw [hu]
      exact ⟨rfl, rfl, fun h => absurd rfl h, hflt, or_and_self_right _ _, rfl, rfl, rfl, rfl, rfl, rfl, rfl, nofun,
        fun _ => ⟨rfl, rfl, rfl, rfl, rfl⟩, nofun, nofun⟩
    | halted =>
      have hu : u = (s.faulted t.beatAddr k).dropWrites := by simpa [hpart] using hu
      rw [hu]
      exact ⟨rfl, rfl, fun _ => rfl, hflt, hbit, rfl, rfl, rfl, rfl, rfl, rfl, rfl, nofun, nofun,
        fun _ => ⟨hpart, rfl, rfl, rfl, rfl, rfl, rfl⟩, nofun⟩
    | stalled =>
      have hu : u = { (s.faulted t.beatAddr k).holdBack with
        regs := { (s.faulted t.beatAddr k).regs with rewriting := none } } := by simpa [hpart] using hu
      rw [hu, hholds]
      exact ⟨rfl, rfl, fun _ => rfl, hflt, hbit, rfl, rfl, rfl, rfl, rfl, rfl, rfl, nofun, nofun, nofun,
        fun _ => ⟨rfl, rfl, rfl, rfl, rfl⟩⟩

end Sys2Proof.Machine
end

section
/-! PROOFS. Loops over numbered records, and the registers: ATT_WRITE, the attention line, REGISTER_WRITE (R163, R167).
-/

namespace Sys2Proof.Machine

/-! ### Loops over records, each pass of which writes the record of its own number -/

section
variable {β : Type} {rec : Nat → State → β} {g : Nat → State → State} {Q : State → Prop}

/-- What every pass keeps, the loop keeps. -/
theorem State.each_keeps_prop {α : Type} {g : α → State → State} (hkeeps : ∀ x t, Q t → Q (g x t)) (l : List α)
    {s : State} (hs : Q s) : Q (s.each l g) := by
  induction l generalizing s with
  | nil => exact hs
  | cons x r ih => exact ih (hkeeps x s hs)

/-- A record whose number does not come up stands. -/
theorem State.each_record_other (hkeeps : ∀ n t, Q t → Q (g n t))
    (hother : ∀ n m t, Q t → m ≠ n → rec m (g n t) = rec m t) {l : List Nat} {m : Nat} (hm : m ∉ l) {s : State}
    (hs : Q s) : rec m (s.each l g) = rec m s := by
  induction l generalizing s with
  | nil => rfl
  | cons n r ih =>
    obtain ⟨hne, hr⟩ := not_or.mp (mt List.mem_cons.mpr hm)
    exact (ih hr (hkeeps n s hs)).trans (hother n m s hs hne)

/-- A record whose number comes up once is written in its own pass, from what it was before the loop. -/
theorem State.each_record {F : Nat → β → β} (hkeeps : ∀ n t, Q t → Q (g n t))
    (hother : ∀ n m t, Q t → m ≠ n → rec m (g n t) = rec m t) (hsame : ∀ n t, Q t → rec n (g n t) = F n (rec n t))
    {l : List Nat} (hl : l.Nodup) {s : State} (hs : Q s) (m : Nat) :
    rec m (s.each l g) = if m ∈ l then F m (rec m s) else rec m s := by
  induction l generalizing s with
  | nil => rfl
  | cons n r ih =>
    obtain ⟨hn, hr⟩ := List.nodup_cons.mp hl
    have hrest : rec m (s.each (n :: r) g) = _ := ih hr (hkeeps n s hs)
    rw [hrest]
    by_cases hm : m = n
    · subst hm
      rw [if_neg hn, if_pos List.mem_cons_self]
      exact hsame m s hs
    · rw [hother n m s hs hm]
      simp [hm]

end

/-! ### Frames -/

theorem mem_allFrames {f : Nat} : f ∈ allFrames ↔ 1 ≤ f ∧ f ≤ 8 := by
  simp only [allFrames, List.mem_cons, List.not_mem_nil, or_false]
  omega

theorem mem_oneTo {n m : Nat} : m ∈ oneTo n ↔ 1 ≤ m ∧ m ≤ n := by
  simp only [oneTo, List.mem_map, List.mem_range]
  exact ⟨by rintro ⟨k, hk, rfl⟩; omega, fun h => ⟨m - 1, by omega, by omega⟩⟩

theorem nodup_oneTo (n : Nat) : (oneTo n).Nodup :=
  List.nodup_range.map fun _ _ h => Nat.add_right_cancel h

/-- Items in the write queue after a write of a frame (R104). -/
theorem State.mem_setFrame {f : Nat} {x : Frame} {s : State} {j : WriteItem} :
    j ∈ (s.setFrame f x).writer.queue ↔
      j ∈ s.writer.queue ∨ x.shown ≠ (s.frame f).shown ∧ j = .frame f := by
  simp [State.setFrame, State.mem_markIf]

/-! ### ATT_WRITE (R167) -/

/-- A frame's attention bits after a write to ATT. -/
def Frame.clearBits (value : Word) (x : Frame) : Frame :=
  { x with
    alarm := x.alarm && (value &&& Cause.alarm.bit == 0#32)
    unit := x.unit && (value &&& Cause.unit.bit == 0#32) }

/-- The number of a cause's bit (11.5). -/
def Cause.index : Cause → Nat
  | .order => 0
  | .journal => 1
  | .tally => 2
  | .alarm => 3
  | .unit => 4
  | .fault => 5

theorem Cause.bit_eq_twoPow (c : Cause) : c.bit = BitVec.twoPow 32 c.index := by
  cases c <;> decide

theorem Cause.and_bit_eq_zero (x : Word) (c : Cause) : x &&& c.bit = 0#32 ↔ x.getLsbD c.index = false := by
  rw [c.bit_eq_twoPow, BitVec.and_twoPow]
  cases x.getLsbD c.index
  · simp
  · cases c <;> decide

theorem Cause.and_bit_beq (x : Word) (c : Cause) : (x &&& c.bit == 0#32) = !x.getLsbD c.index := by
  have h := c.and_bit_eq_zero x
  cases hx : x.getLsbD c.index <;> simp_all

theorem State.clearFrameBits_eq (value : Word) (s : State) :
    s.clearFrameBits value = s.each allFrames fun f t => t.setFrame f ((t.frame f).clearBits value) := rfl

/-- The frames after a write to ATT: the bits of ALARM and UNIT fall where a 1 is written (R167). -/
theorem State.clearFrameBits_frame {s : State} (hs : s.formed = true) (value : Word) (f : Nat) :
    (s.clearFrameBits value).frame f = if f ∈ allFrames then (s.frame f).clearBits value else s.frame f := by
  refine State.each_record (rec := fun f t => State.frame t f) (Q := fun t => t.formed = true)
    (F := fun _ x => x.clearBits value) (fun n t ht => ?_) (fun n m t _ hm => ?_) (fun n t ht => ?_) (by decide) hs f
  · simp [ht]
  · exact State.setFrame_other n m _ t hm
  · exact State.setFrame_formed_same n _ t ht

/-- A frame's bits show in its mirror (R104). -/
theorem Frame.clearBits_shown_ne {value : Word} {x : Frame} :
    (x.clearBits value).shown ≠ x.shown ↔ x.clearBits value ≠ x := by
  refine not_congr ⟨fun h => ?_, fun h => by rw [h]⟩
  have halarm : (x.clearBits value).alarm = x.alarm := (congrArg Frame.alarm h :)
  have hunit : (x.clearBits value).unit = x.unit := (congrArg Frame.unit h :)
  unfold Frame.clearBits at halarm hunit ⊢
  dsimp only at halarm hunit
  rw [halarm, hunit]

/-- The mirrors of the frames so changed join the write queue (R167, R170). -/
theorem State.frame_mem_clearFrameBits {s : State} (hs : s.formed = true) (value : Word) (f : Nat) :
    .frame f ∈ (s.clearFrameBits value).writer.queue ↔ .frame f ∈ s.writer.queue ∨
      (s.clearFrameBits value).frame f ≠ s.frame f := by
  have hloop := State.each_record (rec := fun f t => (State.frame t f, WriteItem.frame f ∈ t.writer.queue))
    (g := fun n t => t.setFrame n ((t.frame n).clearBits value)) (Q := fun t => t.formed = true)
    (F := fun _ r => (r.1.clearBits value, r.2 ∨ r.1.clearBits value ≠ r.1)) (fun n t ht => by simp [ht])
    (fun n m t _ hm => by simp [State.setFrame_other n m _ t hm, State.mem_setFrame, hm])
    (fun n t ht => by simp [State.setFrame_formed_same n _ t ht, State.mem_setFrame, Frame.clearBits_shown_ne])
    (l := allFrames) (by decide) hs f
  rw [← State.clearFrameBits_eq] at hloop
  split at hloop
  · obtain ⟨hf, hmem⟩ := Prod.mk.inj hloop
    rw [hf, hmem]
  · obtain ⟨hf, hmem⟩ := Prod.mk.inj hloop
    rw [hf, hmem]
    simp

/-- No other item joins it. -/
theorem State.mem_clearFrameBits_of_ne {s : State} {value : Word} {i : WriteItem} (hi : ∀ f, i ≠ .frame f) :
    i ∈ (s.clearFrameBits value).writer.queue ↔ i ∈ s.writer.queue := by
  rw [State.clearFrameBits_eq]
  exact Iff.of_eq (State.each_keeps (fun t => i ∈ t.writer.queue) _ _ (fun f t => by simp [State.mem_setFrame, hi f]) s)

/-- What a write of a frame keeps, a write to ATT keeps of the frames. -/
theorem State.clearFrameBits_keeps {β : Type} (P : State → β) (h : ∀ f x t, P (State.setFrame f x t) = P t)
    (value : Word) (s : State) : P (s.clearFrameBits value) = P s := by
  rw [State.clearFrameBits_eq]
  exact State.each_keeps P _ _ (fun _ _ => h _ _ _) s

/-- The attention line by the causes (R167): a bit in common is a cause's, as ATT has no other. -/
theorem State.attentionLine_iff {s : State} (hatt : s.regs.att &&& ~~~attMask = 0#32) : s.attentionLine = true ↔
    ∃ c : Cause, s.regs.att &&& c.bit ≠ 0#32 ∧ s.regs.atm &&& c.bit ≠ 0#32 := by
  simp only [State.attentionLine, bne_iff_ne, ne_eq, Cause.and_bit_eq_zero, Bool.not_eq_false]
  constructor
  · intro hne
    by_contra hnone
    refine hne (BitVec.eq_of_getLsbD_eq fun i hi => ?_)
    have hclear : s.regs.att.getLsbD i = true → i < 6 := by
      intro hbit
      have hand := congrArg (fun x => BitVec.getLsbD x i) hatt
      simp only [BitVec.getLsbD_and, BitVec.getLsbD_not, hbit, hi, decide_true, Bool.true_and,
        BitVec.getLsbD_zero, Bool.not_eq_false'] at hand
      by_contra hhigh
      have hmask : attMask.getLsbD i = false := by
        rw [attMask, BitVec.getLsbD_ofNat]
        simp only [hi, decide_true, Bool.true_and]
        exact Nat.testBit_lt_two_pow (Nat.lt_of_lt_of_le (by decide : 63 < 2 ^ 6) (Nat.pow_le_pow_right (by decide) (by omega)))
      simp [hmask] at hand
    have hcause : i < 6 → ∃ c : Cause, c.index = i := by
      intro h
      obtain rfl | rfl | rfl | rfl | rfl | rfl : i = 0 ∨ i = 1 ∨ i = 2 ∨ i = 3 ∨ i = 4 ∨ i = 5 := by omega
      exacts [⟨.order, rfl⟩, ⟨.journal, rfl⟩, ⟨.tally, rfl⟩, ⟨.alarm, rfl⟩, ⟨.unit, rfl⟩, ⟨.fault, rfl⟩]
    rw [BitVec.getLsbD_and, BitVec.getLsbD_zero, Bool.and_eq_false_iff]
    cases hbit : s.regs.att.getLsbD i with
    | false => exact .inl rfl
    | true =>
      obtain ⟨c, rfl⟩ := hcause (hclear hbit)
      exact .inr (Bool.not_eq_true _ |>.mp fun h => hnone ⟨c, hbit, h⟩)
  · rintro ⟨c, hatt, hatm⟩ hzero
    have hand := congrArg (fun x => BitVec.getLsbD x c.index) hzero
    simp [hatt, hatm] at hand

/-- ATT with the causes of a write cleared (R167). -/
def State.attCleared (value : Word) (s : State) : State :=
  { s with regs := { s.regs with att := s.regs.att &&& ~~~value } }

/-- Settles O14: the frames by the loop over them, the attention line by its bits. -/
theorem registersAreWritten : Obligations.RegistersAreWritten := by
  unfold Obligations.RegistersAreWritten
  refine ⟨⟨fun s value hs => ?_, fun s => State.attentionLine_iff⟩,
    fun s value => ⟨fun h => if_pos h, fun h => if_neg h,
    rfl, rfl, rfl⟩⟩
  intro u
  have hformed : (s.attCleared value).formed = true := hs
  have hu : u = (s.attCleared value).clearFrameBits value := rfl
  refine ⟨rfl, ?_⟩
  rw [hu]
  have hkeeps {β : Type} (P : State → β) (h : ∀ f x t, P (State.setFrame f x t) = P t) :
      P ((s.attCleared value).clearFrameBits value) = P (s.attCleared value) :=
    State.clearFrameBits_keeps P h value (s.attCleared value)
  have hmem (f : Nat) : .frame f ∈ ((s.attCleared value).clearFrameBits value).writer.queue ↔ .frame f ∈ s.writer.queue ∨
      ((s.attCleared value).clearFrameBits value).frame f ≠ s.frame f :=
    State.frame_mem_clearFrameBits hformed value f
  refine ⟨hkeeps State.regs (by simp), fun f hlo hhi => ?_,
    fun f _ _ hne => (hmem f).mpr (.inr hne), fun i hi => ?_, fun i hi => ?_, fun hstart hstall => ?_,
    hkeeps State.watch (by simp), hkeeps State.rogue (by simp),
    hkeeps State.disp (by simp), hkeeps State.roving (by simp),
    hkeeps State.output (by simp), hkeeps State.plan (by simp),
    hkeeps State.desk (by simp), hkeeps State.port (by simp),
    hkeeps State.link (by simp)⟩
  · rw [State.clearFrameBits_frame hformed value f, if_pos (mem_allFrames.mpr ⟨hlo, hhi⟩), Frame.clearBits,
      Cause.and_bit_beq, Cause.and_bit_beq]
    rfl
  · by_cases h : ∃ f, i = .frame f
    · obtain ⟨f, rfl⟩ := h
      exact (hmem f).mpr (.inl hi)
    · exact (State.mem_clearFrameBits_of_ne (s := s.attCleared value) fun f hf => h ⟨f, hf⟩).mpr hi
  · by_cases h : ∃ f, i = .frame f
    · obtain ⟨f, rfl⟩ := h
      exact ((hmem f).mp hi).imp_right fun hne => ⟨f, rfl, hne⟩
    · exact .inl ((State.mem_clearFrameBits_of_ne (s := s.attCleared value) fun f hf => h ⟨f, hf⟩).mp hi)
  · have hpart : ((s.attCleared value).clearFrameBits value).regs.part = s.regs.part :=
      hkeeps (fun t => t.regs.part) (by simp)
    unfold State.served
    rw [hpart]
    cases h : s.regs.part <;> simp_all

end Sys2Proof.Machine
end

section
/-! PROOFS. The board scan (R172, R173): its beginning, its steps, and the order of taking. -/

namespace Sys2Proof.Machine

/-! ### Beginning and ending a scan -/

/-- Settles O11: LOOK and BOARD_SCAN by part state and scan. -/
theorem scansBegin : Obligations.ScansBegin := by
  unfold Obligations.ScansBegin
  intro s scans begun
  refine ⟨fun hscans hnone => ?_, fun hscans hsome => ?_, fun hno => ?_, fun hscans hnone hexpired => ?_, fun hno => ?_⟩
  · have hlook : exec .look s = .next s.lookNow := by obtain h | h := hscans <;> simp only [exec, execLook, h]
    rw [hlook, State.lookNow, hnone]
    rfl
  · have hlook : exec .look s = .next s.lookNow := by obtain h | h := hscans <;> simp only [exec, execLook, h]
    rw [hlook, State.lookNow, if_pos (Option.isSome_iff_ne_none.mpr hsome)]
  · obtain ⟨hrunning, hwinding⟩ := not_or.mp hno
    cases h : s.regs.part
    case running => exact absurd h hrunning
    case windingDown => exact absurd h hwinding
    all_goals simp only [exec, execLook, h]
  · exact if_pos ⟨hexpired, hnone, hscans⟩
  · exact if_neg fun h => hno ⟨h.2.2, h.2.1, h.1⟩

/-! ### Words read from cells -/

/-- A stage word names POSTED just when it is 1 (11.2.2). -/
theorem cellStage_posted {w : Word} : cellStage w = some .posted ↔ w = 1#32 := by
  constructor
  · intro h
    refine BitVec.eq_of_toNat_eq ?_
    unfold cellStage at h
    split at h <;> cases h
    assumption
  · rintro rfl
    rfl

/-- A kind code names an order just when it lies from 1 to 13 (11.2.2). -/
theorem orderKind_isSome {w : Word} : (orderKind w).isSome = true ↔ 1 ≤ w.toNat ∧ w.toNat ≤ 13 := by
  unfold orderKind
  split <;> simp_all <;> omega

/-! ### The order of taking (R173) -/

/-- A cell inserted among new ones joins them, and nothing else. -/
theorem State.mem_insertBySeq {s : State} {c d : CellRead} {l : List CellRead} :
    d ∈ s.insertBySeq c l ↔ d = c ∨ d ∈ l := by
  induction l with
  | nil => simp [State.insertBySeq]
  | cons e r ih =>
    unfold State.insertBySeq
    split
    · rw [List.mem_cons, ih, List.mem_cons]
      tauto
    · simp

/-- New cells in rising distance, ties to the lower cell (R173). -/
def State.before (s : State) (a b : CellRead) : Prop :=
  s.seqDistance a < s.seqDistance b ∨ (s.seqDistance a = s.seqDistance b ∧ a.cell < b.cell)

theorem State.pairwise_insertBySeq {s : State} {c : CellRead} {l : List CellRead} (hl : l.Pairwise s.before)
    (hc : ∀ d ∈ l, d.cell < c.cell) : (s.insertBySeq c l).Pairwise s.before := by
  induction l with
  | nil => simp [State.insertBySeq]
  | cons e r ih =>
    obtain ⟨he, hr⟩ := List.pairwise_cons.mp hl
    have hce : e.cell < c.cell := hc e List.mem_cons_self
    unfold State.insertBySeq
    split
    · next hle =>
      refine List.pairwise_cons.mpr ⟨fun d hd => ?_, ih hr fun d hd => hc d (List.mem_cons_of_mem _ hd)⟩
      obtain rfl | hd := State.mem_insertBySeq.mp hd
      · exact (Nat.lt_or_eq_of_le hle).imp_right fun h => ⟨h, hce⟩
      · exact he d hd
    · next hlt =>
      have hlt : s.seqDistance c < s.seqDistance e := Nat.lt_of_not_le hlt
      refine List.pairwise_cons.mpr ⟨fun d hd => .inl ?_, hl⟩
      obtain rfl | hd := List.mem_cons.mp hd
      · exact hlt
      · exact Nat.lt_of_lt_of_le hlt ((he d hd).elim Nat.le_of_lt fun h => Nat.le_of_eq h.1)

/-- Cells read in rising number come out in the order of taking (R173). -/
theorem State.sortBySeq_spec (s : State) {l : List CellRead} (hl : l.Pairwise fun a b => a.cell < b.cell) :
    (∀ c, c ∈ s.sortBySeq l ↔ c ∈ l) ∧ (s.sortBySeq l).Pairwise s.before := by
  have hfold : ∀ (l a : List CellRead), l.Pairwise (fun a b => a.cell < b.cell) → a.Pairwise s.before →
      (∀ d ∈ a, ∀ c ∈ l, d.cell < c.cell) →
      (∀ c, c ∈ l.foldl (fun a c => s.insertBySeq c a) a ↔ c ∈ a ∨ c ∈ l) ∧
        (l.foldl (fun a c => s.insertBySeq c a) a).Pairwise s.before := by
    intro l
    induction l with
    | nil => exact fun a _ ha _ => ⟨by simp, ha⟩
    | cons e r ih =>
      intro a hl ha hlow
      obtain ⟨he, hr⟩ := List.pairwise_cons.mp hl
      have hlow' : ∀ d ∈ s.insertBySeq e a, ∀ c ∈ r, d.cell < c.cell := by
        intro d hd c hc
        obtain rfl | hd := State.mem_insertBySeq.mp hd
        · exact he c hc
        · exact hlow d hd c (List.mem_cons_of_mem _ hc)
      obtain ⟨hmem, hpair⟩ := ih _ hr
        (State.pairwise_insertBySeq ha fun d hd => hlow d hd e List.mem_cons_self) hlow'
      refine ⟨fun c => ?_, hpair⟩
      rw [List.foldl_cons, hmem, State.mem_insertBySeq, List.mem_cons]
      tauto
  obtain ⟨hmem, hpair⟩ := hfold l [] hl List.Pairwise.nil (by simp)
  exact ⟨fun c => (hmem c).trans (by simp), hpair⟩

/-- The cell read of a deferred one, found by its number: numbers are read once. -/
theorem find_deferred_eq_some {l : List CellRead} (hl : (l.map CellRead.cell).Pairwise (· < ·)) {n : Nat}
    {c : CellRead} :
    (l.find? fun c => c.cell == n && c.deferred) = some c ↔ c ∈ l ∧ c.cell = n ∧ c.deferred = true := by
  constructor
  · intro h
    have hp := List.find?_some h
    simp only [Bool.and_eq_true, beq_iff_eq] at hp
    exact ⟨List.mem_of_find?_eq_some h, hp⟩
  · rintro ⟨hc, hn, hd⟩
    induction l with
    | nil => cases hc
    | cons e r ih =>
      obtain ⟨he, hr⟩ := List.pairwise_cons.mp (List.map_cons ▸ hl)
      obtain rfl | hc := List.mem_cons.mp hc
      · simp [hn, hd]
      · have hne : e.cell ≠ n := fun h => Nat.lt_irrefl n (by
          have := he c.cell (List.mem_map_of_mem hc)
          omega)
        simp [hne, ih hr hc]

/-- The deferred cells come in the order in which they were deferred. -/
theorem map_filterMap_sublist {l : List (Nat × Word)} {find : Nat × Word → Option CellRead}
    (hfind : ∀ e c, find e = some c → c.cell = e.1) :
    ((l.filterMap find).map CellRead.cell).Sublist (l.map Prod.fst) := by
  induction l with
  | nil => exact List.Sublist.refl _
  | cons e r ih =>
    cases h : find e with
    | none =>
      rw [List.filterMap_cons_none h, List.map_cons]
      exact ih.cons _
    | some c =>
      rw [List.filterMap_cons_some h, List.map_cons, List.map_cons, hfind e c h]
      exact ih.cons₂ _

/-- The order of taking (R173): the deferred cells as they were deferred, then the new ones in rising distance. -/
theorem State.takingOrder_spec (s : State) {got : List CellRead}
    (hgot : (got.map CellRead.cell).Pairwise fun a b => a < b) :
    let l := s.takingOrder got
    let old := l.filter fun c => c.deferred
    let new := l.filter fun c => !c.deferred
    l = old ++ new ∧ (∀ c, c ∈ l ↔ c ∈ got ∧ (c.deferred = true → c.cell ∈ s.desk.deferred.map Prod.fst)) ∧
      (old.map CellRead.cell).Sublist (s.desk.deferred.map Prod.fst) ∧ new.Pairwise s.before := by
  have hnewGot : (got.filter fun c => !c.deferred).Pairwise fun a b => a.cell < b.cell :=
    (List.pairwise_map.mp hgot).sublist List.filter_sublist
  obtain ⟨hnewMem, hnewPair⟩ := s.sortBySeq_spec hnewGot
  have hold (c : CellRead) : c ∈ (s.desk.deferred.filterMap fun e => got.find? fun c => c.cell == e.1 && c.deferred) ↔
      (c ∈ got ∧ c.deferred = true) ∧ c.cell ∈ s.desk.deferred.map Prod.fst := by
    simp only [List.mem_filterMap, find_deferred_eq_some hgot, List.mem_map]
    exact ⟨fun ⟨e, he, hc, hcell, hd⟩ => ⟨⟨hc, hd⟩, e, he, hcell.symm⟩,
      fun ⟨⟨hc, hd⟩, e, he, hcell⟩ => ⟨e, he, hc, hcell.symm, hd⟩⟩
  have hnew (c : CellRead) : c ∈ s.sortBySeq (got.filter fun c => !c.deferred) ↔ c ∈ got ∧ c.deferred = false := by
    simp [hnewMem]
  intro l old new
  have hfilterOld : old = s.desk.deferred.filterMap fun e => got.find? fun c => c.cell == e.1 && c.deferred := by
    change List.filter _ (_ ++ _) = _
    rw [List.filter_append, List.filter_eq_self.mpr fun c hc => ((hold c).mp hc).1.2,
      List.filter_eq_nil_iff.mpr fun c hc => by simp [((hnew c).mp hc).2], List.append_nil]
  have hfilterNew : new = s.sortBySeq (got.filter fun c => !c.deferred) := by
    change List.filter _ (_ ++ _) = _
    rw [List.filter_append, List.filter_eq_nil_iff.mpr fun c hc => by simp [((hold c).mp hc).1.2],
      List.filter_eq_self.mpr fun c hc => by simp [((hnew c).mp hc).2], List.nil_append]
  refine ⟨?_, fun c => ?_, ?_, ?_⟩
  · rw [hfilterOld, hfilterNew]
    rfl
  · change c ∈ _ ++ _ ↔ _
    rw [List.mem_append, hold, hnew]
    cases c.deferred <;> simp
  · rw [hfilterOld]
    exact map_filterMap_sublist fun e c h => ((find_deferred_eq_some hgot).mp h).2.1
  · rw [hfilterNew]
    exact hnewPair

/-! ### Cells of unknown kind (R174) -/

theorem State.taking_of_scan {s : State} {l : List CellRead} (h : s.desk.scan = some (.taking l)) : s.taking = l := by
  unfold State.taking
  rw [h]

/-- A cell of unknown kind is answered: stale, or out of range (R173, R174). -/
def State.skipCell (c : CellRead) (r : List CellRead) (s : State) : State :=
  let s := { s with desk := { s.desk with scan := some (.taking r) } }
  match s.freshCell c with
  | none => s.finish c.cell (some .staleSeq) []
  | some t => (t.undefer c.cell).finish c.cell (some .outOfRange) []

section
variable {s : State} {c : CellRead} {r : List CellRead}

/-- A stale cell is neither deferred nor later than last_taken (R173). -/
theorem State.freshCell_of_stale (h : ¬(c.deferred = true ∨ later c.seq s.desk.lastTaken = true)) :
    s.freshCell c = none := by
  obtain ⟨hd, hl⟩ := not_or.mp h
  simp [State.freshCell, hd, hl]

theorem State.skipCell_of_stale (h : ¬(c.deferred = true ∨ later c.seq s.desk.lastTaken = true)) :
    s.skipCell c r = State.finish c.cell (some .staleSeq) [] { s with desk := { s.desk with scan := some (.taking r) } } := by
  unfold State.skipCell
  dsimp only
  rw [State.freshCell_of_stale (by exact h)]

theorem State.skipCell_of_fresh (h : c.deferred = true ∨ later c.seq s.desk.lastTaken = true) :
    s.skipCell c r = State.finish c.cell (some .outOfRange) []
      (State.heard c { s with desk := { s.desk with scan := some (.taking r) } }) := by
  unfold State.skipCell State.heard
  dsimp only
  rw [State.freshCell_of_later (by exact h)]

/-- Hearing of a cell leaves the scan. -/
theorem State.heard_desk_scan : (s.heard c).desk.scan = s.desk.scan := by
  unfold State.heard State.undefer
  cases c.deferred <;> simp

theorem State.heard_desk_lastTaken :
    (s.heard c).desk.lastTaken = if c.deferred then s.desk.lastTaken else c.seq := by
  unfold State.heard State.undefer
  cases c.deferred <;> simp

theorem State.ne_of_mem_heard_deferred {e : Nat × Word} (h : e ∈ (s.heard c).desk.deferred) : e.1 ≠ c.cell := by
  unfold State.heard State.undefer at h
  simpa using (List.mem_filter.mp h).2

theorem State.skipCell_scan : (s.skipCell c r).desk.scan = some (.taking r) := by
  by_cases h : c.deferred = true ∨ later c.seq s.desk.lastTaken = true
  · rw [State.skipCell_of_fresh h, State.finish_desk_scan, State.heard_desk_scan]
  · rw [State.skipCell_of_stale h, State.finish_desk_scan]

theorem skipUnknown_of_unknown (n : Nat) (h : s.taking = c :: r) (hkind : orderKind c.kind = none) :
    skipUnknown (n + 1) s = skipUnknown n (s.skipCell c r) := by
  simp only [skipUnknown, h, hkind]
  rfl

theorem skipUnknown_of_known (n : Nat) (h : s.taking = c :: r) (hkind : (orderKind c.kind).isSome = true) :
    skipUnknown n s = s := by
  cases n with
  | zero => rfl
  | succ n =>
    obtain ⟨k, hk⟩ := Option.isSome_iff_exists.mp hkind
    simp only [skipUnknown, h, hk]

theorem skipUnknown_of_nil (n : Nat) (h : s.taking = []) : skipUnknown n s = s := by
  cases n with
  | zero => rfl
  | succ n => simp only [skipUnknown, h]

end

/-- No more repetitions than cells are made. -/
theorem skipUnknown_succ {n : Nat} {s : State} (h : s.taking.length ≤ n) : skipUnknown (n + 1) s = skipUnknown n s := by
  induction n generalizing s with
  | zero => rw [skipUnknown_of_nil _ (List.length_eq_zero_iff.mp (Nat.le_zero.mp h)), skipUnknown]
  | succ n ih =>
    cases ht : s.taking with
    | nil => rw [skipUnknown_of_nil _ ht, skipUnknown_of_nil _ ht]
    | cons c r =>
      cases hk : orderKind c.kind with
      | some k => rw [skipUnknown_of_known _ ht (by simp [hk]), skipUnknown_of_known _ ht (by simp [hk])]
      | none =>
        rw [skipUnknown_of_unknown _ ht hk, skipUnknown_of_unknown _ ht hk]
        refine ih ?_
        rw [State.taking_of_scan State.skipCell_scan]
        rw [ht] at h
        exact Nat.le_of_succ_le_succ h

/-! ### The steps of a scan (R172) -/

section
variable {s : State} {t : Transfer} (hstart : s.regs.start = none)
include hstart

/-- A read of the Order Desk that ends during a scan (R172, R181). -/
theorem State.transferEnded_scan (hblock : t.block = .orderDesk) :
    s.transferEnded t = State.scanRead t.words { s with port := s.port.finish } := by
  simp only [State.transferEnded, hblock, State.deskRead, hstart]

/-- A read of a page's stage that ends during a scan (R137, R181). -/
theorem State.transferEnded_page (hblock : t.block = .outputCounter) :
    s.transferEnded t = State.scanPage (t.words.headD 0#32) { s with port := s.port.finish } := by
  simp only [State.transferEnded, hblock, State.pageRead, hstart]
  rfl

end

/-- Settles O12: each step of the scan by definition, the order of taking by the insertion of the new cells. -/
theorem scansReadTheBoard : Obligations.ScansReadTheBoard := by
  unfold Obligations.ScansReadTheBoard
  intro reads cellAt ended taking whole stages pages forgets empties
  have hended (v : State) : v.endScan = ended v := rfl
  have hwhole (v : State) (left : List Nat) (again : Bool) (got : List CellRead) :
      v.goCells left again got = whole v left again got := by
    cases left <;> rfl
  have hstages (v : State) (left posted : List Nat) : v.goStages left posted = stages v left posted := by
    cases left with
    | nil => exact hwhole v posted false []
    | cons c r => rfl
  have hpages (v : State) (left : List Nat) : v.goPages left = pages v left := by
    cases left with
    | nil =>
      change v.afterPages = _
      unfold State.afterPages
      rw [hstages]
      rfl
    | cons p r => rfl
  have hempties (v : State) (c : Nat) : v.unpost c = empties v c := rfl
  refine ⟨fun s t hstart => ⟨fun hblock hscan => ?_, fun p left hblock hscan => ?_,
      fun c left posted hblock hscan => ⟨fun hno => ?_, fun hrun hword => ?_, fun hrun hword => ?_⟩,
      fun c left again words got hblock hscan => ?_⟩,
    fun s got hnodup hgot => ?_, fun s hscan => ?_, fun s c r hscan => ⟨?_, fun hknown => ?_, fun hno hroom => ?_⟩⟩
  · rw [State.transferEnded_scan hstart hblock]
    simp only [State.scanRead, hscan]
    exact hpages _ _
  · rw [State.transferEnded_page hstart hblock]
    simp only [State.scanPage, hscan]
    exact hpages _ _
  · rw [State.transferEnded_scan hstart hblock]
    simp only [State.scanRead, hscan, hno, if_false]
    rfl
  · rw [State.transferEnded_scan hstart hblock]
    simp only [State.scanRead, hscan, hrun, if_true, State.stageRead, cellStage_posted, hword]
    exact hstages _ _ _
  · rw [State.transferEnded_scan hstart hblock]
    simp only [State.scanRead, hscan, hrun, if_true, State.stageRead, cellStage_posted, hword, if_false]
    exact hstages _ _ _
  · intro all word known
    refine ⟨fun hno => ?_, fun hrun => ?_⟩
    · rw [State.transferEnded_scan hstart hblock]
      simp only [State.scanRead, hscan, hno, if_false]
      rfl
    have hread : s.transferEnded t = State.cellWords c left again all got { s with port := s.port.finish } := by
      rw [State.transferEnded_scan hstart hblock]
      simp only [State.scanRead, hscan, hrun, if_true]
      rfl
    have hlong (h : 16 ≤ all.length) :
        s.transferEnded t = State.cellRead c left again all got { s with port := s.port.finish } := by
      rw [hread, State.cellWords, if_neg (by omega), if_neg (by omega)]
    refine ⟨fun h => ?_, fun h => ?_, fun h hdiffer hfirst => ?_, fun h hdiffer hagain => ?_, fun h hsame hother => ?_,
      fun h hsame hposted => ?_⟩
    · rw [hread, State.cellWords, if_pos h]
      rfl
    · rw [hread, State.cellWords, if_neg (by omega), if_pos (by omega)]
      rfl
    · rw [hlong h, State.cellRead, if_neg hdiffer, hfirst, if_neg Bool.false_ne_true]
      exact hwhole _ _ _ _
    · rw [hlong h, State.cellRead, if_neg hdiffer, hagain, if_pos rfl]
      exact hwhole _ _ _ _
    · rw [hlong h, State.cellRead, if_pos hsame, if_neg (mt cellStage_posted.mp hother)]
      exact hwhole _ _ _ _
    · rw [hlong h, State.cellRead, if_pos hsame, if_pos (cellStage_posted.mpr hposted)]
      exact hwhole _ _ _ _
  · exact s.takingOrder_spec hgot
  · unfold State.goOnTaking
    rw [skipUnknown_of_nil _ (State.taking_of_scan hscan)]
    simp only [hscan]
    rfl
  · unfold State.dropTaken
    rw [State.taking_of_scan hscan]
    rfl
  · unfold State.goOnTaking
    rw [skipUnknown_of_known _ (State.taking_of_scan hscan) (orderKind_isSome.mpr hknown)]
    simp only [hscan]
  · have hkind : orderKind c.kind = none := Option.not_isSome_iff_eq_none.mp (mt orderKind_isSome.mp hno)
    refine ⟨s.skipCell c r, ?_, State.skipCell_scan, fun hstale => ?_, fun hfresh => ?_⟩
    · unfold State.goOnTaking
      have hlength : (s.skipCell c r).taking.length ≤ 31 := by
        rw [State.taking_of_scan State.skipCell_scan]
        omega
      rw [skipUnknown_of_unknown _ (State.taking_of_scan hscan) hkind, skipUnknown_succ hlength]
    · rw [State.skipCell_of_stale hstale]
      exact ⟨State.finish_answered .., State.finish_desk_lastTaken ..⟩
    · rw [State.skipCell_of_fresh hfresh]
      refine ⟨State.finish_answered .., ?_, fun e he => ?_⟩
      · rw [State.finish_desk_lastTaken, State.heard_desk_lastTaken]
      · rw [State.finish_desk_deferred] at he
        exact State.ne_of_mem_heard_deferred he

/-! ### RESUME (R184) -/

theorem State.markReached_of_rewrite {s : State} (hstart : s.regs.start = none) (h : s.regs.rewriting = some .rewrite) :
    s.markReached = s.shiftTest.resumeCells := by
  simp only [State.markReached, hstart, h]

theorem State.markReached_of_cells {s : State} (hstart : s.regs.start = none) (h : s.regs.rewriting = some .cells) :
    s.markReached = if s.desk.held.isEmpty then s.resumeJournal else s.resumeCells := by
  simp only [State.markReached, hstart, h]

theorem State.markReached_of_journal {s : State} (hstart : s.regs.start = none) (h : s.regs.rewriting = some .journal) :
    s.markReached = s.resumeReturn := by
  simp only [State.markReached, hstart, h]

/-- A mark at the head of a served queue moves the part on. -/
theorem serveN_mark {s : State} {r : List WriteItem} (n : Nat) (hserved : s.served = true)
    (hcurrent : s.writer.current = none) (hqueue : s.writer.queue = .mark :: r) : serveN (n + 1) s =
      serveN n (State.markReached { s with writer := { s.writer with queue := r } }).settle.windTest := by
  simp [serveN, hserved, hcurrent, hqueue]

/-- Settles O13: RESUME's beginning and the mark of each of its batches. -/
theorem resumeRewritesTheArea : Obligations.ResumeRewritesTheArea := by
  unfold Obligations.ResumeRewritesTheArea
  intro s
  refine ⟨fun hpart hnone => if_pos ⟨hpart, hnone⟩, fun hno => if_neg hno, fun hpart hsome hcurrent r hqueue n => ?_,
    fun hstart => ?_⟩
  · have hserved : s.served = true := by
      unfold State.served
      rw [hpart]
      exact Option.isSome_iff_ne_none.mpr hsome
    exact serveN_mark n hserved hcurrent hqueue
  · intro held cells flushed back
    refine ⟨fun h => ⟨State.markReached_of_rewrite hstart h, fun hwait => ?_⟩, fun h hheld => ?_, fun h hheld => ?_,
      fun h hending => ?_, fun h hending => ?_⟩
    · rw [State.markReached_of_rewrite hstart h, State.shiftTest_waits s fun w hw => by simp [hwait] at hw]
      rfl
    · rw [State.markReached_of_cells hstart h, if_neg (by simpa using hheld)]
      rfl
    · rw [State.markReached_of_cells hstart h, if_pos (by simpa using hheld)]
      rfl
    · rw [State.markReached_of_journal hstart h]
      exact if_neg (Option.not_isSome_iff_eq_none.mpr hending)
    · rw [State.markReached_of_journal hstart h]
      exact if_pos (Option.isSome_iff_ne_none.mpr hending)

end Sys2Proof.Machine
end

section
/-! PROOFS. Records read after an update of another record, and after a hand-over to another block: they stand. -/

namespace Sys2Proof.Machine

/-! ### The acknowledgement of a report (R188, R189) -/

@[simp] theorem State.replyTaken_watch (v : Visit) (r : Reply) (s : State) : (s.replyTaken v r).watch = s.watch := by
  simp [State.replyTaken, State.replyCounted, State.closeVisit]
@[simp] theorem State.replyTaken_frames (v : Visit) (r : Reply) (s : State) : (s.replyTaken v r).frames = s.frames := by
  simp [State.replyTaken, State.replyCounted, State.closeVisit]
@[simp] theorem State.replyTaken_roving (v : Visit) (r : Reply) (s : State) : (s.replyTaken v r).roving = s.roving := by
  simp [State.replyTaken, State.replyCounted, State.closeVisit]
@[simp] theorem State.replyTaken_output (v : Visit) (r : Reply) (s : State) : (s.replyTaken v r).output = s.output := by
  simp [State.replyTaken, State.replyCounted, State.closeVisit]
@[simp] theorem State.replyTaken_plan (v : Visit) (r : Reply) (s : State) : (s.replyTaken v r).plan = s.plan := by
  simp [State.replyTaken, State.replyCounted, State.closeVisit]
@[simp] theorem State.replyTaken_regs (v : Visit) (r : Reply) (s : State) : (s.replyTaken v r).regs = s.regs := by
  simp [State.replyTaken, State.replyCounted, State.closeVisit]
@[simp] theorem State.replyTaken_clock (v : Visit) (r : Reply) (s : State) : (s.replyTaken v r).clock = s.clock := by
  simp [State.replyTaken, State.replyCounted, State.closeVisit]

/-! ### Spindles -/

theorem State.spindle_of_table {s t : State} (h : t.watch.spindles = s.watch.spindles) (g m : Nat) :
    t.spindle g m = s.spindle g m := by
  unfold State.spindle; rw [h]

@[simp] theorem State.oweArbiter_spindle (s : State) (g m : Nat) :
    (State.oweArbiter s).spindle g m = s.spindle g m := State.spindle_of_table (by simp) g m
@[simp] theorem State.oweRelist_spindle (d : Nat) (s : State) (g m : Nat) :
    (State.oweRelist d s).spindle g m = s.spindle g m := State.spindle_of_table (by simp) g m
@[simp] theorem State.setStrip_spindle (c : Nat) (x : Strip) (s : State) (g m : Nat) :
    (State.setStrip c x s).spindle g m = s.spindle g m := State.spindle_of_table (by simp) g m
@[simp] theorem State.setSweep_spindle (f : Nat) (x : Sweep) (s : State) (g m : Nat) :
    (State.setSweep f x s).spindle g m = s.spindle g m := State.spindle_of_table (by simp) g m
@[simp] theorem State.setSide_spindle (d : Nat) (x : Side) (s : State) (g m : Nat) :
    (State.setSide d x s).spindle g m = s.spindle g m := State.spindle_of_table (by simp) g m
@[simp] theorem State.setPiecer_spindle (p : Nat) (x : Piecer) (s : State) (g m : Nat) :
    (State.setPiecer p x s).spindle g m = s.spindle g m := State.spindle_of_table (by simp) g m
@[simp] theorem State.setFrame_spindle (f : Nat) (x : Frame) (s : State) (g m : Nat) :
    (State.setFrame f x s).spindle g m = s.spindle g m := State.spindle_of_table (by simp) g m
@[simp] theorem State.setCreel_spindle (c : Nat) (x : Creel) (s : State) (g m : Nat) :
    (State.setCreel c x s).spindle g m = s.spindle g m := State.spindle_of_table (by simp) g m
@[simp] theorem State.setFeed_spindle (f : Nat) (x : Feed) (s : State) (g m : Nat) :
    (State.setFeed f x s).spindle g m = s.spindle g m := State.spindle_of_table (by simp) g m
@[simp] theorem State.setRoller_spindle (f : Nat) (x : Roller) (s : State) (g m : Nat) :
    (State.setRoller f x s).spindle g m = s.spindle g m := State.spindle_of_table (by simp) g m
@[simp] theorem State.hand_spindle (a : Nat) (c : Cmd) (s : State) (g m : Nat) :
    (State.hand a c s).spindle g m = s.spindle g m := State.spindle_of_table (by simp) g m
@[simp] theorem State.journal_spindle (k : JournalKind) (a b : Nat) (l : List Word) (s : State) (g m : Nat) :
    (State.journal k a b l s).spindle g m = s.spindle g m := State.spindle_of_table (by simp) g m
@[simp] theorem State.count_spindle (f : Nat) (h : Counts → Counts) (s : State) (g m : Nat) :
    (State.count f h s).spindle g m = s.spindle g m := State.spindle_of_table (by simp) g m
@[simp] theorem State.finish_spindle (c : Nat) (r : Option Reason) (l : List Word) (s : State) (g m : Nat) :
    (State.finish c r l s).spindle g m = s.spindle g m := State.spindle_of_table (by simp) g m
@[simp] theorem State.finishBook_spindle (p : BookEntry → Bool) (r : Option Reason) (l : List Word) (s : State)
    (g m : Nat) :
    (State.finishBook p r l s).spindle g m = s.spindle g m := State.spindle_of_table (by simp) g m
@[simp] theorem State.alarm_spindle (f : Nat) (s : State) (g m : Nat) :
    (State.alarm f s).spindle g m = s.spindle g m := State.spindle_of_table (by simp) g m
@[simp] theorem State.replyTaken_spindle (v : Visit) (r : Reply) (s : State) (g m : Nat) :
    (State.replyTaken v r s).spindle g m = s.spindle g m := State.spindle_of_table (by simp) g m

/-! ### Strips -/

theorem State.strip_of_table {s t : State} (h : t.watch.strips = s.watch.strips) (e : Nat) : t.strip e = s.strip e := by
  unfold State.strip; rw [h]

@[simp] theorem State.oweRelist_strip (d : Nat) (s : State) (e : Nat) :
    (State.oweRelist d s).strip e = s.strip e := State.strip_of_table (by simp) e
@[simp] theorem State.setSpindle_strip (f n : Nat) (x : Spindle) (s : State) (e : Nat) :
    (State.setSpindle f n x s).strip e = s.strip e := State.strip_of_table (by simp) e
@[simp] theorem State.setSide_strip (d : Nat) (x : Side) (s : State) (e : Nat) :
    (State.setSide d x s).strip e = s.strip e := State.strip_of_table (by simp) e
@[simp] theorem State.setPiecer_strip (p : Nat) (x : Piecer) (s : State) (e : Nat) :
    (State.setPiecer p x s).strip e = s.strip e := State.strip_of_table (by simp) e
@[simp] theorem State.setCreel_strip (c : Nat) (x : Creel) (s : State) (e : Nat) :
    (State.setCreel c x s).strip e = s.strip e := State.strip_of_table (by simp) e
@[simp] theorem State.setCarrier_strip (c : Nat) (x : Carrier) (s : State) (e : Nat) :
    (State.setCarrier c x s).strip e = s.strip e := State.strip_of_table (by simp) e
@[simp] theorem State.hand_strip (a : Nat) (c : Cmd) (s : State) (e : Nat) :
    (State.hand a c s).strip e = s.strip e := State.strip_of_table (by simp) e
@[simp] theorem State.journal_strip (k : JournalKind) (a b : Nat) (l : List Word) (s : State) (e : Nat) :
    (State.journal k a b l s).strip e = s.strip e := State.strip_of_table (by simp) e
@[simp] theorem State.count_strip (f : Nat) (h : Counts → Counts) (s : State) (e : Nat) :
    (State.count f h s).strip e = s.strip e := State.strip_of_table (by simp) e
@[simp] theorem State.finishBook_strip (p : BookEntry → Bool) (r : Option Reason) (l : List Word) (s : State)
    (e : Nat) :
    (State.finishBook p r l s).strip e = s.strip e := State.strip_of_table (by simp) e
@[simp] theorem State.alarm_strip (f : Nat) (s : State) (e : Nat) :
    (State.alarm f s).strip e = s.strip e := State.strip_of_table (by simp) e

/-! ### Sweeps -/

theorem State.sweep_of_table {s t : State} (h : t.watch.sweeps = s.watch.sweeps) (e : Nat) : t.sweep e = s.sweep e := by
  unfold State.sweep; rw [h]

@[simp] theorem State.oweArbiter_sweep (s : State) (e : Nat) :
    (State.oweArbiter s).sweep e = s.sweep e := State.sweep_of_table (by simp) e
@[simp] theorem State.setSpindle_sweep (f n : Nat) (x : Spindle) (s : State) (e : Nat) :
    (State.setSpindle f n x s).sweep e = s.sweep e := State.sweep_of_table (by simp) e
@[simp] theorem State.setStrip_sweep (c : Nat) (x : Strip) (s : State) (e : Nat) :
    (State.setStrip c x s).sweep e = s.sweep e := State.sweep_of_table (by simp) e
@[simp] theorem State.setSide_sweep (d : Nat) (x : Side) (s : State) (e : Nat) :
    (State.setSide d x s).sweep e = s.sweep e := State.sweep_of_table (by simp) e
@[simp] theorem State.setPiecer_sweep (p : Nat) (x : Piecer) (s : State) (e : Nat) :
    (State.setPiecer p x s).sweep e = s.sweep e := State.sweep_of_table (by simp) e
@[simp] theorem State.setFrame_sweep (f : Nat) (x : Frame) (s : State) (e : Nat) :
    (State.setFrame f x s).sweep e = s.sweep e := State.sweep_of_table (by simp) e
@[simp] theorem State.setCreel_sweep (c : Nat) (x : Creel) (s : State) (e : Nat) :
    (State.setCreel c x s).sweep e = s.sweep e := State.sweep_of_table (by simp) e
@[simp] theorem State.setFeed_sweep (f : Nat) (x : Feed) (s : State) (e : Nat) :
    (State.setFeed f x s).sweep e = s.sweep e := State.sweep_of_table (by simp) e
@[simp] theorem State.setRoller_sweep (f : Nat) (x : Roller) (s : State) (e : Nat) :
    (State.setRoller f x s).sweep e = s.sweep e := State.sweep_of_table (by simp) e
@[simp] theorem State.count_sweep (f : Nat) (h : Counts → Counts) (s : State) (e : Nat) :
    (State.count f h s).sweep e = s.sweep e := State.sweep_of_table (by simp) e
@[simp] theorem State.finishBook_sweep (p : BookEntry → Bool) (r : Option Reason) (l : List Word) (s : State)
    (e : Nat) :
    (State.finishBook p r l s).sweep e = s.sweep e := State.sweep_of_table (by simp) e

/-! ### Sides -/

theorem State.side_of_table {s t : State} (h : t.disp.sides = s.disp.sides) (e : Nat) : t.side e = s.side e := by
  unfold State.side; rw [h]

@[simp] theorem State.oweArbiter_side (s : State) (e : Nat) :
    (State.oweArbiter s).side e = s.side e := State.side_of_table (by simp) e
@[simp] theorem State.oweRelist_side (d : Nat) (s : State) (e : Nat) :
    (State.oweRelist d s).side e = s.side e := State.side_of_table (by simp) e
@[simp] theorem State.setSpindle_side (f n : Nat) (x : Spindle) (s : State) (e : Nat) :
    (State.setSpindle f n x s).side e = s.side e := State.side_of_table (by simp) e
@[simp] theorem State.setStrip_side (c : Nat) (x : Strip) (s : State) (e : Nat) :
    (State.setStrip c x s).side e = s.side e := State.side_of_table (by simp) e
@[simp] theorem State.setSweep_side (f : Nat) (x : Sweep) (s : State) (e : Nat) :
    (State.setSweep f x s).side e = s.side e := State.side_of_table (by simp) e
@[simp] theorem State.setPiecer_side (p : Nat) (x : Piecer) (s : State) (e : Nat) :
    (State.setPiecer p x s).side e = s.side e := State.side_of_table (by simp) e
@[simp] theorem State.setFrame_side (f : Nat) (x : Frame) (s : State) (e : Nat) :
    (State.setFrame f x s).side e = s.side e := State.side_of_table (by simp) e
@[simp] theorem State.setCreel_side (c : Nat) (x : Creel) (s : State) (e : Nat) :
    (State.setCreel c x s).side e = s.side e := State.side_of_table (by simp) e
@[simp] theorem State.setFeed_side (f : Nat) (x : Feed) (s : State) (e : Nat) :
    (State.setFeed f x s).side e = s.side e := State.side_of_table (by simp) e
@[simp] theorem State.setRoller_side (f : Nat) (x : Roller) (s : State) (e : Nat) :
    (State.setRoller f x s).side e = s.side e := State.side_of_table (by simp) e
@[simp] theorem State.hand_side (a : Nat) (c : Cmd) (s : State) (e : Nat) :
    (State.hand a c s).side e = s.side e := State.side_of_table (by simp) e
@[simp] theorem State.emptyQueue_side (a : Nat) (s : State) (e : Nat) :
    (State.emptyQueue a s).side e = s.side e := State.side_of_table (by simp) e
@[simp] theorem State.journal_side (k : JournalKind) (a b : Nat) (l : List Word) (s : State) (e : Nat) :
    (State.journal k a b l s).side e = s.side e := State.side_of_table (by simp) e
@[simp] theorem State.journalLost_side (a : Nat) (w : Word) (s : State) (e : Nat) :
    (State.journalLost a w s).side e = s.side e := State.side_of_table (by simp) e
@[simp] theorem State.count_side (f : Nat) (h : Counts → Counts) (s : State) (e : Nat) :
    (State.count f h s).side e = s.side e := State.side_of_table (by simp) e
@[simp] theorem State.finish_side (c : Nat) (r : Option Reason) (l : List Word) (s : State) (e : Nat) :
    (State.finish c r l s).side e = s.side e := State.side_of_table (by simp) e
@[simp] theorem State.finishBook_side (p : BookEntry → Bool) (r : Option Reason) (l : List Word) (s : State) (e : Nat) :
    (State.finishBook p r l s).side e = s.side e := State.side_of_table (by simp) e
@[simp] theorem State.alarm_side (f : Nat) (s : State) (e : Nat) :
    (State.alarm f s).side e = s.side e := State.side_of_table (by simp) e
@[simp] theorem State.unitAlarm_side (f : Nat) (s : State) (e : Nat) :
    (State.unitAlarm f s).side e = s.side e := State.side_of_table (by simp) e
@[simp] theorem State.replyTaken_side (v : Visit) (r : Reply) (s : State) (e : Nat) :
    (State.replyTaken v r s).side e = s.side e := State.side_of_table (by simp) e

/-! ### Piecers -/

theorem State.piecer_of_table {s t : State} (h : t.disp.piecers = s.disp.piecers) (e : Nat) :
    t.piecer e = s.piecer e := by
  unfold State.piecer; rw [h]

@[simp] theorem State.raise_piecer (c : Cause) (s : State) (e : Nat) :
    (State.raise c s).piecer e = s.piecer e := State.piecer_of_table (by simp) e
@[simp] theorem State.oweArbiter_piecer (s : State) (e : Nat) :
    (State.oweArbiter s).piecer e = s.piecer e := State.piecer_of_table (by simp) e
@[simp] theorem State.setSpindle_piecer (f n : Nat) (x : Spindle) (s : State) (e : Nat) :
    (State.setSpindle f n x s).piecer e = s.piecer e := State.piecer_of_table (by simp) e
@[simp] theorem State.setStrip_piecer (c : Nat) (x : Strip) (s : State) (e : Nat) :
    (State.setStrip c x s).piecer e = s.piecer e := State.piecer_of_table (by simp) e
@[simp] theorem State.setSweep_piecer (f : Nat) (x : Sweep) (s : State) (e : Nat) :
    (State.setSweep f x s).piecer e = s.piecer e := State.piecer_of_table (by simp) e
@[simp] theorem State.setSide_piecer (d : Nat) (x : Side) (s : State) (e : Nat) :
    (State.setSide d x s).piecer e = s.piecer e := State.piecer_of_table (by simp) e
@[simp] theorem State.setFrame_piecer (f : Nat) (x : Frame) (s : State) (e : Nat) :
    (State.setFrame f x s).piecer e = s.piecer e := State.piecer_of_table (by simp) e
@[simp] theorem State.setCreel_piecer (c : Nat) (x : Creel) (s : State) (e : Nat) :
    (State.setCreel c x s).piecer e = s.piecer e := State.piecer_of_table (by simp) e
@[simp] theorem State.setCarrier_piecer (c : Nat) (x : Carrier) (s : State) (e : Nat) :
    (State.setCarrier c x s).piecer e = s.piecer e := State.piecer_of_table (by simp) e
@[simp] theorem State.setFeed_piecer (f : Nat) (x : Feed) (s : State) (e : Nat) :
    (State.setFeed f x s).piecer e = s.piecer e := State.piecer_of_table (by simp) e
@[simp] theorem State.setRoller_piecer (f : Nat) (x : Roller) (s : State) (e : Nat) :
    (State.setRoller f x s).piecer e = s.piecer e := State.piecer_of_table (by simp) e
@[simp] theorem State.setUnit_piecer (a : Nat) (x : Unit) (s : State) (e : Nat) :
    (State.setUnit a x s).piecer e = s.piecer e := State.piecer_of_table (by simp) e
@[simp] theorem State.hand_piecer (a : Nat) (c : Cmd) (s : State) (e : Nat) :
    (State.hand a c s).piecer e = s.piecer e := State.piecer_of_table (by simp) e
@[simp] theorem State.emptyQueue_piecer (a : Nat) (s : State) (e : Nat) :
    (State.emptyQueue a s).piecer e = s.piecer e := State.piecer_of_table (by simp) e
@[simp] theorem State.journal_piecer (k : JournalKind) (a b : Nat) (l : List Word) (s : State) (e : Nat) :
    (State.journal k a b l s).piecer e = s.piecer e := State.piecer_of_table (by simp) e
@[simp] theorem State.journalLost_piecer (a : Nat) (w : Word) (s : State) (e : Nat) :
    (State.journalLost a w s).piecer e = s.piecer e := State.piecer_of_table (by simp) e
@[simp] theorem State.count_piecer (f : Nat) (h : Counts → Counts) (s : State) (e : Nat) :
    (State.count f h s).piecer e = s.piecer e := State.piecer_of_table (by simp) e
@[simp] theorem State.finish_piecer (c : Nat) (r : Option Reason) (l : List Word) (s : State) (e : Nat) :
    (State.finish c r l s).piecer e = s.piecer e := State.piecer_of_table (by simp) e
@[simp] theorem State.finishBook_piecer (p : BookEntry → Bool) (r : Option Reason) (l : List Word) (s : State)
    (e : Nat) :
    (State.finishBook p r l s).piecer e = s.piecer e := State.piecer_of_table (by simp) e
@[simp] theorem State.alarm_piecer (f : Nat) (s : State) (e : Nat) :
    (State.alarm f s).piecer e = s.piecer e := State.piecer_of_table (by simp) e
@[simp] theorem State.unitAlarm_piecer (f : Nat) (s : State) (e : Nat) :
    (State.unitAlarm f s).piecer e = s.piecer e := State.piecer_of_table (by simp) e

/-! ### Frames -/

theorem State.frame_of_table {s t : State} (h : t.frames = s.frames) (e : Nat) : t.frame e = s.frame e := by
  unfold State.frame; rw [h]

@[simp] theorem State.oweArbiter_frame (s : State) (e : Nat) :
    (State.oweArbiter s).frame e = s.frame e := State.frame_of_table (by simp) e
@[simp] theorem State.setSpindle_frame (f n : Nat) (x : Spindle) (s : State) (e : Nat) :
    (State.setSpindle f n x s).frame e = s.frame e := State.frame_of_table (by simp) e
@[simp] theorem State.setStrip_frame (c : Nat) (x : Strip) (s : State) (e : Nat) :
    (State.setStrip c x s).frame e = s.frame e := State.frame_of_table (by simp) e
@[simp] theorem State.setSweep_frame (f : Nat) (x : Sweep) (s : State) (e : Nat) :
    (State.setSweep f x s).frame e = s.frame e := State.frame_of_table (by simp) e
@[simp] theorem State.setSide_frame (d : Nat) (x : Side) (s : State) (e : Nat) :
    (State.setSide d x s).frame e = s.frame e := State.frame_of_table (by simp) e
@[simp] theorem State.setPiecer_frame (p : Nat) (x : Piecer) (s : State) (e : Nat) :
    (State.setPiecer p x s).frame e = s.frame e := State.frame_of_table (by simp) e
@[simp] theorem State.setCreel_frame (c : Nat) (x : Creel) (s : State) (e : Nat) :
    (State.setCreel c x s).frame e = s.frame e := State.frame_of_table (by simp) e
@[simp] theorem State.setCarrier_frame (c : Nat) (x : Carrier) (s : State) (e : Nat) :
    (State.setCarrier c x s).frame e = s.frame e := State.frame_of_table (by simp) e
@[simp] theorem State.setFeed_frame (f : Nat) (x : Feed) (s : State) (e : Nat) :
    (State.setFeed f x s).frame e = s.frame e := State.frame_of_table (by simp) e
@[simp] theorem State.setRoller_frame (f : Nat) (x : Roller) (s : State) (e : Nat) :
    (State.setRoller f x s).frame e = s.frame e := State.frame_of_table (by simp) e
@[simp] theorem State.setUnit_frame (a : Nat) (x : Unit) (s : State) (e : Nat) :
    (State.setUnit a x s).frame e = s.frame e := State.frame_of_table (by simp) e
@[simp] theorem State.hand_frame (a : Nat) (c : Cmd) (s : State) (e : Nat) :
    (State.hand a c s).frame e = s.frame e := State.frame_of_table (by simp) e
@[simp] theorem State.emptyQueue_frame (a : Nat) (s : State) (e : Nat) :
    (State.emptyQueue a s).frame e = s.frame e := State.frame_of_table (by simp) e
@[simp] theorem State.withdrawDrive_frame (a : Nat) (s : State) (e : Nat) :
    (State.withdrawDrive a s).frame e = s.frame e := State.frame_of_table (by simp) e
@[simp] theorem State.journal_frame (k : JournalKind) (a b : Nat) (l : List Word) (s : State) (e : Nat) :
    (State.journal k a b l s).frame e = s.frame e := State.frame_of_table (by simp) e
@[simp] theorem State.journalLost_frame (a : Nat) (w : Word) (s : State) (e : Nat) :
    (State.journalLost a w s).frame e = s.frame e := State.frame_of_table (by simp) e
@[simp] theorem State.count_frame (f : Nat) (h : Counts → Counts) (s : State) (e : Nat) :
    (State.count f h s).frame e = s.frame e := State.frame_of_table (by simp) e
@[simp] theorem State.finish_frame (c : Nat) (r : Option Reason) (l : List Word) (s : State) (e : Nat) :
    (State.finish c r l s).frame e = s.frame e := State.frame_of_table (by simp) e
@[simp] theorem State.finishBook_frame (p : BookEntry → Bool) (r : Option Reason) (l : List Word) (s : State)
    (e : Nat) :
    (State.finishBook p r l s).frame e = s.frame e := State.frame_of_table (by simp) e
@[simp] theorem State.replyTaken_frame (v : Visit) (r : Reply) (s : State) (e : Nat) :
    (State.replyTaken v r s).frame e = s.frame e := State.frame_of_table (by simp) e

/-! ### Creels -/

theorem State.creel_of_table {s t : State} (h : t.roving.creels = s.roving.creels) (e : Nat) :
    t.creel e = s.creel e := by
  unfold State.creel; rw [h]

@[simp] theorem State.oweRefill_creel (s : State) (e : Nat) :
    (State.oweRefill s).creel e = s.creel e := State.creel_of_table (by simp) e
@[simp] theorem State.setSpindle_creel (f n : Nat) (x : Spindle) (s : State) (e : Nat) :
    (State.setSpindle f n x s).creel e = s.creel e := State.creel_of_table (by simp) e
@[simp] theorem State.setStrip_creel (c : Nat) (x : Strip) (s : State) (e : Nat) :
    (State.setStrip c x s).creel e = s.creel e := State.creel_of_table (by simp) e
@[simp] theorem State.setPiecer_creel (p : Nat) (x : Piecer) (s : State) (e : Nat) :
    (State.setPiecer p x s).creel e = s.creel e := State.creel_of_table (by simp) e
@[simp] theorem State.setCarrier_creel (c : Nat) (x : Carrier) (s : State) (e : Nat) :
    (State.setCarrier c x s).creel e = s.creel e := State.creel_of_table (by simp) e
@[simp] theorem State.setFeed_creel (f : Nat) (x : Feed) (s : State) (e : Nat) :
    (State.setFeed f x s).creel e = s.creel e := State.creel_of_table (by simp) e
@[simp] theorem State.setRoller_creel (f : Nat) (x : Roller) (s : State) (e : Nat) :
    (State.setRoller f x s).creel e = s.creel e := State.creel_of_table (by simp) e
@[simp] theorem State.hand_creel (a : Nat) (c : Cmd) (s : State) (e : Nat) :
    (State.hand a c s).creel e = s.creel e := State.creel_of_table (by simp) e
@[simp] theorem State.journal_creel (k : JournalKind) (a b : Nat) (l : List Word) (s : State) (e : Nat) :
    (State.journal k a b l s).creel e = s.creel e := State.creel_of_table (by simp) e
@[simp] theorem State.count_creel (f : Nat) (h : Counts → Counts) (s : State) (e : Nat) :
    (State.count f h s).creel e = s.creel e := State.creel_of_table (by simp) e
@[simp] theorem State.finish_creel (c : Nat) (r : Option Reason) (l : List Word) (s : State) (e : Nat) :
    (State.finish c r l s).creel e = s.creel e := State.creel_of_table (by simp) e
@[simp] theorem State.finishBook_creel (p : BookEntry → Bool) (r : Option Reason) (l : List Word) (s : State)
    (e : Nat) :
    (State.finishBook p r l s).creel e = s.creel e := State.creel_of_table (by simp) e
@[simp] theorem State.alarm_creel (f : Nat) (s : State) (e : Nat) :
    (State.alarm f s).creel e = s.creel e := State.creel_of_table (by simp) e
@[simp] theorem State.replyTaken_creel (v : Visit) (r : Reply) (s : State) (e : Nat) :
    (State.replyTaken v r s).creel e = s.creel e := State.creel_of_table (by simp) e

/-! ### Carriers -/

theorem State.carrier_of_table {s t : State} (h : t.roving.carriers = s.roving.carriers) (e : Nat) :
    t.carrier e = s.carrier e := by
  unfold State.carrier; rw [h]

@[simp] theorem State.raise_carrier (c : Cause) (s : State) (e : Nat) :
    (State.raise c s).carrier e = s.carrier e := State.carrier_of_table (by simp) e
@[simp] theorem State.setSpindle_carrier (f n : Nat) (x : Spindle) (s : State) (e : Nat) :
    (State.setSpindle f n x s).carrier e = s.carrier e := State.carrier_of_table (by simp) e
@[simp] theorem State.setSide_carrier (d : Nat) (x : Side) (s : State) (e : Nat) :
    (State.setSide d x s).carrier e = s.carrier e := State.carrier_of_table (by simp) e
@[simp] theorem State.setPiecer_carrier (p : Nat) (x : Piecer) (s : State) (e : Nat) :
    (State.setPiecer p x s).carrier e = s.carrier e := State.carrier_of_table (by simp) e
@[simp] theorem State.setFrame_carrier (f : Nat) (x : Frame) (s : State) (e : Nat) :
    (State.setFrame f x s).carrier e = s.carrier e := State.carrier_of_table (by simp) e
@[simp] theorem State.setCreel_carrier (c : Nat) (x : Creel) (s : State) (e : Nat) :
    (State.setCreel c x s).carrier e = s.carrier e := State.carrier_of_table (by simp) e
@[simp] theorem State.setRoller_carrier (f : Nat) (x : Roller) (s : State) (e : Nat) :
    (State.setRoller f x s).carrier e = s.carrier e := State.carrier_of_table (by simp) e
@[simp] theorem State.setUnit_carrier (a : Nat) (x : Unit) (s : State) (e : Nat) :
    (State.setUnit a x s).carrier e = s.carrier e := State.carrier_of_table (by simp) e
@[simp] theorem State.hand_carrier (a : Nat) (c : Cmd) (s : State) (e : Nat) :
    (State.hand a c s).carrier e = s.carrier e := State.carrier_of_table (by simp) e
@[simp] theorem State.journal_carrier (k : JournalKind) (a b : Nat) (l : List Word) (s : State) (e : Nat) :
    (State.journal k a b l s).carrier e = s.carrier e := State.carrier_of_table (by simp) e
@[simp] theorem State.count_carrier (f : Nat) (h : Counts → Counts) (s : State) (e : Nat) :
    (State.count f h s).carrier e = s.carrier e := State.carrier_of_table (by simp) e
@[simp] theorem State.finishBook_carrier (p : BookEntry → Bool) (r : Option Reason) (l : List Word) (s : State)
    (e : Nat) :
    (State.finishBook p r l s).carrier e = s.carrier e := State.carrier_of_table (by simp) e
@[simp] theorem State.alarm_carrier (f : Nat) (s : State) (e : Nat) :
    (State.alarm f s).carrier e = s.carrier e := State.carrier_of_table (by simp) e
@[simp] theorem State.replyTaken_carrier (v : Visit) (r : Reply) (s : State) (e : Nat) :
    (State.replyTaken v r s).carrier e = s.carrier e := State.carrier_of_table (by simp) e

/-! ### Feeds -/

theorem State.feed_of_table {s t : State} (h : t.roving.feeds = s.roving.feeds) (e : Nat) : t.feed e = s.feed e := by
  unfold State.feed; rw [h]

@[simp] theorem State.oweArbiter_feed (s : State) (e : Nat) :
    (State.oweArbiter s).feed e = s.feed e := State.feed_of_table (by simp) e
@[simp] theorem State.setSpindle_feed (f n : Nat) (x : Spindle) (s : State) (e : Nat) :
    (State.setSpindle f n x s).feed e = s.feed e := State.feed_of_table (by simp) e
@[simp] theorem State.setSweep_feed (f : Nat) (x : Sweep) (s : State) (e : Nat) :
    (State.setSweep f x s).feed e = s.feed e := State.feed_of_table (by simp) e
@[simp] theorem State.setSide_feed (d : Nat) (x : Side) (s : State) (e : Nat) :
    (State.setSide d x s).feed e = s.feed e := State.feed_of_table (by simp) e
@[simp] theorem State.setPiecer_feed (p : Nat) (x : Piecer) (s : State) (e : Nat) :
    (State.setPiecer p x s).feed e = s.feed e := State.feed_of_table (by simp) e
@[simp] theorem State.setFrame_feed (f : Nat) (x : Frame) (s : State) (e : Nat) :
    (State.setFrame f x s).feed e = s.feed e := State.feed_of_table (by simp) e
@[simp] theorem State.setCreel_feed (c : Nat) (x : Creel) (s : State) (e : Nat) :
    (State.setCreel c x s).feed e = s.feed e := State.feed_of_table (by simp) e
@[simp] theorem State.setRoller_feed (f : Nat) (x : Roller) (s : State) (e : Nat) :
    (State.setRoller f x s).feed e = s.feed e := State.feed_of_table (by simp) e
@[simp] theorem State.journal_feed (k : JournalKind) (a b : Nat) (l : List Word) (s : State) (e : Nat) :
    (State.journal k a b l s).feed e = s.feed e := State.feed_of_table (by simp) e
@[simp] theorem State.count_feed (f : Nat) (h : Counts → Counts) (s : State) (e : Nat) :
    (State.count f h s).feed e = s.feed e := State.feed_of_table (by simp) e
@[simp] theorem State.finishBook_feed (p : BookEntry → Bool) (r : Option Reason) (l : List Word) (s : State) (e : Nat) :
    (State.finishBook p r l s).feed e = s.feed e := State.feed_of_table (by simp) e

/-! ### Rollers -/

theorem State.roller_of_table {s t : State} (h : t.output.rollers = s.output.rollers) (e : Nat) :
    t.roller e = s.roller e := by
  unfold State.roller; rw [h]

@[simp] theorem State.oweArbiter_roller (s : State) (e : Nat) :
    (State.oweArbiter s).roller e = s.roller e := State.roller_of_table (by simp) e
@[simp] theorem State.setSpindle_roller (f n : Nat) (x : Spindle) (s : State) (e : Nat) :
    (State.setSpindle f n x s).roller e = s.roller e := State.roller_of_table (by simp) e
@[simp] theorem State.setStrip_roller (c : Nat) (x : Strip) (s : State) (e : Nat) :
    (State.setStrip c x s).roller e = s.roller e := State.roller_of_table (by simp) e
@[simp] theorem State.setSweep_roller (f : Nat) (x : Sweep) (s : State) (e : Nat) :
    (State.setSweep f x s).roller e = s.roller e := State.roller_of_table (by simp) e
@[simp] theorem State.setSide_roller (d : Nat) (x : Side) (s : State) (e : Nat) :
    (State.setSide d x s).roller e = s.roller e := State.roller_of_table (by simp) e
@[simp] theorem State.setPiecer_roller (p : Nat) (x : Piecer) (s : State) (e : Nat) :
    (State.setPiecer p x s).roller e = s.roller e := State.roller_of_table (by simp) e
@[simp] theorem State.setFrame_roller (f : Nat) (x : Frame) (s : State) (e : Nat) :
    (State.setFrame f x s).roller e = s.roller e := State.roller_of_table (by simp) e
@[simp] theorem State.setCreel_roller (c : Nat) (x : Creel) (s : State) (e : Nat) :
    (State.setCreel c x s).roller e = s.roller e := State.roller_of_table (by simp) e
@[simp] theorem State.setCarrier_roller (c : Nat) (x : Carrier) (s : State) (e : Nat) :
    (State.setCarrier c x s).roller e = s.roller e := State.roller_of_table (by simp) e
@[simp] theorem State.setFeed_roller (f : Nat) (x : Feed) (s : State) (e : Nat) :
    (State.setFeed f x s).roller e = s.roller e := State.roller_of_table (by simp) e
@[simp] theorem State.hand_roller (a : Nat) (c : Cmd) (s : State) (e : Nat) :
    (State.hand a c s).roller e = s.roller e := State.roller_of_table (by simp) e
@[simp] theorem State.journal_roller (k : JournalKind) (a b : Nat) (l : List Word) (s : State) (e : Nat) :
    (State.journal k a b l s).roller e = s.roller e := State.roller_of_table (by simp) e
@[simp] theorem State.count_roller (f : Nat) (h : Counts → Counts) (s : State) (e : Nat) :
    (State.count f h s).roller e = s.roller e := State.roller_of_table (by simp) e
@[simp] theorem State.finish_roller (c : Nat) (r : Option Reason) (l : List Word) (s : State) (e : Nat) :
    (State.finish c r l s).roller e = s.roller e := State.roller_of_table (by simp) e
@[simp] theorem State.finishBook_roller (p : BookEntry → Bool) (r : Option Reason) (l : List Word) (s : State)
    (e : Nat) :
    (State.finishBook p r l s).roller e = s.roller e := State.roller_of_table (by simp) e
@[simp] theorem State.replyTaken_roller (v : Visit) (r : Reply) (s : State) (e : Nat) :
    (State.replyTaken v r s).roller e = s.roller e := State.roller_of_table (by simp) e

/-! ### Units -/

theorem State.unit_of_table {s t : State} (h : t.link.units = s.link.units) (e : Nat) : t.unit e = s.unit e := by
  unfold State.unit; rw [h]

@[simp] theorem State.oweArbiter_unit (s : State) (e : Nat) :
    (State.oweArbiter s).unit e = s.unit e := State.unit_of_table (by simp) e
@[simp] theorem State.setSpindle_unit (f n : Nat) (x : Spindle) (s : State) (e : Nat) :
    (State.setSpindle f n x s).unit e = s.unit e := State.unit_of_table (by simp) e
@[simp] theorem State.setStrip_unit (c : Nat) (x : Strip) (s : State) (e : Nat) :
    (State.setStrip c x s).unit e = s.unit e := State.unit_of_table (by simp) e
@[simp] theorem State.setSide_unit (d : Nat) (x : Side) (s : State) (e : Nat) :
    (State.setSide d x s).unit e = s.unit e := State.unit_of_table (by simp) e
@[simp] theorem State.setPiecer_unit (p : Nat) (x : Piecer) (s : State) (e : Nat) :
    (State.setPiecer p x s).unit e = s.unit e := State.unit_of_table (by simp) e
@[simp] theorem State.setFrame_unit (f : Nat) (x : Frame) (s : State) (e : Nat) :
    (State.setFrame f x s).unit e = s.unit e := State.unit_of_table (by simp) e
@[simp] theorem State.setCreel_unit (c : Nat) (x : Creel) (s : State) (e : Nat) :
    (State.setCreel c x s).unit e = s.unit e := State.unit_of_table (by simp) e
@[simp] theorem State.setCarrier_unit (c : Nat) (x : Carrier) (s : State) (e : Nat) :
    (State.setCarrier c x s).unit e = s.unit e := State.unit_of_table (by simp) e
@[simp] theorem State.setRoller_unit (f : Nat) (x : Roller) (s : State) (e : Nat) :
    (State.setRoller f x s).unit e = s.unit e := State.unit_of_table (by simp) e
@[simp] theorem State.journal_unit (k : JournalKind) (a b : Nat) (l : List Word) (s : State) (e : Nat) :
    (State.journal k a b l s).unit e = s.unit e := State.unit_of_table (by simp) e
@[simp] theorem State.journalLost_unit (a : Nat) (w : Word) (s : State) (e : Nat) :
    (State.journalLost a w s).unit e = s.unit e := State.unit_of_table (by simp) e
@[simp] theorem State.count_unit (f : Nat) (h : Counts → Counts) (s : State) (e : Nat) :
    (State.count f h s).unit e = s.unit e := State.unit_of_table (by simp) e
@[simp] theorem State.finish_unit (c : Nat) (r : Option Reason) (l : List Word) (s : State) (e : Nat) :
    (State.finish c r l s).unit e = s.unit e := State.unit_of_table (by simp) e
@[simp] theorem State.finishBook_unit (p : BookEntry → Bool) (r : Option Reason) (l : List Word) (s : State) (e : Nat) :
    (State.finishBook p r l s).unit e = s.unit e := State.unit_of_table (by simp) e
@[simp] theorem State.alarm_unit (f : Nat) (s : State) (e : Nat) :
    (State.alarm f s).unit e = s.unit e := State.unit_of_table (by simp) e

/-! ### ATT's causes (R167) -/

/-- A cause raised stays raised when others are. -/
theorem or_and_of_and_eq {x m : Word} (y : Word) (h : x &&& m = m) : (x ||| y) &&& m = m := by
  ext i hi
  have hbit := congrArg (BitVec.getLsbD · i) h
  simp at hbit
  simp
  grind

theorem State.journal_att (k : JournalKind) (f u : Nat) (l : List Word) (s : State) :
    (s.journal k f u l).regs.att = if k.urgent then s.regs.att ||| 2#32 else s.regs.att := by
  unfold State.journal
  split <;> simp [State.raise, Cause.bit]

theorem State.raise_att (c : Cause) (s : State) : (s.raise c).regs.att = s.regs.att ||| c.bit := rfl

theorem State.alarm_att (f : Nat) (s : State) : (s.alarm f).regs.att = s.regs.att ||| 8#32 := by
  simp [State.alarm, State.raise, Cause.bit]

theorem State.unitAlarm_att (f : Nat) (s : State) : (s.unitAlarm f).regs.att = s.regs.att ||| 16#32 := by
  simp [State.unitAlarm, State.raise, Cause.bit]


/-! ### Unit records: a command handed, a unit lost (R191, R192) -/

@[simp] theorem State.replyTaken_formed (v : Visit) (r : Reply) (s : State) (h : s.formed = true) :
    (s.replyTaken v r).formed = true := by
  have hclosed : (s.closeVisit v.addr).formed = true := State.closeVisit_formed _ _ h
  have hcounted : (s.replyCounted v r).formed = true :=
    State.setUnit_formed _ _ _ hclosed (Unit.replied_room _ _ _ (State.unit_room hclosed _))
  exact State.setUnit_formed _ _ _ hcounted (State.unit_room hcounted _)

@[simp] theorem State.replyTaken_fixed (v : Visit) (r : Reply) (s : State) : (s.replyTaken v r).fixed = s.fixed := by
  simp [State.replyTaken, State.replyCounted]

/-- The record of a unit lost at a time (R192). -/
def Unit.lostAt (clock : Word) (u : Unit) : Unit :=
  { u.emptied with presence := .lost, misses := 0, resync := true, lostStamp := clock }

/-- The record of a unit handed a command at a time (R191). -/
def Unit.handed (c : Cmd) (clock : Word) (u : Unit) : Unit :=
  let q := u.inFlight ++ u.unsent.filter fun o => !c.supersedes o
  if u.presence ≠ .present ∨ c = .status ∧ .status ∈ u.unsent then u
  else if Config.unitQueueRoom ≤ q.length then { u with queue := q }.lostAt clock
  else { u with queue := q ++ [c] }

theorem State.loseUnit_unit_same (a : Nat) (w : Word) (s : State) :
    (s.loseUnit a w).unit a = (s.unit a).lostAt s.clock := by
  have hne : (s.unit a).lostAt s.clock ≠ Unit.reset := fun h => nomatch congrArg Unit.presence h
  rw [← State.setUnit_same a _ s hne]
  exact State.unit_of_table (by simp [State.loseUnit, Unit.lostAt]) a

section
variable {s : State} (hs : s.formed = true) (a : Nat)
include hs

theorem State.emptyQueue_unit_same : (s.emptyQueue a).unit a = (s.unit a).emptied :=
  State.setUnit_formed_same a _ s hs

theorem State.hand_unit_same (c : Cmd) : (s.hand a c).unit a = (s.unit a).handed c s.clock := by
  unfold State.hand Unit.handed
  by_cases hpresent : (s.unit a).presence ≠ .present
  · simp [hpresent]
  by_cases hstatus : c = .status ∧ .status ∈ (s.unit a).unsent
  · simp [hstatus]
  simp only [if_neg hpresent, if_neg hstatus, if_neg (not_or.mpr ⟨hpresent, hstatus⟩)]
  split
  · rw [State.loseUnit_unit_same, State.setUnit_formed_same _ _ _ hs, State.setUnit_clock]
  · exact State.setUnit_formed_same a _ s hs

end

/-- What a unit is handed turns on its record and the clock alone. -/
theorem State.hand_unit_congr {s t : State} {a : Nat} (c : Cmd) (hs : s.formed = true) (ht : t.formed = true)
    (hunit : t.unit a = s.unit a) (hclock : t.clock = s.clock) : (t.hand a c).unit a = (s.hand a c).unit a := by
  rw [State.hand_unit_same hs, State.hand_unit_same ht, hunit, hclock]

section
variable {s : State} {a b : Nat} (h : b ≠ a)
include h

theorem State.loseUnit_unit_other (w : Word) : (s.loseUnit a w).unit b = s.unit b := by
  have hset := State.setUnit_other a b ((s.unit a).lostAt s.clock) s h
  rw [← hset]
  exact State.unit_of_table (by simp [State.loseUnit, Unit.lostAt]) b

theorem State.hand_unit_other (c : Cmd) : (s.hand a c).unit b = s.unit b := by
  unfold State.hand
  dsimp only
  split
  · rfl
  split
  · rfl
  split
  · rw [State.loseUnit_unit_other h, State.setUnit_other _ _ _ _ h]
  · exact State.setUnit_other a b _ s h

end

/-! ### Carriers and frames with their bits -/

theorem State.setCarrier_formed_same (c : Nat) (x : Carrier) (s : State) (hs : s.formed = true) :
    (s.setCarrier c x).carrier c =
      if x.state = (s.carrier c).state then x else { x with shownLeft := x.secondsLeft } := by
  unfold State.carrier
  rw [State.setCarrier_table]
  exact tget_tput_same _ _ (by
    simp only [State.formed, Watch.formed, Dispatcher.formed, Roving.formed, Output.formed, Link.formed,
      Bool.and_eq_true] at hs
    simp [hs])

/-- Up to the time shown, the record is the one written. -/
theorem State.setCarrier_formed_fields (c : Nat) (x : Carrier) (s : State) (hs : s.formed = true) :
    (s.setCarrier c x).carrier c = { x with shownLeft := ((s.setCarrier c x).carrier c).shownLeft } := by
  rw [State.setCarrier_formed_same _ _ _ hs]
  split <;> rfl

theorem State.alarm_frame_same (f : Nat) (s : State) (hs : s.formed = true) :
    (s.alarm f).frame f = { s.frame f with alarm := true } := State.setFrame_formed_same f _ s hs

theorem State.alarm_frame_other (f g : Nat) (s : State) (h : g ≠ f) : (s.alarm f).frame g = s.frame g :=
  State.setFrame_other f g _ s h

theorem State.unitAlarm_frame_same (f : Nat) (s : State) (hs : s.formed = true) :
    (s.unitAlarm f).frame f = { s.frame f with unit := true } := State.setFrame_formed_same f _ s hs

end Sys2Proof.Machine
end

section
/-! PROOFS. Reports of carriers (R114 to R121). -/

namespace Sys2Proof.Machine

theorem unitNumber_of_carrier {a : Nat} (h : unitKind a = .carrier) : unitNumber a = a - 16 := by
  unfold unitKind at h
  unfold unitNumber
  split at h
  · cases h
  · next hdrive =>
    split at h
    · cases h
    · next hpiecer => rw [if_neg hdrive, if_neg hpiecer]

theorem carrierAddr_of_carrier {a : Nat} (h : unitKind a = .carrier) : carrierAddr (a - 16) = a := by
  unfold unitKind at h
  unfold carrierAddr
  split at h
  · cases h
  · split at h
    · cases h
    · omega

section
variable {s : State} {v : Visit} {r : Reply} (h : s.reports v r .carrier)
include h

theorem State.reports_carrierNumber : unitNumber v.addr = v.addr - 16 :=
  let ⟨_, hkind, _⟩ := h
  unitNumber_of_carrier hkind

theorem exec_loaded_of_reports (lot : Token) :
    exec (.loaded r lot) s = .next ((s.replyTaken v r).takeLoaded (v.addr - 16) lot).conclude :=
  State.reports_carrierNumber h ▸ congrArg Host.Outcome.next (State.reportEvent_of_reports h rfl rfl)

theorem exec_arrived_of_reports :
    exec (.arrived r) s = .next ((s.replyTaken v r).takeArrived (v.addr - 16)).conclude :=
  State.reports_carrierNumber h ▸ congrArg Host.Outcome.next (State.reportEvent_of_reports h rfl rfl)

theorem exec_changeDone_of_reports :
    exec (.changeDone r) s = .next ((s.replyTaken v r).takeChangeDone (v.addr - 16)).conclude :=
  State.reports_carrierNumber h ▸ congrArg Host.Outcome.next (State.reportEvent_of_reports h rfl rfl)

theorem exec_changeFault_of_reports :
    exec (.changeFault r) s = .next ((s.replyTaken v r).takeChangeFault (v.addr - 16)).conclude :=
  State.reports_carrierNumber h ▸ congrArg Host.Outcome.next (State.reportEvent_of_reports h rfl rfl)

theorem exec_returned_of_reports :
    exec (.returned r) s = .next ((s.replyTaken v r).takeReturned (v.addr - 16)).conclude :=
  State.reports_carrierNumber h ▸ congrArg Host.Outcome.next (State.reportEvent_of_reports h rfl rfl)

end
section
variable {c k : Nat} {s : State} {lot : Token}

theorem State.takeLoaded_of_not_loading (h : (s.carrier c).state ≠ .loading) : s.takeLoaded c lot = s := by
  unfold State.takeLoaded
  split
  · next hstate _ => exact absurd hstate h
  · rfl

theorem State.takeLoaded_of_loading (h : (s.carrier c).state = .loading) (hk : (s.carrier c).creel = some k) :
    s.takeLoaded c lot = s.lotCheck c k lot := by
  simp only [State.takeLoaded, h, hk]

end


/-! ### The lot check (R114) -/

section
variable {c k : Nat} {lot : Token} {s : State} (hs : s.formed = true)
include hs

/-- The lot is the frame's: the carrier goes on to its section. -/
theorem State.lotCheck_match (hst : (s.carrier c).state = .loading)
    (hlot : lot = BitVec.ofNat 16 (s.frameSettings (creelFrame k)).lot) :
    (s.lotCheck c k lot).carrier c =
      { s.carrier c with
        state := .travel, lotLoaded := some lot, lotSent := none, shownLeft := (s.carrier c).secondsLeft } ∧
    (s.lotCheck c k lot).watch = s.watch ∧ (s.lotCheck c k lot).disp = s.disp ∧
    (s.lotCheck c k lot).roving.creels = s.roving.creels ∧
    ∀ e, e ≠ c → (s.lotCheck c k lot).carrier e = s.carrier e := by
  simp +contextual (maxDischargeDepth := 40) [State.lotCheck, ← hlot, State.setCarrier_formed_same,
    State.setCarrier_other, hs, hst, Carrier.secondsLeft]

/-- The lot is another: the carrier is sent back, and the section is held with the frame's ALARM bit set. -/
theorem State.lotCheck_mismatch (hst : (s.carrier c).state = .loading)
    (hlot : lot ≠ BitVec.ofNat 16 (s.frameSettings (creelFrame k)).lot) :
    (s.lotCheck c k lot).carrier c =
      { s.carrier c with
        state := .returning, creel := none, lotLoaded := some lot, lotSent := none, change := Timer.off
        back := Timer.load (1000 * s.settings.changeTimeout), shownLeft := s.settings.changeTimeout } ∧
    (s.lotCheck c k lot).creel k = { s.creel k with state := .lotHold, carrier := none, orderSeq := none } ∧
    ((s.lotCheck c k lot).frame (creelFrame k)).alarm = true ∧
    (s.lotCheck c k lot).regs.att &&& 8#32 = 8#32 ∧ (s.lotCheck c k lot).regs.att &&& 2#32 = 2#32 ∧
    (s.lotCheck c k lot).watch = s.watch ∧ (s.lotCheck c k lot).disp = s.disp ∧
    (∀ e, e ≠ k → (s.lotCheck c k lot).creel e = s.creel e) ∧
    ∀ e, e ≠ c → (s.lotCheck c k lot).carrier e = s.carrier e := by
  simp +contextual (maxDischargeDepth := 40) [State.lotCheck, if_neg hlot, State.setCarrier_formed_same,
    State.setCarrier_other, hs, hst, Carrier.secondsLeft, State.sendBack, State.creelOrderDone,
    State.setCreel_formed_same, State.setCreel_other, State.alarm_frame_same, Timer.load, Timer.off, State.settings,
    State.alarm_att, State.journal_att, JournalKind.urgent, or_and_of_and_eq, or_and_self_right]

end

/-! ### The claim of the section lock (R116) -/

section
variable {c k : Nat} {s : State}

theorem State.takeArrived_of_not_travel (h : (s.carrier c).state ≠ .travel) : s.takeArrived c = s := by
  unfold State.takeArrived
  split
  · next hstate _ => exact absurd hstate h
  · rfl

theorem State.takeArrived_of_travel (h : (s.carrier c).state = .travel) (hk : (s.carrier c).creel = some k) :
    s.takeArrived c = s.claimLock c k := by
  simp only [State.takeArrived, h, hk]

variable (hs : s.formed = true)
include hs

/-- Whatever the lock, the claim touches this section and this carrier alone, and the carrier keeps its section and lot.
-/
theorem State.claimLock_keeps :
    ((s.claimLock c k).carrier c).creel = (s.carrier c).creel ∧
    ((s.claimLock c k).carrier c).lotLoaded = (s.carrier c).lotLoaded ∧
    (s.claimLock c k).watch = s.watch ∧ (s.claimLock c k).frames = s.frames ∧ (s.claimLock c k).disp = s.disp ∧
    (∀ e, e ≠ k → (s.claimLock c k).creel e = s.creel e) ∧
    ∀ e, e ≠ c → (s.claimLock c k).carrier e = s.carrier e := by
  unfold State.claimLock State.carrierTakes
  dsimp only
  repeat' split
  all_goals
    simp +contextual (maxDischargeDepth := 40) [State.setCarrier_formed_same, State.setCarrier_other,
      State.setCreel_other, hs, apply_ite Carrier.creel, apply_ite Carrier.lotLoaded]

theorem State.claimLock_free (hst : (s.carrier c).state = .travel) (hlock : (s.creel k).lock = .none) :
    (s.claimLock c k).carrier c =
      { s.carrier c with
        state := .working, change := (s.carrier c).change.runOn
        shownLeft := (s.carrier c).change.left / 1000 } ∧
    (s.claimLock c k).creel k = { s.creel k with lock := .carrier c, waiting := .none, holdSent := false } ∧
    (s.claimLock c k).unit (carrierAddr c) = (s.hand (carrierAddr c) .change).unit (carrierAddr c) := by
  simp (maxDischargeDepth := 40) [State.claimLock, hlock, State.carrierTakes, State.setCarrier_formed_same,
    State.setCreel_formed_same, State.hand_unit_same, hs, hst, Carrier.secondsLeft, Timer.runOn]

theorem State.claimLock_piecer (hst : (s.carrier c).state = .travel) {p : Nat} (hlock : (s.creel k).lock = .piecer p) :
    ((s.claimLock c k).carrier c).state = .waitLock ∧
    ((s.claimLock c k).carrier c).change = (s.carrier c).change.pause ∧
    (s.claimLock c k).creel k =
      { s.creel k with waiting := .carrier c, holdSent := !pastJoin (s.piecer p).stage } ∧
    ∀ token, (s.piecer p).current = some token → pastJoin (s.piecer p).stage = false →
      (s.claimLock c k).unit (piecerAddr p) = (s.hand (piecerAddr p) (.hold token)).unit (piecerAddr p) := by
  cases hjoin : pastJoin (s.piecer p).stage <;> cases hcur : (s.piecer p).current
  all_goals
    simp +contextual (maxDischargeDepth := 40) [State.claimLock, hlock, hjoin, hcur, State.setCarrier_formed_same,
      State.setCreel_formed_same, State.hand_unit_same, hs, hst]

end

/-! ### The statement -/

/-- Settles O60: a report comes to its carrier, whose record the acknowledgement left alone; then by the lot, and by the
holder of the lock. -/
theorem lotsAndArrivals : Obligations.LotsAndArrivals := by
  unfold Obligations.LotsAndArrivals
  refine ⟨fun s v r lot k hs h => ?_, fun s v r k hs h => ?_⟩
  · intro c x f t u y wanted
    have hx : t.carrier c = x := State.replyTaken_carrier ..
    have ht : t.formed = true := State.replyTaken_formed _ _ _ hs
    have hset : t.settings = s.settings := State.settings_of_plan (State.replyTaken_plan v r s)
    have hwanted : BitVec.ofNat 16 (t.frameSettings (creelFrame k)).lot = wanted := by
      unfold wanted State.frameSettings
      rw [hset]
      rfl
    refine ⟨exec_loaded_of_reports h lot, fun hno => State.takeLoaded_of_not_loading (hx ▸ hno), fun hst hk => ?_⟩
    have hu : t.lotCheck c k lot = u := (State.takeLoaded_of_loading (hx ▸ hst) (hx ▸ hk)).symm
    by_cases hlot : lot = wanted
    · have hmatch := State.lotCheck_match (k := k) ht (hx ▸ hst) (hwanted ▸ hlot)
      rw [hu, hx] at hmatch
      obtain ⟨hcarrier, hwatch, hdisp, hcreels, hothers⟩ := hmatch
      have hcreels' : u.roving.creels = s.roving.creels := by simp [hcreels, t]
      exact ⟨congrArg Carrier.lotLoaded hcarrier, congrArg Carrier.lotSent hcarrier, by simp [hwatch, t],
        by simp [hdisp, t], fun e _ => State.creel_of_table hcreels' e, fun e he => by simp [hothers e he, t],
        fun _ => ⟨congrArg Carrier.state hcarrier, (congrArg Carrier.creel hcarrier).trans hk,
          (congrArg Carrier.change hcarrier :), hcreels'⟩, fun hno => absurd hlot hno⟩
    · have hmiss := State.lotCheck_mismatch (k := k) ht (hx ▸ hst) (hwanted ▸ hlot)
      rw [hu, hx, hset] at hmiss
      obtain ⟨hcarrier, hcreel, halarm, hatt, hatt', hwatch, hdisp, hcreels, hothers⟩ := hmiss
      refine ⟨congrArg Carrier.lotLoaded hcarrier, congrArg Carrier.lotSent hcarrier, by simp [hwatch, t],
        by simp [hdisp, t], fun e he => by simp [hcreels e he, t], fun e he => by simp [hothers e he, t],
        fun heq => absurd heq hlot, fun _ => ⟨congrArg Carrier.state hcarrier, congrArg Carrier.creel hcarrier,
          congrArg Carrier.change hcarrier, congrArg Carrier.back hcarrier, congrArg Creel.state hcreel,
          congrArg Creel.carrier hcreel, ?_, congrArg Creel.orderSeq hcreel, halarm, hatt, hatt'⟩⟩
      simp [hcreel, t]
  · intro c x t u y
    have hx : t.carrier c = x := State.replyTaken_carrier ..
    have hk' : t.creel k = s.creel k := State.replyTaken_creel ..
    have ht : t.formed = true := State.replyTaken_formed _ _ _ hs
    have haddr : carrierAddr c = v.addr := carrierAddr_of_carrier h.2.1
    refine ⟨exec_arrived_of_reports h, fun hno => State.takeArrived_of_not_travel (hx ▸ hno), fun hst hk => ?_⟩
    have hu : t.claimLock c k = u := (State.takeArrived_of_travel (hx ▸ hst) (hx ▸ hk)).symm
    have hkeeps := State.claimLock_keeps (c := c) (k := k) ht
    rw [hu, hx] at hkeeps
    obtain ⟨hcreel, hlot, hwatch, hframes, hdisp, hcreels, hothers⟩ := hkeeps
    refine ⟨hcreel.trans hk, hlot, by simp [hwatch, t], by simp [hframes, t], by simp [hdisp, t],
      fun e he => by simp [hcreels e he, t], fun e he => by simp [hothers e he, t], fun hlock => ?_, fun p hlock => ?_⟩
    · have hfree := State.claimLock_free ht (hx ▸ hst) (hk'.symm ▸ hlock)
      rw [hu, hx, hk', haddr] at hfree
      obtain ⟨hcarrier, hcreel, hunit⟩ := hfree
      exact ⟨congrArg Carrier.state hcarrier, congrArg Carrier.change hcarrier, hcreel, hunit⟩
    · have hheld := State.claimLock_piecer ht (hx ▸ hst) (hk'.symm ▸ hlock)
      rw [hu, hx, hk', State.replyTaken_piecer] at hheld
      exact hheld

end Sys2Proof.Machine
end

section
/-! PROOFS. A piecer's attempt: its release of the lock, its claims, its end (R11, R50 to R55), and where the piecer
then goes. -/

namespace Sys2Proof.Machine

/-! ### A piecer leaves its side -/

section
variable (p : Nat) (s : State)

/-- The side left is unserved, and its list stands (R65). -/
theorem State.unserve_eq : s.unserve p = match (s.piecer p).side with
    | some d => (s.setSide d { s.side d with piecer := none }).oweArbiter
    | none => s := rfl

theorem State.unserve_keeps {β : Type} (P : State → β) (hside : ∀ d x t, P (State.setSide d x t) = P t)
    (howe : ∀ t, P (State.oweArbiter t) = P t) : P (s.unserve p) = P s := by
  unfold State.unserve
  split
  · rw [howe, hside]
  · rfl

@[simp] theorem State.unserve_watch : (s.unserve p).watch = s.watch :=
  State.unserve_keeps p s State.watch (by simp) (by simp)
@[simp] theorem State.unserve_frames : (s.unserve p).frames = s.frames :=
  State.unserve_keeps p s State.frames (by simp) (by simp)
@[simp] theorem State.unserve_roving : (s.unserve p).roving = s.roving :=
  State.unserve_keeps p s State.roving (by simp) (by simp)
@[simp] theorem State.unserve_piecers : (s.unserve p).disp.piecers = s.disp.piecers :=
  State.unserve_keeps p s (fun t => t.disp.piecers) (by simp) (by simp)
@[simp] theorem State.unserve_link : (s.unserve p).link = s.link :=
  State.unserve_keeps p s State.link (by simp) (by simp)
@[simp] theorem State.unserve_regs : (s.unserve p).regs = s.regs :=
  State.unserve_keeps p s State.regs (by simp) (by simp)
@[simp] theorem State.unserve_plan : (s.unserve p).plan = s.plan :=
  State.unserve_keeps p s State.plan (by simp) (by simp)
@[simp] theorem State.unserve_clock : (s.unserve p).clock = s.clock :=
  State.unserve_keeps p s State.clock (by simp) (by simp)
@[simp] theorem State.unserve_piecer (q : Nat) : (s.unserve p).piecer q = s.piecer q := by simp [State.piecer]
@[simp] theorem State.unserve_unit (a : Nat) : (s.unserve p).unit a = s.unit a := by simp [State.unit]
@[simp] theorem State.unserve_frame (f : Nat) : (s.unserve p).frame f = s.frame f := by simp [State.frame]

end

/-- The lists of the sides stand. -/
theorem State.unserve_entries {s : State} (hs : s.formed = true) (p d : Nat) :
    ((s.unserve p).side d).entries = (s.side d).entries := by
  unfold State.unserve
  split
  · next e _ =>
    obtain rfl | hne := eq_or_ne d e
    · simp [State.setSide_formed_same, hs]
    · simp [State.setSide_other, hne]
  · rfl

theorem State.clock_of_fixed {s t : State} (h : t.fixed = s.fixed) : t.clock = s.clock := congrArg Fixed.clock h

theorem State.winding_of_fixed {s t : State} (h : t.fixed = s.fixed) : t.winding = s.winding := by
  unfold State.winding; rw [State.part_of_fixed h, State.resume_of_fixed h]

theorem State.working_of_fixed {s t : State} (h : t.fixed = s.fixed) : t.working = s.working := by
  unfold State.working; rw [State.part_of_fixed h, State.resume_of_fixed h]

/-! ### To the bay (R73) -/

section
variable (p : Nat) (pl : Placement) (r : Option MoveReason) (s : State)

@[simp] theorem State.sendToBay_watch : (s.sendToBay p pl r).watch = s.watch := by
  simp [State.sendToBay, State.journalMove]
@[simp] theorem State.sendToBay_frames : (s.sendToBay p pl r).frames = s.frames := by
  simp [State.sendToBay, State.journalMove]
@[simp] theorem State.sendToBay_roving : (s.sendToBay p pl r).roving = s.roving := by
  simp [State.sendToBay, State.journalMove]
@[simp] theorem State.sendToBay_plan : (s.sendToBay p pl r).plan = s.plan := by
  simp [State.sendToBay, State.journalMove]

theorem State.sendToBay_piecer_other {q : Nat} (h : q ≠ p) : (s.sendToBay p pl r).piecer q = s.piecer q := by
  simp [State.sendToBay, State.journalMove, State.setPiecer_other, h]

theorem State.sendToBay_entries {s : State} (hs : s.formed = true) (d : Nat) :
    ((s.sendToBay p pl r).side d).entries = (s.side d).entries := by
  simp [State.sendToBay, State.journalMove, State.unserve_entries hs, State.hand_side]

/-- The piecer's record on its way to the bay. -/
theorem State.sendToBay_piecer_same {s : State} (hs : s.formed = true) : (s.sendToBay p pl r).piecer p =
    { s.piecer p with
      state := .parked, side := none, placement := pl, atBay := false, parkOwed := false, atFrameEnd := false
      returned := false, travel := Timer.load (1000 * s.settings.travelTimeout) } := by
  simp (maxDischargeDepth := 40) [State.sendToBay, State.journalMove, State.setPiecer_formed_same, hs, State.settings]

theorem State.sendToBay_unit_same {s : State} (hs : s.formed = true) : (s.sendToBay p pl r).unit (piecerAddr p) =
    (s.hand (piecerAddr p) .park).unit (piecerAddr p) := by
  simp (maxDischargeDepth := 40) [State.sendToBay, State.journalMove, State.hand_unit_same, hs]

end

/-! ### The end of an attempt (R53, R75, R166) -/

section
variable (p : Nat) (s : State)

@[simp] theorem State.attemptOver_watch : (s.attemptOver p).watch = s.watch := by
  unfold State.attemptOver; dsimp only; (repeat' split) <;> simp
@[simp] theorem State.attemptOver_frames : (s.attemptOver p).frames = s.frames := by
  unfold State.attemptOver; dsimp only; (repeat' split) <;> simp
@[simp] theorem State.attemptOver_roving : (s.attemptOver p).roving = s.roving := by
  unfold State.attemptOver; dsimp only; (repeat' split) <;> simp

theorem State.attemptOver_piecer_other {q : Nat} (h : q ≠ p) : (s.attemptOver p).piecer q = s.piecer q := by
  unfold State.attemptOver
  dsimp only
  (repeat' split) <;> simp [State.sendToBay_piecer_other, State.setPiecer_other, h]

theorem State.attemptOver_entries {s : State} (hs : s.formed = true) (d : Nat) :
    ((s.attemptOver p).side d).entries = (s.side d).entries := by
  unfold State.attemptOver
  dsimp only
  (repeat' split) <;> simp [State.sendToBay_entries, hs]

/-- The attempt is off the piecer's record, whose void token stands; it is on its side, or on its way to the bay. -/
theorem State.attemptOver_piecer_same {s : State} (hs : s.formed = true) : 
    let y := (s.attemptOver p).piecer p
    y.current = none ∧ y.void = (s.piecer p).void ∧ y.spindle = none ∧ y.attempt = Timer.off ∧
    y.state = if (s.piecer p).parkOwed = true ∨ s.winding = true then .parked else .onSide := by
  have hwind (x : Piecer) : (s.setPiecer p x).winding = s.winding := State.winding_of_fixed (by simp)
  unfold State.attemptOver
  dsimp only
  rw [hwind]
  repeat' split
  all_goals simp_all [State.sendToBay_piecer_same, State.setPiecer_formed_same]

theorem State.attemptOver_unit_same {s : State} (hs : s.formed = true) : (s.attemptOver p).unit (piecerAddr p) = 
    if (s.piecer p).parkOwed = true ∨ s.winding = true then (s.hand (piecerAddr p) .park).unit (piecerAddr p)
    else s.unit (piecerAddr p) := by
  have hwind (x : Piecer) : (s.setPiecer p x).winding = s.winding := State.winding_of_fixed (by simp)
  unfold State.attemptOver
  dsimp only
  rw [hwind]
  repeat' split
  all_goals simp_all [State.sendToBay_unit_same, State.hand_unit_same]

end

/-! ### The release of the section lock (R115) -/

section
variable (p k : Nat) (s : State)

@[simp] theorem State.piecerReleases_watch : (s.piecerReleases p k).watch = s.watch := by
  unfold State.piecerReleases State.carrierTakes; dsimp only; (repeat' split) <;> simp
@[simp] theorem State.piecerReleases_disp : (s.piecerReleases p k).disp = s.disp := by
  unfold State.piecerReleases State.carrierTakes; dsimp only; (repeat' split) <;> simp
@[simp] theorem State.piecerReleases_frames : (s.piecerReleases p k).frames = s.frames := by
  unfold State.piecerReleases State.carrierTakes; dsimp only; (repeat' split) <;> simp
@[simp] theorem State.piecerReleases_plan : (s.piecerReleases p k).plan = s.plan := by
  unfold State.piecerReleases State.carrierTakes; dsimp only; (repeat' split) <;> simp

@[simp] theorem State.piecerReleases_piecer (q : Nat) : (s.piecerReleases p k).piecer q = s.piecer q := by
  simp [State.piecer]

theorem State.piecerReleases_creel_other {c : Nat} (h : c ≠ k) : (s.piecerReleases p k).creel c = s.creel c := by
  unfold State.piecerReleases State.carrierTakes
  dsimp only
  (repeat' split) <;> simp [State.setCreel_other, h]

theorem State.piecerReleases_remaining {s : State} (hs : s.formed = true) (c : Nat) :
    ((s.piecerReleases p k).creel c).remaining = (s.creel c).remaining := by
  obtain rfl | hne := eq_or_ne c k
  · unfold State.piecerReleases State.carrierTakes
    dsimp only
    (repeat' split) <;> simp [State.setCreel_formed_same, hs]
  · rw [State.piecerReleases_creel_other p k s hne]

theorem State.piecerReleases_lock {s : State} (hs : s.formed = true) :
    ((s.piecerReleases p k).creel k).lock ≠ .piecer p := by
  unfold State.piecerReleases State.carrierTakes
  dsimp only
  (repeat' split) <;> simp_all [State.setCreel_formed_same]

/-- No unit but a waiting carrier is handed anything. -/
theorem State.piecerReleases_unit {a : Nat} (h : ∀ c, (s.creel k).waiting = .carrier c → a ≠ carrierAddr c) :
    (s.piecerReleases p k).unit a = s.unit a := by
  unfold State.piecerReleases State.carrierTakes
  dsimp only
  split
  · split
    · next c hc => simp [State.hand_unit_other (h c hc)]
    · simp
    · simp
  · rfl

end

/-! ### The claims on a spindle (R11) -/

section
variable (f n : Nat) (s : State)

theorem State.removeEntry_keeps {β : Type} (P : State → β) (hside : ∀ d x t, P (State.setSide d x t) = P t)
    (howe : ∀ d t, P (State.oweRelist d t) = P t) : P (s.removeEntry f n) = P s := by
  unfold State.removeEntry
  dsimp only
  split
  · rw [howe, hside]
  · rfl

@[simp] theorem State.removeEntry_watch : (s.removeEntry f n).watch = s.watch :=
  State.removeEntry_keeps f n s (fun t => t.watch) (by simp) (by simp)
@[simp] theorem State.removeEntry_frames : (s.removeEntry f n).frames = s.frames :=
  State.removeEntry_keeps f n s (fun t => t.frames) (by simp) (by simp)
@[simp] theorem State.removeEntry_roving : (s.removeEntry f n).roving = s.roving :=
  State.removeEntry_keeps f n s (fun t => t.roving) (by simp) (by simp)
@[simp] theorem State.removeEntry_plan : (s.removeEntry f n).plan = s.plan :=
  State.removeEntry_keeps f n s (fun t => t.plan) (by simp) (by simp)
@[simp] theorem State.removeEntry_disp_piecers : (s.removeEntry f n).disp.piecers = s.disp.piecers :=
  State.removeEntry_keeps f n s (fun t => t.disp.piecers) (by simp) (by simp)
@[simp] theorem State.removeEntry_link : (s.removeEntry f n).link = s.link :=
  State.removeEntry_keeps f n s (fun t => t.link) (by simp) (by simp)
@[simp] theorem State.removeEntry_output : (s.removeEntry f n).output = s.output :=
  State.removeEntry_keeps f n s (fun t => t.output) (by simp) (by simp)

/-- No entry of the spindle is left on its side. -/
theorem State.removeEntry_entries {s : State} (hs : s.formed = true) :
    ∀ e ∈ ((s.removeEntry f n).side (sideOf f n)).entries, e.spindle ≠ n := by
  unfold State.removeEntry
  dsimp only
  split
  · simp [State.setSide_formed_same, hs]
  · next hno => simpa using hno

end

section
variable (f n p : Nat) (t : Token) (stage : Option AttemptStep) (o : Outcome) (k : FailKind) (s : State)

@[simp] theorem State.claimAbandoned_frames : (s.claimAbandoned f n).frames = s.frames := by
  unfold State.claimAbandoned; dsimp only; (repeat' split) <;> simp
@[simp] theorem State.claimAbandoned_roving : (s.claimAbandoned f n).roving = s.roving := by
  unfold State.claimAbandoned; dsimp only; (repeat' split) <;> simp
@[simp] theorem State.claimAbandoned_plan : (s.claimAbandoned f n).plan = s.plan := by
  unfold State.claimAbandoned; dsimp only; (repeat' split) <;> simp
@[simp] theorem State.claimAbandoned_disp_piecers : (s.claimAbandoned f n).disp.piecers = s.disp.piecers := by
  unfold State.claimAbandoned; dsimp only; (repeat' split) <;> simp
@[simp] theorem State.claimAbandoned_link : (s.claimAbandoned f n).link = s.link := by
  unfold State.claimAbandoned; dsimp only; (repeat' split) <;> simp
@[simp] theorem State.claimJoined_frames : (s.claimJoined f n).frames = s.frames := by
  unfold State.claimJoined; dsimp only; (repeat' split) <;> simp
@[simp] theorem State.claimJoined_roving : (s.claimJoined f n).roving = s.roving := by
  unfold State.claimJoined; dsimp only; (repeat' split) <;> simp
@[simp] theorem State.claimJoined_disp_piecers : (s.claimJoined f n).disp.piecers = s.disp.piecers := by
  unfold State.claimJoined; dsimp only; (repeat' split) <;> simp
@[simp] theorem State.claimJoined_link : (s.claimJoined f n).link = s.link := by
  unfold State.claimJoined; dsimp only; (repeat' split) <;> simp
@[simp] theorem State.claimFailed_frames : (s.claimFailed f n p t k stage).frames = s.frames := by
  unfold State.claimFailed State.cutSpindle State.pieceFail; dsimp only; (repeat' split) <;> simp
@[simp] theorem State.claimFailed_roving : (s.claimFailed f n p t k stage).roving = s.roving := by
  unfold State.claimFailed State.cutSpindle State.pieceFail; dsimp only; (repeat' split) <;> simp
@[simp] theorem State.claimFailed_disp_piecers : (s.claimFailed f n p t k stage).disp.piecers = s.disp.piecers := by
  unfold State.claimFailed State.cutSpindle State.pieceFail; dsimp only; (repeat' split) <;> simp
@[simp] theorem State.claimFailed_link : (s.claimFailed f n p t k stage).link = s.link := by
  unfold State.claimFailed State.cutSpindle State.pieceFail; dsimp only; (repeat' split) <;> simp
@[simp] theorem State.claimNoRoving_frames : (s.claimNoRoving f n p t stage).frames = s.frames := by
  unfold State.claimNoRoving State.cutSpindle State.pieceFail; dsimp only; (repeat' split) <;> simp
@[simp] theorem State.claimNoRoving_roving : (s.claimNoRoving f n p t stage).roving = s.roving := by
  unfold State.claimNoRoving State.cutSpindle State.pieceFail; dsimp only; (repeat' split) <;> simp
@[simp] theorem State.claimNoRoving_disp_piecers : (s.claimNoRoving f n p t stage).disp.piecers = s.disp.piecers := by
  unfold State.claimNoRoving State.cutSpindle State.pieceFail; dsimp only; (repeat' split) <;> simp
@[simp] theorem State.claimNoRoving_link : (s.claimNoRoving f n p t stage).link = s.link := by
  unfold State.claimNoRoving State.cutSpindle State.pieceFail; dsimp only; (repeat' split) <;> simp
@[simp] theorem State.claimOutcome_frames : (s.claimOutcome f n p t stage o).frames = s.frames := by
  cases o <;> simp [State.claimOutcome]
@[simp] theorem State.claimOutcome_roving : (s.claimOutcome f n p t stage o).roving = s.roving := by
  cases o <;> simp [State.claimOutcome]
@[simp] theorem State.claimOutcome_disp_piecers : (s.claimOutcome f n p t stage o).disp.piecers = s.disp.piecers := by
  cases o <;> simp [State.claimOutcome]
@[simp] theorem State.claimOutcome_link : (s.claimOutcome f n p t stage o).link = s.link := by
  cases o <;> simp [State.claimOutcome]


@[simp] theorem State.removeEntry_spindle (g m : Nat) : (s.removeEntry f n).spindle g m = s.spindle g m := by
  simp [State.spindle]

theorem State.claimAbandoned_spindle_other {g m : Nat} (h : spindleKey g m ≠ spindleKey f n) :
    (s.claimAbandoned f n).spindle g m = s.spindle g m := by
  unfold State.claimAbandoned; dsimp only
  (repeat' split) <;> simp [State.setSpindle_other, h]

theorem State.claimJoined_spindle_other {g m : Nat} (h : spindleKey g m ≠ spindleKey f n) :
    (s.claimJoined f n).spindle g m = s.spindle g m := by
  unfold State.claimJoined; dsimp only
  (repeat' split) <;> simp [State.setSpindle_other, h]

theorem State.claimFailed_spindle_other {g m : Nat} (h : spindleKey g m ≠ spindleKey f n) :
    (s.claimFailed f n p t k stage).spindle g m = s.spindle g m := by
  unfold State.claimFailed State.cutSpindle State.pieceFail; dsimp only
  (repeat' split) <;> simp [State.setSpindle_other, h]

theorem State.claimNoRoving_spindle_other {g m : Nat} (h : spindleKey g m ≠ spindleKey f n) :
    (s.claimNoRoving f n p t stage).spindle g m = s.spindle g m := by
  unfold State.claimNoRoving State.cutSpindle State.pieceFail; dsimp only
  (repeat' split) <;> simp [State.setSpindle_other, h]

theorem State.claimOutcome_spindle_other {g m : Nat} (h : spindleKey g m ≠ spindleKey f n) :
    (s.claimOutcome f n p t stage o).spindle g m = s.spindle g m := by
  cases o
  case joined => exact State.claimJoined_spindle_other f n s h
  case noEnd => exact State.claimFailed_spindle_other f n p t stage .noEnd s h
  case threadFail => exact State.claimFailed_spindle_other f n p t stage .threadFail s h
  case joinFail => exact State.claimFailed_spindle_other f n p t stage .joinFail s h
  case noRoving => exact State.claimNoRoving_spindle_other f n p t stage s h
  case abandoned => exact State.claimAbandoned_spindle_other f n s h

variable {s} (hs : s.formed = true) (hst : (s.spindle f n).state = .piecing)
include hs hst

theorem State.claimAbandoned_spindle : (s.claimAbandoned f n).spindle f n =
    if (s.creel (creelOfSpindle f n)).remaining = 0 then (s.spindle f n).to .starved
    else { (s.spindle f n).to .down with listed := true } := by
  simp only [State.claimAbandoned, hst, if_true]
  split
  · simp [State.setSpindle_formed_same, hs]
  · exact State.setSpindle_formed_same _ _ _ _ hs

theorem State.claimJoined_spindle : (s.claimJoined f n).spindle f n = (s.spindle f n).to .proving := by
  simp [State.claimJoined, hst, State.setSpindle_formed_same, hs]

theorem State.claimJoined_entries :
    ∀ e ∈ ((s.claimJoined f n).side (sideOf f n)).entries, e.spindle ≠ n := by
  simp only [State.claimJoined, hst, if_true]
  exact State.removeEntry_entries f n (State.setSpindle_formed _ _ _ _ hs)

theorem State.claimFailed_spindle : (s.claimFailed f n p t k stage).spindle f n =
    if s.settings.attemptLimit ≤ (s.spindle f n).failed.attempts then
      { (s.spindle f n).failed.to .cutOut with cutCause := some .attempts, saved := none }
    else { (s.spindle f n).failed.to .down with listed := true } := by
  simp only [State.claimFailed, hst, if_true]
  split <;> simp [State.cutSpindle, State.pieceFail, State.setSpindle_formed_same, hs]

theorem State.claimNoRoving_spindle : (s.claimNoRoving f n p t stage).spindle f n =
    { (s.spindle f n).to .cutOut with cutCause := some .noRoving, saved := none } := by
  simp [State.claimNoRoving, hst, State.cutSpindle, State.pieceFail, State.setSpindle_formed_same, hs]

end

/-- A failure adds an attempt, and at the limit cuts the spindle out (R11, R51). -/
theorem State.claimFailed_limit {f n p : Nat} {t : Token} {stage : Option AttemptStep} {k : FailKind} {s : State}
    (hs : s.formed = true) (hst : (s.spindle f n).state = .piecing) :
    let attempts := min 7 ((s.spindle f n).attempts + 1)
    let new := (s.claimFailed f n p t k stage).spindle f n
    new.attempts = attempts ∧
    (attempts < s.settings.attemptLimit → new.state = .down ∧ new.listed = true) ∧
    (s.settings.attemptLimit ≤ attempts → new.state = .cutOut ∧ new.cutCause = some .attempts) := by
  intro attempts new
  have hnew : new = _ := State.claimFailed_spindle f n p t stage k hs hst
  rw [hnew]
  by_cases hlimit : s.settings.attemptLimit ≤ (s.spindle f n).failed.attempts
  · rw [if_pos hlimit]
    exact ⟨rfl, fun hbelow => absurd hlimit (Nat.not_le.mpr hbelow), fun _ => ⟨rfl, rfl⟩⟩
  · rw [if_neg hlimit]
    exact ⟨rfl, fun _ => ⟨rfl, rfl⟩, fun hat => absurd hat hlimit⟩

/-! ### The end of an attempt with its claim (R50, R51) -/

/-- The attempt off a piecer's record, its lock released, the claim handed on, and the piecer free of it. -/
def State.endAttempt (p k : Nat) (x : Piecer) (claim : State → State) (s : State) : State :=
  (claim ((s.setPiecer p x).piecerReleases p k)).attemptOver p

/-- What a claim leaves to the other blocks. -/
structure ClaimOn (f n : Nat) (claim : State → State) : Prop where
  formed : ∀ t : State, t.formed = true → (claim t).formed = true
  fixed : ∀ t : State, (claim t).fixed = t.fixed
  piecers : ∀ t : State, (claim t).disp.piecers = t.disp.piecers
  roving : ∀ t : State, (claim t).roving = t.roving
  frames : ∀ t : State, (claim t).frames = t.frames
  link : ∀ t : State, (claim t).link = t.link
  others : ∀ (t : State) {g m : Nat}, spindleKey g m ≠ spindleKey f n → (claim t).spindle g m = t.spindle g m

theorem claimOutcome_claimOn (f n p : Nat) (t : Token) (stage : Option AttemptStep) (o : Outcome) :
    ClaimOn f n fun s => s.claimOutcome f n p t stage o where
  formed s hs := by simp [hs]
  fixed s := by simp
  piecers s := by simp
  roving s := by simp
  frames s := by simp
  link s := by simp
  others s _ _ h := State.claimOutcome_spindle_other f n p t stage o s h

theorem claimFailed_claimOn (f n p : Nat) (t : Token) (stage : Option AttemptStep) (k : FailKind) :
    ClaimOn f n fun s => s.claimFailed f n p t k stage where
  formed s hs := by simp [hs]
  fixed s := by simp
  piecers s := by simp
  roving s := by simp
  frames s := by simp
  link s := by simp
  others s _ _ h := State.claimFailed_spindle_other f n p t stage k s h

section
variable {f n p k : Nat} {x : Piecer} {claim : State → State} {s : State} (hclaim : ClaimOn f n claim) 
include hclaim

theorem State.endAttempt_frames : (s.endAttempt p k x claim).frames = s.frames := by
  simp [State.endAttempt, hclaim.frames]

theorem State.endAttempt_spindle_other {g m : Nat} (h : spindleKey g m ≠ spindleKey f n) :
    (s.endAttempt p k x claim).spindle g m = s.spindle g m := by
  have hover : (s.endAttempt p k x claim).spindle g m = (claim ((s.setPiecer p x).piecerReleases p k)).spindle g m :=
    State.spindle_of_table (by simp [State.endAttempt]) g m
  rw [hover, hclaim.others _ h]
  exact State.spindle_of_table (by simp) g m

theorem State.endAttempt_piecer_other {q : Nat} (h : q ≠ p) : (s.endAttempt p k x claim).piecer q = s.piecer q := by
  rw [State.endAttempt, State.attemptOver_piecer_other _ _ h, State.piecer_of_table (hclaim.piecers _)]
  simp [State.setPiecer_other, h]

variable (hs : s.formed = true)
include hs

theorem State.endAttempt_entries (e : Nat) : ((s.endAttempt p k x claim).side e).entries =
    ((claim ((s.setPiecer p x).piecerReleases p k)).side e).entries :=
  State.attemptOver_entries p (hclaim.formed _ (by simp [hs])) e

theorem State.endAttempt_lock : ((s.endAttempt p k x claim).creel k).lock ≠ .piecer p := by
  have hcreel : (s.endAttempt p k x claim).creel k = ((s.setPiecer p x).piecerReleases p k).creel k :=
    State.creel_of_table (by simp [State.endAttempt, hclaim.roving]) k
  rw [hcreel]
  exact State.piecerReleases_lock p k (State.setPiecer_formed _ _ _ hs)

theorem State.endAttempt_piecer_same : let y := (s.endAttempt p k x claim).piecer p
    y.current = none ∧ y.void = x.void ∧ y.spindle = none ∧ y.attempt = Timer.off ∧
    y.state = if x.parkOwed = true ∨ s.winding = true then .parked else .onSide := by
  have hreleased : ((s.setPiecer p x).piecerReleases p k).formed = true := by simp [hs]
  have hx : (claim ((s.setPiecer p x).piecerReleases p k)).piecer p = x := by
    rw [State.piecer_of_table (hclaim.piecers _)]
    simp [State.setPiecer_formed_same, hs]
  have hwind : (claim ((s.setPiecer p x).piecerReleases p k)).winding = s.winding :=
    State.winding_of_fixed ((hclaim.fixed _).trans (by simp))
  have hover := State.attemptOver_piecer_same p (hclaim.formed _ hreleased)
  rw [hx, hwind] at hover
  exact hover

end

/-- The spindle is what the claim made of it, of the spindle as it stood. -/
theorem State.endAttempt_spindle (p k g m : Nat) (x : Piecer) (claim : State → State) (s : State) :
    (s.endAttempt p k x claim).spindle g m = (claim ((s.setPiecer p x).piecerReleases p k)).spindle g m :=
  State.spindle_of_table (by simp [State.endAttempt]) g m

section
variable {p n d : Nat} {t : Token} {s : State}

theorem State.takeResult_of_current (o : Outcome) (hst : (s.piecer p).state = .attempting)
    (hcur : (s.piecer p).current = some t) (hn : (s.piecer p).spindle = some n) (hd : (s.piecer p).side = some d) :
    s.takeResult p t o = s.endAttempt p (creelOfSpindle (sideFrame d) n)
      { s.piecer p with current := none, attempt := Timer.off }
      fun w => w.claimOutcome (sideFrame d) n p t (s.piecer p).stage o := by
  simp [State.takeResult, State.endAttempt, hst, hcur, hn, hd]

end

/-! ### Steps (R47) -/

theorem laterStage_eq (old : Option AttemptStep) (new : AttemptStep) : some (laterStage old new) = match old with
    | none => some new
    | some o => if stageCode o < stageCode new then some new else some o := by
  cases old with
  | none => rfl
  | some o => exact apply_ite some (stageCode o < stageCode new) new o

/-- The numbers of a side (5.1). -/
theorem onSideSpindle_eq {d pos : Nat} (hlo : 1 ≤ pos) (hhi : pos ≤ 1824) :
    (onSideSpindle d pos = true) = if d % 2 = 0 then 913 ≤ pos else pos ≤ 912 := by
  unfold onSideSpindle sideIsB
  split <;> simp_all

theorem State.takeStep_of_current {p pos d : Nat} {t : Token} {s : State} (st : AttemptStep) (hlo : 1 ≤ pos)
    (hhi : pos ≤ 1824) (hst : (s.piecer p).state = .attempting) (hcur : (s.piecer p).current = some t)
    (hd : (s.piecer p).side = some d) :
    s.takeStep p t st pos = s.setPiecer p { s.piecer p with
      position := if (if d % 2 = 0 then 913 ≤ pos else pos ≤ 912) then some pos else (s.piecer p).position
      stage := match (s.piecer p).stage with
        | none => some st
        | some o => if stageCode o < stageCode st then some st else some o } := by
  simp only [State.takeStep, hcur, hst, hd, and_self, if_true, onSideSpindle_eq hlo hhi, laterStage_eq]

/-! ### The statement -/

/-- Settles O58: a STEP writes the piecer's record alone; a RESULT ends the attempt with the claim of its outcome. -/
theorem stepsAndResults : Obligations.StepsAndResults := by
  unfold Obligations.StepsAndResults
  refine ⟨fun s v r token step pos d hs h hlo hhi => ?_, fun s v r token o d n hs h => ?_⟩
  · intro p x t u onIt
    have hx : t.piecer p = x := State.replyTaken_piecer ..
    have ht : t.formed = true := State.replyTaken_formed _ _ _ hs
    refine ⟨exec_step_of_reports h hlo hhi step, fun hst hcur hd => ?_⟩
    have hu : u = t.setPiecer p _ := State.takeStep_of_current step hlo hhi (hx ▸ hst) (hx ▸ hcur) (hx ▸ hd)
    rw [hx] at hu
    rw [hu]
    refine ⟨State.setPiecer_formed_same _ _ _ ht, by simp [t], by simp [t], by simp [t], fun q hq => ?_⟩
    rw [State.setPiecer_other _ _ _ _ hq]
    exact State.replyTaken_piecer ..
  · intro p x f creel u y old new attempts
    have hx : (s.replyTaken v r).piecer p = x := State.replyTaken_piecer ..
    have ht : (s.replyTaken v r).formed = true := State.replyTaken_formed _ _ _ hs
    refine ⟨exec_result_of_reports h o, fun hst hcur hn hd => ?_⟩
    have hu : u = State.endAttempt .. :=
      State.takeResult_of_current o (hx ▸ hst) (hx ▸ hcur) (hx ▸ hn) (hx ▸ hd)
    rw [hx] at hu
    have hclaim := claimOutcome_claimOn (sideFrame d) n p token x.stage o
    have hpiecer := State.endAttempt_piecer_same (p := p) (k := creelOfSpindle (sideFrame d) n)
      (x := { x with current := none, attempt := Timer.off }) hclaim ht
    have hlock := State.endAttempt_lock (p := p) (k := creelOfSpindle (sideFrame d) n)
      (x := { x with current := none, attempt := Timer.off }) hclaim ht
    rw [← hu] at hpiecer hlock
    obtain ⟨hcurrent, hvoid, _, hattempt, hstate⟩ := hpiecer
    refine ⟨hcurrent, hvoid, hattempt, ?_, hlock, fun q hq => ?_, ?_, fun g m hkey => ?_, fun hpiecing => ?_⟩
    · change (u.piecer p).state = _ ∨ (u.piecer p).state = _
      rw [hstate]
      split <;> simp
    · rw [hu, State.endAttempt_piecer_other hclaim hq]
      exact State.replyTaken_piecer ..
    · rw [hu, State.endAttempt_frames hclaim]
      exact State.replyTaken_frames ..
    · rw [hu, State.endAttempt_spindle_other hclaim hkey]
      exact State.replyTaken_spindle ..
    · have hnew : new = _ := (congrArg (State.spindle · f n) hu).trans (State.endAttempt_spindle ..)
      generalize hw : ((s.replyTaken v r).setPiecer p { x with current := none, attempt := Timer.off }).piecerReleases p
        (creelOfSpindle (sideFrame d) n) = w at hnew
      have hwold : w.spindle f n = old := by
        rw [← hw]
        exact State.spindle_of_table (by simp) f n
      have hwf : w.formed = true := by simp [← hw, ht]
      have hwleft : (w.creel (creelOfSpindle f n)).remaining = (s.creel creel).remaining := by
        rw [← hw, State.piecerReleases_remaining _ _ (State.setPiecer_formed _ _ _ ht)]
        simp [creel, creelOfSpindle, sectionOf]
      have hwset : w.settings = s.settings := State.settings_of_plan (by simp [← hw])
      have hfail (k : FailKind) := State.claimFailed_limit (p := p) (t := token) (stage := x.stage) (k := k) hwf
        (by rwa [hwold])
      simp only [hwold, hwset] at hfail
      rw [hnew]
      refine ⟨?_, ?_, ?_, ?_⟩
      · rintro rfl
        have hjoined : (w.claimOutcome (sideFrame d) n p token x.stage .joined).spindle f n = _ :=
          State.claimJoined_spindle f n hwf (by rwa [hwold])
        rw [hwold] at hjoined
        refine ⟨congrArg Spindle.state hjoined, (congrArg Spindle.attempts hjoined :), ?_⟩
        rw [hu, State.endAttempt_entries hclaim ht, hw]
        exact State.claimJoined_entries f n hwf (by rwa [hwold])
      · rintro rfl
        have hcut : (w.claimOutcome (sideFrame d) n p token x.stage .noRoving).spindle f n = _ :=
          State.claimNoRoving_spindle f n p token x.stage hwf (by rwa [hwold])
        rw [hwold] at hcut
        exact ⟨congrArg Spindle.state hcut, congrArg Spindle.cutCause hcut, (congrArg Spindle.attempts hcut :)⟩
      · rintro rfl
        have habandoned : (w.claimOutcome (sideFrame d) n p token x.stage .abandoned).spindle f n = _ :=
          State.claimAbandoned_spindle f n hwf (by rwa [hwold])
        rw [hwold, hwleft] at habandoned
        rw [habandoned]
        split
        · exact ⟨rfl, rfl⟩
        · exact ⟨rfl, rfl, rfl⟩
      · rintro (rfl | rfl | rfl)
        · exact hfail .noEnd
        · exact hfail .threadFail
        · exact hfail .joinFail

end Sys2Proof.Machine
end

section
/-! PROOFS. Attempts that time out (R49, R51, R53) and the answers to a HOLD (R48, R117). -/

namespace Sys2Proof.Machine

/-! ### Timers -/

theorem Timer.expired_iff {t : Timer} : t.expired = true ↔ t = ⟨true, 0⟩ := by
  cases t
  simp [Timer.expired]

theorem State.expires_iff {s : State} {t : Timer} : s.expires t = true ↔ s.regs.part ≠ .halted ∧ t = ⟨true, 0⟩ := by
  simp [State.expires, Timer.expired_iff, and_comm]

/-! ### The attempt timer (R49) -/

/-- The record of a piecer whose attempt is over by the timer. -/
def Piecer.timedOut (t : Token) (x : Piecer) : Piecer :=
  { x with current := none, void := some t, attempt := Timer.off }

section
variable {p n d : Nat} {t : Token} {s : State}

theorem State.attemptExpires_of_current (hcur : (s.piecer p).current = some t) (hn : (s.piecer p).spindle = some n)
    (hd : (s.piecer p).side = some d) :
    s.attemptExpires p = (s.hand (piecerAddr p) (.abandon t)).endAttempt p (creelOfSpindle (sideFrame d) n)
      ((s.piecer p).timedOut t)
      fun w => w.claimFailed (sideFrame d) n p t .timeout (s.piecer p).stage := by
  simp [State.attemptExpires, State.endAttempt, Piecer.timedOut, hcur, hn, hd]

end

/-- The piecer is handed PARK at the end of the attempt when it then goes to the bay. -/
theorem State.endAttempt_unit_same {f n p k : Nat} {x : Piecer} {claim : State → State} {s : State}
    (hclaim : ClaimOn f n claim) (hs : s.formed = true)
    (hwaits : ∀ c, (s.creel k).waiting = .carrier c → piecerAddr p ≠ carrierAddr c) :
    (s.endAttempt p k x claim).unit (piecerAddr p) =
      if x.parkOwed = true ∨ s.winding = true then (s.hand (piecerAddr p) .park).unit (piecerAddr p)
      else s.unit (piecerAddr p) := by
  have hreleased : ((s.setPiecer p x).piecerReleases p k).formed = true := by simp [hs]
  have hclaimed := hclaim.formed _ hreleased
  have hfixed := (hclaim.fixed ((s.setPiecer p x).piecerReleases p k)).trans (by simp) (c := s.fixed)
  have hx : (claim ((s.setPiecer p x).piecerReleases p k)).piecer p = x := by
    rw [State.piecer_of_table (hclaim.piecers _)]
    simp [State.setPiecer_formed_same, hs]
  have hunit : (claim ((s.setPiecer p x).piecerReleases p k)).unit (piecerAddr p) = s.unit (piecerAddr p) := by
    rw [State.unit_of_table (congrArg Link.units (hclaim.link _)),
      State.piecerReleases_unit _ _ _ (by simpa using hwaits)]
    simp
  rw [State.endAttempt, State.attemptOver_unit_same p hclaimed, State.hand_unit_same hclaimed, State.hand_unit_same hs,
    hx,
    hunit, State.winding_of_fixed hfixed, State.clock_of_fixed hfixed]

/-! ### The answers to a HOLD (R117) -/

section
variable {p k : Nat} {t : Token} {s : State}

theorem State.holdRefused_of_carrier {c : Nat} (h : (s.creel k).waiting = .carrier c) :
    s.holdRefused k = s.setCreel k { s.creel k with holdSent := false } := by
  simp [State.holdRefused, h]

theorem State.holdRefused_of_no_carrier (h : ∀ c, (s.creel k).waiting ≠ .carrier c) : s.holdRefused k = s := by
  unfold State.holdRefused
  split
  · next c hc => exact absurd hc (h c)
  · rfl
  · rfl

theorem State.holdRefused_watch : (s.holdRefused k).watch = s.watch := by
  unfold State.holdRefused
  split <;> simp

theorem State.holdRefused_frames : (s.holdRefused k).frames = s.frames := by
  unfold State.holdRefused
  split <;> simp

theorem State.takeHeld_keeps : (s.takeHeld p t).watch = s.watch ∧ (s.takeHeld p t).frames = s.frames := by
  unfold State.takeHeld State.stale State.carrierTakes
  dsimp only
  (repeat' split) <;> simp [State.holdRefused_watch, State.holdRefused_frames]

theorem State.takeRefusedHold_keeps :
    (s.takeRefusedHold p t).watch = s.watch ∧ (s.takeRefusedHold p t).frames = s.frames := by
  unfold State.takeRefusedHold State.stale
  dsimp only
  split <;> simp [State.holdRefused_watch, State.holdRefused_frames]

theorem State.takeHeld_not_attempting (hcur : (s.piecer p).current = some t) (hst : (s.piecer p).state ≠ .attempting) :
    s.takeHeld p t = s := by
  simp [State.takeHeld, hcur, hst]

variable (hcur : (s.piecer p).current = some t) (hst : (s.piecer p).state = .attempting)
  (hk : (s.piecer p).attemptCreel = k)
include hcur hst hk

theorem State.takeHeld_no_carrier (h : ∀ c, (s.creel k).waiting ≠ .carrier c) :
    s.takeHeld p t = s.hand (piecerAddr p) (.resume t) := by
  simp only [State.takeHeld, hcur, hst, hk]
  split
  · next hne => exact absurd rfl hne
  split
  · next hne => exact absurd rfl hne
  split
  · next c hc => exact absurd hc (h c)
  · rfl
  · rfl

theorem State.takeHeld_past_join {c : Nat} (h : (s.creel k).waiting = .carrier c)
    (hjoin : pastJoin (s.piecer p).stage = true) :
    s.takeHeld p t = (s.setCreel k { s.creel k with holdSent := false }).hand (piecerAddr p) (.resume t) := by
  simp [State.takeHeld, hcur, hst, hk, h, hjoin, State.holdRefused_of_carrier h]

theorem State.takeHeld_before_join {c : Nat} (h : (s.creel k).waiting = .carrier c)
    (hjoin : pastJoin (s.piecer p).stage = false) :
    s.takeHeld p t = (s.setPiecer p { s.piecer p with
      state := .held, attempt := (s.piecer p).attempt.pause }).carrierTakes c k (.piecer p) := by
  simp [State.takeHeld, hcur, hst, hk, h, hjoin]

omit hst in
theorem State.takeRefusedHold_of_current : s.takeRefusedHold p t = s.holdRefused k := by
  simp [State.takeRefusedHold, hcur, hk]

end

section
variable {c k : Nat} {w : Holder} {s : State} (hs : s.formed = true)
include hs

/-- A carrier that takes the lock works on (R116). -/
theorem State.carrierTakes_effect :
    (s.carrierTakes c k w).creel k = { s.creel k with lock := .carrier c, waiting := w, holdSent := false } ∧
    ((s.carrierTakes c k w).carrier c).state = .working ∧
    ((s.carrierTakes c k w).carrier c).change = (s.carrier c).change.runOn ∧
    (s.carrierTakes c k w).unit (carrierAddr c) = (s.hand (carrierAddr c) .change).unit (carrierAddr c) ∧
    (s.carrierTakes c k w).disp = s.disp := by
  simp (maxDischargeDepth := 40) [State.carrierTakes, State.setCarrier_formed_same, State.setCreel_formed_same,
    State.hand_unit_same, hs, apply_ite Carrier.state, apply_ite Carrier.change]

end

/-! ### The statement -/

/-- Settles O49. -/
theorem attemptsTimeOutAndHold : Obligations.AttemptsTimeOutAndHold := by
  unfold Obligations.AttemptsTimeOutAndHold
  refine ⟨fun s p d n t hs => ?_, fun s v r token d n hs h => ?_⟩
  · intro x f creel out u handed
    have hexec : exec (.attemptTimeout p) s = if s.expires x.attempt then .next u.conclude else .next s := rfl
    refine ⟨fun hno => ?_, fun hout => ?_, fun hcur hn hd => ?_⟩
    · rw [hexec, if_neg (mt State.expires_iff.mp hno)]
    · rw [hexec, if_pos (State.expires_iff.mpr hout)]
    · have hu : u = handed.endAttempt p (creelOfSpindle (sideFrame d) n) (x.timedOut t)
          fun w => w.claimFailed (sideFrame d) n p t .timeout x.stage :=
        State.attemptExpires_of_current hcur hn hd
      have hclaim := claimFailed_claimOn (sideFrame d) n p t x.stage .timeout
      have hhanded : handed.formed = true := State.hand_formed _ _ _ hs
      have hpiecer := State.endAttempt_piecer_same (p := p) (k := creelOfSpindle (sideFrame d) n)
        (x := x.timedOut t) hclaim hhanded
      have hlock := State.endAttempt_lock (p := p) (k := creelOfSpindle (sideFrame d) n)
        (x := x.timedOut t) hclaim hhanded
      have hwinding : handed.winding = s.winding := State.winding_of_fixed (State.hand_fixed ..)
      rw [← hu, hwinding] at hpiecer
      rw [← hu] at hlock
      obtain ⟨hcurrent, hvoid, hspindle, hattempt, hstate⟩ := hpiecer
      refine ⟨hcurrent, hvoid, hspindle, hattempt, hstate, fun hp hwaits => ?_, fun hpiecing => ?_, hlock,
        fun q hq => ?_, ?_, fun g m hkey => ?_⟩
      · have hunit := State.endAttempt_unit_same (p := p) (k := creelOfSpindle (sideFrame d) n)
          (x := x.timedOut t) hclaim hhanded fun c hc => by
            have hpos := hwaits c (State.hand_creel .. ▸ hc)
            unfold piecerAddr carrierAddr
            omega
        rw [← hu, hwinding] at hunit
        exact hunit
      · have hnew : u.spindle f n = _ := (congrArg (State.spindle · f n) hu).trans (State.endAttempt_spindle ..)
        generalize hw : (handed.setPiecer p (x.timedOut t)).piecerReleases
          p (creelOfSpindle (sideFrame d) n) = w at hnew
        have hwold : w.spindle f n = s.spindle f n := by
          rw [← hw]
          exact State.spindle_of_table (by simp [handed]) f n
        have hwf : w.formed = true := by simp [← hw, hhanded]
        have hwset : w.settings = s.settings := State.settings_of_plan (by simp [← hw, handed])
        have hfail := State.claimFailed_limit (p := p) (t := t) (stage := x.stage) (k := .timeout) hwf
          (by rwa [hwold])
        simp only [hwold, hwset] at hfail
        rw [hnew]
        exact hfail
      · rw [hu, State.endAttempt_piecer_other hclaim hq]
        exact State.hand_piecer ..
      · rw [hu, State.endAttempt_frames hclaim]
        exact State.hand_frames ..
      · rw [hu, State.endAttempt_spindle_other hclaim hkey]
        exact State.hand_spindle ..
  · intro p x k t u w
    have hx : t.piecer p = x := State.replyTaken_piecer ..
    have ht : t.formed = true := State.replyTaken_formed _ _ _ hs
    have hcreel : t.creel k = s.creel k := State.replyTaken_creel ..
    obtain ⟨huwatch, huframes⟩ : u.watch = t.watch ∧ u.frames = t.frames := State.takeHeld_keeps
    obtain ⟨hwwatch, hwframes⟩ : w.watch = t.watch ∧ w.frames = t.frames := State.takeRefusedHold_keeps
    refine ⟨exec_held_of_reports h, exec_refusedHold_of_reports h, by simp [huwatch, t], by simp [huframes, t],
      by simp [hwwatch, t], by simp [hwframes, t],
      fun hcur hst => State.takeHeld_not_attempting (hx ▸ hcur) (hx ▸ hst), fun hst hcur hn hd => ?_⟩
    have hk : (t.piecer p).attemptCreel = k := by
      rw [hx]
      simp only [Piecer.attemptCreel, hn, hd]
      rfl
    rw [← hx] at hst hcur
    refine ⟨fun c hc => ?_, fun hno => ?_⟩
    · have hc' : (t.creel k).waiting = .carrier c := hcreel ▸ hc
      have hw : w = _ := (State.takeRefusedHold_of_current hcur hk).trans (State.holdRefused_of_carrier hc')
      refine ⟨fun hjoin => ?_, fun hjoin => ?_, ?_, ?_, ?_⟩
      · have hu : u = _ := State.takeHeld_before_join hcur hst hk hc' (hx ▸ hjoin)
        have heffect := State.carrierTakes_effect (c := c) (k := k) (w := .piecer p)
          (State.setPiecer_formed p { x with state := .held, attempt := x.attempt.pause } t ht)
        rw [hx] at hu
        rw [← hu] at heffect
        obtain ⟨hcreel', hstate, hchange, hunit, hdisp⟩ := heffect
        refine ⟨?_, ?_, hstate, ?_, ?_⟩
        · rw [State.piecer_of_table (congrArg Dispatcher.piecers hdisp), State.setPiecer_formed_same _ _ _ ht]
          rfl
        · rw [hcreel', State.setPiecer_creel, hcreel]
        · rw [hchange, State.setPiecer_carrier, State.replyTaken_carrier]
          rfl
        · exact hunit.trans (State.hand_unit_congr .change ht (State.setPiecer_formed _ _ _ ht) (State.setPiecer_unit ..)
            (State.setPiecer_clock ..))
      · have hu : u = _ := State.takeHeld_past_join hcur hst hk hc' (hx ▸ hjoin)
        have hkf := State.setCreel_formed k { t.creel k with holdSent := false } t ht
        rw [hu]
        refine ⟨by simp [hx], ?_, ?_, by simp [t]⟩
        · rw [State.hand_creel, State.setCreel_formed_same _ _ _ ht, hcreel]
        · exact State.hand_unit_congr (.resume token) ht hkf (State.setCreel_unit ..) (State.setCreel_clock ..)
      · rw [hw, State.setCreel_formed_same _ _ _ ht, hcreel]
      · rw [hw, State.setCreel_piecer, hx]
      · simp [hw, t]
    · have hno' : ∀ c, (t.creel k).waiting ≠ .carrier c := hcreel ▸ hno
      exact ⟨State.takeHeld_no_carrier hcur hst hk hno',
        (State.takeRefusedHold_of_current hcur hk).trans (State.holdRefused_of_no_carrier hno')⟩

end Sys2Proof.Machine
end

section
/-! PROOFS. Journal entries stay where they are handed on while the event goes on (R178, R179). -/

namespace Sys2Proof.Machine

/-- The entry is in the write queue, or among the last `k` entries of the pending list. -/
def State.lately (s : State) (e : JournalEntry) (k : Nat) : Prop :=
  .journal e ∈ s.writer.queue ∨ e ∈ s.writer.pending.rtake k

theorem rtake_sublist_rtake {α : Type} (l : List α) {m k : Nat} (h : m ≤ k) : (l.rtake m).Sublist (l.rtake k) :=
  List.drop_sublist_drop_left l (Nat.sub_le_sub_left h _)

theorem State.lately_mono {s : State} {e : JournalEntry} {m k : Nat} (hmk : m ≤ k) (h : s.lately e m) : s.lately e k :=
  h.imp_right fun hmem => (rtake_sublist_rtake _ hmk).subset hmem

theorem State.journalled_of_lately {s : State} {k : JournalKind} {f u m : Nat} {l : List Word}
    (h : s.lately ⟨k, f, u, s.clock, l⟩ m) : s.journalled k f u l :=
  h.imp_right fun hmem => (List.drop_sublist _ _).subset hmem

theorem rtake_cons_of_le {α : Type} {a : α} {r : List α} {k : Nat} (h : k ≤ r.length) :
    (a :: r).rtake k = r.rtake k := by
  unfold List.rtake
  rw [List.length_cons, Nat.succ_sub h, List.drop_succ_cons]

/-- The oldest entries are dropped: the last 32 stand (R179). -/
theorem dropOldest_rtake {k : Nat} (hk : k ≤ 32) (n : Nat) (w : Writer) :
    (dropOldest n w).pending.rtake k = w.pending.rtake k := by
  induction n generalizing w with
  | zero => rfl
  | succ n ih =>
    unfold dropOldest
    split
    · rfl
    · next hfull =>
      split
      · rfl
      · next a r hcons =>
        simp only [hcons, Config.pendingListRoom, List.length_cons, not_le] at hfull
        rw [ih, hcons, rtake_cons_of_le (by omega)]

theorem dropOldest_queue (n : Nat) (w : Writer) : (dropOldest n w).queue = w.queue := by
  induction n generalizing w with
  | zero => rfl
  | succ n ih =>
    unfold dropOldest
    split
    · rfl
    · split
      · rfl
      · exact ih _

/-- An entry joins the pending list behind the last ones, of which none is dropped while there is room for them (R179).
-/
theorem State.pend_lately {s : State} {e d : JournalEntry} {m : Nat} (hm : m < 32) (h : s.lately e m) :
    (s.pend d).lately e (m + 1) := by
  refine h.imp (fun hmem => ?_) fun hmem => ?_
  · exact (dropOldest_queue 1 _).symm ▸ hmem
  unfold State.pend
  rw [dropOldest_rtake hm, List.rtake_concat_succ]
  exact List.mem_append_left _ hmem

theorem State.pend_lately_self (e : JournalEntry) (s : State) : (s.pend e).lately e 1 := by
  refine .inr ?_
  unfold State.pend
  rw [dropOldest_rtake (by decide), List.rtake_concat_succ]
  exact List.mem_append_right _ (List.mem_singleton_self e)

theorem State.enterJournal_lately {s : State} {e d : JournalEntry} {m : Nat} (hm : m < 32) (h : s.lately e m) :
    (s.enterJournal d).lately e (m + 1) := by
  unfold State.enterJournal
  split
  · exact State.lately_mono (Nat.le_succ m) (h.imp_left (List.mem_append_left _))
  · exact State.pend_lately hm h

theorem State.enterJournal_lately_self (e : JournalEntry) (s : State) : (s.enterJournal e).lately e 1 := by
  unfold State.enterJournal
  split
  · exact .inl (List.mem_append_right _ (List.mem_singleton_self _))
  · exact State.pend_lately_self e s

/-- While an event goes on the clock stands, an entry handed on stays, behind at most `k` more, and so does what is
queued to be written of answers. -/
structure State.Grows (k : Nat) (s t : State) : Prop where
  clock : t.clock = s.clock
  lately : ∀ {e m}, s.lately e m → m + k ≤ 32 → t.lately e (m + k)

namespace State.Grows

theorem refl (s : State) : Grows 0 s s := ⟨rfl, fun h _ => h⟩

theorem mono {s t : State} {j k : Nat} (h : Grows j s t) (hjk : j ≤ k) : Grows k s t :=
  ⟨h.clock, fun he hm => State.lately_mono (Nat.add_le_add_left hjk _) (h.lately he (by omega))⟩

theorem trans {s t u : State} {j k : Nat} (h : Grows j s t) (h' : Grows k t u) : Grows (j + k) s u :=
  ⟨h'.clock.trans h.clock, fun he hm => by
    have := h'.lately (h.lately he (by omega)) (by omega)
    rwa [← Nat.add_assoc]⟩

/-- Nothing generated, and nothing taken from the write queue. -/
theorem of_queue {s t : State} (hclock : t.clock = s.clock) (hpending : t.writer.pending = s.writer.pending)
    (hqueue : ∀ e, .journal e ∈ s.writer.queue → .journal e ∈ t.writer.queue) : Grows 0 s t :=
  ⟨hclock, fun he _ => he.imp (hqueue _) fun hmem => hpending ▸ hmem⟩

theorem markItem (i : WriteItem) (s : State) : Grows 0 s (s.markItem i) :=
  of_queue (by simp) (by simp) fun _ h => State.mem_markItem.mpr (.inl h)

end State.Grows

theorem State.journal_lately_self (k : JournalKind) (f u : Nat) (l : List Word) (s : State) :
    (s.journal k f u l).lately ⟨k, f, u, s.clock, l⟩ 1 := by
  unfold State.journal
  exact State.enterJournal_lately_self ..

/-- An entry generated stays while the event goes on. -/
theorem State.journalled_of_grows {k : JournalKind} {f u m : Nat} {l : List Word} {s t : State}
    (h : State.Grows m (s.journal k f u l) t) (hm : m < 32) : t.journalled k f u l := by
  have hclock : t.clock = s.clock := by simpa using h.clock
  refine State.journalled_of_lately (m := 1 + m) ?_
  rw [hclock]
  exact h.lately (State.journal_lately_self k f u l s) (by omega)

namespace State.Grows

theorem journal (k : JournalKind) (f u : Nat) (l : List Word) (s : State) : Grows 1 s (s.journal k f u l) :=
  ⟨by simp, fun he hm => by
    unfold State.journal
    refine State.enterJournal_lately (by omega) ?_
    split
    · exact he
    · exact he⟩

theorem setSpindle (f n : Nat) (x : Spindle) (s : State) : Grows 0 s (s.setSpindle f n x) :=
  of_queue (by simp) (by simp) fun _ h => State.mem_setSpindle.mpr (.inl h)

/-- A write of a record that marks one item of its mirror. -/
theorem of_markIf {b : Bool} {i : WriteItem} {s t u : State} (hu : u = t.markIf b i) (hclock : t.clock = s.clock)
    (hw : t.writer = s.writer) : Grows 0 s u :=
  hu ▸ of_queue (by simp [hclock]) (by simp [hw]) fun _ h => State.mem_markIf.mpr (.inl (hw ▸ h))

theorem setSide (d : Nat) (x : Side) (s : State) : Grows 0 s (s.setSide d x) := of_markIf rfl rfl rfl
theorem setPiecer (p : Nat) (x : Piecer) (s : State) : Grows 0 s (s.setPiecer p x) := of_markIf rfl rfl rfl
theorem setFrame (f : Nat) (x : Frame) (s : State) : Grows 0 s (s.setFrame f x) := of_markIf rfl rfl rfl
theorem setCreel (c : Nat) (x : Creel) (s : State) : Grows 0 s (s.setCreel c x) := of_markIf rfl rfl rfl
theorem setCarrier (c : Nat) (x : Carrier) (s : State) : Grows 0 s (s.setCarrier c x) := of_markIf rfl rfl rfl
theorem setUnit (a : Nat) (x : Unit) (s : State) : Grows 0 s (s.setUnit a x) := of_markIf rfl rfl rfl

/-- Nothing written at all. -/
theorem of_writer {s t : State} (hclock : t.clock = s.clock) (hw : t.writer = s.writer) : Grows 0 s t :=
  of_queue hclock (by rw [hw]) fun _ h => hw ▸ h

theorem raise (c : Cause) (s : State) : Grows 0 s (s.raise c) := of_writer rfl rfl
theorem setFeed (f : Nat) (x : Feed) (s : State) : Grows 0 s (s.setFeed f x) := of_writer rfl rfl
theorem setRoller (f : Nat) (x : Roller) (s : State) : Grows 0 s (s.setRoller f x) := of_writer rfl rfl
theorem oweArbiter (s : State) : Grows 0 s s.oweArbiter := of_writer rfl rfl
theorem oweRelist (d : Nat) (s : State) : Grows 0 s (s.oweRelist d) := of_writer rfl rfl

theorem alarm (f : Nat) (s : State) : Grows 0 s (s.alarm f) := (setFrame f _ s).trans (raise ..)

theorem count (f : Nat) (g : Counts → Counts) (s : State) : Grows 0 s (s.count f g) := by
  unfold State.count
  split
  · exact refl s
  · refine trans ?_ (markItem .openPage _)
    exact of_writer rfl rfl

theorem journalLost (a : Nat) (w : Word) (s : State) : Grows 1 s (s.journalLost a w) := journal ..

theorem loseUnit (a : Nat) (w : Word) (s : State) : Grows 1 s (s.loseUnit a w) := by
  unfold State.loseUnit
  dsimp only
  refine trans ?_ (raise ..)
  refine trans (j := 0) ?_ (journalLost ..)
  refine trans (k := 0) (setUnit a ((s.unit a).lostAt s.clock) s) ?_
  exact of_writer rfl rfl

theorem hand (a : Nat) (c : Cmd) (s : State) : Grows 1 s (s.hand a c) := by
  unfold State.hand
  dsimp only
  split
  · exact (refl s).mono (Nat.zero_le 1)
  split
  · exact (refl s).mono (Nat.zero_le 1)
  split
  · exact (setUnit a _ s).trans (loseUnit ..)
  · exact (setUnit a _ s).mono (Nat.zero_le 1)

theorem finish (c : Nat) (r : Option Reason) (l : List Word) (s : State) : Grows 0 s (s.finish c r l) :=
  of_queue (by simp) (by simp) fun _ h => State.mem_finish_of_mem (by simp) h

theorem each {α : Type} {g : α → State → State} (hg : ∀ x t, Grows 0 t (g x t)) (l : List α) (s : State) :
    Grows 0 s (s.each l g) := by
  induction l generalizing s with
  | nil => exact refl s
  | cons x r ih => exact (hg x s).trans (ih (g x s))

theorem finishBook (sel : BookEntry → Bool) (r : Option Reason) (l : List Word) (s : State) :
    Grows 0 s (s.finishBook sel r l) := each (fun _ _ => finish ..) _ s

theorem ite {k : Nat} {c : Prop} [Decidable c] {s t u : State} (ht : Grows k s t) (hu : Grows k s u) :
    Grows k s (if c then t else u) := by
  split
  · exact ht
  · exact hu

end State.Grows

end Sys2Proof.Machine
end

section
/-! PROOFS. Reports of piecers from a side and from the bay (R42, R71, R73), and the return of a lost piecer (R78). -/

namespace Sys2Proof.Machine

/-! ### To a side (R70) -/

section
variable (p d : Nat) (r : MoveReason) (s : State)

@[simp] theorem State.sendToSide_watch : (s.sendToSide p d r).watch = s.watch := by
  simp [State.sendToSide, State.journalMove]
@[simp] theorem State.sendToSide_frames : (s.sendToSide p d r).frames = s.frames := by
  simp [State.sendToSide, State.journalMove]
@[simp] theorem State.sendToSide_roving : (s.sendToSide p d r).roving = s.roving := by
  simp [State.sendToSide, State.journalMove]

theorem State.sendToSide_piecer_other {q : Nat} (h : q ≠ p) : (s.sendToSide p d r).piecer q = s.piecer q := by
  simp [State.sendToSide, State.journalMove, State.setPiecer_other, h]

theorem State.unserve_formed_side {s : State} (hs : s.formed = true) (q e : Nat) :
    ((s.unserve q).setSide e { (s.unserve q).side e with piecer := some p }).formed = true :=
  State.setSide_formed _ _ _ (State.unserve_formed _ _ hs) (State.side_room (State.unserve_formed _ _ hs) _)

theorem State.sendToSide_piecer_same {s : State} (hs : s.formed = true) : (s.sendToSide p d r).piecer p =
    { s.piecer p with
      state := .moving, side := some d, atBay := false, atFrameEnd := false, returned := false
      travel := Timer.load (1000 * s.settings.travelTimeout) } := by
  have hside := State.unserve_formed_side p hs p d
  simp (maxDischargeDepth := 40) [State.sendToSide, State.journalMove, State.setPiecer_formed_same, hside,
    State.settings]

theorem State.sendToSide_side {s : State} (hs : s.formed = true) : ((s.sendToSide p d r).side d).piecer = some p := by
  simp (maxDischargeDepth := 40) [State.sendToSide, State.journalMove, State.setSide_formed_same, hs]

end

/-! ### Arrival (R71) -/

theorem State.placed_eq (d pos : Nat) (x : Piecer) (s : State) : s.placed d pos x =
    { x with position := (s.placed d pos x).position, descending := (s.placed d pos x).descending } := by
  unfold State.placed
  dsimp only
  split <;> rfl

/-- A position on the side is taken with the direction of its half; another gives the side's first (R71). -/
theorem State.placed_position {d pos : Nat} (x : Piecer) (s : State) (hlo : 1 ≤ pos) (hhi : pos ≤ 1824) :
    let onIt := if d % 2 = 0 then 913 ≤ pos else pos ≤ 912
    let first := if d % 2 = 0 then 913 else 1
    let half := (s.frameSettings ((d + 1) / 2)).perSide / 2
    (onIt → (s.placed d pos x).position = some pos ∧ ((s.placed d pos x).descending = false ↔ pos < first + half)) ∧
    (¬onIt → (s.placed d pos x).position = some first ∧ (s.placed d pos x).descending = false) := by
  intro onIt first half
  have hside : (onSideSpindle d pos = true) = onIt := onSideSpindle_eq hlo hhi
  have hfirst : sideFirst d = first := by
    unfold sideFirst sideIsB first
    split <;> simp_all
  refine ⟨fun hon => ?_, fun hoff => ?_⟩
  · rw [← hside] at hon
    simp [State.placed, hon, hfirst, half, sideFrame]
  · rw [← hside] at hoff
    simp [State.placed, hoff, hfirst]

theorem State.placed_congr {s t : State} (h : t.plan = s.plan) (d pos : Nat) (x : Piecer) :
    t.placed d pos x = s.placed d pos x := by
  unfold State.placed
  rw [State.frameSettings_of_plan h]

section
variable (p d pos : Nat) (s : State)

@[simp] theorem State.arrive_watch : (s.arrive p d pos).watch = s.watch := by
  unfold State.arrive; dsimp only; split <;> simp
@[simp] theorem State.arrive_frames : (s.arrive p d pos).frames = s.frames := by
  unfold State.arrive; dsimp only; split <;> simp
@[simp] theorem State.arrive_roving : (s.arrive p d pos).roving = s.roving := by
  unfold State.arrive; dsimp only; split <;> simp

theorem State.arrive_piecer_other {q : Nat} (h : q ≠ p) : (s.arrive p d pos).piecer q = s.piecer q := by
  unfold State.arrive
  dsimp only
  split <;> simp [State.sendToBay_piecer_other, State.setPiecer_other, h]

variable {s} (hs : s.formed = true)
include hs

theorem State.arrive_piecer_same (hpark : (s.piecer p).parkOwed = false) : (s.arrive p d pos).piecer p =
    { s.placed d pos (s.piecer p) with state := .onSide, travel := Timer.off } := by
  have hplaced : (s.placed d pos (s.piecer p)).parkOwed = false := by rw [State.placed_eq]; exact hpark
  simp [State.arrive, hplaced, State.setPiecer_formed_same, hs]

theorem State.arrive_piecer_park (hpark : (s.piecer p).parkOwed = true) :
    ((s.arrive p d pos).piecer p).state = .parked ∧ ((s.arrive p d pos).piecer p).placement = .park := by
  have hplaced : (s.placed d pos (s.piecer p)).parkOwed = true := by rw [State.placed_eq]; exact hpark
  simp [State.arrive, hplaced, State.sendToBay_piecer_same, hs]

end

/-! ### The return of a lost piecer (R78) -/

section
variable (p : Nat) (s : State)

@[simp] theorem State.markReturned_watch : (s.markReturned p).watch = s.watch := by
  unfold State.markReturned; dsimp only; split <;> simp
@[simp] theorem State.markReturned_frames : (s.markReturned p).frames = s.frames := by
  unfold State.markReturned; dsimp only; split <;> simp
@[simp] theorem State.markReturned_roving : (s.markReturned p).roving = s.roving := by
  unfold State.markReturned; dsimp only; split <;> simp
@[simp] theorem State.markReturned_plan : (s.markReturned p).plan = s.plan := by
  unfold State.markReturned; dsimp only; split <;> simp
@[simp] theorem State.markReturned_sides : (s.markReturned p).disp.sides = s.disp.sides := by
  unfold State.markReturned; dsimp only; split <;> simp

theorem State.markReturned_piecer_other {q : Nat} (h : q ≠ p) : (s.markReturned p).piecer q = s.piecer q := by
  unfold State.markReturned
  dsimp only
  split <;> simp [State.setPiecer_other, h]

theorem State.markReturned_piecer_same {s : State} (hs : s.formed = true) :
    (s.markReturned p).piecer p = { s.piecer p with returned := true } := by
  unfold State.markReturned
  dsimp only
  split <;> simp [State.setPiecer_formed_same, hs]

theorem State.markReturned_unit_same {s : State} (hs : s.formed = true) {t : Token} (h : (s.piecer p).void = some t) :
    (s.markReturned p).unit (piecerAddr p) = (s.hand (piecerAddr p) (.abandon t)).unit (piecerAddr p) := by
  simp only [State.markReturned, h]
  exact State.hand_unit_congr _ hs (State.setPiecer_formed _ _ _ hs) (by simp) (by simp)

/-- A return told by a report, of a piecer not lost by its link and not back before. -/
theorem State.returnByReport_of_new (hret : (s.piecer p).returned = false) (hlink : (s.piecer p).byLink = false) :
    s.returnByReport p = (s.markReturned p).journalBack (piecerAddr p) (s.piecer p).lostStamp := by
  simp [State.returnByReport, hret, hlink]

theorem State.returnByReport_of_returned (hret : (s.piecer p).returned = true) : s.returnByReport p = s := by
  simp [State.returnByReport, hret]

@[simp] theorem State.returnByReport_watch : (s.returnByReport p).watch = s.watch := by
  unfold State.returnByReport State.journalBack; dsimp only; split <;> simp
@[simp] theorem State.returnByReport_frames : (s.returnByReport p).frames = s.frames := by
  unfold State.returnByReport State.journalBack; dsimp only; split <;> simp
@[simp] theorem State.returnByReport_roving : (s.returnByReport p).roving = s.roving := by
  unfold State.returnByReport State.journalBack; dsimp only; split <;> simp
@[simp] theorem State.returnByReport_plan : (s.returnByReport p).plan = s.plan := by
  unfold State.returnByReport State.journalBack; dsimp only; split <;> simp
@[simp] theorem State.returnByReport_sides : (s.returnByReport p).disp.sides = s.disp.sides := by
  unfold State.returnByReport State.journalBack; dsimp only; split <;> simp

theorem State.returnByReport_piecer_other {q : Nat} (h : q ≠ p) : (s.returnByReport p).piecer q = s.piecer q := by
  unfold State.returnByReport State.journalBack
  dsimp only
  split <;> simp [State.markReturned_piecer_other, h]

theorem State.returnByReport_piecer_same {s : State} (hs : s.formed = true)
    (h : (s.piecer p).returned = true ∨ (s.piecer p).byLink = false) :
    (s.returnByReport p).piecer p = { s.piecer p with returned := true } := by
  cases hret : (s.piecer p).returned
  case true => rw [State.returnByReport_of_returned p s hret, ← hret]
  case false =>
    rw [State.returnByReport_of_new p s hret (h.resolve_left (by simp [hret])), State.journalBack]
    simp [State.markReturned_piecer_same, hs]

end

section
variable (p d pos : Nat) (s : State)

@[simp] theorem State.placeReturned_watch : (s.placeReturned p d pos).watch = s.watch := by
  unfold State.placeReturned; dsimp only; (repeat' split) <;> simp
@[simp] theorem State.placeReturned_frames : (s.placeReturned p d pos).frames = s.frames := by
  unfold State.placeReturned; dsimp only; (repeat' split) <;> simp
@[simp] theorem State.placeReturned_roving : (s.placeReturned p d pos).roving = s.roving := by
  unfold State.placeReturned; dsimp only; (repeat' split) <;> simp

theorem State.placeReturned_piecer_other {q : Nat} (h : q ≠ p) : (s.placeReturned p d pos).piecer q = s.piecer q := by
  unfold State.placeReturned
  dsimp only
  (repeat' split) <;>
    simp [State.sendToBay_piecer_other, State.sendToSide_piecer_other, State.setPiecer_other, h]

/-- What the two reports leave alone, whatever the piecer's state. -/
theorem State.takeAtSide_keeps : (s.takeAtSide p d pos).watch = s.watch ∧ (s.takeAtSide p d pos).roving = s.roving ∧
    (s.takeAtSide p d pos).frames = s.frames ∧ ∀ q, q ≠ p → (s.takeAtSide p d pos).piecer q = s.piecer q := by
  unfold State.takeAtSide
  dsimp only
  (repeat' split) <;> simp +contextual [State.arrive_piecer_other, State.setPiecer_other,
    State.placeReturned_piecer_other, State.returnByReport_piecer_other]

theorem State.takeParked_keeps : (s.takeParked p).watch = s.watch ∧ (s.takeParked p).roving = s.roving ∧
    (s.takeParked p).frames = s.frames ∧ ∀ q, q ≠ p → (s.takeParked p).piecer q = s.piecer q := by
  unfold State.takeParked
  dsimp only
  (repeat' split) <;> simp +contextual [State.setPiecer_other, State.returnByReport_piecer_other]

end

/-! ### The reports by the piecer's state -/

section
variable {s : State} {v : Visit} {r : Reply} (h : s.reports v r .piecer)
include h

theorem exec_atSide_of_reports {d pos : Nat} (hd : 1 ≤ d) (hd' : d ≤ 16) (hlo : 1 ≤ pos) (hhi : pos ≤ 1824) :
    exec (.atSide r d pos) s = .next ((s.replyTaken v r).takeAtSide (v.addr - 8) d pos).conclude :=
  have hrange : (Report.atSide d pos).inRange = true := by simp [Report.inRange, within, hd, hd', hlo, hhi]
  State.reports_unitNumber h ▸ congrArg Host.Outcome.next (State.reportEvent_of_reports h rfl hrange)

theorem exec_parked_of_reports :
    exec (.parked r) s = .next ((s.replyTaken v r).takeParked (v.addr - 8)).conclude :=
  State.reports_unitNumber h ▸ congrArg Host.Outcome.next (State.reportEvent_of_reports h rfl rfl)

theorem exec_fault_of_reports :
    exec (.fault r) s = .next ((s.replyTaken v r).losePiecer (v.addr - 8) lostByFault).conclude :=
  State.reports_unitNumber h ▸ congrArg Host.Outcome.next (State.reportEvent_of_reports h rfl rfl)

end

section
variable {p d pos : Nat} {s : State}

theorem State.takeAtSide_moving (hst : (s.piecer p).state = .moving) (hd : (s.piecer p).side = some d) :
    s.takeAtSide p d pos = s.arrive p d pos := by
  simp [State.takeAtSide, hst, hd]

theorem State.takeAtSide_onSide (hst : (s.piecer p).state = .onSide ∨ (s.piecer p).state = .attempting ∨
    (s.piecer p).state = .held) (hd : (s.piecer p).side = some d) (hon : onSideSpindle d pos = true) :
    s.takeAtSide p d pos = s.setPiecer p { s.piecer p with position := some pos } := by
  obtain hst | hst | hst := hst <;> simp [State.takeAtSide, hst, hd, hon]

theorem State.takeAtSide_still (h : (s.piecer p).state = .absent ∨ (s.piecer p).state = .parked ∨
    ((s.piecer p).state ≠ .lost ∧ (s.piecer p).side ≠ some d)) : s.takeAtSide p d pos = s := by
  obtain hst | hst | ⟨hst, hd⟩ := h
  · simp [State.takeAtSide, hst]
  · simp [State.takeAtSide, hst]
  · cases hstate : (s.piecer p).state
    case lost => exact absurd hstate hst
    all_goals simp [State.takeAtSide, hstate, hd]

theorem State.takeParked_arrives (hs : s.formed = true) (hst : (s.piecer p).state = .parked)
    (hbay : (s.piecer p).atBay = false) :
    (s.takeParked p).piecer p = { s.piecer p with atBay := true, travel := Timer.off } := by
  simp [State.takeParked, hst, hbay, State.setPiecer_formed_same, hs]

theorem State.takeParked_at_bay (hst : (s.piecer p).state = .parked) (hbay : (s.piecer p).atBay = true) :
    s.takeParked p = s := by
  simp [State.takeParked, hst, hbay]

theorem State.takeParked_still (h : (s.piecer p).state ≠ .parked) (h' : (s.piecer p).state ≠ .lost) :
    s.takeParked p = s := by
  cases hstate : (s.piecer p).state
  case parked => exact absurd hstate h
  case lost => exact absurd hstate h'
  all_goals simp [State.takeParked, hstate]

end

/-- Settles O57: a report comes to its piecer, whose record the acknowledgement left alone; then by the piecer's state.
-/
theorem piecersArrive : Obligations.PiecersArrive := by
  unfold Obligations.PiecersArrive
  intro s v r d pos hs h hd hd' hlo hhi p x t u y w onIt first half
  have hx : t.piecer p = x := State.replyTaken_piecer ..
  have ht : t.formed = true := State.replyTaken_formed _ _ _ hs
  obtain ⟨huwatch, huroving, huframes, huothers⟩ := State.takeAtSide_keeps p d pos t
  obtain ⟨hwwatch, hwroving, hwframes, hwothers⟩ := State.takeParked_keeps p t
  refine ⟨exec_atSide_of_reports h hd hd' hlo hhi, fun hst hside hpark => ?_, fun hst hside hpark => ?_,
    fun hst hside hon => ?_, fun hst => State.takeAtSide_still (hx ▸ hst), exec_parked_of_reports h,
    fun hst hbay => hx ▸ State.takeParked_arrives ht (hx ▸ hst) (hx ▸ hbay),
    fun hst hbay => State.takeParked_at_bay (hx ▸ hst) (hx ▸ hbay), fun hst => ?_,
    ⟨huwatch.trans (by simp [t]), huroving.trans (by simp [t]), huframes.trans (by simp [t])⟩,
    hwwatch.trans (by simp [t]), hwroving.trans (by simp [t]), hwframes.trans (by simp [t]),
    fun q hq => ⟨(hwothers q hq).trans (by simp [t]), (huothers q hq).trans (by simp [t])⟩⟩
  · have hy : y = { t.placed d pos x with state := .onSide, travel := Timer.off } := by
      rw [← hx, ← State.arrive_piecer_same p d pos ht (hx ▸ hpark), ← State.takeAtSide_moving (hx ▸ hst) (hx ▸ hside)]
    rw [hy, State.placed_congr (State.replyTaken_plan v r s)]
    obtain ⟨hplaced, hfirst⟩ := State.placed_position x s hlo hhi (d := d)
    refine ⟨rfl, ?_, rfl, hplaced, hfirst⟩
    rw [State.placed_eq]
    exact hside
  · have hy := State.arrive_piecer_park p d pos ht (hx ▸ hpark)
    rw [← State.takeAtSide_moving (hx ▸ hst) (hx ▸ hside)] at hy
    exact hy
  · have hu : u = t.setPiecer p { x with position := some pos } :=
      hx ▸ State.takeAtSide_onSide (hx ▸ hst) (hx ▸ hside) ((onSideSpindle_eq hlo hhi).symm ▸ hon)
    exact (congrArg (State.piecer · p) hu).trans (State.setPiecer_formed_same _ _ _ ht)
  · refine State.takeParked_still ?_ ?_ <;> rw [hx] <;> obtain hst | hst | hst | hst | hst := hst <;> simp [hst]

end Sys2Proof.Machine
end

section
/-! PROOFS. The loss of a piecer (R72, R77), and its placing after a return (R78). -/

namespace Sys2Proof.Machine

/-! ### The attempt of a piecer that is lost (R54) -/

/-- The attempt off a piecer's record by the part's own decision, its token void. -/
def Piecer.voided (t : Token) (x : Piecer) : Piecer :=
  { x with current := none, void := some t, attempt := Timer.off, spindle := none, stage := none }

section
variable {p n d : Nat} {t : Token} (s : State)

/-- The piecer's claim on the section lock is withdrawn, or the lock released (R54). -/
def State.leaveLock (p k : Nat) (s : State) : State :=
  if (s.creel k).waiting = .piecer p then s.setCreel k { s.creel k with waiting := .none } else s.piecerReleases p k

theorem State.voidAttempt_of_attempt (hcur : (s.piecer p).current = some t) (hn : (s.piecer p).spindle = some n)
    (hd : (s.piecer p).side = some d) (send : Bool) : s.voidAttempt p send =
      (((if send then s.hand (piecerAddr p) (.abandon t) else s).setPiecer p ((s.piecer p).voided t)).leaveLock p
        (creelOfSpindle (sideFrame d) n)).claimAbandoned (sideFrame d) n := by
  simp only [State.voidAttempt, hcur, hn, hd, State.leaveLock, Piecer.voided]

theorem State.voidAttempt_of_none (h : (s.piecer p).current = none ∨ (s.piecer p).spindle = none ∨
    (s.piecer p).side = none) (send : Bool) : s.voidAttempt p send = s := by
  unfold State.voidAttempt
  dsimp only
  split
  · next hcur hn hd => simp_all
  · rfl

end

section
variable (p k : Nat) (s : State)

@[simp] theorem State.leaveLock_piecer (q : Nat) : (s.leaveLock p k).piecer q = s.piecer q := by
  unfold State.leaveLock
  split <;> simp

@[simp] theorem State.leaveLock_watch : (s.leaveLock p k).watch = s.watch := by
  unfold State.leaveLock
  split <;> simp

@[simp] theorem State.leaveLock_formed (h : s.formed = true) : (s.leaveLock p k).formed = true := by
  unfold State.leaveLock
  split <;> simp [h]

@[simp] theorem State.claimAbandoned_piecer (f n q : Nat) : (s.claimAbandoned f n).piecer q = s.piecer q := by
  simp [State.piecer]

variable (send : Bool)

@[simp] theorem State.voidAttempt_frames : (s.voidAttempt p send).frames = s.frames := by
  unfold State.voidAttempt
  dsimp only
  (repeat' split) <;> simp

@[simp] theorem State.voidAttempt_plan : (s.voidAttempt p send).plan = s.plan := by
  unfold State.voidAttempt
  dsimp only
  (repeat' split) <;> simp

@[simp] theorem State.voidAttempt_frame (f : Nat) : (s.voidAttempt p send).frame f = s.frame f := by
  simp [State.frame]

theorem State.voidAttempt_piecer_other {q : Nat} (h : q ≠ p) : (s.voidAttempt p send).piecer q = s.piecer q := by
  unfold State.voidAttempt
  dsimp only
  (repeat' split) <;> simp [State.setPiecer_other, h]

variable {s} (hs : s.formed = true)
include hs

theorem State.voidAttempt_piecer_same : (s.voidAttempt p send).piecer p =
    match (s.piecer p).current, (s.piecer p).spindle, (s.piecer p).side with
    | some t, some _, some _ => (s.piecer p).voided t
    | _, _, _ => s.piecer p := by
  split
  · next t n d hcur hn hd =>
    rw [State.voidAttempt_of_attempt s hcur hn hd]
    cases send <;> simp [State.setPiecer_formed_same, hs]
  · next hno =>
    rw [State.voidAttempt_of_none]
    by_contra hall
    simp only [not_or, Option.ne_none_iff_exists'] at hall
    obtain ⟨⟨t, ht⟩, ⟨n, hn⟩, d, hd⟩ := hall
    exact hno t n d ht hn hd

end

/-! ### The loss (R77) -/

section
variable (p : Nat) (byLink : Bool) (cause : Word) (s : State)

/-- The record of a piecer that is lost at a time (R77). -/
def Piecer.lostAt (byLink : Bool) (clock : Word) (x : Piecer) : Piecer :=
  { x with
    state := .lost, side := none, travel := Timer.off, parkOwed := false, atFrameEnd := false, atBay := false
    placement := .pool, returned := false, byLink := byLink, lostStamp := clock
    current := none, spindle := none, stage := none, attempt := Timer.off }

theorem State.piecerLost_piecer_other {q : Nat} (h : q ≠ p) : (s.piecerLost p byLink).piecer q = s.piecer q := by
  unfold State.piecerLost
  dsimp only
  split <;> simp [State.setPiecer_other, State.voidAttempt_piecer_other, h]

theorem State.piecerLost_frame_unit {s : State} (hs : s.formed = true) {d : Nat} (hd : (s.piecer p).side = some d) :
    ((s.piecerLost p byLink).frame (sideFrame d)).unit = true := by
  simp (maxDischargeDepth := 40) [State.piecerLost, hd, State.unitAlarm_frame_same, hs]

theorem State.piecerLost_att : (s.piecerLost p byLink).regs.att &&& 16#32 = 16#32 := by
  unfold State.piecerLost
  dsimp only
  split <;> simp [State.unitAlarm_att, State.raise_att, Cause.bit, or_and_self_right]

variable {s} (hs : s.formed = true)
include hs

theorem State.piecerLost_piecer_same : (s.piecerLost p byLink).piecer p =
    ((s.voidAttempt p false).piecer p).lostAt byLink s.clock := by
  have hclock : (s.voidAttempt p false).clock = s.clock := State.clock_of_fixed (State.voidAttempt_fixed ..)
  unfold State.piecerLost
  dsimp only
  split <;> simp (maxDischargeDepth := 40) [State.setPiecer_formed_same, Piecer.lostAt, hs, hclock]

theorem State.voidAttempt_side (send : Bool) : ((s.voidAttempt p send).piecer p).side = (s.piecer p).side := by
  rw [State.voidAttempt_piecer_same p send hs]
  split <;> rfl

theorem State.voidAttempt_position (send : Bool) : ((s.voidAttempt p send).piecer p).position = (s.piecer p).position ∧
    ((s.voidAttempt p send).piecer p).descending = (s.piecer p).descending := by
  rw [State.voidAttempt_piecer_same p send hs]
  split <;> exact ⟨rfl, rfl⟩

theorem State.voidAttempt_void (send : Bool) (hcur : (s.piecer p).current ≠ none) (hn : (s.piecer p).spindle ≠ none)
    (hd : (s.piecer p).side ≠ none) : ((s.voidAttempt p send).piecer p).void = (s.piecer p).current := by
  rw [State.voidAttempt_piecer_same p send hs]
  split
  · next hcur' _ _ => exact hcur'.symm
  · next hno =>
    obtain ⟨t, ht⟩ := Option.ne_none_iff_exists'.mp hcur
    obtain ⟨n, hn⟩ := Option.ne_none_iff_exists'.mp hn
    obtain ⟨d, hd⟩ := Option.ne_none_iff_exists'.mp hd
    exact absurd hd (hno t n d ht hn)

theorem State.unserve_side_same {d : Nat} (hd : (s.piecer p).side = some d) : ((s.unserve p).side d).piecer = none := by
  simp [State.unserve, hd, State.setSide_formed_same, hs]

theorem State.piecerLost_side {d : Nat} (hd : (s.piecer p).side = some d) :
    ((s.piecerLost p byLink).side d).piecer = none := by
  have hgone := State.unserve_side_same p (State.voidAttempt_formed p false s hs)
    ((State.voidAttempt_side p hs false).trans hd)
  simpa [State.piecerLost, hd] using hgone

end

/-! ### The Dispatcher's own losses (R72, R77) -/

section
variable {p : Nat} {cause : Word} {s : State}

theorem Piecer.losable_iff {x : Piecer} : x.losable = true ↔ x.state ≠ .absent ∧ x.state ≠ .lost := by
  simp [Piecer.losable]

theorem State.losePiecer_of_losable (h : (s.piecer p).losable = true) : s.losePiecer p cause =
    ((s.piecerLost p false).emptyQueue (piecerAddr p)).journalLost (piecerAddr p) cause := if_pos h

theorem State.losePiecer_of_not_losable (h : ¬(s.piecer p).losable = true) : s.losePiecer p cause = s := if_neg h

end

/-! ### The placing of a returned piecer (R78) -/

theorem State.not_winding_of_working {s : State} (h : s.working = true) : s.winding = false := by
  unfold State.working State.winding at *
  cases hp : s.regs.part <;> simp_all

/-- The lending rule turns on the sides and the plan (R68). -/
theorem State.lendTarget_congr {s t : State} (hside : t.disp.sides = s.disp.sides) (hplan : t.plan = s.plan)
    (l : List Nat) : t.lendTarget l = s.lendTarget l := by
  induction l with
  | nil => rfl
  | cons d r ih =>
    simp only [State.lendTarget, ih, State.side_of_table hside, State.settings_of_plan hplan, State.oldestOf]
    rfl

section
variable {p d pos : Nat} {s : State}

theorem State.placeReturned_winding (h : s.winding = true) :
    s.placeReturned p d pos = s.sendToBay p .pool (some .back) := by
  simp [State.placeReturned, h]

theorem State.placeReturned_free (h : s.winding = false)
    (hfree : (s.frame (sideFrame d)).state ≠ .out ∧ (s.side d).piecer = none) : s.placeReturned p d pos =
      let t := s.setPiecer p { s.placed d pos (s.piecer p) with
        state := .onSide, side := some d, travel := Timer.off, returned := false, atFrameEnd := false }
      (t.setSide d { t.side d with piecer := some p }).oweArbiter := by
  simp only [State.placeReturned, h, if_pos hfree]
  rfl

variable (hwork : s.working = true)
  (hfree : ¬((s.frame (sideFrame d)).state ≠ .out ∧ (s.side d).piecer = none))
include hwork hfree

theorem State.placeReturned_home {h : Nat} (hhome : s.homeRule (s.piecer p) true = some h) :
    s.placeReturned p d pos = (s.sendToSide p h .home).oweArbiter := by
  simp only [State.placeReturned, State.not_winding_of_working hwork, if_neg hfree, hwork, if_true, hhome]
  rfl

theorem State.placeReturned_lend {e : Nat} (hhome : s.homeRule (s.piecer p) true = none)
    (hlend : s.lendTarget allSides = some e) :
    s.placeReturned p d pos = (s.sendToSide p e (lendReason (s.piecer p) e)).oweArbiter := by
  simp only [State.placeReturned, State.not_winding_of_working hwork, if_neg hfree, hwork, if_true, hhome, hlend]
  rfl

theorem State.placeReturned_bay (hhome : s.homeRule (s.piecer p) true = none)
    (hlend : s.lendTarget allSides = none) :
    s.placeReturned p d pos = s.sendToBay p .pool (some .back) := by
  simp only [State.placeReturned, State.not_winding_of_working hwork, if_neg hfree, hwork, if_true, hhome, hlend]
  rfl

end

/-- A piecer that stands as in the bay goes home when its home side is unserved and its frame in a piecing state (R67).
-/
theorem State.homeRule_eq_some {s : State} {x : Piecer} {h : Nat} : s.homeRule x true = some h ↔
    x.home = some h ∧ (s.side h).piecer = none ∧ ((s.frame (sideFrame h)).state = .building ∨
      (s.frame (sideFrame h)).state = .nearing ∨ (s.frame (sideFrame h)).state = .called) := by
  have hpiecing (st : FrameState) : (st = .building ∨ st = .nearing ∨ st = .called) ↔ st.piecing = true := by
    cases st <;> simp [FrameState.piecing]
  rw [hpiecing]
  cases hx : x.home with
  | none => simp [State.homeRule, hx]
  | some e =>
    cases hside : (s.side e).piecer <;> cases hst : (s.frame (sideFrame e)).state.piecing <;>
      simp only [State.homeRule, hx, hside, hst, Option.isSome_some, Option.isSome_none, if_true, Option.some.injEq] <;>
      grind

/-! ### What the placing adds to the journal -/

section
variable (p d pos : Nat) (s : State)

theorem State.Grows.unserve : Grows 0 s (s.unserve p) := by
  unfold State.unserve
  split
  · exact (Grows.setSide ..).trans (Grows.oweArbiter _)
  · exact Grows.refl s

theorem State.Grows.sendToBay (pl : Placement) (r : Option MoveReason) : Grows 2 s (s.sendToBay p pl r) :=
  ((((Grows.unserve p s).trans (Grows.hand ..)).trans (Grows.setPiecer ..)).trans (Grows.journal ..)).trans
    (Grows.oweArbiter _)

theorem State.Grows.sendToSide (r : MoveReason) : Grows 2 s (s.sendToSide p d r) :=
  ((((Grows.unserve p s).trans (Grows.setSide ..)).trans (Grows.setPiecer ..)).trans (Grows.hand ..)).trans
    (Grows.journal ..)

theorem State.Grows.placeReturned : Grows 2 s (s.placeReturned p d pos) := by
  unfold State.placeReturned
  dsimp only
  split
  · exact Grows.sendToBay ..
  split
  · exact (((Grows.setPiecer ..).trans (Grows.setSide ..)).trans (Grows.oweArbiter _)).mono (Nat.zero_le 2)
  split
  · exact (Grows.sendToSide ..).trans (Grows.oweArbiter _)
  split
  · exact (Grows.sendToSide ..).trans (Grows.oweArbiter _)
  · exact Grows.sendToBay ..

end

/-! ### A lost piecer's reports -/

theorem unitKind_piecerAddr {p : Nat} (h : 1 ≤ p) (h' : p ≤ 8) : unitKind (piecerAddr p) = .piecer := by
  unfold unitKind piecerAddr
  rw [if_neg (by omega), if_pos (by omega)]

theorem unitNumber_piecerAddr {p : Nat} (h : 1 ≤ p) (h' : p ≤ 8) : unitNumber (piecerAddr p) = p := by
  unfold unitNumber piecerAddr
  rw [if_neg (by omega), if_pos (by omega)]
  omega

section
variable {p d pos : Nat} {s : State} (hst : (s.piecer p).state = .lost)
include hst

theorem State.takeAtSide_lost (h : (s.piecer p).returned = true ∨ (s.piecer p).byLink = false) :
    s.takeAtSide p d pos = (s.returnByReport p).placeReturned p d pos := by
  have hcond : ((s.piecer p).returned || !(s.piecer p).byLink) = true := by simpa using h
  simp only [State.takeAtSide, hst, hcond, if_true]

theorem State.takeAtSide_awaiting_link (hret : (s.piecer p).returned = false) (hlink : (s.piecer p).byLink = true) :
    s.takeAtSide p d pos = s := by
  simp [State.takeAtSide, hst, hret, hlink]

theorem State.takeParked_lost (h : (s.piecer p).returned = true ∨ (s.piecer p).byLink = false) :
    s.takeParked p = ((s.returnByReport p).setPiecer p { (s.returnByReport p).piecer p with
      state := .parked, atBay := true, placement := .pool, returned := false, travel := Timer.off }).oweArbiter := by
  have hcond : ((s.piecer p).returned || !(s.piecer p).byLink) = true := by simpa using h
  simp only [State.takeParked, hst, hcond, if_true]

theorem State.takeParked_awaiting_link (hret : (s.piecer p).returned = false) (hlink : (s.piecer p).byLink = true) :
    s.takeParked p = s := by
  simp [State.takeParked, hst, hret, hlink]

end

/-- The return told by a report is journalled, and stays so (R78). -/
theorem State.returnByReport_journalled {p m : Nat} {s t : State} (hret : (s.piecer p).returned = false)
    (hlink : (s.piecer p).byLink = false) (hgrows : State.Grows m (s.returnByReport p) t) (hm : m < 32) :
    t.journalled .unitBack 0 (piecerAddr p)
      [(unitKind (piecerAddr p)).code, w32 (unitNumber (piecerAddr p)),
        w32 (s.clock - (s.piecer p).lostStamp).toNat] := by
  have hclock : (s.markReturned p).clock = s.clock := State.clock_of_fixed (State.markReturned_fixed ..)
  rw [State.returnByReport_of_new p s hret hlink, State.journalBack, State.since, hclock] at hgrows
  exact State.journalled_of_grows hgrows hm

theorem State.returnByReport_unit_same {p : Nat} {t : Token} {s : State} (hs : s.formed = true)
    (hret : (s.piecer p).returned = false) (hlink : (s.piecer p).byLink = false) (hvoid : (s.piecer p).void = some t) :
    (s.returnByReport p).unit (piecerAddr p) = (s.hand (piecerAddr p) (.abandon t)).unit (piecerAddr p) := by
  rw [State.returnByReport_of_new p s hret hlink, State.journalBack, State.journal_unit,
    State.markReturned_unit_same p hs hvoid]

/-- What the Dispatcher's own loss makes of a piecer (R77). -/
theorem State.losePiecer_effect {p : Nat} {cause : Word} {s : State} (hs : s.formed = true)
    (h : (s.piecer p).losable = true) :
    let u := s.losePiecer p cause
    u.piecer p = ((s.voidAttempt p false).piecer p).lostAt false s.clock ∧
    (∀ d, (s.piecer p).side = some d → (u.side d).piecer = none ∧ (u.frame (sideFrame d)).unit = true) ∧
    (∀ q, q ≠ p → u.piecer q = s.piecer q) ∧ (u.unit (piecerAddr p)).queue = [] ∧
    u.journalled .unitLost 0 (piecerAddr p) [(unitKind (piecerAddr p)).code, w32 (unitNumber (piecerAddr p)), cause] ∧
    u.regs.att &&& 16#32 = 16#32 ∧ u.regs.att &&& 2#32 = 2#32 := by
  intro u
  have hu : u = _ := State.losePiecer_of_losable h
  have hlost : (s.piecerLost p false).formed = true := State.piecerLost_formed _ _ _ hs
  have hatt : u.regs.att = (s.piecerLost p false).regs.att ||| 2#32 := by
    rw [hu, State.journalLost, State.journal_att]
    simp [JournalKind.urgent]
  refine ⟨?_, fun d hd => ⟨?_, ?_⟩, fun q hq => ?_, ?_, ?_, ?_, ?_⟩
  · rw [hu, State.journalLost_piecer, State.emptyQueue_piecer, State.piecerLost_piecer_same p false hs]
  · rw [hu, State.journalLost_side, State.emptyQueue_side]
    exact State.piecerLost_side p false hs hd
  · rw [hu, State.journalLost_frame, State.emptyQueue_frame]
    exact State.piecerLost_frame_unit p false hs hd
  · rw [hu, State.journalLost_piecer, State.emptyQueue_piecer, State.piecerLost_piecer_other p false s hq]
  · rw [hu, State.journalLost_unit, State.emptyQueue_unit_same hlost]
    rfl
  · rw [hu]
    exact State.journal_journalled ..
  · rw [hatt]
    exact or_and_of_and_eq _ (State.piecerLost_att p false s)
  · rw [hatt, or_and_self_right]

/-! ### Where a returned piecer goes -/

/-- On its way to the bay, free to the arbiter. -/
def Piecer.parks (travel : Nat) (y : Piecer) : Prop :=
  y.state = .parked ∧ y.side = none ∧ y.placement = .pool ∧ y.atBay = false ∧ y.returned = false ∧
    y.travel = ⟨true, travel⟩

/-- On its way to a side, which it serves. -/
def State.movesTo (u : State) (p e travel : Nat) : Prop :=
  (u.piecer p).state = .moving ∧ (u.piecer p).side = some e ∧ (u.side e).piecer = some p ∧
    (u.piecer p).returned = false ∧ (u.piecer p).travel = ⟨true, travel⟩

section
variable {p d pos : Nat} {s : State} (hs : s.formed = true)
include hs

theorem State.sendToBay_parks (r : Option MoveReason) :
    ((s.sendToBay p .pool r).piecer p).parks (1000 * s.settings.travelTimeout) := by
  rw [State.sendToBay_piecer_same p .pool r hs]
  exact ⟨rfl, rfl, rfl, rfl, rfl, rfl⟩

theorem State.sendToSide_movesTo (e : Nat) (r : MoveReason) :
    (s.sendToSide p e r).oweArbiter.movesTo p e (1000 * s.settings.travelTimeout) := by
  unfold State.movesTo
  rw [State.oweArbiter_piecer, State.oweArbiter_side, State.sendToSide_piecer_same p e r hs]
  exact ⟨rfl, rfl, State.sendToSide_side p e r hs, rfl, rfl⟩

/-- Onto an unserved side of a frame in plan. -/
theorem State.placeReturned_onSide (hlo : 1 ≤ pos) (hhi : pos ≤ 1824) (hwind : s.winding = false)
    (hfree : (s.frame (sideFrame d)).state ≠ .out ∧ (s.side d).piecer = none) :
    let u := s.placeReturned p d pos
    let y := u.piecer p
    let onIt := if d % 2 = 0 then 913 ≤ pos else pos ≤ 912
    let first := if d % 2 = 0 then 913 else 1
    let half := (s.frameSettings ((d + 1) / 2)).perSide / 2
    u.unit (piecerAddr p) = s.unit (piecerAddr p) ∧
    y.state = .onSide ∧ y.side = some d ∧ (u.side d).piecer = some p ∧ y.returned = false ∧
    y.travel = ⟨false, 0⟩ ∧ y.placement = (s.piecer p).placement ∧
    (onIt → y.position = some pos ∧ (y.descending = false ↔ pos < first + half)) ∧
    (¬onIt → y.position = some first ∧ y.descending = false) := by
  intro u y onIt first half
  have hu : u = _ := State.placeReturned_free hwind hfree
  have hy : y = { s.placed d pos (s.piecer p) with
      state := .onSide, side := some d, travel := Timer.off, returned := false, atFrameEnd := false } := by
    refine (congrArg (State.piecer · p) hu).trans ?_
    simp [State.setPiecer_formed_same, hs]
  obtain ⟨hplaced, hfirst⟩ := State.placed_position (s.piecer p) s hlo hhi (d := d)
  rw [hy]
  refine ⟨?_, rfl, rfl, ?_, rfl, rfl, ?_, hplaced, hfirst⟩
  · rw [hu]
    simp
  · rw [hu]
    simp [State.setSide_formed_same, hs]
  · rw [State.placed_eq]

end

/-- The record and the unit of a piecer that a PARKED report brings back. -/
theorem State.takeParked_returned {p : Nat} {s : State} (hs : s.formed = true) (hst : (s.piecer p).state = .lost)
    (hback : (s.piecer p).returned = true ∨ (s.piecer p).byLink = false) :
    (s.takeParked p).piecer p = { s.piecer p with
      state := .parked, atBay := true, placement := .pool, returned := false, travel := Timer.off } ∧
    (s.takeParked p).unit (piecerAddr p) = (s.returnByReport p).unit (piecerAddr p) ∧
    State.Grows 0 (s.returnByReport p) (s.takeParked p) := by
  rw [State.takeParked_lost hst hback]
  refine ⟨?_, by simp, (State.Grows.setPiecer ..).trans (State.Grows.oweArbiter _)⟩
  rw [State.oweArbiter_piecer, State.setPiecer_formed_same _ _ _ (State.returnByReport_formed _ _ hs),
    State.returnByReport_piecer_same p hs hback]

/-- The places of a piecer that an AT_SIDE report brings back, by what stood before the report (R67, R68, R78). -/
theorem State.takeAtSide_returned {p d pos : Nat} {s : State} (hs : s.formed = true)
    (hst : (s.piecer p).state = .lost) (hback : (s.piecer p).returned = true ∨ (s.piecer p).byLink = false) :
    let u := s.takeAtSide p d pos
    let free := (s.frame (sideFrame d)).state ≠ .out ∧ (s.side d).piecer = none
    let goesHome (h : Nat) : Prop := (s.piecer p).home = some h ∧ (s.side h).piecer = none ∧
      ((s.frame (sideFrame h)).state = .building ∨ (s.frame (sideFrame h)).state = .nearing ∨
        (s.frame (sideFrame h)).state = .called)
    let travel := 1000 * s.settings.travelTimeout
    State.Grows 2 (s.returnByReport p) u ∧
    (s.winding = true → (u.piecer p).parks travel) ∧
    (s.working = true → ¬free → (∀ h, goesHome h → u.movesTo p h travel) ∧
      (∀ e, (∀ h, ¬goesHome h) → s.lendTarget allSides = some e → u.movesTo p e travel) ∧
      ((∀ h, ¬goesHome h) → s.lendTarget allSides = none → (u.piecer p).parks travel)) := by
  intro u free goesHome travel
  have hu : u = _ := State.takeAtSide_lost hst hback
  have hp := State.returnByReport_piecer_same p hs hback
  have hplan := State.returnByReport_plan p s
  have hsides := State.returnByReport_sides p s
  have hframes := State.returnByReport_frames p s
  have hfixed := State.returnByReport_fixed p s
  have hz : (s.returnByReport p).formed = true := State.returnByReport_formed _ _ hs
  generalize s.returnByReport p = z at hu hp hplan hsides hframes hfixed hz ⊢
  have htravel : travel = 1000 * z.settings.travelTimeout := by rw [State.settings_of_plan hplan]
  have hfree : free ↔ (z.frame (sideFrame d)).state ≠ .out ∧ (z.side d).piecer = none := by
    rw [State.frame_of_table hframes, State.side_of_table hsides]
  have hhome (h : Nat) : z.homeRule (z.piecer p) true = some h ↔ goesHome h := by
    rw [State.homeRule_eq_some, hp, State.frame_of_table hframes, State.side_of_table hsides]
  have hhome' (hno : ∀ h, ¬goesHome h) : z.homeRule (z.piecer p) true = none :=
    Option.eq_none_iff_forall_ne_some.mpr fun h he => hno h ((hhome h).mp he)
  have hlend : z.lendTarget allSides = s.lendTarget allSides := State.lendTarget_congr hsides hplan _
  rw [hu, htravel]
  refine ⟨State.Grows.placeReturned .., fun hwind => ?_, fun hwork hf => ⟨fun e he => ?_, fun e hno he => ?_,
    fun hno hnone => ?_⟩⟩
  · rw [State.placeReturned_winding ((State.winding_of_fixed hfixed).trans hwind)]
    exact State.sendToBay_parks hz _
  all_goals
    have hwork' : z.working = true := (State.working_of_fixed hfixed).trans hwork
  · rw [State.placeReturned_home hwork' (mt hfree.mpr hf) ((hhome e).mpr he)]
    exact State.sendToSide_movesTo hz ..
  · rw [State.placeReturned_lend hwork' (mt hfree.mpr hf) (hhome' hno) (hlend.trans he)]
    exact State.sendToSide_movesTo hz ..
  · rw [State.placeReturned_bay hwork' (mt hfree.mpr hf) (hhome' hno) (hlend.trans hnone)]
    exact State.sendToBay_parks hz _

/-- A return told by a report is journalled, and the void token abandoned. -/
theorem State.reports_of_return {p d pos : Nat} {s : State} (hs : s.formed = true) (hst : (s.piecer p).state = .lost)
    (hret : (s.piecer p).returned = false) (hlink : (s.piecer p).byLink = false) :
    let fields := [(unitKind (piecerAddr p)).code, w32 (unitNumber (piecerAddr p)),
      w32 (s.clock - (s.piecer p).lostStamp).toNat]
    (s.takeAtSide p d pos).journalled .unitBack 0 (piecerAddr p) fields ∧
    (s.takeParked p).journalled .unitBack 0 (piecerAddr p) fields ∧
    ∀ token, (s.piecer p).void = some token →
      (s.takeParked p).unit (piecerAddr p) = (s.hand (piecerAddr p) (.abandon token)).unit (piecerAddr p) ∧
      (s.winding = false → (s.frame (sideFrame d)).state ≠ .out ∧ (s.side d).piecer = none → 1 ≤ pos → pos ≤ 1824 →
        (s.takeAtSide p d pos).unit (piecerAddr p) = (s.hand (piecerAddr p) (.abandon token)).unit (piecerAddr p)) := by
  intro fields
  have hback : (s.piecer p).returned = true ∨ (s.piecer p).byLink = false := .inr hlink
  obtain ⟨_, hparkedUnit, hparkedGrows⟩ := State.takeParked_returned hs hst hback
  obtain ⟨hsideGrows, _⟩ := State.takeAtSide_returned (d := d) (pos := pos) hs hst hback
  refine ⟨State.returnByReport_journalled hret hlink hsideGrows (by decide),
    State.returnByReport_journalled hret hlink hparkedGrows (by decide), fun token hvoid => ?_⟩
  have hunit := State.returnByReport_unit_same hs hret hlink hvoid
  refine ⟨hparkedUnit.trans hunit, fun hwind hfree hlo hhi => ?_⟩
  have hfree' : ((s.returnByReport p).frame (sideFrame d)).state ≠ .out ∧
    ((s.returnByReport p).side d).piecer = none := by
    rwa [State.frame_of_table (State.returnByReport_frames p s), State.side_of_table (State.returnByReport_sides p s)]
  have hwind' : (s.returnByReport p).winding = false :=
    (State.winding_of_fixed (State.returnByReport_fixed p s)).trans hwind
  obtain ⟨hkeep, _⟩ := State.placeReturned_onSide (p := p) (State.returnByReport_formed _ _ hs) hlo hhi hwind' hfree'
  rw [State.takeAtSide_lost hst hback]
  exact hkeep.trans hunit

/-! ### The statement -/

/-- Settles O50: the loss by its record; a return by the state in which the report has marked it. -/
theorem piecersAreLostOrPlacedInTheBay : Obligations.PiecersAreLostOrPlacedInTheBay := by
  unfold Obligations.PiecersAreLostOrPlacedInTheBay
  intro s p hs x out travels waits
  have hout : s.expires x.travel = true ↔ out := State.expires_iff
  refine ⟨fun ho htr => if_pos ⟨hout.mpr ho, htr⟩, fun hno => if_neg fun h => hno ⟨hout.mp h.1, h.2⟩,
    fun v r h ha hp => ?_,
    rfl, rfl, fun cause => ?_, fun v r d pos h ha hd hd' hlo hhi hst => ?_, fun ho hw => ?_,
    fun hno => if_neg fun h => hno ⟨hout.mp h.1, h.2⟩⟩
  · have hexec := exec_fault_of_reports h
    rw [ha, Nat.add_sub_cancel_left] at hexec
    exact ⟨hexec, State.replyTaken_formed _ _ _ hs, State.replyTaken_disp .., State.replyTaken_regs ..⟩
  · intro u y
    refine ⟨fun hst => State.losePiecer_of_not_losable fun h => ?_, fun hst hst' => ?_⟩
    · obtain ⟨hno, hno'⟩ := Piecer.losable_iff.mp h
      exact hst.elim hno hno'
    · obtain ⟨hy, hside, hothers, hqueue, hjournal, hatt, hatt'⟩ :=
        State.losePiecer_effect (cause := cause) hs (Piecer.losable_iff.mpr ⟨hst, hst'⟩)
      obtain ⟨hposition, hdescending⟩ := State.voidAttempt_position p hs false
      have hy' : y = _ := hy
      rw [hy']
      exact ⟨rfl, rfl, rfl, rfl, rfl, rfl, rfl, hposition, hdescending, State.voidAttempt_void p hs false, hside,
        hothers,
        hqueue, hjournal, hatt, hatt'⟩
  · intro t u y w onIt first half free back moves parks goesHome
    have hp : v.addr - 8 = p := by omega
    have hx : t.piecer p = x := State.replyTaken_piecer ..
    have ht : t.formed = true := State.replyTaken_formed _ _ _ hs
    have hfixed : t.fixed = s.fixed := State.replyTaken_fixed ..
    have hset : t.settings = s.settings := State.settings_of_plan (State.replyTaken_plan v r s)
    obtain ⟨_, _, _, huothers⟩ := State.takeAtSide_keeps p d pos t
    obtain ⟨_, _, _, hwothers⟩ := State.takeParked_keeps p t
    have hatSide := exec_atSide_of_reports h hd hd' hlo hhi
    have hparked := exec_parked_of_reports h
    rw [hp] at hatSide hparked
    refine ⟨hatSide, hparked, fun hret hlink => ⟨State.takeAtSide_awaiting_link (hx ▸ hst) (hx ▸ hret) (hx ▸ hlink),
      State.takeParked_awaiting_link (hx ▸ hst) (hx ▸ hret) (hx ▸ hlink)⟩, fun hback => ?_,
      fun q hq => ⟨(huothers q hq).trans (by simp [t]), (hwothers q hq).trans (by simp [t])⟩⟩
    have hframe (f : Nat) : t.frame f = s.frame f := State.replyTaken_frame ..
    have hside (e : Nat) : t.side e = s.side e := State.replyTaken_side ..
    have hwinding : t.winding = s.winding := State.winding_of_fixed hfixed
    have hplaces := State.takeAtSide_returned (d := d) (pos := pos) ht (hx ▸ hst) (hx ▸ hback)
    simp only [hx, hframe, hside, hset, hwinding, State.working_of_fixed hfixed,
      State.lendTarget_congr (congrArg Dispatcher.sides (State.replyTaken_disp v r s)) (State.replyTaken_plan v r s),
      t] at hplaces
    obtain ⟨_, hwindingDown, hworking⟩ := hplaces
    refine ⟨fun hret => ?_, ?_, hwindingDown, fun hwind hf => ?_, hworking⟩
    · have hlink : x.byLink = false := hback.resolve_left (by simp [hret])
      have hkind : unitKind (piecerAddr p) = .piecer := (congrArg unitKind ha).symm.trans h.2.1
      have hnumber : unitNumber (piecerAddr p) = p := (unitNumber_of_piecer hkind).trans (Nat.add_sub_cancel_left 8 p)
      have hreport := State.reports_of_return (d := d) (pos := pos) ht (hx ▸ hst) (hx ▸ hret) (hx ▸ hlink)
      rw [hkind, hnumber, hx, hframe, hside, hwinding] at hreport
      obtain ⟨hbacku, hbackw, hunits⟩ := hreport
      rw [State.replyTaken_clock] at hbacku hbackw
      exact ⟨hbacku, hbackw, fun token hvoid =>
        ⟨(hunits token hvoid).1, fun hf hwind => (hunits token hvoid).2 hwind hf hlo hhi⟩⟩
    · have hwp := (State.takeParked_returned ht (hx ▸ hst) (hx ▸ hback)).1
      rw [hx] at hwp
      exact hwp
    · have hzframe (f : Nat) : (t.returnByReport p).frame f = s.frame f :=
        (State.frame_of_table (State.returnByReport_frames p t) f).trans (hframe f)
      have hzside (e : Nat) : (t.returnByReport p).side e = s.side e :=
        (State.side_of_table (State.returnByReport_sides p t) e).trans (hside e)
      have hplan : (t.returnByReport p).plan = s.plan :=
        (State.returnByReport_plan p t).trans (State.replyTaken_plan v r s)
      have hzwind : (t.returnByReport p).winding = false :=
        (State.winding_of_fixed ((State.returnByReport_fixed p t).trans hfixed)).trans hwind
      obtain ⟨_, honSide⟩ := State.placeReturned_onSide (p := p) (State.returnByReport_formed _ _ ht) hlo hhi hzwind
        (d := d) (by rw [hzframe, hzside]; exact hf)
      rw [State.frameSettings_of_plan hplan, State.returnByReport_piecer_same p ht (hx ▸ hback), hx,
        ← State.takeAtSide_lost (hx ▸ hst) (hx ▸ hback)] at honSide
      exact honSide
  · have hy := State.sendToBay_parks hs (p := p) (some .back)
    obtain ⟨hstate, _, hplacement, hbay, hreturned, htravel⟩ := hy
    exact ⟨if_pos ⟨hout.mpr ho, hw⟩, hstate, hplacement, hbay, hreturned, htravel⟩

end Sys2Proof.Machine
end

section
/-! PROOFS. The Frame Sequencer: changes of state (R80), the doff slots (R86 to R88), stops and doffs (R90 to R92, R97
to R99). -/

namespace Sys2Proof.Machine

/-! ### Abandoned attempts (R54, R55) -/

section
variable (p : Nat) (s : State)

@[simp] theorem State.claimAbandoned_output (f n : Nat) : (s.claimAbandoned f n).output = s.output := by
  unfold State.claimAbandoned
  dsimp only
  (repeat' split) <;> simp

@[simp] theorem State.voidAttempt_output (send : Bool) : (s.voidAttempt p send).output = s.output := by
  unfold State.voidAttempt State.piecerReleases State.carrierTakes
  dsimp only
  (repeat' split) <;> simp

theorem State.sendToBay_output (pl : Placement) (r : Option MoveReason) :
    (s.sendToBay p pl r).output = s.output := by
  have hunserve : (s.unserve p).output = s.output := State.unserve_keeps p s State.output (by simp) (by simp)
  simp [State.sendToBay, State.journalMove, hunserve]

theorem State.abandon_output : (s.abandon p).output = s.output := by
  unfold State.abandon State.attemptOver
  dsimp only
  (repeat' split) <;> simp [State.sendToBay_output]

theorem State.abandon_frames : (s.abandon p).frames = s.frames := by
  unfold State.abandon
  split <;> simp

end

/-- `State.each_keeps` in the form that `rw` takes, the pass found from the goal. -/
theorem State.each_keeps_field {α β : Type} (P : State → β) {g : α → State → State} (h : ∀ x t, P (g x t) = P t)
    (l : List α) (s : State) : P (s.each l g) = P s := State.each_keeps P l g h s

section
variable (f : Nat) (s : State)

@[simp] theorem State.abandonAll_frames : (s.abandonAll f).frames = s.frames :=
  State.each_keeps_field State.frames State.abandon_frames _ s
@[simp] theorem State.abandonAll_output : (s.abandonAll f).output = s.output :=
  State.each_keeps_field State.output State.abandon_output _ s
@[simp] theorem State.abandonDrain_frames : (s.abandonDrain f).frames = s.frames :=
  State.each_keeps_field State.frames State.abandon_frames _ s
@[simp] theorem State.abandonDrain_output : (s.abandonDrain f).output = s.output :=
  State.each_keeps_field State.output State.abandon_output _ s

end

/-! ### A frame enters a state (R80, R134) -/

section
variable (f : Nat) (st : FrameState) (s : State)

theorem State.leaveFrameEnds_keeps {β : Type} (P : State → β) (h : ∀ p x t, P (State.setPiecer p x t) = P t) :
    P (s.leaveFrameEnds f) = P s :=
  State.each_keeps_field P (fun d t => by dsimp only; split <;> simp [h]) _ s

@[simp] theorem State.closeStop_frames : (s.closeStop f).frames = s.frames := by
  unfold State.closeStop; split <;> simp
@[simp] theorem State.openStop_frames : (s.openStop f).frames = s.frames := by
  unfold State.openStop; split <;> simp

/-- What a change of state leaves alone: all but the frame, the roller's stop mark, the feed, the piecers' frame ends
and the count of stop time. -/
theorem State.enterState_keeps {β : Type} (P : State → β) (hframe : ∀ f x t, P (State.setFrame f x t) = P t)
    (hroller : ∀ f x t, P (State.setRoller f x t) = P t) (hfeed : ∀ f x t, P (State.setFeed f x t) = P t)
    (hpiecer : ∀ p x t, P (State.setPiecer p x t) = P t) (hcount : ∀ f g t, P (State.count f g t) = P t)
    (howe : ∀ t, P (State.oweArbiter t) = P t) : P (s.enterState f st) = P s := by
  have hopen (t : State) : P (t.openStop f) = P t := by unfold State.openStop; split <;> simp [hroller]
  have hclose (t : State) : P (t.closeStop f) = P t := by unfold State.closeStop; split <;> simp [hroller, hcount]
  have hends (t : State) : P (t.leaveFrameEnds f) = P t := State.leaveFrameEnds_keeps f t P hpiecer
  unfold State.enterState
  dsimp only
  (repeat' split) <;> simp [hframe, hfeed, howe, hopen, hclose, hends]

@[simp] theorem State.enterState_watch : (s.enterState f st).watch = s.watch :=
  State.enterState_keeps f st s State.watch (by simp) (by simp) (by simp) (by simp) (by simp) (by simp)
@[simp] theorem State.enterState_plan : (s.enterState f st).plan = s.plan :=
  State.enterState_keeps f st s State.plan (by simp) (by simp) (by simp) (by simp) (by simp) (by simp)
@[simp] theorem State.enterState_link : (s.enterState f st).link = s.link :=
  State.enterState_keeps f st s State.link (by simp) (by simp) (by simp) (by simp) (by simp) (by simp)
@[simp] theorem State.enterState_unit (a : Nat) : (s.enterState f st).unit a = s.unit a := by simp [State.unit]
@[simp] theorem State.enterState_clock : (s.enterState f st).clock = s.clock :=
  State.clock_of_fixed (State.enterState_fixed ..)

theorem State.enterState_frames : (s.enterState f st).frames = (s.setFrame f { s.frame f with state := st }).frames := by
  have hends (t : State) : (t.leaveFrameEnds f).frames = t.frames :=
    State.leaveFrameEnds_keeps f t State.frames (by simp)
  unfold State.enterState
  dsimp only
  (repeat' split) <;> simp [hends]

theorem State.enterState_frame_other {g : Nat} (h : g ≠ f) : (s.enterState f st).frame g = s.frame g :=
  (State.frame_of_table (State.enterState_frames f st s) g).trans (State.setFrame_other _ _ _ _ h)

theorem State.enterState_frame_same {s : State} (hs : s.formed = true) :
    (s.enterState f st).frame f = { s.frame f with state := st } :=
  (State.frame_of_table (State.enterState_frames f st s) f).trans (State.setFrame_formed_same _ _ _ hs)

theorem State.count_rollers (g : Nat) (h : Counts → Counts) (t : State) :
    (t.count g h).output.rollers = t.output.rollers := by
  unfold State.count
  split <;> simp

theorem State.setRoller_build {s : State} (hs : s.formed = true) (x : Roller) (hx : x.build = (s.roller f).build)
    (e : Nat) :
    ((s.setRoller f x).roller e).build = (s.roller e).build := by
  obtain rfl | hne := eq_or_ne e f
  · rw [State.setRoller_formed_same _ _ _ hs, hx]
  · rw [State.setRoller_other _ _ _ _ hne]

theorem State.enterState_build {s : State} (hs : s.formed = true) (e : Nat) :
    ((s.enterState f st).roller e).build = (s.roller e).build := by
  have hopen {t : State} (ht : t.formed = true) : ((t.openStop f).roller e).build = (t.roller e).build := by
    unfold State.openStop
    split
    · exact State.setRoller_build f ht { t.roller f with stopMark := some t.clock } rfl e
    · rfl
  have hclose {t : State} (ht : t.formed = true) : ((t.closeStop f).roller e).build = (t.roller e).build := by
    have hcount (g : Nat) (h : Counts → Counts) (d : Nat) : (t.count g h).roller d = t.roller d :=
      State.roller_of_table (State.count_rollers ..) d
    unfold State.closeStop
    split
    · have hbuild (g : Nat) (h : Counts → Counts) := State.setRoller_build f (State.count_formed g h t ht)
        { t.roller f with stopMark := none } (congrArg Roller.build (hcount g h f)).symm e
      exact (hbuild ..).trans (congrArg Roller.build (hcount _ _ e))
    · rfl
  have hends (t : State) : (t.leaveFrameEnds f).roller e = t.roller e :=
    State.leaveFrameEnds_keeps f t (fun u => u.roller e) (by simp)
  unfold State.enterState
  dsimp only
  (repeat' split) <;> simp [hends, hopen, hclose, hs]

/-- Between two states of no piecing, neither to nor from a run: the frame's record alone. -/
theorem State.enterState_of_stopped (hold : (s.frame f).state.stopped = true) (hnew : st.stopped = true) :
    s.enterState f st = s.setFrame f { s.frame f with state := st } := by
  have hruns (x : FrameState) (hx : x.stopped = true) : x.runs = false ∧ x.piecing = false := by
    cases x <;> simp_all [FrameState.stopped, FrameState.runs, FrameState.piecing]
  obtain ⟨hruns1, hpiecing1⟩ := hruns _ hold
  obtain ⟨hruns2, hpiecing2⟩ := hruns _ hnew
  simp [State.enterState, hruns1, hruns2, hpiecing1, hpiecing2]

end

/-! ### The doff slots (R86, R87) -/

theorem State.earliestCalled_eq_none {s : State} {l : List Nat} : s.earliestCalled l = none ↔ l = [] := by
  cases l with
  | nil => simp [State.earliestCalled]
  | cons f r =>
    simp only [State.earliestCalled]
    cases s.earliestCalled r with
    | none => simp
    | some g => simp [apply_ite Option.isSome, ← Option.not_isSome_iff_eq_none]

theorem State.mem_of_earliestCalled {s : State} {l : List Nat} {f : Nat} (h : s.earliestCalled l = some f) : f ∈ l := by
  induction l generalizing f with
  | nil => cases h
  | cons e r ih =>
    simp only [State.earliestCalled] at h
    split at h
    · exact Option.some.inj h ▸ List.mem_cons_self
    · next g hg =>
      split at h
      · exact List.mem_cons_of_mem _ (Option.some.inj h ▸ ih hg)
      · exact Option.some.inj h ▸ List.mem_cons_self

theorem State.nextCalled_eq_none {s : State} : s.nextCalled = none ↔ ∀ f ∈ allFrames, (s.frame f).state ≠ .called := by
  simp [State.nextCalled, State.earliestCalled_eq_none, List.filter_eq_nil_iff]

theorem State.nextCalled_state {s : State} {f : Nat} (h : s.nextCalled = some f) :
    f ∈ allFrames ∧ (s.frame f).state = .called := by
  simpa using State.mem_of_earliestCalled h

theorem grantN_of_none {s : State} (h : s.nextCalled = none ∨ s.freeSlot = none) (n : Nat) : grantN n s = s := by
  cases n with
  | zero => rfl
  | succ n =>
    unfold grantN
    split
    · next k f hk hf => simp [hk, hf] at h
    · rfl

theorem State.doffArbiter_of_none {s : State} (h : s.nextCalled = none ∨ s.freeSlot = none) : s.doffArbiter = s := by
  unfold State.doffArbiter
  split
  · exact grantN_of_none h 2
  · rfl

section
variable (f k : Nat) (s : State)

theorem State.grantSlot_frame_other {g : Nat} (h : g ≠ f) : (s.grantSlot f k).frame g = s.frame g := by
  simp only [State.grantSlot]
  rw [State.frame_of_table (State.abandonDrain_frames ..), State.journal_frame, State.enterState_frame_other _ _ _ h,
    State.setFrame_other _ _ _ _ h]

theorem State.grantSlot_build {s : State} (hs : s.formed = true) (e : Nat) :
    ((s.grantSlot f k).roller e).build = (s.roller e).build := by
  simp only [State.grantSlot]
  rw [State.roller_of_table (congrArg Output.rollers (State.abandonDrain_output ..)), State.journal_roller,
    State.enterState_build f .draining (State.setFrame_formed _ _ _ hs), State.setFrame_roller]

/-- The arbiter grants slots to frames that are called, and touches no other frame. -/
theorem grantN_keeps {s : State} (hs : s.formed = true) (n : Nat) {e : Nat} (h : (s.frame e).state ≠ .called) :
    (grantN n s).frame e = s.frame e ∧ ∀ b, ((grantN n s).roller b).build = (s.roller b).build := by
  induction n generalizing s with
  | zero => exact ⟨rfl, fun _ => rfl⟩
  | succ n ih =>
    unfold grantN
    split
    · next k f _ hf =>
      have hne : e ≠ f := fun he => h (he ▸ (State.nextCalled_state hf).2)
      have hframe := State.grantSlot_frame_other f k s hne
      obtain ⟨ihframe, ihbuild⟩ := ih (State.grantSlot_formed f k s hs) (hframe ▸ h)
      exact ⟨ihframe.trans hframe, fun b => (ihbuild b).trans (State.grantSlot_build f k hs b)⟩
    · exact ⟨rfl, fun _ => rfl⟩

theorem State.doffArbiter_keeps {s : State} (hs : s.formed = true) {e : Nat} (h : (s.frame e).state ≠ .called) :
    s.doffArbiter.frame e = s.frame e ∧ ∀ b, (s.doffArbiter.roller b).build = (s.roller b).build := by
  unfold State.doffArbiter
  split
  · exact grantN_keeps hs 2 h
  · exact ⟨rfl, fun _ => rfl⟩

/-- A frame that is not called gives back its slot. -/
theorem State.releaseSlot_keeps {s : State} (hs : s.formed = true) (h : (s.frame f).state ≠ .called) :
    (s.releaseSlot f).frame f = { s.frame f with slot := none } ∧
      ∀ b, ((s.releaseSlot f).roller b).build = (s.roller b).build := by
  unfold State.releaseSlot
  split
  · have hset := State.setFrame_formed_same f { s.frame f with slot := none } s hs
    obtain ⟨hframe, hbuild⟩ := State.doffArbiter_keeps (State.setFrame_formed f { s.frame f with slot := none } s hs)
      (e := f) (by rw [hset]; exact h)
    exact ⟨hframe.trans hset, fun b => (hbuild b).trans (by rw [State.setFrame_roller])⟩
  · next hnone =>
    have hslot : (s.frame f).slot = none := by simpa using hnone
    refine ⟨?_, fun _ => rfl⟩
    rw [← hslot]

theorem State.releaseSlot_unit {s : State} (hs : s.formed = true) (h : (s.frame f).state ≠ .called)
    (hnone : ∀ g ∈ allFrames, g ≠ f → (s.frame g).state ≠ .called) (a : Nat) : (s.releaseSlot f).unit a = s.unit a := by
  unfold State.releaseSlot
  split
  · rw [State.doffArbiter_of_none, State.setFrame_unit]
    refine .inl (State.nextCalled_eq_none.mpr fun g hg => ?_)
    obtain rfl | hne := eq_or_ne g f
    · rw [State.setFrame_formed_same _ _ _ hs]
      exact h
    · rw [State.setFrame_other _ _ _ _ hne]
      exact hnone g hg hne
  · rfl

end

/-! ### Stops and failed doffs (R92, R97) -/

section
variable (f : Nat) (c : HaltCause) {s : State} (hs : s.formed = true)
include hs

theorem State.haltReport_frame (left : FrameState) :
    (s.haltReport f c left).frame f = { s.frame f with alarm := true } := by
  rw [State.haltReport, State.alarm_frame_same _ _ (State.journal_formed _ _ _ _ _ hs), State.journal_frame]

omit hs in
theorem State.haltReport_att (left : FrameState) : (s.haltReport f c left).regs.att &&& 8#32 = 8#32 ∧
    (s.haltReport f c left).regs.att &&& 2#32 = 2#32 := by
  simp [State.haltReport, State.alarm_att, State.journal_att, JournalKind.urgent, or_and_of_and_eq, or_and_self_right]

/-- A failed doff halts the frame, which owes it (R92). -/
theorem State.doffFails_effect :
    let u := s.doffFails f c
    u.frame f = { s.frame f with
      state := .halted, haltCause := some c, doffOwed := true, slot := none, stopTimer := Timer.off
      doffTimer := Timer.off, alarm := true } ∧
    u.regs.att &&& 8#32 = 8#32 ∧ u.regs.att &&& 2#32 = 2#32 ∧
    (s.nextCalled = none → u.unit f = ((s.withdrawDrive f).hand f .stop).unit f) := by
  intro u
  have hhand : ((s.withdrawDrive f).hand f .stop).formed = true := by simp [hs]
  have hhandFrame (g : Nat) : ((s.withdrawDrive f).hand f .stop).frame g = s.frame g := by simp
  have hu : u = State.doffFails f c s := rfl
  simp only [State.doffFails, State.handDrive] at hu
  generalize (s.withdrawDrive f).hand f .stop = w at hhand hhandFrame hu ⊢
  generalize hw : w.setFrame f { w.frame f with
    haltCause := some c, doffOwed := true, stopTimer := Timer.off, doffTimer := Timer.off } = w1 at hu
  have hw1 : w1.formed = true := hw ▸ State.setFrame_formed _ _ _ hhand
  have hentered := State.enterState_frame_same f .halted hw1
  have hnot : ((w1.enterState f .halted).frame f).state ≠ .called := by simp [hentered]
  have hreleased := (State.releaseSlot_keeps f (State.enterState_formed _ _ _ hw1) hnot).1
  have hw1frame : w1.frame f = { s.frame f with
      haltCause := some c, doffOwed := true, stopTimer := Timer.off, doffTimer := Timer.off } := by
    rw [← hw, State.setFrame_formed_same _ _ _ hhand, hhandFrame]
  rw [hentered, hw1frame] at hreleased
  have hunit (hnone : s.nextCalled = none) : ((w1.enterState f .halted).releaseSlot f).unit f = w.unit f := by
    rw [State.releaseSlot_unit f (State.enterState_formed _ _ _ hw1) hnot, State.enterState_unit, ← hw,
      State.setFrame_unit]
    intro g hg hne
    rw [State.enterState_frame_other _ _ _ hne, ← hw, State.setFrame_other _ _ _ _ hne, hhandFrame]
    exact State.nextCalled_eq_none.mp hnone g hg
  have hw2 : ((w1.enterState f .halted).releaseSlot f).formed = true :=
    State.releaseSlot_formed _ _ (State.enterState_formed _ _ _ hw1)
  generalize (w1.enterState f .halted).releaseSlot f = w2 at hu hreleased hunit hw2
  rw [hu]
  refine ⟨?_, (State.haltReport_att f c _).1, (State.haltReport_att f c _).2, fun hnone => ?_⟩
  · rw [State.haltReport_frame f c (State.journal_formed _ _ _ _ _ hw2), State.journal_frame, hreleased]
  · rw [State.haltReport, State.alarm_unit, State.journal_unit, State.journal_unit, hunit hnone]

end

/-- Settles O51. -/
theorem doffTimersHaltTheFrame : Obligations.DoffTimersHaltTheFrame := by
  unfold Obligations.DoffTimersHaltTheFrame
  intro s f hs x failed
  have hfailed (cause : HaltCause) : failed cause (s.doffFails f cause) := by
    obtain ⟨hframe, hatt, hatt', hunit⟩ := State.doffFails_effect f cause hs
    unfold failed
    rw [hframe]
    exact ⟨rfl, rfl, rfl, rfl, rfl, rfl, rfl, rfl, rfl, hatt, hatt', hunit⟩
  exact ⟨fun hout => ⟨if_pos (State.expires_iff.mpr hout), hfailed .stopTimeout⟩,
    fun hout => ⟨if_pos (State.expires_iff.mpr hout), hfailed .doffTimeout⟩,
    fun hno => if_neg (mt State.expires_iff.mp hno), fun hno => if_neg (mt State.expires_iff.mp hno)⟩

end Sys2Proof.Machine
end

section
/-! PROOFS. The reports of the drives (R90, R91, R98, R99). -/

namespace Sys2Proof.Machine

theorem unitNumber_of_drive {a : Nat} (h : unitKind a = .drive) : unitNumber a = a := by
  unfold unitKind at h
  unfold unitNumber
  split at h
  · next hdrive => rw [if_pos hdrive]
  · split at h <;> cases h

section
variable {s : State} {v : Visit} {r : Reply} (h : s.reports v r .drive)
include h

theorem State.reports_driveNumber : unitNumber v.addr = v.addr :=
  let ⟨_, hkind, _⟩ := h
  unitNumber_of_drive hkind

theorem exec_state_of_reports {m : Word} (hm : m.toNat ≤ 4294967) (d : DriveState) :
    exec (.state r d m) s = .next ((s.replyTaken v r).takeDriveState v.addr d).conclude := by
  have hrange : (Report.state d m.toNat).inRange = true := by simp [Report.inRange, hm]
  have hevent : s.reportEvent r (.state d m.toNat) = _ := State.reportEvent_of_reports h rfl hrange
  simp only [State.giveReport, State.reports_driveNumber h] at hevent
  exact congrArg Host.Outcome.next hevent

theorem exec_atDoffPosition_of_reports :
    exec (.atDoffPosition r) s = .next ((s.replyTaken v r).takeAtDoff v.addr).conclude := by
  have hevent : s.reportEvent r (.atDoffPosition) = _ := State.reportEvent_of_reports h rfl rfl
  simp only [State.giveReport, State.reports_driveNumber h] at hevent
  exact congrArg Host.Outcome.next hevent

theorem exec_doffDone_of_reports :
    exec (.doffDone r) s = .next ((s.replyTaken v r).takeDoffDone v.addr).conclude := by
  have hevent : s.reportEvent r (.doffDone) = _ := State.reportEvent_of_reports h rfl rfl
  simp only [State.giveReport, State.reports_driveNumber h] at hevent
  exact congrArg Host.Outcome.next hevent

theorem exec_driveFault_of_reports :
    exec (.driveFault r) s = .next ((s.replyTaken v r).takeDriveFault v.addr).conclude := by
  have hevent : s.reportEvent r (.driveFault) = _ := State.reportEvent_of_reports h rfl rfl
  simp only [State.giveReport, State.reports_driveNumber h] at hevent
  exact congrArg Host.Outcome.next hevent

end

/-! ### A stop (R97, R98) -/

section
variable {f : Nat} {s : State}

theorem State.stopFrame_halted (c : HaltCause) (hs : s.formed = true) :
    ((s.stopFrame f c).frame f).state = .halted ∧ ((s.stopFrame f c).frame f).haltCause = some c := by
  unfold State.stopFrame State.handDrive
  dsimp only
  split <;>
    simp (maxDischargeDepth := 40) [State.haltReport_frame, State.enterState_frame_same, State.setFrame_formed_same, hs]

end

/-! ### A doff's completion (R95) -/

section
variable {f : Nat} {s : State} (hs : s.formed = true) (h : (s.frame f).state ≠ .called)
include hs h

theorem State.completeDoff_keeps : (s.completeDoff f).frame f = { s.frame f with buildM := 0, slot := none } ∧
    ((s.completeDoff f).roller f).build = 0 := by
  simp only [State.completeDoff, State.finishBook_frame, State.journal_frame, State.count_frame,
    State.finishBook_roller,
    State.journal_roller]
  have hw : ((s.setRoller f { s.roller f with build := 0 }).setFrame f { s.frame f with buildM := 0 }).formed = true := by
    simp [hs]
  have hframe : ((s.setRoller f { s.roller f with build := 0 }).setFrame f { s.frame f with buildM := 0 }).frame f =
      { s.frame f with buildM := 0 } := State.setFrame_formed_same _ _ _ (State.setRoller_formed _ _ _ hs)
  obtain ⟨hreleased, hbuild⟩ := State.releaseSlot_keeps f hw (by rw [hframe]; exact h)
  refine ⟨by rw [hreleased, hframe], ?_⟩
  rw [State.roller_of_table (State.count_rollers ..), hbuild, State.setFrame_roller,
    State.setRoller_formed_same _ _ _ hs]

end

/-! ### A restart (R91, R100) -/

section
variable {f : Nat} {s : State} (hs : s.formed = true)
include hs

theorem State.restart_frame : (s.restart f).frame f =
    { s.frame f with
      state := .restarting, grace := some (s.frameSettings f).grace, haltCause := none, doffTimer := Timer.off } := by
  simp (maxDischargeDepth := 40) [State.restart, State.handDrive, State.setFrame_formed_same,
    State.enterState_frame_same,
    hs, State.frameSettings, State.settings]

theorem State.restart_unit : (s.restart f).unit f = (s.hand f .run).unit f :=
  State.hand_unit_congr _ hs (by simp [hs]) (by simp) (by simp)

theorem State.restart_build (e : Nat) : ((s.restart f).roller e).build = (s.roller e).build := by
  simp [State.restart, State.handDrive, State.enterState_build, hs]

end

/-! ### The reports by the frame's state -/

section
variable {f : Nat} {s : State}

theorem State.takeAtDoff_of_stopping (hst : (s.frame f).state = .stopping) : s.takeAtDoff f =
    ((s.setFrame f { s.frame f with state := .doffing }).setFrame f
      { (s.setFrame f { s.frame f with state := .doffing }).frame f with
        stopTimer := Timer.off, doffTimer := Timer.load (1000 * s.settings.doffTimeout) }).hand f .doff := by
  have henter : s.enterState f .doffing = _ := State.enterState_of_stopped f .doffing s (by rw [hst]; rfl) rfl
  have hset : (s.setFrame f { s.frame f with state := .doffing }).settings = s.settings :=
    State.settings_of_plan (State.setFrame_plan ..)
  simp only [State.takeAtDoff, hst, if_true, henter, hset, State.handDrive]

theorem State.takeAtDoff_of_not_stopping (hst : (s.frame f).state ≠ .stopping) : s.takeAtDoff f = s := if_neg hst

theorem State.takeDoffDone_of_doffing (hst : (s.frame f).state = .doffing) : s.takeDoffDone f =
    (s.restart f).setFrame f { (s.restart f).frame f with
      doffFinish := .pending, doffOwed := false, doneStamp := (s.restart f).clock } := by
  simp only [State.takeDoffDone, hst, if_true]

theorem State.takeDoffDone_of_late (hst : (s.frame f).state = .halted)
    (hcause : (s.frame f).haltCause = some .doffTimeout)
    (howed : (s.frame f).doffOwed = true) : s.takeDoffDone f =
    ((s.setFrame f { s.frame f with doffOwed := false, doneStamp := s.clock }).completeDoff f).setFrame f
      { ((s.setFrame f { s.frame f with doffOwed := false, doneStamp := s.clock }).completeDoff f).frame f with
        doffFinish := .made } := by
  simp [State.takeDoffDone, hst, hcause, howed]

theorem State.takeDoffDone_of_else (hst : (s.frame f).state ≠ .doffing) (hlate : ¬((s.frame f).state = .halted ∧
    (s.frame f).haltCause = some .doffTimeout ∧ (s.frame f).doffOwed = true)) : s.takeDoffDone f = s := by
  simp only [State.takeDoffDone, if_neg hst, if_neg hlate]

theorem State.takeDriveFault_of_stopped (hst : (s.frame f).state = .out ∨ (s.frame f).state = .halted) :
    s.takeDriveFault f = s := by
  obtain hst | hst := hst <;> simp [State.takeDriveFault, hst]

theorem State.takeDriveFault_of_else (hout : (s.frame f).state ≠ .out) (hhalted : (s.frame f).state ≠ .halted) :
    s.takeDriveFault f = s.stopFrame f .driveFault := by
  cases hst : (s.frame f).state
  case out => exact absurd hst hout
  case halted => exact absurd hst hhalted
  all_goals simp [State.takeDriveFault, hst]

theorem FrameState.runs_iff {x : FrameState} :
    x.runs = true ↔ x ≠ .out ∧ x ≠ .halted ∧ x ≠ .stopping ∧ x ≠ .doffing := by
  cases x <;> simp [FrameState.runs]

theorem State.takeDriveState_of_still {d : DriveState} (hd : d = .stopped ∨ d = .atDoff ∨ d = .doffing) :
    s.takeDriveState f d = if (s.frame f).state.runs then s.stopFrame f .driveStopped else s := by
  obtain rfl | rfl | rfl := hd <;> rfl

end

/-- Settles O56. -/
theorem driveReportsByFrameState : Obligations.DriveReportsByFrameState := by
  unfold Obligations.DriveReportsByFrameState
  intro s v r hs h hpos f x t a b e late
  have hx : t.frame f = x := State.replyTaken_frame ..
  have ht : t.formed = true := State.replyTaken_formed _ _ _ hs
  have hset : t.settings = s.settings := State.settings_of_plan (State.replyTaken_plan v r s)
  refine ⟨fun d m hm => ⟨exec_state_of_reports h hm d, fun hd => ?_, fun hd hst => ?_,
    fun hd hout hhalted hstop hdoff => ?_,
    fun hd => ?_⟩, exec_driveFault_of_reports h, fun hst => State.takeDriveFault_of_stopped (hx ▸ hst),
    fun hout hhalted => ?_, exec_atDoffPosition_of_reports h,
    fun hst => State.takeAtDoff_of_not_stopping (hx ▸ hst), fun hst => ?_, exec_doffDone_of_reports h,
    fun hst hlate => State.takeDoffDone_of_else (hx ▸ hst) (hx ▸ hlate), fun hst => ?_, fun hlate => ?_⟩
  · rw [hd, ← hx]
    rfl
  · have hruns : ¬(t.frame f).state.runs = true := by
      rw [hx, FrameState.runs_iff]
      tauto
    exact (State.takeDriveState_of_still hd).trans (if_neg hruns)
  · have hruns : (t.frame f).state.runs = true := by
      rw [hx, FrameState.runs_iff]
      exact ⟨hout, hhalted, hstop, hdoff⟩
    rw [State.takeDriveState_of_still hd, if_pos hruns]
    exact State.stopFrame_halted .driveStopped ht
  · rw [hd]
    rfl
  · have ha : a = _ := State.takeDriveFault_of_else (hx ▸ hout) (hx ▸ hhalted)
    rw [ha]
    exact State.stopFrame_halted .driveFault ht
  · have hb : b = _ := State.takeAtDoff_of_stopping (hx ▸ hst)
    rw [hb]
    refine ⟨?_, ?_, fun g hg => ?_, by simp [t], by simp [t], by simp [t]⟩
    · simp [State.setFrame_formed_same, ht, hx, hset, Timer.load, Timer.off]
    · exact State.hand_unit_congr _ ht (by simp [ht]) (by simp) (by simp)
    · simp [State.setFrame_other, hg, t]
  · have he : e = _ := State.takeDoffDone_of_doffing (hx ▸ hst)
    have hr : (t.restart f).formed = true := State.restart_formed _ _ ht
    have hclock : (t.restart f).clock = s.clock :=
      (State.clock_of_fixed (State.restart_fixed f t)).trans (State.replyTaken_clock v r s)
    rw [he, hclock, State.setFrame_formed_same _ _ _ hr, State.setFrame_unit, State.restart_unit ht,
      State.setFrame_roller,
      State.restart_build ht, State.restart_frame ht, hx, State.frameSettings, hset]
    exact ⟨rfl, rfl, congrArg Roller.build (State.replyTaken_roller ..)⟩
  · obtain ⟨hst, hcause, howed⟩ := hlate
    have he : e = _ := State.takeDoffDone_of_late (hx ▸ hst) (hx ▸ hcause) (hx ▸ howed)
    have hw := State.setFrame_formed f { x with doffOwed := false, doneStamp := t.clock } t ht
    have hwframe := State.setFrame_formed_same f { x with doffOwed := false, doneStamp := t.clock } t ht
    rw [hx] at he
    obtain ⟨hframe, hbuild⟩ := State.completeDoff_keeps hw (by rw [hwframe]; simp [hst])
    rw [he, State.setFrame_formed_same _ _ _ (State.completeDoff_formed _ _ hw), State.setFrame_roller, hbuild, hframe,
      hwframe]
    exact ⟨hst, rfl, rfl, rfl, rfl⟩

end Sys2Proof.Machine
end

section
/-! PROOFS. The ends of changes (R118 to R121): failed, done, and the carriers that come home. -/

namespace Sys2Proof.Machine

/-! ### A spindle comes down (R9, R38) -/

section
variable (f n : Nat) (s : State)

theorem State.listSpindle_keeps {β : Type} (P : State → β) (hside : ∀ d x t, P (State.setSide d x t) = P t)
    (hspindle : ∀ g m x t, P (State.setSpindle g m x t) = P t) : P (s.listSpindle f n) = P s := by
  unfold State.listSpindle
  dsimp only
  split <;> simp [hside, hspindle]

theorem State.makeDown_keeps {β : Type} (P : State → β) (hside : ∀ d x t, P (State.setSide d x t) = P t)
    (hspindle : ∀ g m x t, P (State.setSpindle g m x t) = P t) : P (s.makeDown f n) = P s := by
  unfold State.makeDown
  rw [State.listSpindle_keeps f n _ P hside hspindle, hspindle]

theorem State.listSpindle_spindle_other {g m : Nat} (h : spindleKey g m ≠ spindleKey f n) :
    (s.listSpindle f n).spindle g m = s.spindle g m := by
  unfold State.listSpindle
  dsimp only
  split <;> simp [State.setSpindle_other, h]

theorem State.makeDown_spindle_other {g m : Nat} (h : spindleKey g m ≠ spindleKey f n) :
    (s.makeDown f n).spindle g m = s.spindle g m := by
  unfold State.makeDown
  rw [State.listSpindle_spindle_other _ _ _ h, State.setSpindle_other _ _ _ _ _ _ h]

variable {s} (hs : s.formed = true)
include hs

theorem State.listSpindle_spindle_same : (s.listSpindle f n).spindle f n =
    { s.spindle f n with
      listed := decide ((s.side (sideOf f n)).entries.length < Config.endListRoom) || (s.spindle f n).listed } := by
  unfold State.listSpindle
  dsimp only
  split
  · next hroom =>
    have hside : (s.setSide (sideOf f n) { s.side (sideOf f n) with
        entries := (s.side (sideOf f n)).entries ++ [⟨n, s.clock, (s.spindle f n).lastClass⟩] }).formed = true :=
      State.setSide_formed _ _ _ hs (by simpa using hroom)
    simp [State.setSpindle_formed_same, hside, hroom]
  · next hroom => simp [hroom]

/-- A spindle made DOWN is listed when its side has room (R38). -/
theorem State.makeDown_spindle_same : (s.makeDown f n).spindle f n =
    { (s.spindle f n).to .down with
      listed := decide ((s.side (sideOf f n)).entries.length < Config.endListRoom) } := by
  unfold State.makeDown
  rw [State.listSpindle_spindle_same f n (State.setSpindle_formed _ _ _ _ hs), State.setSpindle_formed_same _ _ _ _ hs]
  simp

end

/-! ### Renewal of the spindles of a section (R12) -/

section
variable (f n : Nat) (s : State)

theorem State.renewSpindle_keeps {β : Type} (P : State → β) (hside : ∀ d x t, P (State.setSide d x t) = P t)
    (hspindle : ∀ g m x t, P (State.setSpindle g m x t) = P t) : P (s.renewSpindle f n) = P s := by
  unfold State.renewSpindle
  dsimp only
  (repeat' split) <;> simp [hspindle, State.makeDown_keeps f n s P hside hspindle]

theorem State.renewSpindle_spindle_other {m : Nat} (h : m ≠ n) : (s.renewSpindle f n).spindle f m = s.spindle f m := by
  have hkey : spindleKey f m ≠ spindleKey f n := fun he => h (spindleKey_inj_frame he)
  unfold State.renewSpindle
  dsimp only
  (repeat' split) <;> simp [State.setSpindle_other, State.makeDown_spindle_other, hkey]

theorem State.renewSpindle_state {s : State} (hs : s.formed = true) : ((s.renewSpindle f n).spindle f n).state =
    if (s.spindle f n).state = .starved then .down else (s.spindle f n).state := by
  unfold State.renewSpindle
  dsimp only
  split
  · next hst =>
    rw [State.makeDown_spindle_same f n hs, hst]
    rfl
  · next hst => split <;> simp [State.setSpindle_formed_same, hs, hst]
  all_goals
    next hst => simp [hst]

end

theorem mem_spindlesOfSection {k n : Nat} : n ∈ spindlesOfSection k ↔ 24 * (k - 1) < n ∧ n ≤ 24 * (k - 1) + 24 := by
  simp only [spindlesOfSection, List.mem_map, List.mem_range]
  exact ⟨by rintro ⟨j, hj, rfl⟩; omega, fun h => ⟨n - (24 * (k - 1) + 1), by omega, by omega⟩⟩

theorem nodup_spindlesOfSection (k : Nat) : (spindlesOfSection k).Nodup :=
  List.nodup_range.map fun _ _ h => Nat.add_right_cancel h

/-- The loop over a section makes its STARVED spindles DOWN. -/
theorem State.renewSection_state {f k n : Nat} {s : State} (hs : s.formed = true) (hn : n ∈ spindlesOfSection k)
    (hst : (s.spindle f n).state = .starved) :
    ((s.each (spindlesOfSection k) fun n t => t.renewSpindle f n).spindle f n).state = .down := by
  have hrecord := State.each_record (Q := fun t => t.formed = true) (rec := fun m t => (t.spindle f m).state)
    (F := fun _ x => if x = .starved then .down else x) (fun m t ht => State.renewSpindle_formed f m t ht)
    (fun m e t _ hne => congrArg Spindle.state (State.renewSpindle_spindle_other f m t hne))
    (fun m t ht => State.renewSpindle_state f m ht) (nodup_spindlesOfSection k) hs n
  rw [hrecord, if_pos hn, hst]
  rfl

/-! ### The release of the lock by a carrier (R115) -/

section
variable (c k : Nat) (s : State)

@[simp] theorem State.carrierReleases_watch : (s.carrierReleases c k).watch = s.watch := by
  unfold State.carrierReleases
  dsimp only
  (repeat' split) <;> simp

@[simp] theorem State.carrierReleases_frames : (s.carrierReleases c k).frames = s.frames := by
  unfold State.carrierReleases
  dsimp only
  (repeat' split) <;> simp

@[simp] theorem State.carrierReleases_plan : (s.carrierReleases c k).plan = s.plan := by
  unfold State.carrierReleases
  dsimp only
  (repeat' split) <;> simp

@[simp] theorem State.carrierReleases_carriers : (s.carrierReleases c k).roving.carriers = s.roving.carriers := by
  unfold State.carrierReleases
  dsimp only
  (repeat' split) <;> simp

@[simp] theorem State.carrierReleases_carrier (e : Nat) : (s.carrierReleases c k).carrier e = s.carrier e := by
  simp [State.carrier]

theorem State.carrierReleases_creel_other {e : Nat} (h : e ≠ k) : (s.carrierReleases c k).creel e = s.creel e := by
  unfold State.carrierReleases
  dsimp only
  (repeat' split) <;> simp [State.setCreel_other, h]

variable {s} (hs : s.formed = true)
include hs

theorem State.carrierReleases_creel_same : (s.carrierReleases c k).creel k = { s.creel k with
    lock := ((s.carrierReleases c k).creel k).lock, waiting := ((s.carrierReleases c k).creel k).waiting
    holdSent := ((s.carrierReleases c k).creel k).holdSent } := by
  unfold State.carrierReleases
  dsimp only
  (repeat' split) <;> simp [State.setCreel_formed_same, hs]

theorem State.carrierReleases_lock : ((s.carrierReleases c k).creel k).lock ≠ .carrier c := by
  unfold State.carrierReleases
  dsimp only
  (repeat' split) <;> simp_all [State.setCreel_formed_same]

/-- A held piecer gets the lock back, and its attempt runs on (R48). -/
theorem State.carrierReleases_held {p : Nat} (hlock : (s.creel k).lock = .carrier c)
    (hwait : (s.creel k).waiting = .piecer p) :
    ((s.carrierReleases c k).creel k).lock = .piecer p ∧ ((s.carrierReleases c k).creel k).waiting = .none ∧
    (s.carrierReleases c k).piecer p =
      { s.piecer p with state := .attempting, attempt := (s.piecer p).attempt.runOn } := by
  cases hcur : (s.piecer p).current <;>
    simp (maxDischargeDepth := 40) [State.carrierReleases, hlock, hwait, hcur, State.setCreel_formed_same,
      State.setPiecer_formed_same, hs]

theorem State.carrierReleases_free (hlock : (s.creel k).lock = .carrier c)
    (hwait : ∀ p, (s.creel k).waiting ≠ .piecer p) :
    ((s.carrierReleases c k).creel k).lock = .none ∧ ((s.carrierReleases c k).creel k).waiting = .none := by
  cases hw : (s.creel k).waiting
  case piecer p => exact absurd hw (hwait p)
  all_goals simp [State.carrierReleases, hlock, hw, State.setCreel_formed_same, hs]

end

/-! ### The change queue (R110) -/

section
variable (c k : Nat) (s : State)

theorem State.displaceTail_keeps {β : Type} (P : State → β)
    (hqueue : ∀ (t : State) q, P { t with roving.queue := q } = P t)
    (hcreel : ∀ e x t, P (State.setCreel e x t) = P t) : P s.displaceTail = P s := by
  unfold State.displaceTail
  split
  · rfl
  split
  · rfl
  · rw [hqueue, hcreel]

theorem State.queueAtHead_keeps {β : Type} (P : State → β)
    (hqueue : ∀ (t : State) q, P { t with roving.queue := q } = P t)
    (hcreel : ∀ e x t, P (State.setCreel e x t) = P t) : P (s.queueAtHead k) = P s := by
  unfold State.queueAtHead
  dsimp only
  rw [hqueue, hcreel, State.displaceTail_keeps s P hqueue hcreel]

theorem State.queueAtHead_head : (s.queueAtHead k).roving.queue.head? = some k := by
  simp [State.queueAtHead]

variable {s} (hs : s.formed = true)
include hs

/-- The displaced section is LOW, and stands otherwise. -/
theorem State.displaceTail_creel (e : Nat) : s.displaceTail.creel e = { s.creel e with
    state := (s.displaceTail.creel e).state, queueStamp := (s.displaceTail.creel e).queueStamp } := by
  unfold State.displaceTail
  split
  · rfl
  split
  · rfl
  · next t _ =>
    have hset (x : Creel) (q : List Nat) : ({ s.setCreel t x with roving.queue := q } : State).creel e =
        (s.setCreel t x).creel e := rfl
    rw [hset]
    obtain rfl | hne := eq_or_ne e t
    · rw [State.setCreel_formed_same _ _ _ hs]
    · rw [State.setCreel_other _ _ _ _ hne]

theorem State.queueAtHead_creel_same : ∃ stamp, (s.queueAtHead k).creel k =
    { s.creel k with state := .queued, queueStamp := some stamp, carrier := none } := by
  have hset (t : State) (x : Creel) (q : List Nat) : ({ t.setCreel k x with roving.queue := q } : State).creel k =
      (t.setCreel k x).creel k := rfl
  unfold State.queueAtHead
  dsimp only
  rw [hset, State.setCreel_formed_same _ _ _ (State.displaceTail_formed _ hs), State.displaceTail_creel hs]
  exact ⟨_, rfl⟩

end

/-! ### A change fails (R119) -/

section
variable (c : Nat) (s : State)

/-- The carrier's wait for the lock is withdrawn. -/
def State.leaveWait (c k : Nat) (s : State) : State :=
  if (s.creel k).waiting = .carrier c then s.setCreel k { s.creel k with waiting := .none, holdSent := false } else s

theorem State.failChange_of_creel {k : Nat} (hk : (s.carrier c).creel = some k) :
    s.failChange c = ((s.carrierReleases c k).leaveWait c k).queueAtHead k := by
  simp only [State.failChange, hk, State.leaveWait]

theorem State.leaveWait_keeps {β : Type} (P : State → β) (k : Nat) (h : ∀ e x t, P (State.setCreel e x t) = P t) :
    P (s.leaveWait c k) = P s := by
  unfold State.leaveWait
  split
  · exact h ..
  · rfl

theorem State.leaveWait_formed (k : Nat) (hs : s.formed = true) : (s.leaveWait c k).formed = true := by
  unfold State.leaveWait
  split <;> simp [hs]

theorem State.leaveWait_creel {s : State} (k : Nat) (hs : s.formed = true) :
    ((s.leaveWait c k).creel k).waiting ≠ .carrier c ∧ (s.leaveWait c k).creel k = { s.creel k with
      waiting := ((s.leaveWait c k).creel k).waiting, holdSent := ((s.leaveWait c k).creel k).holdSent } := by
  unfold State.leaveWait
  split
  · simp [State.setCreel_formed_same, hs]
  · next hno => exact ⟨hno, rfl⟩

theorem State.failChange_keeps {β : Type} (P : State → β)
    (hqueue : ∀ (t : State) q, P { t with roving.queue := q } = P t)
    (hcreel : ∀ e x t, P (State.setCreel e x t) = P t) (hrelease : ∀ k t, P (State.carrierReleases c k t) = P t) :
    P (s.failChange c) = P s := by
  cases hk : (s.carrier c).creel with
  | none => simp only [State.failChange, hk]
  | some k =>
    rw [State.failChange_of_creel c s hk, State.queueAtHead_keeps k _ P hqueue hcreel,
      State.leaveWait_keeps c _ P k hcreel, hrelease]

@[simp] theorem State.failChange_watch : (s.failChange c).watch = s.watch :=
  State.failChange_keeps c s State.watch (fun _ _ => rfl) (by simp) (by simp)
@[simp] theorem State.failChange_carriers : (s.failChange c).roving.carriers = s.roving.carriers :=
  State.failChange_keeps c s (fun t => t.roving.carriers) (fun _ _ => rfl) (by simp) (by simp)
@[simp] theorem State.failChange_carrier (e : Nat) : (s.failChange c).carrier e = s.carrier e := by simp [State.carrier]

/-- The section goes back to the head of the queue with its roving, its lock and its wait free of the carrier. -/
theorem State.failChange_creel {s : State} {k : Nat} (hs : s.formed = true) (hk : (s.carrier c).creel = some k) :
    let z := (s.failChange c).creel k
    z.state = .queued ∧ z.remaining = (s.creel k).remaining ∧ z.carrier = none ∧ z.lock ≠ .carrier c ∧
    z.waiting ≠ .carrier c ∧ (s.failChange c).roving.queue.head? = some k := by
  have hreleased := State.carrierReleases_formed c k s hs
  obtain ⟨hwaiting, hleft⟩ := State.leaveWait_creel c k hreleased
  obtain ⟨stamp, hqueued⟩ := State.queueAtHead_creel_same k (State.leaveWait_formed c _ k hreleased)
  intro z
  have hz : z = _ := (congrArg (State.creel · k) (State.failChange_of_creel c s hk)).trans hqueued
  rw [hz, State.failChange_of_creel c s hk]
  refine ⟨rfl, ?_, rfl, ?_, hwaiting, State.queueAtHead_head ..⟩
  · rw [hleft, State.carrierReleases_creel_same c k hs]
  · rw [hleft]
    exact State.carrierReleases_lock c k hs

end

/-! ### Carriers sent back or home (R119, R120) -/

section
variable (c : Nat) {s : State} (hs : s.formed = true)
include hs

theorem State.creelFault_effect (n : Nat) (left : CarrierState) (e : ChangeEnd) :
    let u := s.creelFault c (some n) left e
    (u.frame (creelFrame n)).unit = true ∧ u.regs.att &&& 16#32 = 16#32 ∧ u.watch = s.watch ∧ u.roving = s.roving := by
  simp [State.creelFault, State.unitAlarm_frame_same, hs, State.unitAlarm_att, or_and_self_right]

theorem State.changeFails_effect {k : Nat} (e : ChangeEnd) (hk : (s.carrier c).creel = some k) :
    let u := s.changeFails c e
    let y := u.carrier c
    y.state = .fault ∧ y.creel = none ∧ y.change = Timer.off ∧ y.back = Timer.off ∧
    y.lotLoaded = (s.carrier c).lotLoaded ∧ (u.creel k).state = .queued ∧
    (u.creel k).remaining = (s.creel k).remaining ∧ (u.creel k).carrier = none ∧ u.roving.queue.head? = some k ∧
    (u.creel k).lock ≠ .carrier c ∧ (u.creel k).waiting ≠ .carrier c ∧ (u.frame (creelFrame k)).unit = true ∧
    u.regs.att &&& 16#32 = 16#32 ∧ u.watch = s.watch ∧ ∀ e, e ≠ c → u.carrier e = s.carrier e := by
  intro u y
  have hfail := State.failChange_formed c s hs
  have hback := State.sendBackFault_formed c _ hfail
  obtain ⟨hstate, hremaining, hcarrier, hlock, hwaiting, hqueue⟩ := State.failChange_creel c hs hk
  have hu : u = ((s.failChange c).sendBackFault c).creelFault c (some k) (s.carrier c).state e := by
    rw [← hk]
    rfl
  obtain ⟨hunit, hatt, hwatch, hroving⟩ := State.creelFault_effect c hback k (s.carrier c).state e
  have hcreel : u.creel k = (s.failChange c).creel k := by
    rw [hu, State.creel_of_table (congrArg Roving.creels hroving)]
    simp [State.sendBackFault]
  have hcar (d : Nat) : u.carrier d = ((s.failChange c).sendBackFault c).carrier d := by
    rw [hu, State.carrier_of_table (congrArg Roving.carriers hroving)]
  have hy : y = { (s.failChange c).carrier c with
      state := .fault, creel := none, lotSent := none, change := Timer.off, back := Timer.off
      shownLeft := y.shownLeft } := by
    have hset : y = _ := (hcar c).trans (State.hand_carrier ..)
    rw [State.setCarrier_formed_fields _ _ _ hfail] at hset
    rw [hset]
  have hlot : y.lotLoaded = (s.carrier c).lotLoaded := by rw [hy, State.failChange_carrier]
  have hqueue' : u.roving.queue.head? = some k := by
    rw [hu, hroving]
    simpa [State.sendBackFault] using hqueue
  have hwatch' : u.watch = s.watch := by
    rw [hu, hwatch]
    simp [State.sendBackFault]
  rw [hcreel]
  refine ⟨congrArg Carrier.state hy, congrArg Carrier.creel hy, congrArg Carrier.change hy, congrArg Carrier.back hy,
    hlot,
    hstate, hremaining, hcarrier, hqueue', hlock, hwaiting, hu ▸ hunit, hu ▸ hatt, hwatch', fun d hd => ?_⟩
  rw [hcar]
  simp [State.sendBackFault, State.setCarrier_other, hd]

theorem State.makeIdle_carrier (hst : (s.carrier c).state ≠ .idle) : (s.makeIdle c).carrier c =
    { s.carrier c with
      state := .idle, creel := none, lotSent := none, lotLoaded := none, change := Timer.off, back := Timer.off
      shownLeft := 0 } := by
  rw [State.makeIdle, State.setCarrier_formed_same _ _ _ hs, if_neg hst.symm]
  simp [Carrier.secondsLeft, Timer.off]

theorem State.sendBackFault_carrier (hst : (s.carrier c).state ≠ .fault) : (s.sendBackFault c).carrier c =
    { s.carrier c with
      state := .fault, creel := none, lotSent := none, change := Timer.off, back := Timer.off, shownLeft := 0 } := by
  rw [State.sendBackFault, State.hand_carrier, State.setCarrier_formed_same _ _ _ hs, if_neg hst.symm]
  simp [Carrier.secondsLeft, Timer.off]

theorem State.changeReturned_effect :
    let u := s.changeReturned c
    (u.carrier c).state = .idle ∧ (u.carrier c).creel = none ∧
    ∀ k, (s.carrier c).creel = some k → (u.creel k).state = .queued ∧ u.roving.queue.head? = some k := by
  intro u
  have hfail := State.failChange_formed c s hs
  have hroving : u.roving = ((s.failChange c).makeIdle c).roving := by
    simp only [u, State.changeReturned, State.creelFault]
    split <;> simp
  have hcar : u.carrier c = ((s.failChange c).makeIdle c).carrier c :=
    State.carrier_of_table (congrArg Roving.carriers hroving) c
  rw [hcar, State.makeIdle, State.setCarrier_formed_same _ _ _ hfail, apply_ite Carrier.state, apply_ite Carrier.creel,
    ite_self, ite_self]
  refine ⟨rfl, rfl, fun k hk => ?_⟩
  obtain ⟨hstate, _, _, _, _, hqueue⟩ := State.failChange_creel c hs hk
  rw [State.creel_of_table (congrArg Roving.creels hroving), hroving]
  exact ⟨by simpa [State.makeIdle] using hstate, by simpa [State.makeIdle] using hqueue⟩

end

/-! ### The reports by the carrier's state (R121) -/

section
variable {c : Nat} {s : State}

theorem State.takeChangeFault_serving (h : (s.carrier c).state.serving = true) :
    s.takeChangeFault c = s.changeFails c .changeFault := by
  cases hst : (s.carrier c).state <;> simp_all [State.takeChangeFault, CarrierState.serving]

theorem State.takeChangeFault_still (h : (s.carrier c).state = .fault ∨ (s.carrier c).state = .absent ∨
    (s.carrier c).state = .lost) : s.takeChangeFault c = s := by
  obtain hst | hst | hst := h <;> simp [State.takeChangeFault, hst]

theorem State.takeChangeFault_idle (h : (s.carrier c).state = .idle) : s.takeChangeFault c =
    ((s.sendBackFault c).journal .creelFault 0 c [0#32, 2#32, 1#32]).raise .unit := by
  simp [State.takeChangeFault, h, State.creelFault, CarrierState.code, ChangeEnd.code, w32]

theorem State.takeChangeFault_returning (h : (s.carrier c).state = .returning) : s.takeChangeFault c =
    ((s.setCarrier c { s.carrier c with state := .fault, back := Timer.off }).journal .creelFault 0 c
      [0#32, 7#32, 1#32]).raise .unit := by
  simp [State.takeChangeFault, h, State.returnFails, State.creelFault, CarrierState.code, ChangeEnd.code, w32]

theorem State.takeReturned_serving (h : (s.carrier c).state.serving = true) :
    s.takeReturned c = s.changeReturned c := by
  cases hst : (s.carrier c).state <;> simp_all [State.takeReturned, CarrierState.serving]

theorem State.takeReturned_back (h : (s.carrier c).state = .returning ∨ (s.carrier c).state = .fault) :
    s.takeReturned c = s.makeIdle c := by
  obtain hst | hst := h <;> simp [State.takeReturned, hst]

theorem State.takeReturned_still (h : (s.carrier c).state = .idle ∨ (s.carrier c).state = .absent ∨
    (s.carrier c).state = .lost) : s.takeReturned c = s := by
  obtain hst | hst | hst := h <;> simp [State.takeReturned, hst]

theorem State.takeChangeDone_of_working {k : Nat} (hst : (s.carrier c).state = .working)
    (hk : (s.carrier c).creel = some k) : s.takeChangeDone c = s.changeDone c k := by
  simp only [State.takeChangeDone, hst, hk]

theorem State.takeChangeDone_of_not_working (h : (s.carrier c).state ≠ .working) : s.takeChangeDone c = s := by
  unfold State.takeChangeDone
  split
  · next hst _ => exact absurd hst h
  · rfl

end

/-- Settles O53. -/
theorem carriersReturn : Obligations.CarriersReturn := by
  unfold Obligations.CarriersReturn
  intro s c hs x out
  have hout : s.expires x.back = true ↔ out := State.expires_iff
  refine ⟨fun ho => ⟨if_pos (hout.mpr ho), ?_⟩, fun hno => if_neg (mt hout.mp hno), fun v r h ha hc => ?_⟩
  · intro u
    have hu : u.carrier c = (s.setCarrier c { x with state := .fault, back := Timer.off }).carrier c := by
      simp [u, State.returnFails, State.creelFault, x]
    rw [hu, State.setCarrier_formed_same _ _ _ hs, apply_ite Carrier.state, apply_ite Carrier.back, ite_self, ite_self]
    exact ⟨rfl, rfl, or_and_self_right .., by simp [u, State.returnFails, State.creelFault]⟩
  · intro t
    have hc' : v.addr - 16 = c := by omega
    have hx : t.carrier c = x := State.replyTaken_carrier ..
    have ht : t.formed = true := State.replyTaken_formed _ _ _ hs
    have hexec := exec_returned_of_reports h
    rw [hc'] at hexec
    refine ⟨fun hst => ⟨?_, ?_⟩, fun hst => ?_, fun hst => ?_⟩
    · rw [hexec, State.takeReturned_back (hx.symm ▸ hst)]
    · rw [State.makeIdle_carrier c ht, hx]
      · rfl
      · rw [hx]
        obtain hst | hst := hst <;> simp [hst]
    · intro u
      obtain ⟨hstate, hcreel, hqueue⟩ := State.changeReturned_effect c ht
      rw [hx] at hqueue
      rw [hexec, State.takeReturned_serving (hx.symm ▸ hst)]
      exact ⟨rfl, hstate, hcreel, hqueue⟩
    · rw [hexec, State.takeReturned_still (hx.symm ▸ hst)]

end Sys2Proof.Machine
end

section
/-! PROOFS. A change that is done (R12, R118), and the ends of changes by report and timer (R119, R121). -/

namespace Sys2Proof.Machine

/-! ### A change is done (R118) -/

/-- The section renewed: its roving, and its spindles (R12, R118). -/
def State.renewSection (k : Nat) (s : State) : State :=
  (s.setCreel k { s.creel k with remaining := (s.frameSettings (creelFrame k)).fullRoving * 1000 }).each
    (spindlesOfSection (creelIndex k)) fun n t => t.renewSpindle (creelFrame k) n

/-- The section fed again, and the carrier sent back, once the lock is released (R118). -/
def State.feedSection (c k : Nat) (s : State) : State :=
  (s.setCreel k { s.creel k with state := .fed, carrier := none }).sendBack c

theorem State.changeDone_eq (c k : Nat) (s : State) : s.changeDone c k =
    (((((s.renewSection k).carrierReleases c k).feedSection c k).journal .creelDone (creelFrame k) c
      [w32 (creelIndex k), lotWord (s.carrier c).lotLoaded,
        w32 ((((s.renewSection k).carrierReleases c k).feedSection c k).since (s.carrier c).dispatched)]).count
      (creelFrame k) fun y => { y with creelChanges := addTo top32 y.creelChanges 1 }).creelOrderDone c k 1
      (s.carrier c).lotLoaded := rfl

section
variable (c k : Nat) {s : State}

theorem State.renewSection_keeps {β : Type} (P : State → β) (hcreel : ∀ e x t, P (State.setCreel e x t) = P t)
    (hside : ∀ d x t, P (State.setSide d x t) = P t) (hspindle : ∀ g m x t, P (State.setSpindle g m x t) = P t) :
    P (s.renewSection k) = P s := by
  unfold State.renewSection
  rw [State.each_keeps_field P fun n t => State.renewSpindle_keeps _ n t P hside hspindle, hcreel]

theorem State.renewSection_creels : (s.renewSection k).roving.creels =
    (s.setCreel k { s.creel k with remaining := (s.frameSettings (creelFrame k)).fullRoving * 1000 }).roving.creels := by
  unfold State.renewSection
  exact State.each_keeps_field (fun t => t.roving.creels)
    (fun n t => State.renewSpindle_keeps _ n t (fun t => t.roving.creels) (by simp) (by simp)) _ _

theorem State.creelOrderDone_carriers (n : Nat) (lot : Option Token) :
    (s.creelOrderDone c k n lot).roving.carriers = s.roving.carriers := by
  simp [State.creelOrderDone]

theorem State.renewSection_formed (hs : s.formed = true) : (s.renewSection k).formed = true :=
  State.each_keeps_prop (Q := fun t => t.formed = true) (fun n t ht => State.renewSpindle_formed _ n t ht) _
    (State.setCreel_formed _ _ _ hs)

theorem State.feedSection_formed (hs : s.formed = true) : (s.feedSection c k).formed = true := by
  simp [State.feedSection, hs]

/-- Everything but the section, its spindles, its side's list, the carrier and the held piecer. -/
theorem State.changeDone_keeps {β : Type} (P : State → β) (hcreel : ∀ e x t, P (State.setCreel e x t) = P t)
    (hside : ∀ d x t, P (State.setSide d x t) = P t) (hspindle : ∀ g m x t, P (State.setSpindle g m x t) = P t)
    (hrelease : ∀ t, P (State.carrierReleases c k t) = P t) (hback : ∀ t, P (State.sendBack c t) = P t)
    (hjournal : ∀ j f u l t, P (State.journal j f u l t) = P t) (hcount : ∀ f g t, P (State.count f g t) = P t)
    (hfinish : ∀ sel r l t, P (State.finishBook sel r l t) = P t) : P (s.changeDone c k) = P s := by
  rw [State.changeDone_eq, State.creelOrderDone, hfinish, hcreel, hcount, hjournal, State.feedSection, hback, hcreel,
    hrelease, State.renewSection_keeps k P hcreel hside hspindle]

theorem State.changeDone_frames : (s.changeDone c k).frames = s.frames :=
  State.changeDone_keeps c k State.frames (by simp) (by simp) (by simp) (by simp) (by simp [State.sendBack]) (by simp)
    (by simp) (by simp)

theorem State.changeDone_carrier_other {e : Nat} (h : e ≠ c) : (s.changeDone c k).carrier e = s.carrier e :=
  State.changeDone_keeps c k (fun t => t.carrier e) (by simp) (by simp) (by simp) (by simp)
    (by simp [State.sendBack, State.setCarrier_other, h]) (by simp) (by simp) (by simp)

theorem State.changeDone_creel_other {e : Nat} (h : e ≠ k) : (s.changeDone c k).creel e = s.creel e := by
  rw [State.changeDone_eq]
  simp only [State.creelOrderDone, State.feedSection, State.sendBack, State.finishBook_creel,
    State.setCreel_other _ _ _ _ h,
    State.count_creel, State.journal_creel, State.hand_creel, State.setCarrier_creel,
    State.carrierReleases_creel_other _ _ _ h]
  rw [State.creel_of_table (State.renewSection_creels k), State.setCreel_other _ _ _ _ h]

variable (hs : s.formed = true)
include hs

theorem State.renewSection_creel : (s.renewSection k).creel k =
    { s.creel k with remaining := (s.frameSettings (creelFrame k)).fullRoving * 1000 } := by
  rw [State.creel_of_table (State.renewSection_creels k), State.setCreel_formed_same _ _ _ hs]

omit hs in
theorem State.sendBack_carrier_same (hs : s.formed = true) (hst : (s.carrier c).state ≠ .returning) :
    (s.sendBack c).carrier c = { s.carrier c with
      state := .returning, creel := none, lotSent := none, change := Timer.off
      back := Timer.load (1000 * s.settings.changeTimeout), shownLeft := s.settings.changeTimeout } := by
  rw [State.sendBack, State.hand_carrier, State.setCarrier_formed_same _ _ _ hs, if_neg hst.symm]
  simp [Carrier.secondsLeft, Timer.load, Timer.off]

theorem State.changeDone_carrier_same (hst : (s.carrier c).state = .working) : (s.changeDone c k).carrier c =
    { s.carrier c with
      state := .returning, creel := none, lotSent := none, change := Timer.off
      back := Timer.load (1000 * s.settings.changeTimeout), shownLeft := s.settings.changeTimeout } := by
  have hplan : (s.renewSection k).plan = s.plan := State.renewSection_keeps k State.plan (by simp) (by simp) (by simp)
  have hcar (e : Nat) : (s.renewSection k).carrier e = s.carrier e :=
    State.renewSection_keeps k (fun t => t.carrier e) (by simp) (by simp) (by simp)
  have hfed : (((s.renewSection k).carrierReleases c k).setCreel k
      { ((s.renewSection k).carrierReleases c k).creel k with state := .fed, carrier := none }).formed = true := by
    simp [State.renewSection_formed k hs]
  have hback := State.sendBack_carrier_same (c := c) hfed (by simp [hcar, hst])
  rw [State.changeDone_eq, State.carrier_of_table (State.creelOrderDone_carriers ..), State.count_carrier,
    State.journal_carrier, State.feedSection, hback, State.settings_of_plan (s := s) (by simp [hplan])]
  simp [hcar]

theorem State.changeDone_creel_same : (s.changeDone c k).creel k =
    { ((s.renewSection k).carrierReleases c k).creel k with state := .fed, carrier := none, orderSeq := none } := by
  have hreleased := State.carrierReleases_formed c k _ (State.renewSection_formed k hs)
  have hfed := State.feedSection_formed c k hreleased
  have hfedCreel : (((s.renewSection k).carrierReleases c k).feedSection c k).creel k =
      { ((s.renewSection k).carrierReleases c k).creel k with state := .fed, carrier := none } := by
    simp [State.feedSection, State.sendBack, State.setCreel_formed_same, hreleased]
  rw [State.changeDone_eq]
  generalize ((s.renewSection k).carrierReleases c k).feedSection c k = w at hfed hfedCreel
  rw [State.creelOrderDone, State.finishBook_creel,
    State.setCreel_formed_same _ _ _ (State.count_formed _ _ _ (State.journal_formed _ _ _ _ _ hfed)),
      State.count_creel,
    State.journal_creel, hfedCreel]

theorem State.changeDone_lock : let w := (s.renewSection k).carrierReleases c k
    ((s.changeDone c k).creel k).lock = (w.creel k).lock ∧
      ((s.changeDone c k).creel k).waiting = (w.creel k).waiting := by
  simp only [State.changeDone_creel_same c k hs, and_self]

theorem State.changeDone_spindle {n : Nat} (hn : n ∈ spindlesOfSection (creelIndex k))
    (hst : (s.spindle (creelFrame k) n).state = .starved) :
    ((s.changeDone c k).spindle (creelFrame k) n).state = .down := by
  have hwatch : (s.changeDone c k).watch = (s.renewSection k).watch := by
    rw [State.changeDone_eq]
    simp [State.creelOrderDone, State.feedSection, State.sendBack]
  rw [State.spindle_of_watch hwatch, State.renewSection]
  exact State.renewSection_state (State.setCreel_formed _ _ _ hs) hn (by simpa using hst)

theorem State.changeDone_piecer (p : Nat) :
    (s.changeDone c k).piecer p = ((s.renewSection k).carrierReleases c k).piecer p := by
  rw [State.changeDone_eq]
  simp [State.creelOrderDone, State.feedSection, State.sendBack]

end

/-! ### The statement -/

/-- Settles O52: by the carrier's state when the report or the timer comes. -/
theorem changesEnd : Obligations.ChangesEnd := by
  unfold Obligations.ChangesEnd
  refine ⟨fun s c k hs => ?_, fun s v r k hs h hk1 => ?_⟩
  · intro x out
    have hout : s.expires x.change = true ↔ out := State.expires_iff
    refine ⟨fun ho => if_pos (hout.mpr ho), fun hno => if_neg (mt hout.mp hno), fun v r h ha hc => ?_,
      fun v r h ha hc hserving => ?_, fun e hk => State.changeFails_effect c hs e hk⟩
    · intro t idle
      have hc' : v.addr - 16 = c := by omega
      have hx : t.carrier c = x := State.replyTaken_carrier ..
      have ht : t.formed = true := State.replyTaken_formed _ _ _ hs
      have hexec := exec_changeFault_of_reports h
      rw [hc'] at hexec
      refine ⟨fun hst => ⟨?_, ?_, ?_, by simp [idle, State.sendBackFault, t]⟩, fun hst => ?_, fun hst => ?_⟩
      · rw [hexec, State.takeChangeFault_idle (hx ▸ hst)]
      · exact (State.sendBackFault_carrier c ht (by rw [hx, hst]; decide)).trans (by rw [hx]; rfl)
      · exact State.hand_unit_congr _ ht (by simp [ht]) (by simp) (by simp)
      · rw [hexec, State.takeChangeFault_returning (hx ▸ hst), ← hx]
        rfl
      · rw [hexec, State.takeChangeFault_still (hx.symm ▸ hst)]
    · have hc' : v.addr - 16 = c := by omega
      have hx : (s.replyTaken v r).carrier c = x := State.replyTaken_carrier ..
      have hexec := exec_changeFault_of_reports h
      rw [hc', State.takeChangeFault_serving (hx.symm ▸ hserving)] at hexec
      exact ⟨hexec, State.replyTaken_formed _ _ _ hs, State.replyTaken_roving .., State.replyTaken_frames ..,
        State.replyTaken_regs ..⟩
  · intro c x f sectionNo t u y
    have hx : t.carrier c = x := State.replyTaken_carrier ..
    have ht : t.formed = true := State.replyTaken_formed _ _ _ hs
    have hset : t.settings = s.settings := State.settings_of_plan (State.replyTaken_plan v r s)
    have hcreel (e : Nat) : t.creel e = s.creel e := State.replyTaken_creel ..
    refine ⟨exec_changeDone_of_reports h, fun hst => State.takeChangeDone_of_not_working (hx ▸ hst), fun hst hk => ?_⟩
    have hu : t.changeDone c k = u := (State.takeChangeDone_of_working (hx ▸ hst) (hx ▸ hk)).symm
    have hy : y = _ := hu ▸ State.changeDone_carrier_same c k ht (hx ▸ hst)
    have hsection : u.creel k = _ := hu ▸ State.changeDone_creel_same c k ht
    have hrenewed := State.renewSection_creel k ht
    have hreleased := State.carrierReleases_creel_same c k (State.renewSection_formed k ht)
    have hheldPiecer (p : Nat) : (t.renewSection k).piecer p = s.piecer p :=
      (State.renewSection_keeps k (fun w => w.piecer p) (by simp) (by simp) (by simp)).trans (State.replyTaken_piecer ..)
    obtain ⟨hlockKept, hwaitKept⟩ := State.changeDone_lock c k ht
    rw [hu] at hlockKept hwaitKept
    rw [hx, hset] at hy
    have hremaining : (u.creel k).remaining = 1000 * (s.frameSettings f).fullRoving := by
      rw [hsection, hreleased, hrenewed, State.frameSettings, hset]
      exact Nat.mul_comm ..
    refine ⟨congrArg Carrier.state hy, congrArg Carrier.creel hy, congrArg Carrier.change hy, congrArg Carrier.back hy,
      (congrArg Carrier.lotLoaded hy :), hremaining, congrArg Creel.state hsection, congrArg Creel.carrier hsection,
      congrArg Creel.orderSeq hsection, ?_, fun e he => ?_, fun e he => ?_, fun n hlo hhi hstarved => ?_,
      fun hlock => ⟨fun p hwait => ?_, fun hwait => ?_⟩⟩
    · rw [← hu, State.changeDone_frames]
      exact State.replyTaken_frames ..
    · rw [← hu, State.changeDone_creel_other c k he, hcreel]
    · rw [← hu, State.changeDone_carrier_other c k he]
      exact State.replyTaken_carrier ..
    · have hn : n ∈ spindlesOfSection (creelIndex k) := mem_spindlesOfSection.mpr ⟨hlo, by
        have : sectionNo = creelIndex k := rfl
        have : 1 ≤ sectionNo := Nat.le_add_left ..
        omega⟩
      have hstarved' : (t.spindle (creelFrame k) n).state = .starved := by
        rw [State.replyTaken_spindle]
        exact hstarved
      have hdown := State.changeDone_spindle c k ht hn hstarved'
      rw [hu] at hdown
      exact hdown
    · obtain ⟨hlock', hwait', hpiecer⟩ := State.carrierReleases_held c k (State.renewSection_formed k ht)
        (by rw [hrenewed, hcreel]; exact hlock) (by rw [hrenewed, hcreel]; exact hwait)
      refine ⟨hlockKept.trans hlock', hwaitKept.trans hwait', ?_⟩
      rw [← hu, State.changeDone_piecer c k ht, hpiecer, hheldPiecer]
      rfl
    · obtain ⟨hlock', hwait'⟩ := State.carrierReleases_free c k (State.renewSection_formed k ht)
        (by rw [hrenewed, hcreel]; exact hlock) (by rw [hrenewed, hcreel]; exact hwait)
      exact ⟨hlockKept.trans hlock', hwaitKept.trans hwait'⟩

end Sys2Proof.Machine
end

section
/-! PROOFS. The ends of visits (R187 to R189, R192): misses and valid replies. -/

namespace Sys2Proof.Machine

/-! ### Misses (R192) -/

section
variable {a : Nat} {m : Miss} {s : State}

theorem State.cycleMiss_of_not_present (h : (s.unit a).presence ≠ .present) : s.cycleMiss a m = s := if_neg h

theorem State.cycleMiss_of_present (h : (s.unit a).presence = .present) (hmisses : (s.unit a).misses ≠ 2) :
    s.cycleMiss a m = s.setUnit a { s.unit a with misses := (s.unit a).misses + 1, lastMiss := m } := by
  have hthree : ¬(s.unit a).misses + 1 = 3 := by omega
  simp only [State.cycleMiss, if_pos h, if_neg hthree]

theorem State.cycleMiss_third (h : (s.unit a).presence = .present) (hmisses : (s.unit a).misses = 2) :
    s.cycleMiss a m = (s.setUnit a { s.unit a with misses := (s.unit a).misses + 1, lastMiss := m }).loseUnit a
      (if m = .wrongKind then lostByWrongKind else lostByMiss) := by
  have hthree : (s.unit a).misses + 1 = 3 := by omega
  simp only [State.cycleMiss, if_pos h, if_pos hthree]

theorem State.cycleMiss_unit_other {b : Nat} (h : b ≠ a) : (s.cycleMiss a m).unit b = s.unit b := by
  unfold State.cycleMiss
  dsimp only
  (repeat' split) <;> simp [State.setUnit_other, State.loseUnit_unit_other, h]

theorem State.cycleMiss_visit : (s.cycleMiss a m).link.visit = s.link.visit := by
  unfold State.cycleMiss
  dsimp only
  (repeat' split) <;> simp

theorem State.loseUnit_att (w : Word) : (s.loseUnit a w).regs.att = s.regs.att ||| 2#32 ||| 16#32 := by
  simp [State.loseUnit, State.journalLost, State.raise_att, State.journal_att, JournalKind.urgent, Cause.bit]

theorem State.missVisit_of_cycling {v : Visit} (h : s.link.mode = .cycling) :
    s.missVisit v m = (s.closeVisit v.addr).cycleMiss v.addr m := by
  have hmode : (s.closeVisit v.addr).link.mode = .cycling := h
  simp only [State.missVisit, hmode]

end

/-- Which replies are no valid ones whatever else they hold (R187, R199). -/
theorem judgeReply_of_bad {a : Nat} {late : Bool} {bytes : List Byte}
    (h : late = true ∨ bytes.length < 8 ∨ bytes.head? ≠ some (BitVec.ofNat 8 a)) :
    judgeReply a late bytes = some .badReply := by
  unfold judgeReply
  dsimp only
  rw [if_pos]
  obtain h | h | h := h
  · simp [h]
  · simp [Nat.not_le.mpr h]
  · simp [h]

/-! ### A unit counted to have answered (R188) -/

section
variable {s : State} {v : Visit} {r : Reply}

theorem Unit.replied_of_delivered {cmd : Option Cmd} {u : Unit} (h : ∃ c, cmd = some c ∧ u.sent = true ∧
    (c = .status ∨ u.headSeq = some r.ack)) : u.replied cmd r =
      { u with misses := 0, unitSeq := r.ack, resync := false, queue := u.queue.drop 1, headSeq := none, sent := false } := by
  obtain ⟨c, rfl, hsent, hc⟩ := h
  have hcond : (u.sent && (c == .status || u.headSeq == some r.ack)) = true := by simpa [hsent] using hc
  simp only [Unit.replied, hcond, if_true]

theorem Unit.replied_of_not_delivered {cmd : Option Cmd} {u : Unit} (h : ¬∃ c, cmd = some c ∧ u.sent = true ∧
    (c = .status ∨ u.headSeq = some r.ack)) : u.replied cmd r =
      { u with misses := 0, unitSeq := r.ack, resync := false } := by
  cases cmd with
  | none => rfl
  | some c =>
    have hcond : ¬(u.sent && (c == .status || u.headSeq == some r.ack)) = true := fun hyes =>
      h ⟨c, rfl, by simpa using hyes⟩
    simp only [Unit.replied, hcond]
    rfl

theorem Unit.replied_keeps (cmd : Option Cmd) (u : Unit) : (u.replied cmd r).misses = 0 ∧
    (u.replied cmd r).unitSeq = r.ack ∧ (u.replied cmd r).resync = false ∧ (u.replied cmd r).ack = u.ack ∧
    (u.replied cmd r).presence = u.presence := by
  by_cases h : ∃ c, cmd = some c ∧ u.sent = true ∧ (c = .status ∨ u.headSeq = some r.ack)
  · rw [Unit.replied_of_delivered h]
    exact ⟨rfl, rfl, rfl, rfl, rfl⟩
  · rw [Unit.replied_of_not_delivered h]
    exact ⟨rfl, rfl, rfl, rfl, rfl⟩

theorem State.replyCounted_unit_same (hs : s.formed = true) :
    (s.replyCounted v r).unit v.addr = (s.unit v.addr).replied v.cmd r :=
  State.setUnit_formed_same _ _ _ (State.closeVisit_formed _ _ hs)

/-- A valid reply of NOTHING, or a report the owner has had, is counted and no more (R189). -/
theorem State.validReply_of_answering (h : s.answering v) (rep : Option Report)
    (hrep : rep = none ∨ r.seq = (s.unit v.addr).ack) : s.validReply v r rep = s.replyCounted v r := by
  obtain ⟨_, hmode, hpresent⟩ := h
  have hmode' : (s.closeVisit v.addr).link.mode = .cycling := hmode
  have hpresent' : ((s.closeVisit v.addr).unit v.addr).presence = .present := hpresent
  simp only [State.validReply, hmode', hpresent', State.presentReply]
  obtain rfl | hseq := hrep
  · rfl
  · cases rep with
    | none => rfl
    | some x => exact if_pos hseq

end

/-! ### The events of a visit's end -/

section
variable {s : State} {v : Visit}

theorem State.windowClosed_of_visit (h : s.link.visit = some v) : s.windowClosed = v.window.expired := by
  simp [State.windowClosed, h]

theorem State.windowClosed_of_no_visit (h : s.link.visit = none) : s.windowClosed = false := by
  simp [State.windowClosed, h]

theorem State.replyMisses_of_visit (h : s.link.visit = some v) (late : Bool) (bytes : List Byte) :
    s.replyMisses late bytes = (judgeReply v.addr late bytes).isSome := by
  simp [State.replyMisses, h]

theorem State.replyMisses_of_no_visit (h : s.link.visit = none) (late : Bool) (bytes : List Byte) :
    s.replyMisses late bytes = false := by
  simp [State.replyMisses, h]

theorem exec_replyWindowEnd (s : State) :
    exec .replyWindowEnd s = if s.windowClosed then .next s.windowEnd.conclude else .next s := rfl

theorem exec_badReply (late : Bool) (bytes : List Byte) (s : State) : exec (.badReply late bytes) s =
    if s.replyMisses late bytes then .next (s.badReply late bytes).conclude else .next s := rfl

theorem State.windowEnd_of_expired (h : s.link.visit = some v) (hw : v.window.expired = true) :
    s.windowEnd = s.missVisit v .noReply := by
  simp [State.windowEnd, h, hw]

theorem State.badReply_of_miss {late : Bool} {bytes : List Byte} {m : Miss} (h : s.link.visit = some v)
    (hj : judgeReply v.addr late bytes = some m) : s.badReply late bytes = s.missVisit v m := by
  simp [State.badReply, h, hj]

theorem exec_nothing_of_awaiting {r : Reply} (h : s.awaiting = some v) :
    exec (.nothing r) s = .next (s.validReply v r none).conclude := by
  change (if s.awaiting.isSome then _ else _) = _
  simp [State.takeNothing, h]

/-- A report of the unit's own kind with its fields in their ranges is a valid reply (R187, R190). -/
theorem State.reportEvent_of_valid {r : Reply} {rep : Report} (h : s.awaiting = some v)
    (howner : kindOwner rep.kind = some (unitKind v.addr)) (hrange : rep.inRange = true) :
    s.reportEvent r rep = (s.validReply v r (some rep)).conclude := by
  simp [State.reportEvent, State.takeReport, h, judgeReport_eq_none howner hrange]

theorem State.reportEvent_of_wrongKind {r : Reply} {rep : Report} (h : s.awaiting = some v)
    (howner : kindOwner rep.kind ≠ some (unitKind v.addr)) :
    s.reportEvent r rep = (s.missVisit v .wrongKind).conclude := by
  simp [State.reportEvent, State.takeReport, h, judgeReport, howner]

end

/-! ### The statement -/

/-- Settles O55: a miss by what the unit's record held; a valid reply by the delivery of the command carried. -/
theorem visitsEnd : Obligations.VisitsEnd := by
  unfold Obligations.VisitsEnd
  refine ⟨fun s v hs => ?_, fun s v r hs h => ?_⟩
  · intro missed
    have hmissed (m : Miss) (hmode : s.link.mode = .cycling) : missed m (s.missVisit v m) := by
      unfold missed
      have hu : s.missVisit v m = (s.closeVisit v.addr).cycleMiss v.addr m := State.missVisit_of_cycling hmode
      have hc : (s.closeVisit v.addr).formed = true := State.closeVisit_formed _ _ hs
      rw [hu]
      refine ⟨State.cycleMiss_visit, fun hpresent hmisses => ?_, fun hpresent hmisses => ?_, fun hpresent => ?_,
        fun b hb => State.cycleMiss_unit_other hb⟩
      · rw [State.cycleMiss_of_present (s := s.closeVisit v.addr) hpresent hmisses, State.setUnit_formed_same _ _ _ hc]
        rfl
      · rw [State.cycleMiss_third (s := s.closeVisit v.addr) hpresent hmisses, State.loseUnit_unit_same,
          State.setUnit_formed_same _ _ _ hc,
          State.loseUnit_att]
        exact ⟨rfl, rfl, rfl, rfl, rfl, rfl, rfl, or_and_self_right .., or_and_of_and_eq _ (or_and_self_right ..)⟩
      · rw [State.cycleMiss_of_not_present (s := s.closeVisit v.addr) hpresent]
        rfl
    refine ⟨fun hnone => ⟨?_, fun l m => ?_⟩, fun hvisit hmode => ⟨fun hw => ⟨?_, hmissed _ hmode⟩, fun hw => ?_,
      fun late bytes hj => ?_, fun late bytes m hj => ⟨?_, hmissed _ hmode⟩⟩, fun late bytes => judgeReply_of_bad,
      fun r x hkind hawait => ?_⟩
    · rw [exec_replyWindowEnd, State.windowClosed_of_no_visit hnone]
      rfl
    · rw [exec_badReply, State.replyMisses_of_no_visit hnone]
      rfl
    · have hexpired := Timer.expired_iff.mpr hw
      rw [exec_replyWindowEnd, State.windowClosed_of_visit hvisit, if_pos hexpired,
        State.windowEnd_of_expired hvisit hexpired]
    · rw [exec_replyWindowEnd, State.windowClosed_of_visit hvisit, if_neg (mt Timer.expired_iff.mp hw)]
    · rw [exec_badReply, State.replyMisses_of_visit hvisit, hj]
      rfl
    · rw [exec_badReply, State.replyMisses_of_visit hvisit, hj, State.badReply_of_miss hvisit hj]
      rfl
    · exact State.reportEvent_of_wrongKind hawait hkind
  · intro x u y delivered
    have hy : y = x.replied v.cmd r := State.replyCounted_unit_same hs
    obtain ⟨hmisses, hseq, hresync, hack, hpresence⟩ := Unit.replied_keeps (r := r) v.cmd x
    have ⟨hawait, hmode, hpresent⟩ := h
    rw [← hy] at hmisses hseq hresync hack hpresence
    refine ⟨?_, fun rep hrep howner hrange => ?_, ?_, hmisses, hseq, hresync, hack, hpresence.trans hpresent,
      fun hdel => ?_, fun hdel => ?_, fun b hb => ?_, ?_, ?_, ?_, ?_, ?_⟩
    · rw [exec_nothing_of_awaiting hawait, State.validReply_of_answering h none (.inl rfl)]
    · rw [State.reportEvent_of_valid hawait howner hrange, State.validReply_of_answering h (some rep) (.inr hrep)]
    · simp [u, State.replyCounted, State.closeVisit]
    · rw [hy, Unit.replied_of_delivered hdel]
      exact ⟨rfl, rfl, rfl⟩
    · rw [hy, Unit.replied_of_not_delivered hdel]
      exact ⟨rfl, rfl, rfl⟩
    · exact State.setUnit_other _ _ _ _ hb
    all_goals simp [u, State.replyCounted, State.closeVisit]

end Sys2Proof.Machine
end

section
/-! PROOFS. Visits begin (R185, R187, R188), and the course of the census (R194). -/

namespace Sys2Proof.Machine

/-! ### The next address due (R185) -/

theorem find_oneTo_eq_some {p : Nat → Bool} {n a : Nat} :
    (oneTo n).find? p = some a ↔ 1 ≤ a ∧ a ≤ n ∧ p a = true ∧ ∀ b, 1 ≤ b → b < a → ¬p b = true := by
  rw [oneTo, List.find?_map, Option.map_eq_some_iff]
  constructor
  · rintro ⟨i, hi, rfl⟩
    obtain ⟨hp, hmem, hbefore⟩ := List.find?_range_eq_some.mp hi
    refine ⟨Nat.le_add_left .., by simpa using hmem, hp, fun b hb hlt => ?_⟩
    have hno := hbefore (b - 1) (by omega)
    simpa [Nat.sub_add_cancel hb] using hno
  · rintro ⟨hpos, hle, hp, hbefore⟩
    refine ⟨a - 1, List.find?_range_eq_some.mpr ⟨?_, ?_, fun j hj => ?_⟩, Nat.sub_add_cancel hpos⟩
    · simpa [Nat.sub_add_cancel hpos] using hp
    · simp only [List.mem_range]
      omega
    · simpa using hbefore (j + 1) (Nat.le_add_left ..) (by omega)

theorem find_oneTo_eq_none {p : Nat → Bool} {n : Nat} :
    (oneTo n).find? p = none ↔ ∀ a, 1 ≤ a → a ≤ n → ¬p a = true := by
  simp only [List.find?_eq_none, mem_oneTo, and_imp]

theorem State.due_iff {s : State} {a : Nat} : s.due a = true ↔
    (s.unit a).presence = .present ∨ ((s.unit a).presence = .lost ∧ s.link.cycle = 0) := by
  unfold State.due
  cases (s.unit a).presence <;> simp

/-- The first address due, from the next one on. -/
theorem State.nextDue_eq_some {s : State} {a : Nat} : s.nextDue = some a ↔
    s.link.next ≤ a ∧ 1 ≤ a ∧ a ≤ 20 ∧ s.due a = true ∧ ∀ b, s.link.next ≤ b → 1 ≤ b → b < a → ¬s.due b = true := by
  rw [State.nextDue, find_oneTo_eq_some]
  simp only [Bool.and_eq_true, decide_eq_true_eq]
  constructor
  · rintro ⟨hpos, hle, ⟨hnext, hdue⟩, hbefore⟩
    exact ⟨hnext, hpos, hle, hdue, fun b hb hb1 hlt hd => hbefore b hb1 hlt ⟨hb, hd⟩⟩
  · rintro ⟨hnext, hpos, hle, hdue, hbefore⟩
    exact ⟨hpos, hle, ⟨hnext, hdue⟩, fun b hb1 hlt hd => hbefore b hd.1 hb1 hlt hd.2⟩

theorem State.nextDue_eq_none {s : State} :
    s.nextDue = none ↔ ∀ a, s.link.next ≤ a → 1 ≤ a → a ≤ 20 → ¬s.due a = true := by
  rw [State.nextDue, find_oneTo_eq_none]
  simp only [Bool.and_eq_true, decide_eq_true_eq, not_and]
  exact ⟨fun h a hn h1 h20 => h a h1 h20 hn, fun h a h1 h20 hn => h a hn h1 h20⟩

/-! ### A visit of the cycles (R187, R188) -/

section
variable {a : Nat} {s : State}

theorem Unit.toSend_eq_some {u : Unit} {c : Cmd} {q : List Cmd} (hq : u.queue = c :: q)
    (h : u.resync = false ∨ c = .status) : u.toSend = some c := by
  have hcond : (!u.resync || c == .status) = true := by simpa using h
  simp only [Unit.toSend, hq, hcond, if_true]

theorem Unit.toSend_eq_none {u : Unit} (h : u.queue = [] ∨ (u.resync = true ∧ u.queue.head? ≠ some .status)) :
    u.toSend = none := by
  obtain h | ⟨hresync, hhead⟩ := h
  · simp [Unit.toSend, h]
  · cases hq : u.queue with
    | nil => simp [Unit.toSend, hq]
    | cons c q => simpa [Unit.toSend, hq, hresync] using hhead

theorem Unit.sending_headSeq (u : Unit) {c : Cmd} (h : c ≠ .status) :
    (u.sending c).headSeq = some (u.headSeq.getD (!u.unitSeq)) := by
  simp [Unit.sending, h]

theorem Unit.sending_keeps (u : Unit) (c : Cmd) : (u.sending c).ack = u.ack ∧ (u.sending c).sent = true := by
  unfold Unit.sending
  split <;> exact ⟨rfl, rfl⟩

/-- The visit of a unit due: the message, the command sent, and no other record. -/
theorem State.visitUnit_effect (hs : s.formed = true) (a : Nat) : ∃ v, (s.visitUnit a).link.visit = some v ∧
    v.addr = a ∧ v.window = ⟨true, 2⟩ ∧ (s.visitUnit a).link.cycle = s.link.cycle ∧
    v.message = visitMessage a v.cmd (s.unit a).ack (((s.visitUnit a).unit a).headSeq.getD false && v.cmd.isSome) ∧
    (∀ c q, (s.unit a).queue = c :: q → (s.unit a).resync = false ∨ c = .status → v.cmd = some c ∧
      ((s.visitUnit a).unit a).sent = true ∧
      (c ≠ .status → ((s.visitUnit a).unit a).headSeq = some ((s.unit a).headSeq.getD (!(s.unit a).unitSeq)))) ∧
    ((s.unit a).queue = [] ∨ ((s.unit a).resync = true ∧ (s.unit a).queue.head? ≠ some .status) →
      v.cmd = none ∧ (s.visitUnit a).unit a = s.unit a) ∧
    ∀ b, b ≠ a → (s.visitUnit a).unit b = s.unit b := by
  cases hsend : (s.unit a).toSend with
  | none =>
    have hu : s.visitUnit a = s.openVisit a none false := by simp only [State.visitUnit, hsend]
    rw [hu]
    refine ⟨_, rfl, rfl, rfl, rfl, ?_, fun c q hq hcond => ?_, fun _ => ⟨rfl, rfl⟩, fun b _ => rfl⟩
    · exact congrArg (visitMessage a none (s.unit a).ack) (Bool.and_false _).symm
    · rw [Unit.toSend_eq_some hq hcond] at hsend
      cases hsend
  | some c =>
    have hu : s.visitUnit a = (s.setUnit a ((s.unit a).sending c)).openVisit a (some c)
        (((s.unit a).sending c).headSeq.getD false) := by simp only [State.visitUnit, hsend]
    have hunit (b : Nat) : (s.visitUnit a).unit b = (s.setUnit a ((s.unit a).sending c)).unit b := by
      rw [hu]
      rfl
    have hsame : (s.visitUnit a).unit a = (s.unit a).sending c := (hunit a).trans (State.setUnit_formed_same _ _ _ hs)
    obtain ⟨hack, hsent⟩ := Unit.sending_keeps (s.unit a) c
    rw [hsame]
    refine ⟨_, congrArg (fun t => t.link.visit) hu, rfl, rfl, ?_, ?_, fun d q hq hcond => ?_, fun hno => ?_,
      fun b hb => (hunit b).trans (State.setUnit_other _ _ _ _ hb)⟩
    · rw [hu]
      exact congrArg Link.cycle rfl |>.trans (by simp [State.openVisit])
    · rw [State.setUnit_formed_same _ _ _ hs, hack]
      simp
    · rw [Unit.toSend_eq_some hq hcond] at hsend
      obtain rfl := Option.some.inj hsend
      exact ⟨rfl, hsent, Unit.sending_headSeq _⟩
    · rw [Unit.toSend_eq_none hno] at hsend
      cases hsend

/-! ### The start of a visit (R185) -/

theorem State.startVisit_of_not_idle (h : ¬(s.link.visit = none ∧ s.link.idle = none ∧ s.regs.part ≠ .halted) ∨
    s.link.mode = .off) : s.startVisit = s := by
  unfold State.startVisit
  split
  · rfl
  · next hcond =>
    obtain h | h := h
    · refine absurd ?_ h
      simpa [and_assoc] using hcond
    · simp only [h]

variable (hidle : s.link.visit = none ∧ s.link.idle = none ∧ s.regs.part ≠ .halted)
include hidle

theorem State.startVisit_of_cycling (h : s.link.mode = .cycling) : s.startVisit = s.visitNext := by
  obtain ⟨hvisit, hidle, hpart⟩ := hidle
  simp [State.startVisit, hvisit, hidle, hpart, h]

theorem State.startVisit_of_census {c : Census} (h : s.link.mode = .census c) : s.startVisit = s.censusVisit c := by
  obtain ⟨hvisit, hidle, hpart⟩ := hidle
  simp [State.startVisit, hvisit, hidle, hpart, h]

omit hidle in
theorem State.visitNext_of_due (h : s.nextDue = some a) : s.visitNext = s.visitUnit a := by
  simp [State.visitNext, h]

omit hidle in
theorem State.visitNext_of_due_next (h : s.nextDue = none) (hnext : s.link.next ≠ 1)
    (h' : s.endCycle.nextDue = some a) :
    s.visitNext = s.endCycle.visitUnit a := by
  simp [State.visitNext, h, hnext, h']

omit hidle in
theorem State.visitNext_of_none_next (h : s.nextDue = none) (hnext : s.link.next ≠ 1) (h' : s.endCycle.nextDue = none) :
    s.visitNext = { s.endCycle with link.idle := some (Timer.load Config.replyWindowMs) } := by
  simp [State.visitNext, h, hnext, h']

omit hidle in
theorem State.visitNext_of_none (h : s.nextDue = none) (hnext : s.link.next = 1) :
    s.visitNext = { s with link.idle := some (Timer.load Config.replyWindowMs) } := by
  simp [State.visitNext, h, hnext]

end

theorem State.endCycle_due_iff {s : State} {a : Nat} : s.endCycle.due a = true ↔
    (s.unit a).presence = .present ∨ ((s.unit a).presence = .lost ∧ (s.link.cycle + 1) % 16 = 0) :=
  State.due_iff

/-! ### A valid reply and a miss in the census (R194) -/

section
variable {s : State} {v : Visit} {c : Census} {r : Reply}

theorem State.validReply_of_census (h : s.link.mode = .census c) (rep : Option Report) :
    s.validReply v r rep = (s.closeVisit v.addr).censusReply c v r rep := by
  have hmode : (s.closeVisit v.addr).link.mode = .census c := h
  simp only [State.validReply, hmode]

theorem Census.withResult_of_not_result {rep : Report} {a : Nat}
    (h : (∀ d m, rep ≠ .state d m) ∨ ¬(c.round = 2 ∧ a ≤ 8 ∧ a ∈ c.answered)) : c.withResult a (some rep) = c := by
  cases rep with
  | state d m =>
    obtain h | h := h
    · exact absurd rfl (h d m)
    · exact if_neg h
  | _ => rfl

theorem Census.withResult_of_result {a m : Nat} {d : DriveState} (h : c.round = 2 ∧ a ≤ 8 ∧ a ∈ c.answered) :
    c.withResult a (some (.state d m)) = { c with drives := c.drives ++ [(a, d, m)] } := if_pos h

theorem State.missVisit_of_census {m : Miss} (h : s.link.mode = .census c) : s.missVisit v m =
    ((s.closeVisit v.addr).cycleMiss v.addr m).censusNext
      { c with wrong := if m = .wrongKind then c.wrong ++ [v.addr] else c.wrong } := by
  have hmode : (s.closeVisit v.addr).link.mode = .census c := h
  simp only [State.missVisit, hmode]

/-- The three ends of a visit in the census, each with the step to the next address. -/
theorem census_visit_ends (ha : s.awaiting = some v) (hm : s.link.mode = .census c) :
    let x := s.unit v.addr
    let closed : State := { s with link := { s.link with visit := none, next := v.addr + 1 } }
    let present (new : Bool) := closed.setUnit v.addr
      { x with presence := .present, misses := 0, unitSeq := r.ack, resync := false, ack := if new then r.seq else x.ack }
    let answered (d : Census) := if c.round = 1 then { d with answered := c.answered ++ [v.addr] } else d
    exec (.nothing r) s = .next ((present false).censusNext (answered c)).conclude ∧
    (∀ rep, kindOwner rep.kind = some (unitKind v.addr) → rep.inRange = true →
      let result := c.round = 2 ∧ v.addr ≤ 8 ∧ v.addr ∈ c.answered
      ((∀ d m, rep ≠ .state d m) ∨ ¬result →
        s.reportEvent r rep = ((present true).censusNext (answered c)).conclude) ∧
      (∀ d m, rep = .state d m → result → s.reportEvent r rep =
        ((present true).censusNext (answered { c with drives := c.drives ++ [(v.addr, d, m)] })).conclude)) ∧
    ∀ m, s.missVisit v m = (closed.cycleMiss v.addr m).censusNext
      { c with wrong := if m = .wrongKind then c.wrong ++ [v.addr] else c.wrong } := by
  intro x closed present answered
  refine ⟨?_, fun rep hkind hrange => ⟨fun hno => ?_, ?_⟩, fun m => State.missVisit_of_census hm⟩
  · rw [exec_nothing_of_awaiting ha, State.validReply_of_census hm]
    rfl
  · rw [State.reportEvent_of_valid ha hkind hrange, State.validReply_of_census hm]
    unfold State.censusReply
    rw [Census.withResult_of_not_result hno]
    rfl
  · rintro d m rfl hyes
    rw [State.reportEvent_of_valid ha hkind hrange, State.validReply_of_census hm]
    unfold State.censusReply
    rw [Census.withResult_of_result hyes]
    rfl

/-! ### The course of the census (R194) -/

theorem State.censusAbsent_of_not (h : ¬(c.round = 2 ∧ (s.unit c.next).presence = .absent ∧ c.next ∈ c.wrong)) :
    s.censusAbsent c c.next = s := if_neg h

theorem State.censusAbsent_of_absent (hs : s.formed = true)
    (h : c.round = 2 ∧ (s.unit c.next).presence = .absent ∧ c.next ∈ c.wrong) :
    (s.censusAbsent c c.next).journalled .unitLost 0 c.next
        [(unitKind c.next).code, w32 (unitNumber c.next), 2#32] ∧
      (s.censusAbsent c c.next).regs.att &&& 16#32 = 16#32 ∧ (s.censusAbsent c c.next).regs.att &&& 2#32 = 2#32 ∧
      (s.censusAbsent c c.next).link = s.link := by
  have hu : s.censusAbsent c c.next = (s.journalLost c.next lostByWrongKind).raise .unit := if_pos h
  have hatt : ((s.journalLost c.next lostByWrongKind).raise .unit).regs.att = s.regs.att ||| 2#32 ||| 16#32 := by
    simp [State.journalLost, State.raise_att, State.journal_att, JournalKind.urgent, Cause.bit]
  rw [hu]
  refine ⟨?_, ?_, ?_, by simp [State.journalLost]⟩
  · exact State.journalled_of_grows (m := 0) (State.Grows.raise _ _) (by omega)
  · rw [hatt]
    exact or_and_self_right ..
  · rw [hatt]
    exact or_and_of_and_eq _ (or_and_self_right ..)

theorem State.censusNext_of_more (h : c.next < 20) : s.censusNext c =
    { s.censusAbsent c c.next with link := { (s.censusAbsent c c.next).link with
      mode := .census { c with next := c.next + 1 } } } := if_pos h

theorem State.censusNext_of_round_two (h : c.next = 20) (hround : c.round = 1) : s.censusNext c =
    { s.censusAbsent c c.next with link := { (s.censusAbsent c c.next).link with
      mode := .census { c with round := 2, next := 1 } } } := by
  simp only [State.censusNext, h, hround, Nat.lt_irrefl, if_false, if_true]

theorem State.censusNext_of_last (h : c.next = 20) (hround : c.round ≠ 1) : s.censusNext c =
    State.startWrites (State.buildTables c { s.censusAbsent c c.next with link := { (s.censusAbsent c c.next).link with
      mode := .cycling, cycle := 0, next := 1 } }) := by
  simp only [State.censusNext, h, hround, Nat.lt_irrefl, if_false, State.endCensus]

end

end Sys2Proof.Machine
end

section
/-! PROOFS. The tables built from the census (R24, R79, R104, R128, R195). -/

namespace Sys2Proof.Machine

/-- A record whose number comes up once is written by its own pass alone, over a state in which it stands as before the
loop. -/
theorem State.each_pass {β : Type} {rec : Nat → State → β} {g : Nat → State → State} {Q : State → Prop}
    (hkeeps : ∀ n t, Q t → Q (g n t)) (hother : ∀ n m t, Q t → m ≠ n → rec m (g n t) = rec m t) {l : List Nat}
    (hl : l.Nodup) {m : Nat} (hm : m ∈ l) {s : State} (hs : Q s) :
    ∃ t, Q t ∧ rec m t = rec m s ∧ rec m (s.each l g) = rec m (g m t) := by
  induction l generalizing s with
  | nil => cases hm
  | cons n r ih =>
    obtain ⟨hn, hr⟩ := List.nodup_cons.mp hl
    obtain rfl | hmem := List.mem_cons.mp hm
    · exact ⟨s, hs, rfl, State.each_record_other hkeeps hother hn (hkeeps m s hs)⟩
    · obtain ⟨t, ht, hrec, hpass⟩ := ih hr hmem (hkeeps n s hs)
      have hne : m ≠ n := fun h => hn (h ▸ hmem)
      exact ⟨t, ht, hrec.trans (hother n m s hs hne), hpass⟩

/-- A state with the records formed, and the settings and the clock of another. -/
def State.Kindred (s t : State) : Prop := t.formed = true ∧ t.plan = s.plan ∧ t.clock = s.clock

theorem State.Kindred.settings {s t : State} (h : s.Kindred t) : t.settings = s.settings := State.settings_of_plan h.2.1

theorem State.Kindred.frameSettings {s t : State} (h : s.Kindred t) (f : Nat) :
    t.frameSettings f = s.frameSettings f := by
  rw [State.frameSettings, State.frameSettings, h.settings]

/-- An empty queue takes the command alone. -/
theorem Unit.handed_of_empty {u : Unit} {c : Cmd} {clock : Word} (hp : u.presence = .present) (hq : u.queue = []) :
    (u.handed c clock).queue = [c] := by
  simp [Unit.handed, hp, hq, Unit.unsent, Unit.inFlight, Config.unitQueueRoom]

/-! ### A frame's sections, spindles and drive -/

/-- The sections and spindles of a frame in plan, as they start (R24, R128). -/
def State.layFrame (f : Nat) (t : FrameSettings) (s : State) : State :=
  (s.each (sectionsInPlan t.perSide) fun k u =>
    u.setCreel (creelNo f k) (Creel.start (t.start k) t.lowThreshold)).spindlesIn f (positions t.perSide)

/-- What the writes of creels and spindles keep, the laying keeps. -/
theorem State.layFrame_keeps {β : Type} (P : State → β) (hcreel : ∀ c x t, P (State.setCreel c x t) = P t)
    (hspindle : ∀ f n x t, P (State.setSpindle f n x t) = P t) (f : Nat) (t : FrameSettings) (s : State) :
    P (s.layFrame f t) = P s := by
  unfold State.layFrame State.spindlesIn
  rw [State.each_keeps_field P fun _ _ => hspindle .., State.each_keeps_field P fun _ _ => hcreel ..]

section
variable (f : Nat) (x : FrameSettings) (s : State)

@[simp] theorem State.layFrame_frame (e : Nat) : (s.layFrame f x).frame e = s.frame e :=
  State.layFrame_keeps (fun t => t.frame e) (by simp) (by simp) f x s
@[simp] theorem State.layFrame_unit (e : Nat) : (s.layFrame f x).unit e = s.unit e :=
  State.layFrame_keeps (fun t => t.unit e) (by simp) (by simp) f x s
@[simp] theorem State.layFrame_roller (e : Nat) : (s.layFrame f x).roller e = s.roller e :=
  State.layFrame_keeps (fun t => t.roller e) (by simp) (by simp) f x s
@[simp] theorem State.layFrame_piecer (e : Nat) : (s.layFrame f x).piecer e = s.piecer e :=
  State.layFrame_keeps (fun t => t.piecer e) (by simp) (by simp) f x s
@[simp] theorem State.layFrame_carrier (e : Nat) : (s.layFrame f x).carrier e = s.carrier e :=
  State.layFrame_keeps (fun t => t.carrier e) (by simp) (by simp) f x s
@[simp] theorem State.layFrame_plan : (s.layFrame f x).plan = s.plan :=
  State.layFrame_keeps State.plan (by simp) (by simp) f x s
@[simp] theorem State.layFrame_clock : (s.layFrame f x).clock = s.clock :=
  State.layFrame_keeps State.clock (by simp) (by simp) f x s

@[simp] theorem State.layFrame_formed (h : s.formed = true) : (s.layFrame f x).formed = true := by
  unfold State.layFrame
  exact State.spindlesIn_formed _ _ _ (State.each_keeps_prop (Q := fun t => t.formed = true)
    (fun _ _ ht => State.setCreel_formed _ _ _ ht) _ h)

end

section
variable {c : Census} {f : Nat} {s : State}

theorem State.frameFromDrive_of_drive {d : DriveState} {m : Nat} (h : c.drive f = some (d, m)) : s.frameFromDrive c f =
    s.setFrame f { s.frame f with
      state := (censusState d).1, haltCause := (censusState d).2.1, doffOwed := (censusState d).2.2, buildM := m
      grace := if (censusState d).1 = .restarting then some (s.frameSettings f).grace else none } := by
  simp only [State.frameFromDrive, h]

theorem State.frameFromDrive_of_present (h : c.drive f = none) (hp : (s.unit f).presence = .present) :
    s.frameFromDrive c f = (s.setFrame f { s.frame f with state := .halted, haltCause := some .census }).hand f .status := by
  simp only [State.frameFromDrive, h, hp, if_true, State.handDrive]

theorem State.frameFromDrive_of_absent (h : c.drive f = none) (hp : (s.unit f).presence ≠ .present) :
    s.frameFromDrive c f = s.setFrame f { s.frame f with state := .halted, haltCause := some .noDrive } := by
  simp only [State.frameFromDrive, h, hp, if_false]

/-- What the writes of the frame and a hand-over to its drive keep, the drive's result keeps. -/
theorem State.frameFromDrive_keeps {β : Type} (P : State → β) (hframe : ∀ x t, P (State.setFrame f x t) = P t)
    (hhand : ∀ t, P (State.hand f .status t) = P t) : P (s.frameFromDrive c f) = P s := by
  cases h : c.drive f with
  | some x => rw [State.frameFromDrive_of_drive h, hframe]
  | none =>
    by_cases hp : (s.unit f).presence = .present
    · rw [State.frameFromDrive_of_present h hp, hhand, hframe]
    · rw [State.frameFromDrive_of_absent h hp, hframe]

theorem State.buildFrame_of_out (h : (s.frameSettings f).inPlan = false) : s.buildFrame c f = s := by
  simp [State.buildFrame, h]

theorem State.buildFrame_of_inPlan (h : (s.frameSettings f).inPlan = true) : s.buildFrame c f =
    ((s.layFrame f (s.frameSettings f)).frameFromDrive c f).setRoller f (Roller.start (s.frameSettings f)
      (1000 * (((s.layFrame f (s.frameSettings f)).frameFromDrive c f).frame f).buildM)) := by
  simp only [State.buildFrame, h, if_true]
  rfl

/-- What no part of a frame's tables holds. -/
theorem State.buildFrame_keeps {β : Type} (P : State → β) (hlay : ∀ x t, P (State.layFrame f x t) = P t)
    (hframe : ∀ x t, P (State.setFrame f x t) = P t) (hhand : ∀ t, P (State.hand f .status t) = P t)
    (hroller : ∀ x t, P (State.setRoller f x t) = P t) : P (s.buildFrame c f) = P s := by
  cases h : (s.frameSettings f).inPlan with
  | false => rw [State.buildFrame_of_out h]
  | true => rw [State.buildFrame_of_inPlan h, hroller, State.frameFromDrive_keeps P hframe hhand, hlay]

theorem State.buildFrame_kindred {u : State} (h : u.Kindred s) : u.Kindred (s.buildFrame c f) := by
  obtain ⟨hs, hplan, hclock⟩ := h
  refine ⟨State.buildFrame_formed _ _ _ hs, ?_, ?_⟩
  · rw [← hplan]
    exact State.buildFrame_keeps State.plan (by simp) (by simp) (by simp) (by simp)
  · rw [← hclock]
    exact State.buildFrame_keeps State.clock (by simp) (by simp) (by simp) (by simp)

/-- The records of another frame stand. -/
theorem State.buildFrame_other {e : Nat} (h : e ≠ f) : (s.buildFrame c f).frame e = s.frame e ∧
    (s.buildFrame c f).unit e = s.unit e ∧ (s.buildFrame c f).roller e = s.roller e :=
  ⟨State.buildFrame_keeps (fun t => t.frame e) (by simp) (by simp [State.setFrame_other, h]) (by simp) (by simp),
    State.buildFrame_keeps (fun t => t.unit e) (by simp) (by simp) (by simp [State.hand_unit_other h]) (by simp),
    State.buildFrame_keeps (fun t => t.roller e) (by simp) (by simp) (by simp) (by simp [State.setRoller_other, h])⟩

/-- A frame's record and its drive's, as the census makes them (R104, R195). -/
structure State.FrameBuilt (s u : State) (c : Census) (f : Nat) : Prop where
  drive : ∀ d m, c.drive f = some (d, m) → u.frame f = { s.frame f with
    state := (censusState d).1, haltCause := (censusState d).2.1, doffOwed := (censusState d).2.2, buildM := m
    grace := if (censusState d).1 = .restarting then some (s.frameSettings f).grace else none }
  present : c.drive f = none → (s.unit f).presence = .present → (s.unit f).queue = [] →
    u.frame f = { s.frame f with state := .halted, haltCause := some .census } ∧ (u.unit f).queue = [.status]
  absent : c.drive f = none → (s.unit f).presence ≠ .present →
    u.frame f = { s.frame f with state := .halted, haltCause := some .noDrive }

theorem State.frameFromDrive_built (hs : s.formed = true) : s.FrameBuilt (s.frameFromDrive c f) c f where
  drive d m h := by rw [State.frameFromDrive_of_drive h, State.setFrame_formed_same _ _ _ hs]
  present h hp hq := by
    rw [State.frameFromDrive_of_present h hp, State.hand_frame, State.setFrame_formed_same _ _ _ hs,
      State.hand_unit_same (State.setFrame_formed _ _ _ hs), State.setFrame_unit]
    exact ⟨rfl, Unit.handed_of_empty hp hq⟩
  absent h hp := by rw [State.frameFromDrive_of_absent h hp, State.setFrame_formed_same _ _ _ hs]

theorem State.buildFrame_built (hs : s.formed = true) (h : (s.frameSettings f).inPlan = true) :
    s.FrameBuilt (s.buildFrame c f) c f ∧ (s.buildFrame c f).roller f =
      Roller.start (s.frameSettings f) (1000 * ((s.buildFrame c f).frame f).buildM) := by
  have hlay := State.layFrame_formed f (s.frameSettings f) s hs
  have hdrive := State.frameFromDrive_formed c f _ hlay
  have hframes (e : FrameSettings) : (s.layFrame f e).frameSettings f = s.frameSettings f := by
    rw [State.frameSettings, State.settings_of_plan (State.layFrame_plan f e s), State.frameSettings]
  obtain ⟨hres, hpresent, habsent⟩ := State.frameFromDrive_built (c := c) (f := f) hlay
  simp only [State.layFrame_frame, State.layFrame_unit, hframes] at hres hpresent habsent
  rw [State.buildFrame_of_inPlan h, State.setRoller_frame, State.setRoller_formed_same _ _ _ hdrive]
  refine ⟨⟨?_, ?_, ?_⟩, rfl⟩
  · rw [State.setRoller_frame]
    exact hres
  · rw [State.setRoller_frame, State.setRoller_unit]
    exact hpresent
  · rw [State.setRoller_frame]
    exact habsent

end

end Sys2Proof.Machine
end

section
/-! PROOFS. The tables of the census, piecers and carriers, and the whole of them (R79, R110, R128, R195). -/

namespace Sys2Proof.Machine

/-! ### The change queue made at the start -/

/-- What the writes of creels and of the change queue keep, the queueing keeps. -/
theorem State.queueNow_keeps {β : Type} (P : State → β) (hqueue : ∀ c w t, P (State.queueByStamp c w t) = P t)
    (l : List Nat) (s : State) : P (s.queueNow l) = P s := by
  unfold State.queueNow
  refine State.each_keeps_field P (fun c t => ?_) _ s
  split
  · exact hqueue ..
  · rfl

section
variable (l : List Nat) (s : State) (e : Nat)

@[simp] theorem State.queueByStamp_frames (c : Nat) (w : Word) : (s.queueByStamp c w).frames = s.frames := by
  simp [State.queueByStamp]
@[simp] theorem State.queueByStamp_plan (c : Nat) (w : Word) : (s.queueByStamp c w).plan = s.plan := by
  simp [State.queueByStamp]
@[simp] theorem State.queueByStamp_clock (c : Nat) (w : Word) : (s.queueByStamp c w).clock = s.clock := by
  simp [State.queueByStamp]
@[simp] theorem State.queueByStamp_units (c : Nat) (w : Word) : (s.queueByStamp c w).link = s.link := by
  simp [State.queueByStamp]
@[simp] theorem State.queueByStamp_rollers (c : Nat) (w : Word) :
    (s.queueByStamp c w).output.rollers = s.output.rollers := by
  simp [State.queueByStamp]
@[simp] theorem State.queueByStamp_piecers (c : Nat) (w : Word) : (s.queueByStamp c w).disp = s.disp := by
  simp [State.queueByStamp]
@[simp] theorem State.queueByStamp_carriers (c : Nat) (w : Word) :
    (s.queueByStamp c w).roving.carriers = s.roving.carriers := by
  simp [State.queueByStamp, State.setCreel]

theorem State.queueNow_frame : (s.queueNow l).frame e = s.frame e :=
  State.queueNow_keeps (fun t => t.frame e) (fun c w t => State.frame_of_table (by simp) e) l s
theorem State.queueNow_unit : (s.queueNow l).unit e = s.unit e :=
  State.queueNow_keeps (fun t => t.unit e) (fun c w t => State.unit_of_table (by simp) e) l s
theorem State.queueNow_roller : (s.queueNow l).roller e = s.roller e :=
  State.queueNow_keeps (fun t => t.roller e) (fun c w t => State.roller_of_table (by simp) e) l s
theorem State.queueNow_piecer : (s.queueNow l).piecer e = s.piecer e :=
  State.queueNow_keeps (fun t => t.piecer e) (fun c w t => State.piecer_of_table (by simp) e) l s
theorem State.queueNow_carrier : (s.queueNow l).carrier e = s.carrier e :=
  State.queueNow_keeps (fun t => t.carrier e) (fun c w t => State.carrier_of_table (by simp) e) l s

end

theorem State.queueNow_kindred {s u : State} {l : List Nat} (h : u.Kindred s) : u.Kindred (s.queueNow l) := by
  obtain ⟨hs, hplan, hclock⟩ := h
  exact ⟨State.queueNow_formed _ _ hs, (State.queueNow_keeps State.plan (by simp) l s).trans hplan,
    (State.queueNow_keeps State.clock (by simp) l s).trans hclock⟩

/-! ### A piecer and a carrier -/

section
variable {s : State} {p k : Nat}

theorem State.buildPiecer_of_present (h : (s.unit (piecerAddr p)).presence = .present) : s.buildPiecer p =
    (s.setPiecer p { s.piecer p with home := s.settings.home p }).sendToBay p .pool none := by
  have h' : ((s.setPiecer p { s.piecer p with home := s.settings.home p }).unit (piecerAddr p)).presence = .present := by
    rw [State.setPiecer_unit]
    exact h
  simp only [State.buildPiecer, h', if_true]

theorem State.buildPiecer_of_absent (h : (s.unit (piecerAddr p)).presence ≠ .present) :
    s.buildPiecer p = s.setPiecer p { s.piecer p with home := s.settings.home p } := by
  have h' : ((s.setPiecer p { s.piecer p with home := s.settings.home p }).unit (piecerAddr p)).presence ≠ .present := by
    rw [State.setPiecer_unit]
    exact h
  simp only [State.buildPiecer, h', if_false]

/-- What the write of the piecer and its way to the bay keep. -/
theorem State.buildPiecer_keeps {β : Type} (P : State → β) (hpiecer : ∀ x t, P (State.setPiecer p x t) = P t)
    (hbay : ∀ t, P (State.sendToBay p .pool none t) = P t) : P (s.buildPiecer p) = P s := by
  by_cases h : (s.unit (piecerAddr p)).presence = .present
  · rw [State.buildPiecer_of_present h, hbay, hpiecer]
  · rw [State.buildPiecer_of_absent h, hpiecer]

theorem State.sendToBay_unit_other {a : Nat} (pl : Placement) (r : Option MoveReason) (h : a ≠ piecerAddr p) :
    (s.sendToBay p pl r).unit a = s.unit a := by
  simp [State.sendToBay, State.journalMove, State.hand_unit_other h]

theorem State.buildPiecer_kindred {u : State} (h : u.Kindred s) : u.Kindred (s.buildPiecer p) := by
  obtain ⟨hs, hplan, hclock⟩ := h
  exact ⟨State.buildPiecer_formed _ _ hs, (State.buildPiecer_keeps State.plan (by simp) (by simp)).trans hplan,
    (State.clock_of_fixed (State.buildPiecer_fixed p s)).trans hclock⟩

theorem State.buildPiecer_other {q : Nat} (h : q ≠ p) : (s.buildPiecer p).piecer q = s.piecer q ∧
    (s.buildPiecer p).unit (piecerAddr q) = s.unit (piecerAddr q) :=
  ⟨State.buildPiecer_keeps (fun t => t.piecer q) (by simp [State.setPiecer_other, h])
      (by simp [State.sendToBay_piecer_other, h]),
    State.buildPiecer_keeps (fun t => t.unit (piecerAddr q)) (by simp)
      fun t => State.sendToBay_unit_other _ _ fun he => h (Nat.add_left_cancel he)⟩

/-- The piecer's record as the census makes it: at rest where it is, or on its way to the bay (R79). -/
theorem State.buildPiecer_built (hs : s.formed = true) :
    ((s.buildPiecer p).piecer p).home = s.settings.home p ∧
    ((s.unit (piecerAddr p)).presence = .present → (s.unit (piecerAddr p)).queue = [] →
      ((s.buildPiecer p).piecer p).state = .parked ∧ ((s.buildPiecer p).piecer p).placement = .pool ∧
      ((s.buildPiecer p).piecer p).atBay = false ∧
      ((s.buildPiecer p).piecer p).travel = ⟨true, 1000 * s.settings.travelTimeout⟩ ∧
      ((s.buildPiecer p).unit (piecerAddr p)).queue = [.park]) ∧
    ((s.unit (piecerAddr p)).presence ≠ .present →
      (s.buildPiecer p).piecer p = { s.piecer p with home := s.settings.home p }) := by
  have hset := State.setPiecer_formed p { s.piecer p with home := s.settings.home p } _ hs
  by_cases h : (s.unit (piecerAddr p)).presence = .present
  · rw [State.buildPiecer_of_present h, State.sendToBay_piecer_same p _ _ hset, State.setPiecer_formed_same _ _ _ hs,
      State.sendToBay_unit_same p _ _ hset, State.hand_unit_same hset, State.setPiecer_unit]
    refine ⟨rfl, fun _ hq => ⟨rfl, rfl, rfl, ?_, Unit.handed_of_empty h hq⟩, fun hno => absurd h hno⟩
    exact congrArg (fun x => (⟨true, 1000 * x.travelTimeout⟩ : Timer))
      (State.settings_of_plan (State.setPiecer_plan ..))
  · rw [State.buildPiecer_of_absent h, State.setPiecer_formed_same _ _ _ hs]
    exact ⟨rfl, fun hyes => absurd hyes h, fun _ => rfl⟩

theorem State.buildCarrier_of_present (h : (s.unit (carrierAddr k)).presence = .present) :
    s.buildCarrier k = s.sendBack k := if_pos h

theorem State.buildCarrier_of_absent (h : (s.unit (carrierAddr k)).presence ≠ .present) :
    s.buildCarrier k = s := if_neg h

/-- What the write of the carrier and its command keep. -/
theorem State.buildCarrier_keeps {β : Type} (P : State → β) (hcarrier : ∀ x t, P (State.setCarrier k x t) = P t)
    (hhand : ∀ t, P (State.hand (carrierAddr k) .ret t) = P t) : P (s.buildCarrier k) = P s := by
  by_cases h : (s.unit (carrierAddr k)).presence = .present
  · rw [State.buildCarrier_of_present h, State.sendBack, hhand, hcarrier]
  · rw [State.buildCarrier_of_absent h]

theorem State.buildCarrier_kindred {u : State} (h : u.Kindred s) : u.Kindred (s.buildCarrier k) := by
  obtain ⟨hs, hplan, hclock⟩ := h
  exact ⟨State.buildCarrier_formed _ _ hs, (State.buildCarrier_keeps State.plan (by simp) (by simp)).trans hplan,
    (State.buildCarrier_keeps State.clock (by simp) (by simp)).trans hclock⟩

theorem State.buildCarrier_other {j : Nat} (h : j ≠ k) : (s.buildCarrier k).carrier j = s.carrier j ∧
    (s.buildCarrier k).unit (carrierAddr j) = s.unit (carrierAddr j) :=
  ⟨State.buildCarrier_keeps (fun t => t.carrier j) (by simp [State.setCarrier_other, h]) (by simp),
    State.buildCarrier_keeps (fun t => t.unit (carrierAddr j)) (by simp)
      fun t => State.hand_unit_other (fun he => h (Nat.add_left_cancel he)) _⟩

/-- The carrier on its way back, told by its record. -/
theorem State.sendBack_fields (hs : s.formed = true) : ((s.sendBack k).carrier k).state = .returning ∧
    ((s.sendBack k).carrier k).creel = none ∧
    ((s.sendBack k).carrier k).back = ⟨true, 1000 * s.settings.changeTimeout⟩ ∧
    (s.sendBack k).unit (carrierAddr k) = (s.unit (carrierAddr k)).handed .ret s.clock := by
  rw [State.sendBack, State.hand_carrier, State.setCarrier_formed_fields _ _ _ hs,
    State.hand_unit_same (State.setCarrier_formed _ _ _ hs), State.setCarrier_unit, State.setCarrier_clock]
  exact ⟨rfl, rfl, rfl, rfl⟩

end

/-! ### The stages of the tables -/

theorem State.each_keeps_mem {α β : Type} (P : State → β) {g : α → State → State} {l : List α}
    (h : ∀ x ∈ l, ∀ t, P (g x t) = P t) (s : State) : P (s.each l g) = P s := by
  induction l generalizing s with
  | nil => rfl
  | cons x r ih =>
    exact (ih (fun y hy => h y (List.mem_cons_of_mem x hy)) (g x s)).trans (h x List.mem_cons_self s)

section
variable {c : Census} {s : State}

/-- The tables with the frames made, before piecers and carriers. -/
def State.framesBuilt (c : Census) (s : State) : State :=
  (s.each allFrames (State.buildFrame c)).queueNow (s.each allFrames (State.buildFrame c)).lowSections

/-- The tables with the frames and the piecers made, before the carriers. -/
def State.piecersBuilt (c : Census) (s : State) : State := (s.framesBuilt c).each allPiecers State.buildPiecer

theorem State.buildTables_eq : s.buildTables c = (s.piecersBuilt c).each [1, 2, 3, 4] State.buildCarrier := rfl

variable (hs : s.formed = true)
include hs

theorem State.framesBuilt_kindred : s.Kindred (s.framesBuilt c) :=
  State.queueNow_kindred (State.each_keeps_prop (fun _ _ h => State.buildFrame_kindred h) _ ⟨hs, rfl, rfl⟩)

theorem State.piecersBuilt_kindred : s.Kindred (s.piecersBuilt c) :=
  State.each_keeps_prop (fun _ _ h => State.buildPiecer_kindred h) _ (State.framesBuilt_kindred hs)

omit hs

theorem State.buildFrame_piecer (f e : Nat) : (s.buildFrame c f).piecer e = s.piecer e :=
  State.buildFrame_keeps (fun t => t.piecer e) (by simp) (by simp) (by simp) (by simp)

theorem State.buildFrame_carrier (f e : Nat) : (s.buildFrame c f).carrier e = s.carrier e :=
  State.buildFrame_keeps (fun t => t.carrier e) (by simp) (by simp) (by simp) (by simp)

theorem State.buildPiecer_carrier (p e : Nat) : (s.buildPiecer p).carrier e = s.carrier e :=
  State.buildPiecer_keeps (fun t => t.carrier e) (by simp) fun t => State.carrier_of_table (by simp) e

theorem State.buildPiecer_frame (p e : Nat) : (s.buildPiecer p).frame e = s.frame e :=
  State.buildPiecer_keeps (fun t => t.frame e) (by simp) fun t => State.frame_of_table (by simp) e

theorem State.sendToBay_rollers (p : Nat) (pl : Placement) (r : Option MoveReason) (e : Nat) :
    (s.sendToBay p pl r).roller e = s.roller e := by
  have hunserve : (s.unserve p).roller e = s.roller e :=
    State.unserve_keeps p s (fun t => t.roller e) (by simp) (by simp)
  simp [State.sendToBay, State.journalMove, hunserve]

theorem State.buildPiecer_roller (p e : Nat) : (s.buildPiecer p).roller e = s.roller e :=
  State.buildPiecer_keeps (fun t => t.roller e) (by simp) fun t => State.sendToBay_rollers ..

theorem State.buildCarrier_frame (k e : Nat) : (s.buildCarrier k).frame e = s.frame e :=
  State.buildCarrier_keeps (fun t => t.frame e) (by simp) (by simp)

theorem State.buildCarrier_roller (k e : Nat) : (s.buildCarrier k).roller e = s.roller e :=
  State.buildCarrier_keeps (fun t => t.roller e) (by simp) (by simp)

theorem State.buildCarrier_piecer (k e : Nat) : (s.buildCarrier k).piecer e = s.piecer e :=
  State.buildCarrier_keeps (fun t => t.piecer e) (by simp) (by simp)

theorem State.buildFrame_unit_other {f a : Nat} (h : a ≠ f) : (s.buildFrame c f).unit a = s.unit a :=
  (State.buildFrame_other h).2.1

theorem State.buildPiecer_unit_other {p a : Nat} (h : a ≠ piecerAddr p) : (s.buildPiecer p).unit a = s.unit a :=
  State.buildPiecer_keeps (fun t => t.unit a) (by simp) fun _ => State.sendToBay_unit_other _ _ h

theorem State.buildCarrier_unit_other {k a : Nat} (h : a ≠ carrierAddr k) : (s.buildCarrier k).unit a = s.unit a :=
  State.buildCarrier_keeps (fun t => t.unit a) (by simp) fun _ => State.hand_unit_other h _

/-! ### A frame in the tables -/

theorem mem_carrierNumbers {k : Nat} : k ∈ [1, 2, 3, 4] ↔ 1 ≤ k ∧ k ≤ 4 := by
  simp only [List.mem_cons, List.not_mem_nil, or_false]
  omega

theorem mem_allPiecers {p : Nat} : p ∈ allPiecers ↔ 1 ≤ p ∧ p ≤ 8 := mem_oneTo

theorem State.framesBuilt_loop {β : Type} (P : State → β) (hqueue : ∀ l t, P (State.queueNow l t) = P t)
    (hpiecer : ∀ p ∈ allPiecers, ∀ t, P (State.buildPiecer p t) = P t)
    (hcarrier : ∀ k ∈ [1, 2, 3, 4], ∀ t, P (State.buildCarrier k t) = P t) :
    P (s.buildTables c) = P (s.each allFrames (State.buildFrame c)) := by
  rw [State.buildTables_eq, State.each_keeps_mem P hcarrier, State.piecersBuilt, State.each_keeps_mem P hpiecer,
    State.framesBuilt, hqueue]

/-- What the census reads of a frame and its drive, and what it makes of them. -/
def State.driveView (f : Nat) (s : State) : Frame × Unit × Roller := (s.frame f, s.unit f, s.roller f)

theorem State.buildTables_frame (f : Nat) :
    (s.buildTables c).frame f = (s.each allFrames (State.buildFrame c)).frame f :=
  State.framesBuilt_loop (fun t => t.frame f) (fun l t => State.queueNow_frame l t f)
    (fun p _ t => State.buildPiecer_frame p f) fun k _ t => State.buildCarrier_frame k f

theorem State.buildTables_roller (f : Nat) :
    (s.buildTables c).roller f = (s.each allFrames (State.buildFrame c)).roller f :=
  State.framesBuilt_loop (fun t => t.roller f) (fun l t => State.queueNow_roller l t f)
    (fun p _ t => State.buildPiecer_roller p f) fun k _ t => State.buildCarrier_roller k f

theorem State.buildTables_unit {f : Nat} (h : f ≤ 8) :
    (s.buildTables c).unit f = (s.each allFrames (State.buildFrame c)).unit f :=
  State.framesBuilt_loop (fun t => t.unit f) (fun l t => State.queueNow_unit l t f)
    (fun p hp t => State.buildPiecer_unit_other (by
      have := mem_allPiecers.mp hp
      unfold piecerAddr
      omega))
    fun k hk t => State.buildCarrier_unit_other (by
      have := mem_carrierNumbers.mp hk
      unfold carrierAddr
      omega)

theorem State.buildTables_frame_out (hs : s.formed = true) {f : Nat} (h : (s.frameSettings f).inPlan = false) :
    (s.buildTables c).frame f = s.frame f := by
  rw [State.buildTables_frame]
  by_cases hf : f ∈ allFrames
  · obtain ⟨t, ht, hrec, hpass⟩ := State.each_pass (rec := fun e t => t.frame e) (Q := s.Kindred) (g := State.buildFrame c)
      (fun _ _ h => State.buildFrame_kindred h) (fun _ _ _ _ hne => (State.buildFrame_other hne).1) (by decide) hf
      ⟨hs, rfl, rfl⟩
    rw [hpass, State.buildFrame_of_out (by rw [ht.frameSettings, h]), hrec]
  · exact State.each_record_other (rec := fun e t => t.frame e) (Q := s.Kindred) (fun _ _ h => State.buildFrame_kindred h)
      (fun _ _ _ _ hne => (State.buildFrame_other hne).1) hf ⟨hs, rfl, rfl⟩

theorem State.buildTables_frame_in (hs : s.formed = true) {f : Nat} (hf : 1 ≤ f ∧ f ≤ 8)
    (h : (s.frameSettings f).inPlan = true) : s.FrameBuilt (s.buildTables c) c f ∧ (s.buildTables c).roller f =
      Roller.start (s.frameSettings f) (1000 * ((s.buildTables c).frame f).buildM) := by
  have hother (n m : Nat) (t : State) (hne : m ≠ n) : (t.buildFrame c n).driveView m = t.driveView m := by
    obtain ⟨hframe, hunit, hroller⟩ := State.buildFrame_other (c := c) (s := t) hne
    rw [State.driveView, hframe, hunit, hroller, State.driveView]
  obtain ⟨t, ht, hrec, hpass⟩ := State.each_pass (rec := State.driveView) (Q := s.Kindred) (g := State.buildFrame c)
    (fun _ _ h => State.buildFrame_kindred h) (fun n m t _ hne => hother n m t hne) (by decide) (mem_allFrames.mpr hf)
    ⟨hs, rfl, rfl⟩
  simp only [State.driveView, Prod.mk.injEq] at hrec hpass
  obtain ⟨hframe, hunit, _⟩ := hrec
  obtain ⟨hframe', hunit', hroller'⟩ := hpass
  obtain ⟨⟨hdrive, hpresent, habsent⟩, hroller⟩ :=
    State.buildFrame_built (c := c) (f := f) ht.1 (by rw [ht.frameSettings, h])
  rw [hframe, ht.frameSettings] at hdrive
  rw [hframe, hunit] at hpresent habsent
  rw [ht.frameSettings] at hroller
  rw [State.buildTables_frame, State.buildTables_roller, hframe', hroller', hroller]
  refine ⟨⟨?_, ?_, ?_⟩, rfl⟩
  · rw [State.buildTables_frame, hframe']
    exact hdrive
  · rw [State.buildTables_frame, hframe', State.buildTables_unit hf.2, hunit']
    exact hpresent
  · rw [State.buildTables_frame, hframe']
    exact habsent

/-! ### A piecer and a carrier in the tables -/

/-- What the census reads of a piecer and its unit, and what it makes of them. -/
def State.piecerView (p : Nat) (s : State) : Piecer × Unit := (s.piecer p, s.unit (piecerAddr p))

/-- What the census reads of a carrier and its unit, and what it makes of them. -/
def State.carrierView (k : Nat) (s : State) : Carrier × Unit := (s.carrier k, s.unit (carrierAddr k))

theorem State.framesBuilt_piecerView {p : Nat} (hp : 1 ≤ p) : (s.framesBuilt c).piecerView p = s.piecerView p := by
  unfold State.framesBuilt State.piecerView
  rw [State.queueNow_piecer, State.queueNow_unit,
    State.each_keeps_field (fun t => t.piecer p) fun f t => State.buildFrame_piecer f p,
    State.each_keeps_mem (fun t => t.unit (piecerAddr p)) fun f hf t => State.buildFrame_unit_other (by
      have := mem_allFrames.mp hf
      unfold piecerAddr
      omega)]

theorem State.buildTables_piecerView {p : Nat} (hp : p ≤ 8) : (s.buildTables c).piecerView p =
    (s.piecersBuilt c).piecerView p := by
  unfold State.piecerView
  rw [State.buildTables_eq, State.each_keeps_field (fun t => t.piecer p) fun k t => State.buildCarrier_piecer k p,
    State.each_keeps_mem (fun t => t.unit (piecerAddr p)) fun k hk t => State.buildCarrier_unit_other (by
      have := mem_carrierNumbers.mp hk
      unfold piecerAddr carrierAddr
      omega)]

theorem State.buildTables_piecer (hs : s.formed = true) {p : Nat} (hp : 1 ≤ p ∧ p ≤ 8) :
    ((s.buildTables c).piecer p).home = s.settings.home p ∧
    ((s.unit (piecerAddr p)).presence = .present → (s.unit (piecerAddr p)).queue = [] →
      ((s.buildTables c).piecer p).state = .parked ∧ ((s.buildTables c).piecer p).placement = .pool ∧
      ((s.buildTables c).piecer p).atBay = false ∧
      ((s.buildTables c).piecer p).travel = ⟨true, 1000 * s.settings.travelTimeout⟩ ∧
      ((s.buildTables c).unit (piecerAddr p)).queue = [.park]) ∧
    ((s.unit (piecerAddr p)).presence ≠ .present →
      (s.buildTables c).piecer p = { s.piecer p with home := s.settings.home p }) := by
  have hother (n m : Nat) (t : State) (hne : m ≠ n) : (t.buildPiecer n).piecerView m = t.piecerView m := by
    obtain ⟨hpiecer, hunit⟩ := State.buildPiecer_other (s := t) hne
    rw [State.piecerView, hpiecer, hunit, State.piecerView]
  obtain ⟨t, ht, hrec, hpass⟩ := State.each_pass (rec := State.piecerView) (Q := s.Kindred) (g := State.buildPiecer)
    (fun _ _ h => State.buildPiecer_kindred h) (fun n m t _ hne => hother n m t hne) (nodup_oneTo 8)
    (mem_allPiecers.mpr hp) (State.framesBuilt_kindred (c := c) hs)
  have hmade : (s.buildTables c).piecerView p = (t.buildPiecer p).piecerView p :=
    (State.buildTables_piecerView hp.2).trans hpass
  have hbefore : t.piecerView p = s.piecerView p := hrec.trans (State.framesBuilt_piecerView hp.1)
  simp only [State.piecerView, Prod.mk.injEq] at hmade hbefore
  obtain ⟨hpiecer, hunit⟩ := hmade
  obtain ⟨hpiecer', hunit'⟩ := hbefore
  rw [hpiecer, hunit, ← hpiecer', ← hunit', ← ht.settings]
  exact State.buildPiecer_built ht.1

theorem State.piecersBuilt_carrierView {k : Nat} (hk : 1 ≤ k) : (s.piecersBuilt c).carrierView k = s.carrierView k := by
  unfold State.piecersBuilt State.framesBuilt State.carrierView
  rw [State.each_keeps_field (fun t => t.carrier k) fun p t => State.buildPiecer_carrier p k,
    State.each_keeps_mem (fun t => t.unit (carrierAddr k)) fun p hp t => State.buildPiecer_unit_other (by
      have := mem_allPiecers.mp hp
      unfold piecerAddr carrierAddr
      omega),
    State.queueNow_carrier, State.queueNow_unit,
    State.each_keeps_field (fun t => t.carrier k) fun f t => State.buildFrame_carrier f k,
    State.each_keeps_mem (fun t => t.unit (carrierAddr k)) fun f hf t => State.buildFrame_unit_other (by
      have := mem_allFrames.mp hf
      unfold carrierAddr
      omega)]

theorem State.buildTables_carrier (hs : s.formed = true) {k : Nat} (hk : 1 ≤ k ∧ k ≤ 4) :
    ((s.unit (carrierAddr k)).presence = .present → (s.unit (carrierAddr k)).queue = [] →
      ((s.buildTables c).carrier k).state = .returning ∧ ((s.buildTables c).carrier k).creel = none ∧
      ((s.buildTables c).carrier k).back = ⟨true, 1000 * s.settings.changeTimeout⟩ ∧
      ((s.buildTables c).unit (carrierAddr k)).queue = [.ret]) ∧
    ((s.unit (carrierAddr k)).presence ≠ .present → (s.buildTables c).carrier k = s.carrier k) := by
  have hother (n m : Nat) (t : State) (hne : m ≠ n) : (t.buildCarrier n).carrierView m = t.carrierView m := by
    obtain ⟨hcarrier, hunit⟩ := State.buildCarrier_other (s := t) hne
    rw [State.carrierView, hcarrier, hunit, State.carrierView]
  obtain ⟨t, ht, hrec, hmade⟩ := State.each_pass (rec := State.carrierView) (Q := s.Kindred) (g := State.buildCarrier)
    (fun _ _ h => State.buildCarrier_kindred h) (fun n m t _ hne => hother n m t hne) (by decide)
    (mem_carrierNumbers.mpr hk) (State.piecersBuilt_kindred (c := c) hs)
  have hbefore : t.carrierView k = s.carrierView k := hrec.trans (State.piecersBuilt_carrierView hk.1)
  rw [← State.buildTables_eq] at hmade
  simp only [State.carrierView, Prod.mk.injEq] at hmade hbefore
  obtain ⟨hcarrier, hunit⟩ := hmade
  obtain ⟨hcarrier', hunit'⟩ := hbefore
  rw [hcarrier, hunit, ← hcarrier', ← hunit', ← ht.settings]
  refine ⟨fun hpresent hq => ?_, fun habsent => by rw [State.buildCarrier_of_absent habsent]⟩
  rw [State.buildCarrier_of_present hpresent]
  obtain ⟨hstate, hcreel, hback, hunit⟩ := State.sendBack_fields (k := k) ht.1
  rw [hunit]
  exact ⟨hstate, hcreel, hback, Unit.handed_of_empty hpresent hq⟩

end

end Sys2Proof.Machine
end

section
/-! PROOFS. A unit that answers again (R193), and the statement of visits and the census. -/

namespace Sys2Proof.Machine

/-- An empty queue takes a command, and nothing else of the record is written. -/
theorem Unit.handed_empty_eq {u : Unit} {c : Cmd} {clock : Word} (hp : u.presence = .present) (hq : u.queue = []) :
    u.handed c clock = { u with queue := [c] } := by
  simp [Unit.handed, hp, hq, Unit.unsent, Unit.inFlight, Config.unitQueueRoom]

/-- A STATUS? stands behind a command just handed (R191). -/
theorem Unit.handed_status_behind {u : Unit} {c : Cmd} {clock : Word} (hp : u.presence = .present)
    (hq : u.queue = [c]) (hc : c ≠ .status) : u.handed .status clock = { u with queue := [c, .status] } := by
  have hpass (l : List Cmd) : l.filter (fun o => !Cmd.status.supersedes o) = l := List.filter_eq_self.mpr fun _ _ => rfl
  have hunsent : Cmd.status ∉ u.unsent := by
    unfold Unit.unsent
    split <;> simp [hq, hc.symm]
  have hsame : u.inFlight ++ u.unsent = [c] := by
    unfold Unit.inFlight Unit.unsent
    split <;> simp [hq]
  have hroom : ¬Config.unitQueueRoom ≤ [c].length := by simp [Config.unitQueueRoom]
  simp only [Unit.handed, hp, hunsent, hpass, hsame, if_neg hroom]
  rfl

/-! ### The owner of a unit that answers again -/

section
variable {s : State}

/-- What a drive handed its order and asked for its state has in its queue (R101). -/
def FrameState.backQueue : FrameState → List Cmd
  | .out => []
  | .halted => [.stop, .status]
  | .restarting | .building | .nearing | .called | .draining => [.run, .status]
  | .stopping => [.stopAtDoff, .status]
  | .doffing => [.doff, .status]

/-- Commands handed in turn to the unit at an address. -/
def State.handAll (a : Nat) (l : List Cmd) (s : State) : State := s.each l fun c t => t.hand a c

theorem State.driveBack_eq (f : Nat) : s.driveBack f = (s.handAll f (s.frame f).state.backQueue).setFrame f
    { (s.handAll f (s.frame f).state.backQueue).frame f with unit := false } := by
  unfold State.driveBack
  cases (s.frame f).state <;> rfl

/-- What a hand-over keeps. -/
theorem State.handAll_keeps {β : Type} (P : State → β) {a : Nat} (h : ∀ c t, P (State.hand a c t) = P t)
    (l : List Cmd) :
    P (s.handAll a l) = P s := State.each_keeps_field P h l s

theorem State.handAll_formed (a : Nat) (l : List Cmd) (hs : s.formed = true) : (s.handAll a l).formed = true :=
  State.each_keeps_prop (Q := fun t => t.formed = true) (fun c _ h => State.hand_formed a c _ h) l hs

theorem State.handAll_pair_grows (a : Nat) (c d : Cmd) : Grows 2 s (s.handAll a [c, d]) :=
  (Grows.hand a c s).trans (Grows.hand a d _)

theorem State.handAll_back_grows (a : Nat) (st : FrameState) : Grows 2 s (s.handAll a st.backQueue) := by
  cases st with
  | out => exact (Grows.refl s).mono (Nat.zero_le 2)
  | _ => exact State.handAll_pair_grows ..

/-- The queue of a drive back, empty before. -/
theorem State.handAll_back_unit (hs : s.formed = true) {a : Nat} (hp : (s.unit a).presence = .present)
    (hq : (s.unit a).queue = []) (st : FrameState) :
    (s.handAll a st.backQueue).unit a = { s.unit a with queue := st.backQueue } := by
  have hpair (c : Cmd) (hc : c ≠ .status) :
      (s.handAll a [c, .status]).unit a = { s.unit a with queue := [c, .status] } := by
    have hfirst := State.hand_unit_same hs a c
    rw [Unit.handed_empty_eq hp hq] at hfirst
    refine (State.hand_unit_same (State.hand_formed a c s hs) a .status).trans ?_
    rw [hfirst]
    exact Unit.handed_status_behind (u := { s.unit a with queue := [c] }) hp rfl hc
  cases st with
  | out => exact (congrArg (fun l => { s.unit a with queue := l }) hq).symm ▸ rfl
  | _ => exact hpair _ (by simp)

end

section
variable {s : State} {a : Nat}

theorem State.ownerBack_of_drive (h : a ≤ 8) : s.ownerBack a = s.driveBack a := by
  have hk : unitKind a = .drive := if_pos h
  have hn : unitNumber a = a := if_pos h
  simp only [State.ownerBack, hk, hn]

theorem State.ownerBack_of_piecer {p : Nat} (h : 1 ≤ p) (h' : p ≤ 8) :
    s.ownerBack (piecerAddr p) = s.returnByLink p := by
  simp only [State.ownerBack, unitKind_piecerAddr h h', unitNumber_piecerAddr h h']

theorem unitKind_carrierAddr {k : Nat} (h : 1 ≤ k) : unitKind (carrierAddr k) = .carrier := by
  unfold unitKind carrierAddr
  rw [if_neg (by omega), if_neg (by omega)]

theorem State.ownerBack_of_carrier {k : Nat} (h : 1 ≤ k) : s.ownerBack (carrierAddr k) =
    if (s.carrier k).state = .lost then s.sendBack k else s := by
  have hn : unitNumber (carrierAddr k) = k :=
    (unitNumber_of_carrier (unitKind_carrierAddr h)).trans (Nat.add_sub_cancel_left ..)
  simp only [State.ownerBack, unitKind_carrierAddr h, hn]

/-- Every address is a drive's, a piecer's or a carrier's. -/
theorem address_cases (a : Nat) : a ≤ 8 ∨ (∃ p, a = piecerAddr p ∧ 1 ≤ p ∧ p ≤ 8) ∨ ∃ k, a = carrierAddr k ∧ 1 ≤ k := by
  unfold piecerAddr carrierAddr
  by_cases h : a ≤ 8
  · exact .inl h
  by_cases h' : a ≤ 16
  · exact .inr (.inl ⟨a - 8, by omega, by omega, by omega⟩)
  · exact .inr (.inr ⟨a - 16, by omega, by omega⟩)

theorem State.returnByLink_of_lost {p : Nat} (h : (s.piecer p).state = .lost ∧ (s.piecer p).byLink = true) :
    s.returnByLink p = (s.setPiecer p { s.piecer p with
      travel := Timer.load (1000 * s.settings.travelTimeout) }).markReturned p := if_pos h

theorem State.returnByLink_of_not_lost {p : Nat} (h : ¬((s.piecer p).state = .lost ∧ (s.piecer p).byLink = true)) :
    s.returnByLink p = s := if_neg h

theorem State.Grows.markReturned (p : Nat) : Grows 1 s (s.markReturned p) := by
  unfold State.markReturned
  dsimp only
  split
  · exact (Grows.setPiecer ..).trans (Grows.hand ..)
  · exact (Grows.setPiecer ..).mono (Nat.zero_le 1)

theorem State.Grows.ownerBack : Grows 2 s (s.ownerBack a) := by
  obtain h | ⟨p, rfl, hp, hp'⟩ | ⟨k, rfl, hk⟩ := address_cases a
  · rw [State.ownerBack_of_drive h, State.driveBack_eq]
    exact (State.handAll_back_grows ..).trans (Grows.setFrame ..)
  · rw [State.ownerBack_of_piecer hp hp']
    by_cases h : (s.piecer p).state = .lost ∧ (s.piecer p).byLink = true
    · rw [State.returnByLink_of_lost h]
      exact ((Grows.setPiecer ..).trans (State.Grows.markReturned p)).mono (by omega)
    · rw [State.returnByLink_of_not_lost h]
      exact (Grows.refl s).mono (Nat.zero_le 2)
  · rw [State.ownerBack_of_carrier hk]
    refine ite (((Grows.setCarrier ..).trans (Grows.hand ..)).mono (by omega)) ((Grows.refl s).mono (Nat.zero_le 2))

/-- What the hand-overs and the records of the three kinds of owners keep. -/
theorem State.ownerBack_keeps {β : Type} (P : State → β) (hframe : ∀ f x t, P (State.setFrame f x t) = P t)
    (hpiecer : ∀ p x t, P (State.setPiecer p x t) = P t) (hcarrier : ∀ k x t, P (State.setCarrier k x t) = P t)
    (hhand : ∀ c t, P (State.hand a c t) = P t) : P (s.ownerBack a) = P s := by
  obtain h | ⟨p, rfl, hp, hp'⟩ | ⟨k, rfl, hk⟩ := address_cases a
  · rw [State.ownerBack_of_drive h, State.driveBack_eq, hframe, State.handAll_keeps P hhand]
  · rw [State.ownerBack_of_piecer hp hp']
    by_cases h : (s.piecer p).state = .lost ∧ (s.piecer p).byLink = true
    · rw [State.returnByLink_of_lost h]
      unfold State.markReturned
      dsimp only
      split
      · rw [hhand, hpiecer, hpiecer]
      · rw [hpiecer, hpiecer]
    · rw [State.returnByLink_of_not_lost h]
  · rw [State.ownerBack_of_carrier hk]
    split
    · rw [State.sendBack, hhand, hcarrier]
    · rfl

theorem State.ownerBack_unit_other {b : Nat} (h : b ≠ a) : (s.ownerBack a).unit b = s.unit b :=
  State.ownerBack_keeps (fun t => t.unit b) (by simp) (by simp) (by simp) fun c _ => State.hand_unit_other h c

theorem State.ownerBack_visit : (s.ownerBack a).link.visit = s.link.visit :=
  State.ownerBack_keeps (fun t => t.link.visit) (by simp) (by simp) (by simp) (by simp)

/-- The frame, the piecer or the carrier of a unit PRESENT again, by what its record held (R78, R101, R122). -/
structure State.OwnerTold (s u : State) (a : Nat) : Prop where
  unit : u.unit a = { s.unit a with queue := (u.unit a).queue }
  drive : a ≤ 8 → u.frame a = { s.frame a with unit := false } ∧ (u.unit a).queue = (s.frame a).state.backQueue
  piecer : ∀ p, a = piecerAddr p → 1 ≤ p → p ≤ 8 →
    ((s.piecer p).state = .lost ∧ (s.piecer p).byLink = true →
      u.piecer p = { s.piecer p with returned := true, travel := ⟨true, 1000 * s.settings.travelTimeout⟩ } ∧
      (u.unit a).queue = match (s.piecer p).void with
        | some token => [.abandon token]
        | none => []) ∧
    (¬((s.piecer p).state = .lost ∧ (s.piecer p).byLink = true) → u.disp = s.disp ∧ (u.unit a).queue = [])
  carrier : ∀ k, a = carrierAddr k → 1 ≤ k →
    ((s.carrier k).state = .lost → (u.carrier k).state = .returning ∧
      (u.carrier k).back = ⟨true, 1000 * s.settings.changeTimeout⟩ ∧ (u.unit a).queue = [.ret]) ∧
    ((s.carrier k).state ≠ .lost → u.roving = s.roving ∧ (u.unit a).queue = [])

variable (hs : s.formed = true) (hp : (s.unit a).presence = .present) (hq : (s.unit a).queue = [])
include hs hp hq

theorem State.ownerTold_drive (ha : a ≤ 8) : s.OwnerTold (s.ownerBack a) a := by
  have hframe : (s.ownerBack a).frame a = { s.frame a with unit := false } := by
    rw [State.ownerBack_of_drive ha, State.driveBack_eq, State.setFrame_formed_same _ _ _ (State.handAll_formed _ _ hs),
      State.handAll_keeps (fun t => t.frame a) (by simp)]
  have hunit : (s.ownerBack a).unit a = { s.unit a with queue := (s.frame a).state.backQueue } := by
    rw [State.ownerBack_of_drive ha, State.driveBack_eq, State.setFrame_unit, State.handAll_back_unit hs hp hq]
  refine ⟨by rw [hunit], fun _ => ⟨hframe, by rw [hunit]⟩, fun p h hp _ => ?_, fun k h hk => ?_⟩
  · unfold piecerAddr at h
    omega
  · unfold carrierAddr at h
    omega

end

section
variable {s : State} {p k : Nat} (hs : s.formed = true)
include hs

theorem State.returnByLink_void {token : Token} (hp : (s.unit (piecerAddr p)).presence = .present)
    (hq : (s.unit (piecerAddr p)).queue = []) (h : (s.piecer p).state = .lost ∧ (s.piecer p).byLink = true)
    (hv : (s.piecer p).void = some token) :
    (s.returnByLink p).unit (piecerAddr p) = { s.unit (piecerAddr p) with queue := [.abandon token] } := by
  have hset := State.setPiecer_formed p { s.piecer p with travel := Timer.load (1000 * s.settings.travelTimeout) } s hs
  rw [State.returnByLink_of_lost h, State.markReturned_unit_same p hset (by
    rw [State.setPiecer_formed_same _ _ _ hs]
    exact hv), State.hand_unit_same hset, State.setPiecer_unit, Unit.handed_empty_eq hp hq]

theorem State.returnByLink_no_void (h : (s.piecer p).state = .lost ∧ (s.piecer p).byLink = true)
    (hv : (s.piecer p).void = none) : (s.returnByLink p).unit (piecerAddr p) = s.unit (piecerAddr p) := by
  have hv' : ((s.setPiecer p { s.piecer p with travel := Timer.load (1000 * s.settings.travelTimeout) }).piecer p).void =
      none := by
    rw [State.setPiecer_formed_same _ _ _ hs]
    exact hv
  rw [State.returnByLink_of_lost h]
  simp only [State.markReturned, hv', State.setPiecer_unit]

theorem State.ownerTold_piecer (hp : (s.unit (piecerAddr p)).presence = .present)
    (hq : (s.unit (piecerAddr p)).queue = []) (h1 : 1 ≤ p) (h8 : p ≤ 8) :
    s.OwnerTold (s.ownerBack (piecerAddr p)) (piecerAddr p) := by
  have hset := State.setPiecer_formed p { s.piecer p with travel := Timer.load (1000 * s.settings.travelTimeout) } s hs
  rw [State.ownerBack_of_piecer h1 h8]
  refine ⟨?_, fun h => ?_, fun q hq' _ _ => ?_, fun k h hk => ?_⟩
  · by_cases h : (s.piecer p).state = .lost ∧ (s.piecer p).byLink = true
    · cases hv : (s.piecer p).void with
      | some token => rw [State.returnByLink_void hs hp hq h hv]
      | none => rw [State.returnByLink_no_void hs h hv]
    · rw [State.returnByLink_of_not_lost h]
  · unfold piecerAddr at h
    omega
  · obtain rfl : p = q := Nat.add_left_cancel hq'
    refine ⟨fun h => ⟨?_, ?_⟩, fun h => ?_⟩
    · rw [State.returnByLink_of_lost h, State.markReturned_piecer_same p hset, State.setPiecer_formed_same _ _ _ hs]
      rfl
    · cases hv : (s.piecer p).void with
      | some token => rw [State.returnByLink_void hs hp hq h hv]
      | none => rw [State.returnByLink_no_void hs h hv, hq]
    · rw [State.returnByLink_of_not_lost h]
      exact ⟨rfl, hq⟩
  · unfold piecerAddr carrierAddr at h
    omega

theorem State.ownerTold_carrier (hp : (s.unit (carrierAddr k)).presence = .present)
    (hq : (s.unit (carrierAddr k)).queue = []) (h1 : 1 ≤ k) :
    s.OwnerTold (s.ownerBack (carrierAddr k)) (carrierAddr k) := by
  rw [State.ownerBack_of_carrier h1]
  refine ⟨?_, fun h => ?_, fun p h _ hp => ?_, fun j hj _ => ?_⟩
  · split
    · obtain ⟨_, _, _, hunit⟩ := State.sendBack_fields (k := k) hs
      rw [hunit, Unit.handed_empty_eq hp hq]
    · rfl
  · unfold carrierAddr at h
    omega
  · unfold piecerAddr carrierAddr at h
    omega
  · obtain rfl : k = j := Nat.add_left_cancel hj
    refine ⟨fun h => ?_, fun h => ?_⟩
    · rw [if_pos h]
      obtain ⟨hstate, _, hback, hunit⟩ := State.sendBack_fields (k := k) hs
      exact ⟨hstate, hback, by rw [hunit, Unit.handed_empty_eq hp hq]⟩
    · rw [if_neg h]
      exact ⟨rfl, hq⟩

theorem State.ownerBack_told {a : Nat} (hp : (s.unit a).presence = .present) (hq : (s.unit a).queue = []) :
    s.OwnerTold (s.ownerBack a) a := by
  obtain h | ⟨p, rfl, h1, h8⟩ | ⟨k, rfl, h1⟩ := address_cases a
  · exact State.ownerTold_drive hs hp hq h
  · exact State.ownerTold_piecer hs hp hq h1 h8
  · exact State.ownerTold_carrier hs hp hq h1

end

/-! ### A valid reply of a LOST unit (R193) -/

section
variable {s : State} {v : Visit} {r : Reply}

/-- A LOST unit has answered: it is PRESENT, and UNIT_BACK journalled. -/
def State.unitPresent (v : Visit) (r : Reply) (s : State) : State :=
  ((s.closeVisit v.addr).setUnit v.addr { s.unit v.addr with
    presence := .present, misses := 0, unitSeq := r.ack, resync := false }).journalBack v.addr
      (s.unit v.addr).lostStamp

/-- The state after a valid reply of a LOST unit, its owner told and no report handed on. -/
def State.unitBack (v : Visit) (r : Reply) (s : State) : State := (s.unitPresent v r).ownerBack v.addr

theorem State.validReply_of_lost (hm : s.link.mode = .cycling) (hp : (s.unit v.addr).presence = .lost)
    (rep : Option Report) : s.validReply v r rep = match rep with
      | some x => (s.unitBack v r).newReport v.addr r x
      | none => s.unitBack v r := by
  have hm' : (s.closeVisit v.addr).link.mode = .cycling := hm
  have hp' : ((s.closeVisit v.addr).unit v.addr).presence = .lost := hp
  simp only [State.validReply, hm', hp', State.lostReply]
  rfl

/-- What the unit's own record, the journal and the visit do not hold. -/
theorem State.unitPresent_keeps {β : Type} (P : State → β) (hclose : P (s.closeVisit v.addr) = P s)
    (hunit : ∀ x t, P (State.setUnit v.addr x t) = P t)
    (hjournal : ∀ k f n l t, P (State.journal k f n l t) = P t) : P (s.unitPresent v r) = P s := by
  rw [State.unitPresent, State.journalBack, hjournal, hunit, hclose]

theorem State.unitPresent_disp : (s.unitPresent v r).disp = s.disp :=
  State.unitPresent_keeps State.disp rfl (by simp) (by simp)
theorem State.unitPresent_roving : (s.unitPresent v r).roving = s.roving :=
  State.unitPresent_keeps State.roving rfl (by simp) (by simp)
theorem State.unitPresent_frame (f : Nat) : (s.unitPresent v r).frame f = s.frame f :=
  State.unitPresent_keeps (fun t => t.frame f) rfl (by simp) (by simp)
theorem State.unitPresent_piecer (p : Nat) : (s.unitPresent v r).piecer p = s.piecer p :=
  State.unitPresent_keeps (fun t => t.piecer p) rfl (by simp) (by simp)
theorem State.unitPresent_carrier (k : Nat) : (s.unitPresent v r).carrier k = s.carrier k :=
  State.unitPresent_keeps (fun t => t.carrier k) rfl (by simp) (by simp)
theorem State.unitPresent_settings : (s.unitPresent v r).settings = s.settings :=
  State.settings_of_plan (State.unitPresent_keeps State.plan rfl (by simp) (by simp))
theorem State.unitPresent_unit_other {b : Nat} (h : b ≠ v.addr) : (s.unitPresent v r).unit b = s.unit b :=
  State.unitPresent_keeps (fun t => t.unit b) rfl (fun _ _ => State.setUnit_other _ _ _ _ h) (by simp)

theorem State.unitBack_visit : (s.unitBack v r).link.visit = none := by
  rw [State.unitBack, State.ownerBack_visit, State.unitPresent, State.journalBack]
  simp [State.closeVisit]

theorem State.unitBack_journalled : (s.unitBack v r).journalled .unitBack 0 v.addr
    [(unitKind v.addr).code, w32 (unitNumber v.addr), w32 (s.clock - (s.unit v.addr).lostStamp).toNat] := by
  have hclock : ((s.closeVisit v.addr).setUnit v.addr { s.unit v.addr with
      presence := .present, misses := 0, unitSeq := r.ack, resync := false }).clock = s.clock := by
    rw [State.setUnit_clock]
    rfl
  have hgrows := State.journalled_of_grows (State.Grows.ownerBack (s := s.unitPresent v r) (a := v.addr)) (by omega)
  rw [State.since, hclock] at hgrows
  exact hgrows

theorem State.unitPresent_formed (hs : s.formed = true) : (s.unitPresent v r).formed = true :=
  State.journalBack_formed _ _ _ (State.setUnit_formed _ _ _ (State.closeVisit_formed _ _ hs) (State.unit_room hs _))

theorem State.unitPresent_unit_same (hs : s.formed = true) : (s.unitPresent v r).unit v.addr =
    { s.unit v.addr with presence := .present, misses := 0, unitSeq := r.ack, resync := false } := by
  rw [State.unitPresent, State.journalBack, State.journal_unit,
    State.setUnit_formed_same _ _ _ (State.closeVisit_formed _ _ hs)]

/-- The owner of a unit that answers again, told from the records before the reply. -/
theorem State.unitBack_told (hs : s.formed = true) (hq : (s.unit v.addr).queue = []) :
    (s.unitPresent v r).OwnerTold (s.unitBack v r) v.addr := by
  have hunit := State.unitPresent_unit_same (v := v) (r := r) hs
  exact State.ownerBack_told (State.unitPresent_formed hs) (by rw [hunit]) (by rw [hunit, hq])

end

/-- A valid reply of a LOST unit, whole: its record, its owner and the journal. -/
theorem lost_unit_answers {s : State} {v : Visit} {r : Reply} (hs : s.formed = true) (ha : s.awaiting = some v)
    (hm : s.link.mode = .cycling) (hp : (s.unit v.addr).presence = .lost) (hq : (s.unit v.addr).queue = []) :
    let x := s.unit v.addr
    let u := s.unitBack v r
    exec (.nothing r) s = .next u.conclude ∧
      (∀ rep, kindOwner rep.kind = some (unitKind v.addr) → rep.inRange = true →
        s.reportEvent r rep =
          (State.giveReport v.addr rep (u.setUnit v.addr { u.unit v.addr with ack := r.seq })).conclude) ∧
      u.link.visit = none ∧
      u.journalled .unitBack 0 v.addr
        [(unitKind v.addr).code, w32 (unitNumber v.addr), w32 (s.clock - x.lostStamp).toNat] ∧
      u.unit v.addr = { x with
        presence := .present, misses := 0, unitSeq := r.ack, resync := false, queue := (u.unit v.addr).queue } := by
  refine ⟨?_, fun rep hkind hrange => ?_, State.unitBack_visit, State.unitBack_journalled, ?_⟩
  · rw [exec_nothing_of_awaiting ha, State.validReply_of_lost hm hp]
  · rw [State.reportEvent_of_valid ha hkind hrange, State.validReply_of_lost hm hp]
    rfl
  · obtain ⟨hunit, _, _, _⟩ := State.unitBack_told (r := r) hs hq
    rw [State.unitPresent_unit_same hs] at hunit
    exact hunit

/-! ### The statement -/

theorem State.visits_of_unit {s t : State} (ht : t.formed = true) (hunit : ∀ a, t.unit a = s.unit a) {a : Nat}
    (h : s.startVisit = t.visitUnit a) :
    ∃ u v, exec .visitStart s = .next u ∧ u.link.visit = some v ∧ v.addr = a ∧ v.window = ⟨true, 2⟩ ∧
        u.link.cycle = t.link.cycle ∧
        v.message = visitMessage a v.cmd (s.unit a).ack ((u.unit a).headSeq.getD false && v.cmd.isSome) ∧
        (∀ c q, (s.unit a).queue = c :: q → (s.unit a).resync = false ∨ c = .status → v.cmd = some c ∧
          (u.unit a).sent = true ∧
          (c ≠ .status → (u.unit a).headSeq = some ((s.unit a).headSeq.getD (!(s.unit a).unitSeq)))) ∧
        ((s.unit a).queue = [] ∨ ((s.unit a).resync = true ∧ (s.unit a).queue.head? ≠ some .status) →
          v.cmd = none ∧ u.unit a = s.unit a) ∧
        ∀ b, b ≠ a → u.unit b = s.unit b := by
  obtain ⟨v, hvisit⟩ := State.visitUnit_effect ht a
  simp only [hunit] at hvisit
  exact ⟨t.visitUnit a, v, congrArg Host.Outcome.next h, hvisit⟩

/-- Settles O54: the start of a visit by the next address due; the ends of the census's visits, its course and the
tables it builds; the reply of a LOST unit by what its owner's record held. -/
theorem visitsBegin : Obligations.VisitsBegin := by
  unfold Obligations.VisitsBegin
  refine ⟨fun s hs => ?_, fun s v c r _ ha hm => census_visit_ends ha hm, fun s c hs => ?_, fun s c hs hqueue => ?_,
    fun s v r hs ha hm hp hq => ?_⟩
  · intro idles due firstDue visits nextCycle
    have hfirst (a : Nat) : firstDue s.link.cycle s.link.next a ↔ s.nextDue = some a := by
      rw [State.nextDue_eq_some]
      simp only [firstDue, due, State.due_iff]
    have hfirst' (a : Nat) : firstDue nextCycle 1 a ↔ s.endCycle.nextDue = some a := by
      rw [State.nextDue_eq_some]
      simp only [firstDue, due, State.endCycle_due_iff]
      rfl
    have hnone : (∀ a, s.link.next ≤ a → 1 ≤ a → a ≤ 20 → ¬due s.link.cycle a) ↔ s.nextDue = none := by
      rw [State.nextDue_eq_none]
      simp only [due, State.due_iff]
    have hnone' : (∀ a, 1 ≤ a → a ≤ 20 → ¬due nextCycle a) → s.endCycle.nextDue = none := fun h => by
      rw [State.nextDue_eq_none]
      simp only [State.endCycle_due_iff]
      exact fun a _ => h a
    refine ⟨fun h => congrArg Host.Outcome.next (State.startVisit_of_not_idle h), fun hidle hm => ⟨fun a ha => ?_,
      fun hno hnext => ⟨fun a ha => ?_, fun hno' => congrArg Host.Outcome.next ?_⟩,
        fun hno hnext => congrArg Host.Outcome.next ?_⟩,
      fun c hidle hm => congrArg Host.Outcome.next ?_, fun h => ?_, fun h => ?_⟩
    · exact State.visits_of_unit hs (fun _ => rfl)
        ((State.startVisit_of_cycling hidle hm).trans (State.visitNext_of_due ((hfirst a).mp ha)))
    · exact State.visits_of_unit (s := s) (t := s.endCycle) (State.endCycle_formed _ hs) (fun _ => rfl)
        ((State.startVisit_of_cycling hidle hm).trans
          (State.visitNext_of_due_next (hnone.mp hno) hnext ((hfirst' a).mp ha)))
    · exact (State.startVisit_of_cycling hidle hm).trans
        (State.visitNext_of_none_next (hnone.mp hno) hnext (hnone' hno'))
    · exact (State.startVisit_of_cycling hidle hm).trans
        (State.visitNext_of_none (hnone.mp fun a _ => hno a) hnext)
    · exact State.startVisit_of_census hidle hm
    · change Host.Outcome.next s.idleEnd = _
      simp only [State.idleEnd, h]
      rfl
    · change Host.Outcome.next s.idleEnd = _
      unfold State.idleEnd
      split
      · next t ht =>
        rw [if_neg]
        intro hexp
        obtain rfl := Timer.expired_iff.mp hexp
        exact h ht
      · rfl
  · exact ⟨State.censusAbsent_of_not, State.censusAbsent_of_absent hs, State.censusNext_of_more,
      State.censusNext_of_round_two, State.censusNext_of_last⟩
  · refine ⟨fun f hlo hhi hin => ?_, fun f => State.buildTables_frame_out hs, fun p hlo hhi => ?_, fun k hlo hhi => ?_⟩
    · intro x y found
      obtain ⟨⟨hdrive, hpresent, habsent⟩, hroller⟩ := State.buildTables_frame_in (c := c) hs ⟨hlo, hhi⟩ hin
      refine ⟨fun m h => hdrive .running m h, fun m h => hdrive .stopped m h, ?_, fun m h => hdrive .fault m h,
        fun h hp => hpresent h hp (hqueue f), habsent, hroller⟩
      rintro m (h | h)
      · exact hdrive .atDoff m h
      · exact hdrive .doffing m h
    · obtain ⟨hhome, hpresent, habsent⟩ := State.buildTables_piecer (c := c) hs ⟨hlo, hhi⟩
      exact ⟨hhome, fun h => hpresent h (hqueue _), habsent⟩
    · obtain ⟨hpresent, habsent⟩ := State.buildTables_carrier (c := c) hs ⟨hlo, hhi⟩
      exact ⟨fun h => hpresent h (hqueue _), habsent⟩
  · intro x
    obtain ⟨hexec, hreport, hvisit, hjournal, hunit⟩ := lost_unit_answers (r := r) hs ha hm hp hq
    obtain ⟨_, hdrive, hpiecer, hcarrier⟩ := State.unitBack_told (r := r) hs hq
    simp only [State.unitPresent_frame] at hdrive
    simp only [State.unitPresent_piecer, State.unitPresent_settings, State.unitPresent_disp] at hpiecer
    simp only [State.unitPresent_carrier, State.unitPresent_settings, State.unitPresent_roving] at hcarrier
    refine ⟨s.unitBack v r, hexec, hreport, hvisit, hjournal, hunit, fun h => ?_, hpiecer, hcarrier, fun b hb => ?_⟩
    · obtain ⟨hframe, hback⟩ := hdrive h
      refine ⟨hframe, hback.trans ?_⟩
      cases (s.frame v.addr).state <;> rfl
    · exact (State.ownerBack_unit_other hb).trans (State.unitPresent_unit_other hb)

end Sys2Proof.Machine
end

section
/-! PROOFS. The loop sweeps of a self-check and its end (R19, R21, R22). -/

namespace Sys2Proof.Machine

/-! ### The orders in the book finished together -/

section
variable {s : State} {c d : Nat} {r : Option Reason} {w : List Word}

theorem State.finish_finished_self : (s.finish c r w).finished c r w := by
  obtain ⟨hview, hanswer⟩ := State.finish_answered (s := s) (cell := c) (r := r) (w := w)
  refine ⟨hview, ?_⟩
  split at hanswer
  · next h =>
    rw [if_pos h]
    exact List.mem_of_getLast? hanswer
  · next h =>
    rw [if_neg h]
    exact List.mem_of_getLast? hanswer

/-- A cell answered stays answered when another is answered alike. -/
theorem State.finish_finished_of (h : s.finished d r w) : (s.finish c r w).finished d r w := by
  by_cases hdc : d = c
  · rw [hdc]
    exact State.finish_finished_self
  obtain ⟨hview, hanswer⟩ := h
  unfold State.finished
  rw [State.finish_regs, State.finish_clock]
  refine ⟨?_, ?_⟩
  · rw [State.cellView, State.finish_desk_view]
    exact (tget_tput_other _ hdc).trans hview
  · split at hanswer
    · next hp =>
      rw [if_pos hp, State.finish_desk_held, if_pos hp]
      exact List.mem_append_left _ hanswer
    · next hp =>
      rw [if_neg hp]
      exact State.mem_finish_of_mem (by simp) hanswer

theorem State.each_finish_finished (l : List Nat) (h : d ∈ l ∨ s.finished d r w) :
    (s.each l fun c t => t.finish c r w).finished d r w := by
  induction l generalizing s with
  | nil => exact h.resolve_left (List.not_mem_nil)
  | cons c l ih =>
    refine ih ?_
    obtain hmem | hdone := h
    · obtain rfl | hmem := List.mem_cons.mp hmem
      · exact .inr State.finish_finished_self
      · exact .inl hmem
    · exact .inr (State.finish_finished_of hdone)

/-- Every order picked is finished (R175). -/
theorem State.finishBook_finished {sel : BookEntry → Bool} {b : BookEntry} (hb : b ∈ s.desk.book)
    (hsel : sel b = true) :
    (s.finishBook sel r w).finished b.cell r w :=
  State.each_finish_finished _ (.inl (List.mem_map_of_mem (List.mem_filter.mpr ⟨hb, hsel⟩)))

end

/-! ### A spindle cut out -/

section
variable {f n : Nat} {c : CutCause} {s : State}

theorem State.cutSpindle_keeps {β : Type} (P : State → β) (hspindle : ∀ x t, P (State.setSpindle f n x t) = P t)
    (hjournal : ∀ k e u l t, P (State.journal k e u l t) = P t) (hcount : ∀ g t, P (State.count f g t) = P t) :
    P (s.cutSpindle f n c) = P s := by
  rw [State.cutSpindle, hcount, hjournal, hspindle]

theorem State.cutSpindle_spindle_same (hs : s.formed = true) : (s.cutSpindle f n c).spindle f n =
    { (s.spindle f n).to .cutOut with cutCause := some c, saved := none } := by
  rw [State.cutSpindle, State.count_spindle, State.journal_spindle, State.setSpindle_formed_same _ _ _ _ hs]

theorem State.cutSpindle_counts (hs : s.formed = true) (hp : s.output.page ≠ none) :
    (s.cutSpindle f n c).counts f = (s.counts f).addCut c := by
  have hset := State.setSpindle_formed f n { (s.spindle f n).to .cutOut with cutCause := some c, saved := none } _ hs
  rw [State.cutSpindle, State.count_counts_same (State.journal_formed _ _ _ _ _ hset) (by simpa using hp),
    State.counts_of_output (s := s) (by simp)]

end

/-! ### One position settled (R21) -/

/-- The record of a CHECKING position that has passed, back where its saved state says. -/
def Spindle.passed (listed : Bool) (x : Spindle) : Spindle :=
  match x.saved with
  | some .down => { x.to .down with saved := none, listed := listed }
  | some .starved => { x.to .starved with saved := none }
  | _ => { x.to .settling with saved := none }

theorem Spindle.passed_keeps (b : Bool) (x : Spindle) : (x.passed b).saved = none ∧ (x.passed b).since = 0 ∧
    (x.passed b).slip = x.slip ∧ (x.passed b).attempts = x.attempts ∧ (x.passed b).cutCause = x.cutCause := by
  unfold Spindle.passed
  split <;> exact ⟨rfl, rfl, rfl, rfl, rfl⟩

theorem Spindle.passed_state (b : Bool) (x : Spindle) : (x.passed b).state =
    if x.saved = some .down then .down else if x.saved = some .starved then .starved else .settling := by
  unfold Spindle.passed
  split
  · next h => simp [h, Spindle.to]
  · next h => simp [h, Spindle.to]
  · next hdown hstarved => rw [if_neg hdown, if_neg hstarved]; rfl

section
variable {f n : Nat} {b : Bool} {s : State}

theorem State.settleChecked_of_not_checking (h : (s.spindle f n).state ≠ .checking) : s.settleChecked f n b = s :=
  if_neg h

theorem State.settleChecked_of_failed (h : (s.spindle f n).state = .checking) :
    s.settleChecked f n true = s.cutSpindle f n .sensor := if_pos h

theorem State.settleChecked_of_passed (h : (s.spindle f n).state = .checking) : s.settleChecked f n false =
    match (s.spindle f n).saved with
    | some .down => (s.setSpindle f n { s.spindle f n with saved := none }).makeDown f n
    | some .starved => s.setSpindle f n { (s.spindle f n).to .starved with saved := none }
    | _ => s.setSpindle f n { (s.spindle f n).to .settling with saved := none } := by
  simp only [State.settleChecked, h, if_true]
  rfl

/-- What the spindle, its side, its cut-out and its listing keep. -/
theorem State.settleChecked_keeps {β : Type} (P : State → β) (hside : ∀ d x t, P (State.setSide d x t) = P t)
    (hspindle : ∀ x t, P (State.setSpindle f n x t) = P t) (hjournal : ∀ k e u l t, P (State.journal k e u l t) = P t)
    (hcount : ∀ g t, P (State.count f g t) = P t) : P (s.settleChecked f n b) = P s := by
  by_cases h : (s.spindle f n).state = .checking
  · cases b with
    | true => rw [State.settleChecked_of_failed h, State.cutSpindle_keeps P hspindle hjournal hcount]
    | false =>
      rw [State.settleChecked_of_passed h]
      split
      · unfold State.makeDown State.listSpindle
        dsimp only
        split <;> simp [hside, hspindle]
      · exact hspindle ..
      · exact hspindle ..
  · rw [State.settleChecked_of_not_checking h]

theorem State.settleChecked_spindle_other {g m : Nat} (h : spindleKey g m ≠ spindleKey f n) :
    (s.settleChecked f n b).spindle g m = s.spindle g m :=
  State.settleChecked_keeps (fun t => t.spindle g m) (by simp) (fun _ _ => State.setSpindle_other _ _ _ _ _ _ h) (by simp)
    (by simp)

/-- A position whose check has failed it, or passed it. -/
theorem State.settleChecked_spindle_same (hs : s.formed = true) : ∃ listed, (s.settleChecked f n b).spindle f n =
    if (s.spindle f n).state = .checking then
      if b then { (s.spindle f n).to .cutOut with cutCause := some .sensor, saved := none }
      else (s.spindle f n).passed listed
    else s.spindle f n := by
  by_cases h : (s.spindle f n).state = .checking
  · simp only [if_pos h]
    cases b with
    | true => exact ⟨false, by rw [State.settleChecked_of_failed h, State.cutSpindle_spindle_same hs, if_pos rfl]⟩
    | false =>
      refine ⟨decide ((s.side (sideOf f n)).entries.length < Config.endListRoom), ?_⟩
      rw [State.settleChecked_of_passed h, if_neg Bool.false_ne_true, Spindle.passed]
      split
      · rw [State.makeDown_spindle_same f n (State.setSpindle_formed _ _ _ _ hs),
          State.setSpindle_formed_same _ _ _ _ hs,
          State.setSpindle_side]
        rfl
      · rw [State.setSpindle_formed_same _ _ _ _ hs]
      · rw [State.setSpindle_formed_same _ _ _ _ hs]
  · exact ⟨false, by rw [State.settleChecked_of_not_checking h, if_neg h]⟩

theorem State.settleChecked_output_page : (s.settleChecked f n b).output.page = s.output.page :=
  State.settleChecked_keeps (fun t => t.output.page) (by simp) (by simp) (by simp) (by simp)

theorem State.settleChecked_counts (hs : s.formed = true) (hp : s.output.page ≠ none) :
    ((s.settleChecked f n b).counts f).cutSensor =
      if (s.spindle f n).state = .checking ∧ b = true then addTo top32 (s.counts f).cutSensor 1
      else (s.counts f).cutSensor := by
  by_cases h : (s.spindle f n).state = .checking
  · cases b with
    | true =>
      rw [State.settleChecked_of_failed h, State.cutSpindle_counts hs hp, if_pos ⟨h, rfl⟩]
      rfl
    | false =>
      rw [State.settleChecked_of_passed h, if_neg (by simp)]
      have hcounts (t : State) (ht : t.output = s.output) : (t.counts f).cutSensor = (s.counts f).cutSensor := by
        rw [State.counts_of_output ht]
      refine hcounts _ ?_
      split
      · rw [State.makeDown_keeps f n _ State.output (by simp) (by simp), State.setSpindle_output]
      · exact State.setSpindle_output ..
      · exact State.setSpindle_output ..
  · rw [State.settleChecked_of_not_checking h, if_neg (fun hc => h hc.1)]

end

/-! ### The positions of a section settled -/

section
variable {f : Nat} {b : Nat → Bool} {s : State} {l : List Nat}

/-- The positions of a list settled, each by its own mark. -/
def State.settleAll (f : Nat) (b : Nat → Bool) (l : List Nat) (s : State) : State :=
  s.each l fun n t => t.settleChecked f n (b n)

theorem State.settleAll_keeps {β : Type} (P : State → β) (hside : ∀ d x t, P (State.setSide d x t) = P t)
    (hspindle : ∀ n x t, P (State.setSpindle f n x t) = P t) (hjournal : ∀ k e u l t, P (State.journal k e u l t) = P t)
    (hcount : ∀ g t, P (State.count f g t) = P t) : P (s.settleAll f b l) = P s :=
  State.each_keeps_field P (fun n _ => State.settleChecked_keeps P hside (hspindle n) hjournal hcount) l s

theorem State.settleAll_spindle (hs : s.formed = true) (hl : l.Nodup) {n : Nat} (hn : n ∈ l) :
    ∃ listed, (s.settleAll f b l).spindle f n =
      if (s.spindle f n).state = .checking then
        if b n then { (s.spindle f n).to .cutOut with cutCause := some .sensor, saved := none }
        else (s.spindle f n).passed listed
      else s.spindle f n := by
  obtain ⟨t, ht, hrec, hpass⟩ := State.each_pass (rec := fun m t => t.spindle f m) (Q := fun t => t.formed = true)
    (g := fun n t => t.settleChecked f n (b n)) (fun _ _ h => State.settleChecked_formed _ _ _ _ h)
    (fun _ _ _ _ hne => State.settleChecked_spindle_other fun he => hne (spindleKey_inj_frame he)) hl hn hs
  obtain ⟨listed, hsame⟩ := State.settleChecked_spindle_same (n := n) (b := b n) ht
  rw [(hrec :)] at hsame
  exact ⟨listed, hpass.trans hsame⟩

theorem State.settleAll_spindle_other {g m : Nat} (h : ∀ n ∈ l, spindleKey g m ≠ spindleKey f n) :
    (s.settleAll f b l).spindle g m = s.spindle g m :=
  State.each_keeps_mem (fun t => t.spindle g m) (fun n hn _ => State.settleChecked_spindle_other (h n hn)) s

theorem addTo_addTo (a k : Nat) (h : a ≤ top32) : addTo top32 (addTo top32 a 1) k = addTo top32 a (k + 1) := by
  unfold addTo
  omega

/-- Every position failed is counted once as cut out by SENSOR (R21, R135). -/
theorem State.settleAll_counts (hs : s.formed = true) (hp : s.output.page ≠ none) (hl : l.Nodup)
    (htop : (s.counts f).cutSensor ≤ top32) : ((s.settleAll f b l).counts f).cutSensor =
      addTo top32 (s.counts f).cutSensor
        (l.filter fun n => decide ((s.spindle f n).state = .checking) && b n).length := by
  induction l generalizing s with
  | nil => exact (Nat.min_eq_right htop).symm
  | cons n r ih =>
    obtain ⟨hn, hr⟩ := List.nodup_cons.mp hl
    have hcounts := State.settleChecked_counts (f := f) (n := n) (b := b n) hs hp
    have hstands : r.filter (fun m => decide (((s.settleChecked f n (b n)).spindle f m).state = .checking) && b m) =
        r.filter fun m => decide ((s.spindle f m).state = .checking) && b m :=
      List.filter_congr fun m hm => by
        have hne : m ≠ n := fun he => hn (he ▸ hm)
        rw [State.settleChecked_spindle_other fun he => hne (spindleKey_inj_frame he)]
    have hrest := ih (State.settleChecked_formed f n (b n) s hs) (by rwa [State.settleChecked_output_page]) hr
      (by rw [hcounts]; unfold addTo; split <;> omega)
    rw [hstands, hcounts] at hrest
    refine hrest.trans ?_
    by_cases hfail : (s.spindle f n).state = .checking ∧ b n = true
    · rw [if_pos hfail, addTo_addTo _ _ htop, List.filter_cons_of_pos (by simp [hfail])]
      rfl
    · rw [if_neg hfail, List.filter_cons_of_neg (by simpa using hfail)]

end

end Sys2Proof.Machine
end

section
/-! PROOFS. The end of a self-check, and its statement (R19, R21, R22). -/

namespace Sys2Proof.Machine

theorem spindlesOfSection_eq (k : Nat) : spindlesOfSection k = List.range' (24 * (k - 1) + 1) 24 := by
  rw [spindlesOfSection, List.range'_eq_map_range]
  exact List.map_congr_left fun i _ => Nat.add_comm ..

/-! ### The failed marks of a loop sweep (R19) -/

/-- A mark set by a fold over the positions read. -/
theorem getLsbD_foldl_marks {α : Type} (q : α → Bool) (pos : α → Nat) (l : List α) (m : BitVec 24) {i : Nat}
    (hi : i < 24) :
    (l.foldl (fun a e => if q e then a ||| (1#24 <<< pos e) else a) m).getLsbD i = true ↔
      m.getLsbD i = true ∨ ∃ e ∈ l, q e = true ∧ pos e = i := by
  induction l generalizing m with
  | nil => simp
  | cons e l ih =>
    rw [List.foldl_cons, ih]
    by_cases hq : q e = true
    · have hbit : (m ||| (1#24 <<< pos e)).getLsbD i = true ↔ m.getLsbD i = true ∨ pos e = i := by
        rw [BitVec.getLsbD_or, Bool.or_eq_true, BitVec.getLsbD_shiftLeft]
        simp only [hi, decide_true, Bool.true_and, Bool.and_eq_true, Bool.not_eq_true', decide_eq_false_iff_not,
          BitVec.getLsbD_one, decide_eq_true_eq]
        refine or_congr_right ⟨fun h => by omega, fun h => by omega⟩
      rw [if_pos hq, hbit]
      simp [hq, or_assoc]
    · rw [if_neg hq]
      simp [hq]

theorem loopMarks_getLsbD {s : State} {f k sweep i : Nat} {m : BitVec 24} {v : List Nat} (hv : v.length = 24)
    (hi : i < 24) : (loopMarks s f k sweep m v).getLsbD i = true ↔ m.getLsbD i = true ∨
      ((s.spindle f (24 * (k - 1) + 1 + i)).state = .checking ∧ v.getD i 0 ≠ loopPattern sweep (i + 1)) := by
  have hmarks := getLsbD_foldl_marks (fun e : Nat × Nat => decide ((s.spindle f e.1).state = .checking ∧
    e.2 ≠ loopPattern sweep ((e.1 - 1) % 24 + 1))) (fun e => (e.1 - 1) % 24) ((spindlesOfSection k).zip v) m hi
  simp only [decide_eq_true_eq] at hmarks
  rw [loopMarks]
  refine hmarks.trans (or_congr_right ?_)
  rw [spindlesOfSection_eq]
  constructor
  · rintro ⟨⟨n, x⟩, he, ⟨hst, hne⟩, hpos⟩
    obtain ⟨j, hj, hjx⟩ := List.mem_iff_getElem.mp he
    rw [List.getElem_zip, List.getElem_range', Prod.mk.injEq] at hjx
    have hj24 : j < 24 := by simpa [hv] using hj
    obtain ⟨rfl, rfl⟩ := hjx
    dsimp only at hst hne hpos
    have hij : j = i := by omega
    subst hij
    rw [hpos] at hne
    refine ⟨by simpa using hst, ?_⟩
    rwa [List.getD_eq_getElem _ _ (by omega)]
  · rintro ⟨hst, hne⟩
    have hlt : i < ((List.range' (24 * (k - 1) + 1) 24).zip v).length := by simp [hv, hi]
    have hpos : (24 * (k - 1) + 1 + i - 1) % 24 = i := by omega
    refine ⟨(24 * (k - 1) + 1 + i, v.getD i 0), List.mem_iff_getElem.mpr ⟨i, hlt, ?_⟩, ⟨hst, ?_⟩, hpos⟩
    · rw [List.getElem_zip, List.getElem_range', List.getD_eq_getElem _ _ (by omega), Nat.one_mul]
    · rwa [hpos]

/-! ### The end of a check (R21, R22) -/

section
variable {f k : Nat} {s : State}

theorem State.checkReport_keeps {β : Type} (P : State → β) {x y z : Nat}
    (hjournal : ∀ j e u l t, P (State.journal j e u l t) = P t)
    (hfinish : ∀ p r l t, P (State.finishBook p r l t) = P t) : P (s.checkReport f k x y z) = P s := by
  rw [State.checkReport, hfinish, hjournal]

theorem State.checkReport_journalled {x y z : Nat} :
    (s.checkReport f k x y z).journalled .checkDone f 0 [w32 k, w32 x, w32 y] :=
  State.journalled_of_grows (State.Grows.finishBook ..) (by omega)

/-- The SELF_CHECK of the section, if one is in the book, is finished with the counts. -/
theorem State.checkReport_finished {x y z : Nat} {b : BookEntry} (hb : b ∈ s.desk.book) (hk : b.kind = .selfCheck)
    (hf : b.p1 = w32 f) (hn : b.p2 = w32 k) :
    (s.checkReport f k x y z).finished b.cell none [w32 x, w32 y, w32 z] :=
  State.finishBook_finished (by simpa using hb) (by simp [orderOnSection, hk, hf, hn])

/-- The marks by which a check ends: none when it is cut short. -/
def LoopCheck.marked (c : LoopCheck) (cutShort : Bool) (n : Nat) : Bool := !cutShort && c.failed.getLsbD ((n - 1) % 24)

/-- The positions of a section that are CHECKING and whose mark is as given. -/
def State.checkingWith (s : State) (f k : Nat) (marked : Nat → Bool) : List Nat :=
  (spindlesOfSection k).filter fun n => decide ((s.spindle f n).state = .checking) && marked n

theorem State.endCheck_eq {c : LoopCheck} (cutShort : Bool) (h : (s.strip (creelNo f k)).check = some c) :
    s.endCheck f k cutShort = ((s.setStrip (creelNo f k) { s.strip (creelNo f k) with check := none }).settleAll f
      (c.marked cutShort) (spindlesOfSection k)).checkReport f k
        (s.checkingWith f k fun n => !c.marked cutShort n).length
        (s.checkingWith f k (c.marked cutShort)).length (if cutShort then 2 else 1) := by
  have hmark (n : Nat) : (if cutShort then 0#24 else c.failed).getLsbD ((n - 1) % 24) = c.marked cutShort n := by
    unfold LoopCheck.marked
    cases cutShort <;> simp
  simp only [State.endCheck, h, hmark, State.checkedWith, State.settleAll, State.checkingWith, beq_true, beq_false]
  rfl

theorem State.endCheck_of_none (cutShort : Bool) (h : (s.strip (creelNo f k)).check = none) :
    s.endCheck f k cutShort = s := by
  simp only [State.endCheck, h]

/-- What the settling of the positions, the strip and the report keep. -/
theorem State.endCheck_keeps {β : Type} (P : State → β) {cutShort : Bool}
    (hstrip : ∀ c x t, P (State.setStrip c x t) = P t) (hside : ∀ d x t, P (State.setSide d x t) = P t)
    (hspindle : ∀ n x t, P (State.setSpindle f n x t) = P t) (hjournal : ∀ j e u l t, P (State.journal j e u l t) = P t)
    (hcount : ∀ g t, P (State.count f g t) = P t) (hfinish : ∀ p r l t, P (State.finishBook p r l t) = P t) :
    P (s.endCheck f k cutShort) = P s := by
  cases h : (s.strip (creelNo f k)).check with
  | none => rw [State.endCheck_of_none _ h]
  | some c =>
    rw [State.endCheck_eq _ h, State.checkReport_keeps P hjournal hfinish,
      State.settleAll_keeps P hside hspindle hjournal hcount, hstrip]

theorem State.endCheck_strip_other {cutShort : Bool} {c : Nat} (h : c ≠ creelNo f k) :
    (s.endCheck f k cutShort).strip c = s.strip c := by
  cases hc : (s.strip (creelNo f k)).check with
  | none => rw [State.endCheck_of_none _ hc]
  | some d =>
    rw [State.endCheck_eq _ hc, State.checkReport_keeps (fun t => t.strip c) (by simp) (by simp),
      State.settleAll_keeps (fun t => t.strip c) (by simp) (by simp) (by simp) (by simp),
        State.setStrip_other _ _ _ _ h]

variable (hs : s.formed = true)
include hs

theorem State.endCheck_strip_same (cutShort : Bool) :
    (s.endCheck f k cutShort).strip (creelNo f k) = { s.strip (creelNo f k) with check := none } := by
  cases hc : (s.strip (creelNo f k)).check with
  | none =>
    rw [State.endCheck_of_none _ hc, ← hc]
  | some d =>
    rw [State.endCheck_eq _ hc, State.checkReport_keeps (fun t => t.strip (creelNo f k)) (by simp) (by simp),
      State.settleAll_keeps (fun t => t.strip (creelNo f k)) (by simp) (by simp) (by simp) (by simp),
      State.setStrip_formed_same _ _ _ hs]

theorem State.endCheck_spindle {c : LoopCheck} {cutShort : Bool} {n : Nat}
    (h : (s.strip (creelNo f k)).check = some c) (hn : n ∈ spindlesOfSection k) :
    ∃ listed, (s.endCheck f k cutShort).spindle f n =
      if (s.spindle f n).state = .checking then
        if c.marked cutShort n then { (s.spindle f n).to .cutOut with cutCause := some .sensor, saved := none }
        else (s.spindle f n).passed listed
      else s.spindle f n := by
  obtain ⟨listed, hspindle⟩ := State.settleAll_spindle (f := f) (b := c.marked cutShort)
    (State.setStrip_formed (creelNo f k) { s.strip (creelNo f k) with check := none } s hs) (nodup_spindlesOfSection k) hn
  refine ⟨listed, ?_⟩
  rw [State.endCheck_eq _ h, State.checkReport_keeps (fun t => t.spindle f n) (by simp) (by simp), hspindle,
    State.setStrip_spindle]

theorem State.endCheck_counts {c : LoopCheck} {cutShort : Bool} (h : (s.strip (creelNo f k)).check = some c)
    (hp : s.output.page ≠ none) (htop : (s.counts f).cutSensor ≤ top32) :
    ((s.endCheck f k cutShort).counts f).cutSensor =
      addTo top32 (s.counts f).cutSensor (s.checkingWith f k (c.marked cutShort)).length := by
  have hset := State.setStrip_formed (creelNo f k) { s.strip (creelNo f k) with check := none } s hs
  rw [State.endCheck_eq _ h, State.checkReport_keeps (fun t => t.counts f) (fun _ _ _ _ _ => State.counts_of_output (by simp) _)
      (fun _ _ _ _ => State.counts_of_output (by simp) _),
    State.settleAll_counts hset (by simpa using hp) (nodup_spindlesOfSection k)
      (by rwa [State.counts_of_output (State.setStrip_output ..)]),
    State.counts_of_output (State.setStrip_output ..)]
  simp only [State.setStrip_spindle]
  rfl

end

theorem State.endCheck_book {f k : Nat} {s : State} {c : LoopCheck} (cutShort : Bool) {b : BookEntry}
    (h : (s.strip (creelNo f k)).check = some c) (hb : b ∈ s.desk.book) (hkind : b.kind = .selfCheck)
    (hf : b.p1 = w32 f) (hk : b.p2 = w32 k) : (s.endCheck f k cutShort).finished b.cell none
      [w32 (s.checkingWith f k fun n => !c.marked cutShort n).length,
        w32 (s.checkingWith f k (c.marked cutShort)).length,
        if cutShort then 2#32 else 1#32] := by
  have hbook : ((s.setStrip (creelNo f k) { s.strip (creelNo f k) with check := none }).settleAll f
      (c.marked cutShort) (spindlesOfSection k)).desk.book = s.desk.book := by
    rw [State.settleAll_keeps (fun t => t.desk.book) (by simp) (by simp) (by simp) (by simp)]
    simp
  have hcode : w32 (if cutShort then 2 else 1) = if cutShort then 2#32 else 1#32 := by cases cutShort <;> rfl
  rw [State.endCheck_eq _ h, ← hcode]
  exact State.checkReport_finished (by rwa [hbook]) hkind hf hk

theorem State.dropCheck_eq {f k : Nat} {s : State} (h : (s.strip (creelNo f k)).check ≠ none) : s.dropCheck f k =
    (s.setStrip (creelNo f k) { s.strip (creelNo f k) with check := none }).checkReport f k 0 0 2 := by
  obtain ⟨c, hc⟩ := Option.ne_none_iff_exists'.mp h
  simp only [State.dropCheck, hc]

/-! ### The statement -/

/-- Settles O37: a loop sweep by its marks, bit by bit; the end of a check as the settling of its CHECKING positions,
each by its mark, and the report of their counts. -/
theorem selfChecksRunAndEnd : Obligations.SelfChecksRunAndEnd := by
  unfold Obligations.SelfChecksRunAndEnd
  refine ⟨fun p => ⟨rfl, rfl, rfl, rfl⟩, fun s f k c v _ hv _ => ?_, fun s f k c cutShort hs _ hc => ?_,
    fun s f k hs hc => ?_⟩
  · intro marks t
    refine ⟨fun i hi => loopMarks_getLsbD hv hi, fun h => if_neg h, fun h => if_pos h⟩
  · intro u ofSection marked checking failed passed
    have hmem {n : Nat} (hn : n ∈ ofSection) : n ∈ spindlesOfSection k := by
      rw [spindlesOfSection_eq]
      exact hn
    have hcount (g : Nat → Bool) : (checking.filter g).length = (s.checkingWith f k g).length := by
      rw [State.checkingWith, spindlesOfSection_eq, List.filter_filter]
      exact congrArg List.length (List.filter_congr fun n _ => Bool.and_comm ..)
    have hfailed : failed = (s.checkingWith f k (c.marked cutShort)).length := hcount marked
    have hpassed : passed = (s.checkingWith f k fun n => !c.marked cutShort n).length := hcount fun n => !marked n
    refine ⟨State.endCheck_strip_same hs cutShort, fun n hn => ?_, fun hp htop => ?_, ?_, fun b hb hkind hf hk => ?_,
      ?_, ?_, ?_⟩
    · obtain ⟨listed, hspindle⟩ := State.endCheck_spindle (cutShort := cutShort) hs hc (hmem hn)
      intro x y
      have hy : y = _ := hspindle
      refine ⟨fun h => by rw [hy, if_neg h], fun h => ?_, fun h hmark => ?_, fun h hmark => ?_⟩
      · rw [hy, if_pos h]
        split
        · exact ⟨rfl, rfl, rfl, rfl⟩
        · obtain ⟨hsaved, hsince, hslip, hattempts, _⟩ := Spindle.passed_keeps listed x
          exact ⟨hsaved, hsince, hslip, hattempts⟩
      · have hmarked : c.marked cutShort n = true := hmark
        rw [hy, if_pos h, if_pos hmarked]
        exact ⟨rfl, rfl⟩
      · have hmarked : c.marked cutShort n = false := hmark
        obtain ⟨_, _, _, _, hcause⟩ := Spindle.passed_keeps listed x
        rw [hy, if_pos h, hmarked, if_neg Bool.false_ne_true]
        exact ⟨hcause, Spindle.passed_state listed x⟩
    · rw [hfailed]
      exact State.endCheck_counts hs hc hp htop
    · rw [hfailed, hpassed]
      have hu : u = _ := State.endCheck_eq cutShort hc
      rw [hu]
      exact State.checkReport_journalled
    · rw [hfailed, hpassed]
      exact State.endCheck_book cutShort hc hb hkind hf hk
    · exact State.endCheck_keeps State.frames (by simp) (by simp) (by simp) (by simp) (by simp) (by simp)
    · exact State.endCheck_keeps State.roving (by simp) (by simp) (by simp) (by simp) (by simp) (by simp)
    · exact State.endCheck_keeps (fun t => t.disp.piecers) (by simp) (by simp) (by simp) (by simp) (by simp) (by simp)
  · intro u
    have hu : u = _ := State.dropCheck_eq hc
    rw [hu]
    refine ⟨?_, ?_, State.checkReport_journalled, fun b hb hkind hf hk =>
      State.checkReport_finished (by simpa using hb) hkind hf hk⟩
    · rw [State.checkReport_keeps (fun t => t.strip (creelNo f k)) (by simp) (by simp),
        State.setStrip_formed_same _ _ _ hs]
    · rw [State.checkReport_keeps (fun t => t.watch.spindles) (by simp) (by simp), State.setStrip_watch_spindles]

end Sys2Proof.Machine
end

section
/-! PROOFS. RUN_CLEAR: the entry effects of winding down (R164, R166). -/

namespace Sys2Proof.Machine

/-! ### The taking given up -/

section
variable {s : State}

/-- What neither the desk, the port nor the reading of a copy holds. -/
theorem State.giveUpTaking_keeps {β : Type} (P : State → β)
    (h : ∀ t x y z, P { t with plan := { t.plan with read := x }, desk := y, port := z } = P t) :
    P s.giveUpTaking = P s := by
  have hread : s.giveUpTaking = { s with
      plan := { s.plan with read := none }, desk := s.giveUpTaking.desk, port := s.giveUpTaking.port } := by
    unfold State.giveUpTaking State.endScan State.beginScan
    dsimp only
    (repeat' split) <;> rfl
  rw [hread, h]

theorem State.giveUpTaking_plan : s.giveUpTaking.plan = { s.plan with read := none } := by
  unfold State.giveUpTaking State.endScan State.beginScan
  dsimp only
  (repeat' split) <;> rfl

theorem State.endScan_taking : s.endScan.taking = [] := by
  unfold State.endScan
  split <;> rfl

theorem State.giveUpTaking_taking : s.giveUpTaking.taking = [] := by
  unfold State.giveUpTaking
  dsimp only
  split
  · exact State.endScan_taking
  · next hno =>
    unfold State.taking
    split
    · next l hl => exact absurd hl (hno l)
    · rfl

end

/-! ### The self-checks cut short (R22) -/

/-- The check of a section, by its number, cut short. -/
def State.cutCheck (c : Nat) (s : State) : State := s.endCheck (creelFrame c) (creelIndex c) true

theorem creelNo_of_creel {c : Nat} (h : 1 ≤ c) : creelNo (creelFrame c) (creelIndex c) = c := by
  unfold creelNo creelFrame creelIndex
  omega

theorem creelIndex_range (c : Nat) : 1 ≤ creelIndex c ∧ creelIndex c ≤ 76 := by
  unfold creelIndex
  omega

theorem creelFrame_pos (c : Nat) : 1 ≤ creelFrame c := Nat.le_add_left ..

/-- Spindles of two sections are two spindles. -/
theorem spindleKey_ne_of_creel {c d n m : Nat} (h : creelNo (creelFrame d) (creelIndex d) ≠ c) (hc : 1 ≤ c)
    (hn : n ∈ spindlesOfSection (creelIndex c)) (hm : m ∈ spindlesOfSection (creelIndex d)) :
    spindleKey (creelFrame c) n ≠ spindleKey (creelFrame d) m := fun hkey => by
  rw [mem_spindlesOfSection] at hn hm
  obtain ⟨_, hn76⟩ := creelIndex_range c
  obtain ⟨_, hm76⟩ := creelIndex_range d
  obtain ⟨hf, hnm⟩ := spindleKey_inj (creelFrame_pos d) (creelFrame_pos c) (by omega) (by omega) hkey
  have hk : creelIndex d = creelIndex c := by omega
  exact h (by rw [hk, ← hf, creelNo_of_creel hc])

theorem mem_keys_sectionsInCheck {s : State} {c : Nat} (h : (s.strip c).check ≠ none) : c ∈ s.sectionsInCheck := by
  have hfound {t : List (Nat × Strip)} (ht : (tget Strip.reset t c).check ≠ none) :
      c ∈ (t.filter fun e => e.2.check.isSome).map Prod.fst := by
    induction t with
    | nil => exact absurd rfl ht
    | cons e r ih =>
      obtain ⟨k, v⟩ := e
      by_cases hk : c = k
      · rw [tget, if_pos hk] at ht
        rw [List.filter_cons_of_pos (by simpa [Option.isSome_iff_ne_none] using ht), hk]
        exact List.mem_cons_self
      · rw [tget, if_neg hk] at ht
        obtain ⟨e, he, hfst⟩ := List.mem_map.mp (ih ht)
        rw [List.mem_filter] at he
        exact List.mem_map.mpr ⟨e, List.mem_filter.mpr ⟨List.mem_cons_of_mem _ he.1, he.2⟩, hfst⟩
  exact hfound h

section
variable {c : Nat} {l : List Nat} {s : State}

/-- What a check's end keeps, the cutting short of checks keeps. -/
theorem State.cutChecks_keeps {β : Type} (P : State → β) (hstrip : ∀ d x t, P (State.setStrip d x t) = P t)
    (hside : ∀ d x t, P (State.setSide d x t) = P t) (hspindle : ∀ f n x t, P (State.setSpindle f n x t) = P t)
    (hjournal : ∀ j e u w t, P (State.journal j e u w t) = P t) (hcount : ∀ f g t, P (State.count f g t) = P t)
    (hfinish : ∀ p r w t, P (State.finishBook p r w t) = P t) : P (s.each l State.cutCheck) = P s :=
  State.each_keeps_field P (fun d _ =>
    State.endCheck_keeps P hstrip hside (hspindle (creelFrame d)) hjournal (hcount (creelFrame d)) hfinish) l s

theorem State.cutCheck_formed (d : Nat) (hs : s.formed = true) : (s.cutCheck d).formed = true :=
  State.endCheck_formed _ _ _ _ hs

theorem State.cutCheck_strip_check (hs : s.formed = true) (d : Nat) :
    ((s.cutCheck d).strip c).check =
      if c = creelNo (creelFrame d) (creelIndex d) then none else (s.strip c).check := by
  split
  · next h =>
    rw [h]
    exact congrArg Strip.check (State.endCheck_strip_same hs true)
  · next h => exact congrArg Strip.check (State.endCheck_strip_other h)

theorem State.cutChecks_strip_check (hs : s.formed = true) (hc : 1 ≤ c) (h : c ∈ l ∨ (s.strip c).check = none) :
    ((s.each l State.cutCheck).strip c).check = none := by
  induction l generalizing s with
  | nil => exact h.resolve_left List.not_mem_nil
  | cons d r ih =>
    refine ih (State.cutCheck_formed d hs) ?_
    rw [State.cutCheck_strip_check hs]
    obtain hmem | hnone := h
    · obtain rfl | hmem := List.mem_cons.mp hmem
      · exact .inr (if_pos (creelNo_of_creel hc).symm)
      · exact .inl hmem
    · exact .inr (by rw [hnone, ite_self])

variable {n : Nat} (hc : 1 ≤ c) (hn : n ∈ spindlesOfSection (creelIndex c))
include hc hn

theorem State.cutCheck_spindle_other {d : Nat} (h : c ≠ creelNo (creelFrame d) (creelIndex d)) :
    (s.cutCheck d).spindle (creelFrame c) n = s.spindle (creelFrame c) n := by
  cases hd : (s.strip (creelNo (creelFrame d) (creelIndex d))).check with
  | none => rw [State.cutCheck, State.endCheck_of_none _ hd]
  | some x =>
    rw [State.cutCheck, State.endCheck_eq _ hd,
      State.checkReport_keeps (fun t => t.spindle (creelFrame c) n) (by simp) (by simp),
      State.settleAll_spindle_other fun m hm => spindleKey_ne_of_creel h.symm hc hn hm, State.setStrip_spindle]

/-- A section in no check keeps its spindles. -/
theorem State.cutChecks_spindle_of_none (hs : s.formed = true) (h : (s.strip c).check = none) :
    (s.each l State.cutCheck).spindle (creelFrame c) n = s.spindle (creelFrame c) n := by
  induction l generalizing s with
  | nil => rfl
  | cons d r ih =>
    have hstrip : ((s.cutCheck d).strip c).check = none := by rw [State.cutCheck_strip_check hs, h, ite_self]
    refine (ih (State.cutCheck_formed d hs) hstrip).trans ?_
    by_cases hd : c = creelNo (creelFrame d) (creelIndex d)
    · rw [hd] at h
      rw [State.cutCheck, State.endCheck_of_none _ h]
    · exact State.cutCheck_spindle_other hc hn hd

/-- A spindle of a section in check is settled as passed. -/
theorem State.cutChecks_spindle (hs : s.formed = true) (h : (s.strip c).check ≠ none) (hl : c ∈ l) :
    ∃ listed, (s.each l State.cutCheck).spindle (creelFrame c) n =
      if (s.spindle (creelFrame c) n).state = .checking then (s.spindle (creelFrame c) n).passed listed
      else s.spindle (creelFrame c) n := by
  induction l generalizing s with
  | nil => exact absurd hl List.not_mem_nil
  | cons d r ih =>
    have hformed := State.cutCheck_formed d hs
    have hcheck := State.cutCheck_strip_check (c := c) hs d
    by_cases hd : c = creelNo (creelFrame d) (creelIndex d)
    · rw [if_pos hd] at hcheck
      obtain ⟨x, hx⟩ := Option.ne_none_iff_exists'.mp h
      have hf : creelFrame d = creelFrame c ∧ creelIndex d = creelIndex c := by
        unfold creelNo creelFrame creelIndex at hd
        unfold creelFrame creelIndex
        omega
      obtain ⟨listed, hspindle⟩ := State.endCheck_spindle (cutShort := true) (f := creelFrame c) (k := creelIndex c) hs
        (by rwa [creelNo_of_creel hc]) hn
      refine ⟨listed, (State.cutChecks_spindle_of_none hc hn hformed hcheck).trans ?_⟩
      rw [State.cutCheck, hf.1, hf.2, hspindle]
      rfl
    · rw [if_neg hd] at hcheck
      have hmem : c ∈ r := (List.mem_cons.mp hl).resolve_left fun he =>
        hd (by rw [← he, creelNo_of_creel hc])
      obtain ⟨listed, hspindle⟩ := ih hformed (by rwa [hcheck]) hmem
      refine ⟨listed, hspindle.trans ?_⟩
      rw [State.cutCheck_spindle_other hc hn hd]

end

/-! ### The piecers sent to the bay (R73) -/

/-- An entry into winding down sends a piecer to the bay, or lets it stand. -/
def State.sendHome (p : Nat) (s : State) : State := if (s.piecer p).toBay then s.sendToBay p .pool none else s

section
variable {p : Nat} {s : State}

theorem State.sendHome_keeps {β : Type} (P : State → β) (h : ∀ t, P (State.sendToBay p .pool none t) = P t) :
    P (s.sendHome p) = P s := by
  unfold State.sendHome
  split
  · exact h s
  · rfl

theorem State.sendHome_kindred {u : State} (h : u.Kindred s) : u.Kindred (s.sendHome p) := by
  obtain ⟨hs, hplan, hclock⟩ := h
  refine ⟨?_, (State.sendHome_keeps State.plan (by simp)).trans hplan,
    (State.sendHome_keeps State.clock fun t => State.clock_of_fixed (State.sendToBay_fixed ..)).trans hclock⟩
  unfold State.sendHome
  split
  · exact State.sendToBay_formed _ _ _ _ hs
  · exact hs

theorem State.sendHome_other {q : Nat} (h : q ≠ p) : (s.sendHome p).piecerView q = s.piecerView q := by
  refine State.sendHome_keeps (fun t => t.piecerView q) fun t => ?_
  unfold State.piecerView
  rw [State.sendToBay_piecer_other _ _ _ _ h,
    State.sendToBay_unit_other (a := piecerAddr q) _ _ fun he => h (Nat.add_left_cancel he)]

theorem Piecer.toBay_iff (x : Piecer) : x.toBay = true ↔
    x.state = .onSide ∨ x.state = .moving ∨ (x.state = .parked ∧ x.placement ≠ .park) := by
  simp [Piecer.toBay, or_assoc]

end

/-- The piecers after the sending, each from its record before. -/
theorem State.sendAllHome {s : State} (hs : s.formed = true) {p : Nat} (hp : 1 ≤ p ∧ p ≤ 8) :
    ((s.piecer p).toBay = true → (s.each allPiecers State.sendHome).piecer p = { s.piecer p with
        state := .parked, side := none, placement := .pool, atBay := false, parkOwed := false, atFrameEnd := false
        returned := false, travel := ⟨true, 1000 * s.settings.travelTimeout⟩ } ∧
      (s.each allPiecers State.sendHome).unit (piecerAddr p) = (s.hand (piecerAddr p) .park).unit (piecerAddr p)) ∧
    ((s.piecer p).toBay = false → (s.each allPiecers State.sendHome).piecer p = s.piecer p) := by
  obtain ⟨t, ht, hrec, hpass⟩ := State.each_pass (rec := State.piecerView) (Q := s.Kindred) (g := State.sendHome)
    (fun _ _ h => State.sendHome_kindred h) (fun _ _ _ _ hne => State.sendHome_other hne)
    (l := allPiecers) (nodup_oneTo 8) (mem_allPiecers.mpr hp) ⟨hs, rfl, rfl⟩
  simp only [State.piecerView, Prod.mk.injEq] at hrec hpass
  obtain ⟨hpiecer, hunit⟩ := hrec
  obtain ⟨hpiecer', hunit'⟩ := hpass
  refine ⟨fun h => ?_, fun h => ?_⟩
  · have hhome : t.sendHome p = t.sendToBay p .pool none := if_pos (by rwa [hpiecer])
    rw [hpiecer', hunit', hhome, State.sendToBay_piecer_same p _ _ ht.1, State.sendToBay_unit_same p _ _ ht.1, hpiecer,
      ht.settings]
    exact ⟨rfl, State.hand_unit_congr _ hs ht.1 hunit ht.2.2⟩
  · have hhome : t.sendHome p = t := if_neg (by rw [hpiecer, h]; exact Bool.false_ne_true)
    rw [hpiecer', hhome, hpiecer]

/-! ### The statement -/

/-- The three entry effects of winding down, in their order (R166). -/
theorem State.windDown_eq (s : State) : s.windDown =
    (s.giveUpTaking.each s.giveUpTaking.sectionsInCheck State.cutCheck).each allPiecers State.sendHome := rfl

section
variable {s : State}

/-- The state once the taking is given up and the checks are cut short. -/
def State.checksCut (s : State) : State := s.giveUpTaking.each s.giveUpTaking.sectionsInCheck State.cutCheck

/-- What neither the desk, the port, the copy read, the checks nor their positions hold. -/
theorem State.checksCut_keeps {β : Type} (P : State → β)
    (h : ∀ t x y z, P { t with plan := { t.plan with read := x }, desk := y, port := z } = P t)
    (hstrip : ∀ d x t, P (State.setStrip d x t) = P t)
    (hside : ∀ d x t, P (State.setSide d x t) = P t) (hspindle : ∀ f n x t, P (State.setSpindle f n x t) = P t)
    (hjournal : ∀ j e u w t, P (State.journal j e u w t) = P t) (hcount : ∀ f g t, P (State.count f g t) = P t)
    (hfinish : ∀ p r w t, P (State.finishBook p r w t) = P t) : P s.checksCut = P s := by
  rw [State.checksCut, State.cutChecks_keeps P hstrip hside hspindle hjournal hcount hfinish,
    State.giveUpTaking_keeps P h]

theorem State.checksCut_plan : s.checksCut.plan = { s.plan with read := none } := by
  rw [State.checksCut, State.cutChecks_keeps State.plan (by simp) (by simp) (by simp) (by simp) (by simp) (by simp),
    State.giveUpTaking_plan]

theorem State.checksCut_formed (hs : s.formed = true) : s.checksCut.formed = true :=
  State.each_keeps_prop (Q := fun t => t.formed = true) (fun d _ h => State.cutCheck_formed d h) _
    (State.giveUpTaking_formed _ hs)

theorem State.sendAllHome_keeps {β : Type} (P : State → β) (h : ∀ p t, P (State.sendToBay p .pool none t) = P t) :
    P s.windDown = P s.checksCut := by
  rw [State.windDown_eq]
  exact State.each_keeps_field P (fun p _ => State.sendHome_keeps P (h p)) _ _

theorem State.windDown_plan_read : s.windDown.plan.read = none := by
  rw [State.sendAllHome_keeps (fun t => t.plan.read) (by simp), State.checksCut_plan]

theorem State.windDown_taking : s.windDown.taking = [] := by
  have hdesk (t u : State) (h : t.desk.scan = u.desk.scan) : t.taking = u.taking := by
    unfold State.taking
    rw [h]
  have hunserve (p : Nat) (t : State) : (t.unserve p).desk.scan = t.desk.scan :=
    State.unserve_keeps p t (fun u => u.desk.scan) (by simp) (by simp)
  rw [hdesk _ _ (State.sendAllHome_keeps (fun t => t.desk.scan)
      (by simp [State.sendToBay, State.journalMove, hunserve])),
    hdesk s.checksCut s.giveUpTaking
      (State.cutChecks_keeps (fun t => t.desk.scan) (by simp) (by simp) (by simp) (by simp) (by simp) (by simp))]
  exact State.giveUpTaking_taking

theorem State.windDown_strip {c : Nat} (hs : s.formed = true) (hc : 1 ≤ c) : (s.windDown.strip c).check = none := by
  rw [State.sendAllHome_keeps (fun t => t.strip c) (fun _ _ => State.strip_of_table (by simp) c)]
  refine State.cutChecks_strip_check (State.giveUpTaking_formed _ hs) hc ?_
  by_cases h : (s.giveUpTaking.strip c).check = none
  · exact .inr h
  · exact .inl (mem_keys_sectionsInCheck h)

theorem State.windDown_spindle {c n : Nat} (hs : s.formed = true) (hc : 1 ≤ c) (h : (s.strip c).check ≠ none)
    (hn : n ∈ spindlesOfSection (creelIndex c)) : ∃ listed, s.windDown.spindle (creelFrame c) n =
      if (s.spindle (creelFrame c) n).state = .checking then (s.spindle (creelFrame c) n).passed listed
      else s.spindle (creelFrame c) n := by
  have hspindle : s.giveUpTaking.spindle (creelFrame c) n = s.spindle (creelFrame c) n :=
    State.giveUpTaking_keeps (fun t => t.spindle (creelFrame c) n) fun _ _ _ _ => rfl
  have hstrip : s.giveUpTaking.strip c = s.strip c := State.giveUpTaking_keeps (fun t => t.strip c) fun _ _ _ _ => rfl
  have h' : (s.giveUpTaking.strip c).check ≠ none := by rwa [hstrip]
  obtain ⟨listed, hcut⟩ := State.cutChecks_spindle hc hn (State.giveUpTaking_formed _ hs) h' (mem_keys_sectionsInCheck h')
  rw [hspindle] at hcut
  refine ⟨listed, ?_⟩
  rw [State.sendAllHome_keeps (fun t => t.spindle (creelFrame c) n) (fun _ _ => State.spindle_of_table (by simp) _ _)]
  exact hcut

theorem State.windDown_piecer {p : Nat} (hs : s.formed = true) (hp : 1 ≤ p ∧ p ≤ 8) :
    ((s.piecer p).toBay = true → s.windDown.piecer p = { s.piecer p with
        state := .parked, side := none, placement := .pool, atBay := false, parkOwed := false, atFrameEnd := false
        returned := false, travel := ⟨true, 1000 * s.settings.travelTimeout⟩ } ∧
      s.windDown.unit (piecerAddr p) = (s.hand (piecerAddr p) .park).unit (piecerAddr p)) ∧
    ((s.piecer p).toBay = false → s.windDown.piecer p = s.piecer p) := by
  have hpiecer : s.checksCut.piecer p = s.piecer p :=
    State.checksCut_keeps (fun t => t.piecer p) (fun _ _ _ _ => rfl) (by simp) (by simp) (by simp) (by simp) (by simp)
      (by simp)
  have hunit : s.checksCut.unit (piecerAddr p) = s.unit (piecerAddr p) :=
    State.checksCut_keeps (fun t => t.unit (piecerAddr p)) (fun _ _ _ _ => rfl) (by simp) (by simp) (by simp) (by simp)
      (by simp) (by simp)
  have hclock : s.checksCut.clock = s.clock :=
    State.checksCut_keeps State.clock (fun _ _ _ _ => rfl) (by simp) (by simp) (by simp) (by simp) (by simp) (by simp)
  have hsettings : s.checksCut.settings = s.settings := by
    unfold State.settings
    rw [State.checksCut_plan]
  have hformed := State.checksCut_formed hs
  have hhome := State.sendAllHome hformed hp
  rw [hpiecer, hsettings, State.hand_unit_congr .park hs hformed hunit hclock] at hhome
  exact hhome

theorem State.windDown_regs : s.windDown.regs.part = s.regs.part ∧ s.windDown.regs.run = s.regs.run ∧
    s.windDown.regs.resume = s.regs.resume :=
  ⟨State.part_of_fixed (State.windDown_fixed s), State.run_of_fixed (State.windDown_fixed s),
    State.resume_of_fixed (State.windDown_fixed s)⟩

end

/-- The entry effects of winding down (R166), told from a state before. -/
def State.WindingEntered (s u : State) : Prop :=
  u.plan.read = none ∧ u.taking = [] ∧
  (∀ c, 1 ≤ c → (u.strip c).check = none) ∧
  (∀ c n, 1 ≤ c → c ≤ 608 → (s.strip c).check ≠ none → n ∈ spindlesOfSection (creelIndex c) →
    let x := s.spindle (creelFrame c) n
    let y := u.spindle (creelFrame c) n
    (x.state ≠ .checking → y = x) ∧
    (x.state = .checking → y.saved = none ∧ y.since = 0 ∧ y.slip = x.slip ∧ y.attempts = x.attempts ∧
      y.state = (if x.saved = some .down then .down else if x.saved = some .starved then .starved else .settling))) ∧
  ∀ p, 1 ≤ p → p ≤ 8 →
    let x := s.piecer p
    let y := u.piecer p
    let goes := x.state = .onSide ∨ x.state = .moving ∨ (x.state = .parked ∧ x.placement ≠ .park)
    (goes → y = { x with
        state := .parked, side := none, placement := .pool, atBay := false, parkOwed := false, atFrameEnd := false
        returned := false, travel := ⟨true, 1000 * s.settings.travelTimeout⟩ } ∧
      u.unit (8 + p) = (s.hand (8 + p) .park).unit (8 + p)) ∧
    (¬goes → y = x)

/-- The registers hold none of what the entry reads. -/
theorem State.windingEntered {s t : State} (hs : s.formed = true) {g : Regs} (ht : t = { s with regs := g }) :
    s.WindingEntered t.windDown := by
  have hsettings : t.settings = s.settings := by rw [ht]; rfl
  have hpiecers (p : Nat) : t.piecer p = s.piecer p := by rw [ht]; rfl
  have hformed : t.formed = true := by rw [ht]; exact hs
  refine ⟨State.windDown_plan_read, State.windDown_taking, fun c hc => State.windDown_strip hformed hc,
    fun c n hc _ hcheck hn => ?_, fun p hlo hhi => ?_⟩
  · obtain ⟨listed, hspindle⟩ := State.windDown_spindle hformed hc (by rw [ht]; exact hcheck) hn
    have hbefore : t.spindle (creelFrame c) n = s.spindle (creelFrame c) n := by rw [ht]; rfl
    rw [hbefore] at hspindle
    intro x y
    have hy : y = _ := hspindle
    refine ⟨fun h => by rw [hy, if_neg h], fun h => ?_⟩
    rw [hy, if_pos h]
    obtain ⟨hsaved, hsince, hslip, hattempts, _⟩ := Spindle.passed_keeps listed x
    exact ⟨hsaved, hsince, hslip, hattempts, Spindle.passed_state listed x⟩
  · obtain ⟨hgoes, hstands⟩ := State.windDown_piecer hformed ⟨hlo, hhi⟩
    have hunit : (t.hand (piecerAddr p) .park).unit (piecerAddr p) = (s.hand (piecerAddr p) .park).unit (piecerAddr p) :=
      State.hand_unit_congr _ hs hformed (by rw [ht]; rfl) (by rw [ht])
    rw [hpiecers, hsettings, hunit] at hgoes
    rw [hpiecers] at hstands
    intro x y goes
    exact ⟨fun h => hgoes (x.toBay_iff.mpr h), fun h => hstands (Bool.eq_false_iff.mpr fun hb => h (x.toBay_iff.mp hb))⟩

theorem exec_runClear (s : State) : exec .runClear s = execRunClear s := rfl

section
variable {s : State} (h : s.regs.run = true)
include h

theorem execRunClear_of_running (hp : s.regs.part = .running) : execRunClear s =
    .next (State.windDown { s with regs := { s.regs with run := false, part := .windingDown } }).conclude := by
  simp [execRunClear, h, hp]

theorem execRunClear_of_stalled (hp : s.regs.part = .stalled) : execRunClear s =
    .next (State.windDown { s with regs := { s.regs with run := false, resume := some .windingDown } }).conclude := by
  simp [execRunClear, h, hp]

end

/-- Settles O9: a write of RUN by the part's state, and the entry effects from those of the three stages. -/
theorem runClearWindsDown : Obligations.RunClearWindsDown := by
  unfold Obligations.RunClearWindsDown
  intro s hs entered
  refine ⟨fun h => ?_, fun h hp => ?_, fun h hp => ?_, fun h hp => ?_, fun h hp => ?_⟩
  · simp [exec_runClear, execRunClear, h]
  · simp [exec_runClear, execRunClear, h, hp]
  · obtain hp | hp := hp <;> simp [exec_runClear, execRunClear, h, hp]
  · obtain ⟨hpart, hrun, _⟩ := State.windDown_regs (s := { s with regs := { s.regs with run := false, part := .windingDown } })
    refine ⟨(exec_runClear s).trans (execRunClear_of_running h hp), ?_, ?_, State.windingEntered hs rfl⟩
    · rw [hrun]
    · rw [hpart]
  · obtain ⟨hpart, hrun, hresume⟩ :=
      State.windDown_regs (s := { s with regs := { s.regs with run := false, resume := some .windingDown } })
    refine ⟨(exec_runClear s).trans (execRunClear_of_stalled h hp), ?_, ?_, ?_, State.windingEntered hs rfl⟩
    · rw [hrun]
    · rw [hpart, hp]
    · rw [hresume]

end Sys2Proof.Machine
end

section
/-! PROOFS. The taking of cells (R173, R174), TABLE_READ (R35) and SELF_CHECK (R18). -/

namespace Sys2Proof.Machine

/-! ### What an order's owner finds (R173, R174) -/

section
variable (c : CellRead) (s : State)

@[simp] theorem State.heard_regs : (s.heard c).regs = s.regs := State.heard_keeps c s State.regs fun _ _ _ => rfl
@[simp] theorem State.heard_clock : (s.heard c).clock = s.clock := State.heard_keeps c s State.clock fun _ _ _ => rfl
@[simp] theorem State.heard_output : (s.heard c).output = s.output :=
  State.heard_keeps c s State.output fun _ _ _ => rfl
@[simp] theorem State.heard_plan : (s.heard c).plan = s.plan := State.heard_keeps c s State.plan fun _ _ _ => rfl
@[simp] theorem State.heard_link : (s.heard c).link = s.link := State.heard_keeps c s State.link fun _ _ _ => rfl
@[simp] theorem State.heard_work : (s.heard c).work = s.work := State.heard_keeps c s State.work fun _ _ _ => rfl
@[simp] theorem State.heard_port : (s.heard c).port = s.port := State.heard_keeps c s State.port fun _ _ _ => rfl
@[simp] theorem State.heard_settings : (s.heard c).settings = s.settings :=
  State.heard_keeps c s State.settings fun _ _ _ => rfl
@[simp] theorem State.heard_frameSettings (f : Nat) : (s.heard c).frameSettings f = s.frameSettings f :=
  State.heard_keeps c s (fun t => t.frameSettings f) fun _ _ _ => rfl
@[simp] theorem State.heard_spindle (f n : Nat) : (s.heard c).spindle f n = s.spindle f n :=
  State.heard_keeps c s (fun t => t.spindle f n) fun _ _ _ => rfl
@[simp] theorem State.heard_strip (d : Nat) : (s.heard c).strip d = s.strip d :=
  State.heard_keeps c s (fun t => t.strip d) fun _ _ _ => rfl
@[simp] theorem State.heard_side (d : Nat) : (s.heard c).side d = s.side d :=
  State.heard_keeps c s (fun t => t.side d) fun _ _ _ => rfl
@[simp] theorem State.heard_piecer (p : Nat) : (s.heard c).piecer p = s.piecer p :=
  State.heard_keeps c s (fun t => t.piecer p) fun _ _ _ => rfl
@[simp] theorem State.heard_frame (f : Nat) : (s.heard c).frame f = s.frame f :=
  State.heard_keeps c s (fun t => t.frame f) fun _ _ _ => rfl
@[simp] theorem State.heard_creel (d : Nat) : (s.heard c).creel d = s.creel d :=
  State.heard_keeps c s (fun t => t.creel d) fun _ _ _ => rfl
@[simp] theorem State.heard_unit (a : Nat) : (s.heard c).unit a = s.unit a :=
  State.heard_keeps c s (fun t => t.unit a) fun _ _ _ => rfl
@[simp] theorem State.heard_roller (f : Nat) : (s.heard c).roller f = s.roller f :=
  State.heard_keeps c s (fun t => t.roller f) fun _ _ _ => rfl
@[simp] theorem State.heard_desk_book : (s.heard c).desk.book = s.desk.book := by
  unfold State.heard State.undefer
  split
  · rfl
  · simp

theorem State.orderEvent_eq_of_next {k : OrderKind} {ps : List Word} {s : State} {c : CellRead}
    (h : s.orderIsNext k ps = some c) : s.orderEvent k ps = (s.takeCell k c).conclude := by
  unfold State.orderEvent State.takeOrder
  rw [h]
  rfl

end

/-! ### The cell at the head (R173, R174) -/

section
variable {k : OrderKind} {ps : List Word} {s : State} {c : CellRead}

/-- The part with last_taken led on by a new cell (R173). -/
def State.ledOn (c : CellRead) (s : State) : State :=
  if c.deferred then s else { s with desk.lastTaken := c.seq }.markItem .header

theorem State.ledOn_fields (c : CellRead) (s : State) : (s.ledOn c).desk.lastTaken =
      (if c.deferred then s.desk.lastTaken else c.seq) ∧ (s.ledOn c).desk.book = s.desk.book ∧
    (s.ledOn c).desk.view = s.desk.view ∧ (s.ledOn c).desk.deferred = s.desk.deferred := by
  unfold State.ledOn
  split
  · exact ⟨rfl, rfl, rfl, rfl⟩
  · simp

theorem State.takeCell_of_stale (h : ¬(c.deferred = true ∨ later c.seq s.desk.lastTaken = true)) :
    s.takeCell k c = (s.finish c.cell (some .staleSeq) []).dropTaken := by
  obtain ⟨hdef, hlater⟩ := not_or.mp h
  have hfresh : s.freshCell c = none := by simp [State.freshCell, hdef, hlater]
  simp only [State.takeCell, hfresh]

variable (hfresh : c.deferred = true ∨ later c.seq s.desk.lastTaken = true) (hlong : isLong k c = true)
include hfresh hlong

theorem State.takeCell_of_duplicate (h : s.duplicate k c = true) :
    s.takeCell k c = ((s.heard c).finish c.cell (some .duplicate) []).dropTaken := by
  obtain ⟨_, hbook, _, _⟩ := s.ledOn_fields c
  have hdup : (s.ledOn c).duplicate k c = true := by rwa [State.duplicate, hbook]
  have hcell : s.freshCell c = some (s.ledOn c) := State.freshCell_of_later hfresh
  simp only [State.takeCell, hcell, hlong, hdup, Bool.and_self, if_true]
  rfl

theorem State.takeCell_of_full (h : s.duplicate k c = false) (hfull : Config.orderBookRoom ≤ s.desk.book.length) :
    s.takeCell k c = ((s.ledOn c).defer c).dropTaken := by
  obtain ⟨_, hbook, _, _⟩ := s.ledOn_fields c
  have hdup : (s.ledOn c).duplicate k c = false := by rwa [State.duplicate, hbook]
  have hcell : s.freshCell c = some (s.ledOn c) := State.freshCell_of_later hfresh
  simp only [State.takeCell, hcell, hlong, hdup, hbook, hfull, Bool.and_false, Bool.false_eq_true, if_false,
    decide_true,
    Bool.and_self, if_true]

end

section
variable {s : State} {c : CellRead}

theorem State.defer_keeps : (s.defer c).desk.lastTaken = s.desk.lastTaken ∧ (s.defer c).desk.view = s.desk.view := by
  unfold State.defer
  split <;> exact ⟨rfl, rfl⟩

theorem State.mem_defer : ∃ x, x ∈ (s.defer c).desk.deferred ∧ x.1 = c.cell := by
  unfold State.defer
  split
  · next h =>
    obtain ⟨x, hx, heq⟩ := List.any_eq_true.mp h
    exact ⟨x, hx, beq_iff_eq.mp heq⟩
  · exact ⟨(c.cell, c.seq), List.mem_append_right _ (List.mem_singleton_self _), rfl⟩

theorem State.defer_of_new (h : ∀ x, x ∈ s.desk.deferred → x.1 ≠ c.cell) :
    (s.defer c).desk.deferred = s.desk.deferred ++ [(c.cell, c.seq)] := by
  have hany : ¬(s.desk.deferred.any fun e => e.1 == c.cell) = true := by
    rw [List.any_eq_true]
    rintro ⟨x, hx, heq⟩
    exact h x hx (beq_iff_eq.mp heq)
  simp only [State.defer, hany]
  rfl

end

/-- Settles O33: the cell at the head by the tests of R173 and R174 in their order. -/
theorem cellsAreTakenInTurn : Obligations.CellsAreTakenInTurn := by
  unfold Obligations.CellsAreTakenInTurn
  refine ⟨fun s a b c => ⟨rfl, rfl, rfl, rfl, rfl, rfl, rfl, rfl, rfl, rfl, rfl, rfl, rfl⟩, fun s k ps c =>
    ⟨fun h => ?_, fun h => ⟨fun hstale => ?_, fun hfresh hlong hdup => ?_, fun hfresh hlong hdup hfull => ?_,
      State.orderEvent_of_takes⟩⟩⟩
  · simp [State.orderEvent, h]
  · refine ⟨s.finish c.cell (some .staleSeq) [], ?_, State.finish_answered .., State.finish_desk_lastTaken ..⟩
    rw [State.orderEvent_eq_of_next h, State.takeCell_of_stale hstale]
  · refine ⟨(s.heard c).finish c.cell (some .duplicate) [], ?_, State.finish_answered .., ?_, fun x hx => ?_⟩
    · rw [State.orderEvent_eq_of_next h, State.takeCell_of_duplicate hfresh hlong hdup]
    · rw [State.finish_desk_lastTaken, State.heard_desk_lastTaken]
    · rw [State.finish_desk_deferred] at hx
      exact State.ne_of_mem_heard_deferred hx
  · obtain ⟨hlast, _, hview, hdeferred⟩ := s.ledOn_fields c
    obtain ⟨hlast', hview'⟩ := State.defer_keeps (s := s.ledOn c) (c := c)
    refine ⟨(s.ledOn c).defer c, ?_, hlast'.trans hlast, hview'.trans hview, State.mem_defer, fun hnew => ?_⟩
    · rw [State.orderEvent_eq_of_next h, State.takeCell_of_full hfresh hlong hdup hfull]
    · rw [State.defer_of_new (by rwa [hdeferred]), hdeferred]

/-! ### TABLE_READ (R35) -/

/-- Settles O38: the dump is queued, then the cell answered. -/
theorem tableReadTakesASnapshot : Obligations.TableReadTakesASnapshot := by
  unfold Obligations.TableReadTakesASnapshot
  intro s c htakes
  have hpart : s.regs.part ≠ .stalled := by
    have hnext := htakes.1
    unfold State.orderIsNext at hnext
    intro hstalled
    simp only [hstalled] at hnext
    split at hnext <;> simp at hnext
  have hsettings : (s.heard c).settings = s.settings := State.heard_settings c s
  refine ⟨congrArg Host.Outcome.next (State.orderEvent_of_takes htakes), ?_, ?_, ?_, ?_, ?_, ?_⟩
  · unfold State.orderTableRead State.orderDone
    simpa [RogueTable.validCount] using State.finish_answered (s := { s.heard c with
      writer.queue := (s.heard c).writer.queue ++
        [WriteItem.dump ⟨(s.heard c).clock, (s.heard c).settings.rogueLimit, (s.heard c).settings.rogueWindow, c.seq,
          (s.heard c).rogue⟩] }) (cell := c.cell) (r := none)
      (w := [w32 (s.heard c).rogue.validCount, (s.heard c).clock])
  · unfold State.orderTableRead State.orderDone
    rw [State.finish_writer_queue]
    simp only [State.heard_regs, hpart, if_false, State.heard_clock, hsettings, State.heard_rogue, List.filter_append]
    exact ⟨(s.heard c).writer.queue.filter fun i => decide (i ≠ .cellTaken c.cell), by simp [RogueTable.validCount]⟩
  · simp [State.orderTableRead, State.orderDone]
  · simp [State.orderTableRead, State.orderDone]
  · simp [State.orderTableRead, State.orderDone]
  · unfold State.orderTableRead State.orderDone State.finish
    simp [hpart]

end Sys2Proof.Machine
end

section
/-! PROOFS. SELF_CHECK (R18). -/

namespace Sys2Proof.Machine

/-! ### A long order that enters the book (R174) -/

section
variable {k : OrderKind} {c : CellRead} {s : State}

theorem State.enterBook_keeps {β : Type} (P : State → β)
    (h : ∀ t d w, P { t with desk := d, writer.queue := w } = P t) :
    P (s.enterBook k c) = P s := h s _ _

@[simp] theorem State.enterBook_watch : (s.enterBook k c).watch = s.watch :=
  State.enterBook_keeps State.watch fun _ _ _ => rfl
@[simp] theorem State.enterBook_disp : (s.enterBook k c).disp = s.disp :=
  State.enterBook_keeps State.disp fun _ _ _ => rfl
@[simp] theorem State.enterBook_roving : (s.enterBook k c).roving = s.roving :=
  State.enterBook_keeps State.roving fun _ _ _ => rfl
@[simp] theorem State.enterBook_frames : (s.enterBook k c).frames = s.frames :=
  State.enterBook_keeps State.frames fun _ _ _ => rfl
@[simp] theorem State.enterBook_plan : (s.enterBook k c).plan = s.plan :=
  State.enterBook_keeps State.plan fun _ _ _ => rfl
@[simp] theorem State.enterBook_output : (s.enterBook k c).output = s.output :=
  State.enterBook_keeps State.output fun _ _ _ => rfl
@[simp] theorem State.enterBook_link : (s.enterBook k c).link = s.link :=
  State.enterBook_keeps State.link fun _ _ _ => rfl
@[simp] theorem State.enterBook_clock : (s.enterBook k c).clock = s.clock :=
  State.enterBook_keeps State.clock fun _ _ _ => rfl
@[simp] theorem State.enterBook_regs : (s.enterBook k c).regs = s.regs :=
  State.enterBook_keeps State.regs fun _ _ _ => rfl
@[simp] theorem State.enterBook_work : (s.enterBook k c).work = s.work :=
  State.enterBook_keeps State.work fun _ _ _ => rfl
@[simp] theorem State.enterBook_spindle (f n : Nat) : (s.enterBook k c).spindle f n = s.spindle f n :=
  State.enterBook_keeps (fun t => t.spindle f n) fun _ _ _ => rfl
@[simp] theorem State.enterBook_strip (d : Nat) : (s.enterBook k c).strip d = s.strip d :=
  State.enterBook_keeps (fun t => t.strip d) fun _ _ _ => rfl
@[simp] theorem State.enterBook_side (d : Nat) : (s.enterBook k c).side d = s.side d :=
  State.enterBook_keeps (fun t => t.side d) fun _ _ _ => rfl
@[simp] theorem State.enterBook_piecer (p : Nat) : (s.enterBook k c).piecer p = s.piecer p :=
  State.enterBook_keeps (fun t => t.piecer p) fun _ _ _ => rfl
@[simp] theorem State.enterBook_frame (f : Nat) : (s.enterBook k c).frame f = s.frame f :=
  State.enterBook_keeps (fun t => t.frame f) fun _ _ _ => rfl
@[simp] theorem State.enterBook_creel (d : Nat) : (s.enterBook k c).creel d = s.creel d :=
  State.enterBook_keeps (fun t => t.creel d) fun _ _ _ => rfl
@[simp] theorem State.enterBook_unit (a : Nat) : (s.enterBook k c).unit a = s.unit a :=
  State.enterBook_keeps (fun t => t.unit a) fun _ _ _ => rfl
@[simp] theorem State.enterBook_settings : (s.enterBook k c).settings = s.settings :=
  State.enterBook_keeps State.settings fun _ _ _ => rfl

/-- The order stands in the book, and its cell is to be written TAKEN. -/
theorem State.enterBook_entered : (s.enterBook k c).entered k c := by
  refine ⟨List.mem_append_right _ (List.mem_singleton_self _), ?_, List.mem_append_right _ (List.mem_singleton_self _)⟩
  exact tget_tput_ne _ (by simp)

end

/-! ### A loop whose own pass brings about what the others keep -/

theorem State.each_establishes {β : Type} {rec : Nat → State → β} {g : Nat → State → State} {Q G : State → Prop} {x : β}
    (hkeeps : ∀ n t, Q t → Q (g n t)) (hother : ∀ n m t, Q t → m ≠ n → rec m (g n t) = rec m t) {l : List Nat}
    (hl : l.Nodup) {m : Nat} (hm : m ∈ l) (hown : ∀ t, Q t → rec m t = x → G (g m t))
    (hstays : ∀ n t, Q t → G t → G (g n t)) {s : State} (hs : Q s) (hx : rec m s = x) : G (s.each l g) := by
  induction l generalizing s with
  | nil => cases hm
  | cons n r ih =>
    obtain ⟨hn, hr⟩ := List.nodup_cons.mp hl
    obtain rfl | hmem := List.mem_cons.mp hm
    · have hrest := State.each_keeps_prop (Q := fun t => Q t ∧ G t) (g := g)
        (fun n t ht => ⟨hkeeps n t ht.1, hstays n t ht.1 ht.2⟩) r ⟨hkeeps m s hs, hown s hs hx⟩
      exact hrest.2
    · have hne : m ≠ n := fun h => hn (h ▸ hmem)
      exact ih hr hmem (hkeeps n s hs) ((hother n m s hs hne).trans hx)

/-! ### A spindle goes into the check (R18) -/

section
variable {f n : Nat} {s : State}

theorem State.checkSpindle_keeps {β : Type} (P : State → β) (hside : ∀ d x t, P (State.setSide d x t) = P t)
    (howe : ∀ d t, P (State.oweRelist d t) = P t) (hspindle : ∀ x t, P (State.setSpindle f n x t) = P t) :
    P (s.checkSpindle f n) = P s := by
  unfold State.checkSpindle
  dsimp only
  split
  · rfl
  · rfl
  · split
    · rw [hspindle, State.removeEntry_keeps f n s P hside howe]
    · exact hspindle ..
  all_goals exact hspindle ..

theorem State.checkSpindle_spindle_other {m : Nat} (h : m ≠ n) : (s.checkSpindle f n).spindle f m = s.spindle f m :=
  State.checkSpindle_keeps (fun t => t.spindle f m) (by simp) (by simp)
    fun _ _ => State.setSpindle_other _ _ _ _ _ _ fun he => h (spindleKey_inj_frame he)

/-- The record a spindle has in a check. -/
def Spindle.checked (x : Spindle) : Spindle :=
  if x.state = .absent ∨ x.state = .cutOut then x else { x with state := .checking, since := 0, saved := some x.state }

theorem State.checkSpindle_spindle_same (hs : s.formed = true) :
    (s.checkSpindle f n).spindle f n = (s.spindle f n).checked := by
  unfold State.checkSpindle Spindle.checked
  dsimp only
  split
  · next h => simp [h]
  · next h => simp [h]
  · next h =>
    split
    · rw [State.setSpindle_formed_same _ _ _ _ (State.removeEntry_formed _ _ _ hs)]
      simp [h, Spindle.to]
    · rw [State.setSpindle_formed_same _ _ _ _ hs]
      simp [h, Spindle.to]
  all_goals
    next h =>
      rw [State.setSpindle_formed_same _ _ _ _ hs]
      simp [h, Spindle.to]

/-- A removal brings no entry into a list. -/
theorem State.mem_removeEntry_entries (hs : s.formed = true) {d : Nat} {e : EndEntry}
    (h : e ∈ ((s.removeEntry f n).side d).entries) : e ∈ (s.side d).entries := by
  unfold State.removeEntry at h
  dsimp only at h
  split at h
  · rw [State.oweRelist_side] at h
    by_cases hd : d = sideOf f n
    · rw [hd, State.setSide_formed_same _ _ _ hs] at h
      rw [hd]
      exact List.mem_of_mem_filter h
    · rwa [State.setSide_other _ _ _ _ hd] at h
  · exact h

/-- The entries of a list are at most those it had. -/
theorem State.checkSpindle_entries (hs : s.formed = true) {d : Nat} {e : EndEntry}
    (h : e ∈ ((s.checkSpindle f n).side d).entries) : e ∈ (s.side d).entries := by
  unfold State.checkSpindle at h
  dsimp only at h
  split at h
  · exact h
  · exact h
  · split at h
    · rw [State.setSpindle_side] at h
      exact State.mem_removeEntry_entries hs h
    · rwa [State.setSpindle_side] at h
  all_goals rwa [State.setSpindle_side] at h

theorem State.checkSpindle_unlists (hs : s.formed = true) (h : (s.spindle f n).state = .down)
    (hl : (s.spindle f n).listed = true) {e : EndEntry} (he : e ∈ ((s.checkSpindle f n).side (sideOf f n)).entries) :
    e.spindle ≠ n := by
  simp only [State.checkSpindle, h, hl, if_true, State.setSpindle_side] at he
  exact State.removeEntry_entries f n hs e he

end

/-! ### The loop over a section -/

section
variable {f k : Nat} {s : State}

/-- A section's spindles gone into the check. -/
def State.checkSection (f k : Nat) (s : State) : State := s.each (spindlesOfSection k) fun n t => t.checkSpindle f n

theorem State.checkSection_keeps {β : Type} (P : State → β) (hside : ∀ d x t, P (State.setSide d x t) = P t)
    (howe : ∀ d t, P (State.oweRelist d t) = P t) (hspindle : ∀ n x t, P (State.setSpindle f n x t) = P t) :
    P (s.checkSection f k) = P s :=
  State.each_keeps_field P (fun n _ => State.checkSpindle_keeps P hside howe (hspindle n)) _ s

variable (hs : s.formed = true)
include hs

theorem State.checkSection_formed : (s.checkSection f k).formed = true :=
  State.each_keeps_prop (Q := fun t => t.formed = true) (fun _ _ h => State.checkSpindle_formed _ _ _ h) _ hs

theorem State.checkSection_spindle {n : Nat} (hn : n ∈ spindlesOfSection k) :
    (s.checkSection f k).spindle f n = (s.spindle f n).checked := by
  have hrecord := State.each_record (Q := fun t => t.formed = true) (rec := fun m t => t.spindle f m)
    (F := fun _ => Spindle.checked) (g := fun m t => t.checkSpindle f m) (fun m t ht => State.checkSpindle_formed f m t ht)
    (fun m e t _ hne => State.checkSpindle_spindle_other hne) (fun m t ht => State.checkSpindle_spindle_same ht)
    (nodup_spindlesOfSection k) hs n
  rw [if_pos hn] at hrecord
  exact hrecord

/-- A listed DOWN spindle of the section has left its list. -/
theorem State.checkSection_unlists {n : Nat} (hn : n ∈ spindlesOfSection k) (h : (s.spindle f n).state = .down)
    (hl : (s.spindle f n).listed = true) :
    ∀ e, e ∈ ((s.checkSection f k).side (sideOf f n)).entries → e.spindle ≠ n :=
  State.each_establishes (Q := fun t => t.formed = true) (rec := fun m t => t.spindle f m) (x := s.spindle f n)
    (G := fun t => ∀ e, e ∈ (t.side (sideOf f n)).entries → e.spindle ≠ n)
    (fun m t ht => State.checkSpindle_formed f m t ht) (fun m e t _ hne => State.checkSpindle_spindle_other hne)
    (nodup_spindlesOfSection k) hn
    (fun t ht hx e he => State.checkSpindle_unlists ht (by rw [hx, h]) (by rw [hx, hl]) he)
    (fun m t ht hG e he => hG e (State.checkSpindle_entries ht he)) hs rfl

end

/-! ### The order (R18) -/

section
variable {s : State} {c : CellRead} {f k : Nat}

theorem sectionParamsOk_iff : sectionParamsOk c = true ↔
    (1 ≤ c.p1.toNat ∧ c.p1.toNat ≤ 8) ∧ 1 ≤ c.p2.toNat ∧ c.p2.toNat ≤ 76 := by
  simp [sectionParamsOk, frameOk, within]

theorem State.sectionPresent_iff : s.sectionPresent f k = true ↔
    (s.frame f).state ≠ .out ∧ (s.frameSettings f).sectionIn k = true := by
  simp [State.sectionPresent]

theorem State.checkBusy_iff : s.checkBusy f k = true ↔
    (∃ n, n ∈ spindlesOfSection k ∧ ((s.spindle f n).state = .piecing ∨ (s.spindle f n).state = .proving)) ∨
      (s.creel (creelNo f k)).lock ≠ .none := by
  simp [State.checkBusy]

/-- The answers of SELF_CHECK in the order of its tests, and the check begun. -/
theorem State.orderSelfCheck_cases :
    (sectionParamsOk c = false → s.orderSelfCheck c = s.finish c.cell (some .outOfRange) []) ∧
    (sectionParamsOk c = true → s.sectionPresent c.p1.toNat c.p2.toNat = false →
      s.orderSelfCheck c = s.finish c.cell (some .notPresent) []) ∧
    (sectionParamsOk c = true → s.sectionPresent c.p1.toNat c.p2.toNat = true →
      s.checkBusy c.p1.toNat c.p2.toNat = true → s.orderSelfCheck c = s.finish c.cell (some .busy) []) ∧
    (sectionParamsOk c = true → s.sectionPresent c.p1.toNat c.p2.toNat = true →
      s.checkBusy c.p1.toNat c.p2.toNat = false → s.orderSelfCheck c =
        ((s.checkSection c.p1.toNat c.p2.toNat).setStrip (creelNo c.p1.toNat c.p2.toNat)
          { (s.checkSection c.p1.toNat c.p2.toNat).strip (creelNo c.p1.toNat c.p2.toNat) with
            check := some ⟨0, 0#24⟩ }).enterBook .selfCheck c) := by
  refine ⟨fun h => ?_, fun h h' => ?_, fun h h' hb => ?_, fun h h' hb => ?_⟩
  · simp [State.orderSelfCheck, h, State.orderRefused]
  · simp [State.orderSelfCheck, h, h', State.orderRefused]
  · simp [State.orderSelfCheck, h, h', hb, State.orderRefused]
  · simp only [State.orderSelfCheck, h, h', hb, Bool.not_true, Bool.false_eq_true, if_false]
    rfl

theorem State.orderSelfCheck_keeps {β : Type} (P : State → β) (hside : ∀ d x t, P (State.setSide d x t) = P t)
    (howe : ∀ d t, P (State.oweRelist d t) = P t) (hspindle : ∀ n x t, P (State.setSpindle c.p1.toNat n x t) = P t)
    (hstrip : ∀ d x t, P (State.setStrip d x t) = P t) (hbook : ∀ t, P (State.enterBook .selfCheck c t) = P t)
    (hfinish : ∀ r w t, P (State.finish c.cell r w t) = P t) : P (s.orderSelfCheck c) = P s := by
  obtain ⟨hrange, hpresent, hbusy, hdone⟩ := s.orderSelfCheck_cases (c := c)
  cases h : sectionParamsOk c with
  | false => rw [hrange h, hfinish]
  | true =>
    cases h' : s.sectionPresent c.p1.toNat c.p2.toNat with
    | false => rw [hpresent h h', hfinish]
    | true =>
      cases hb : s.checkBusy c.p1.toNat c.p2.toNat with
      | true => rw [hbusy h h' hb, hfinish]
      | false => rw [hdone h h' hb, hbook, hstrip, State.checkSection_keeps P hside howe hspindle]

end

/-- Settles O36: the refusals by the order's tests, and the loop over the section's spindles. -/
theorem selfCheckBegins : Obligations.SelfCheckBegins := by
  unfold Obligations.SelfCheckBegins
  intro s c hs htakes f k creel u named present ofSection busy
  obtain ⟨hrange, hpresent, hbusy, hdone⟩ := (s.heard c).orderSelfCheck_cases (c := c)
  have hformed := State.heard_formed c s hs
  have hnamed : sectionParamsOk c = true ↔ named := sectionParamsOk_iff
  have hthere : (s.heard c).sectionPresent f k = true ↔ present := by
    rw [State.sectionPresent_iff, State.heard_frame, State.heard_frameSettings]
  have hsection (hn : named) (n : Nat) : ofSection n ↔ n ∈ spindlesOfSection k := by
    obtain ⟨_, hk, _⟩ := hn
    have hk' : 1 ≤ k := hk
    rw [mem_spindlesOfSection]
    unfold ofSection
    omega
  have hblocked (hn : named) : (s.heard c).checkBusy f k = true ↔ busy := by
    rw [State.checkBusy_iff]
    simp only [State.heard_spindle, State.heard_creel]
    unfold busy
    simp only [hsection hn]
    rfl
  have hrefused (r : Reason) : ((s.heard c).finish c.cell (some r) []).answered c.cell (some r) [] ∧
      ((s.heard c).finish c.cell (some r) []).watch = s.watch :=
    ⟨State.finish_answered .., by rw [State.finish_watch, State.heard_watch]⟩
  refine ⟨congrArg Host.Outcome.next (State.orderEvent_of_takes htakes), fun hno => ?_, fun hn hno => ?_,
    fun hn hp hb => ?_, fun hn hp hb => ?_, ?_, ?_, ?_⟩
  · have hu : u = _ := hrange (Bool.eq_false_iff.mpr (mt hnamed.mp hno))
    rw [hu]
    exact hrefused .outOfRange
  · have hu : u = _ := hpresent (hnamed.mpr hn) (Bool.eq_false_iff.mpr (mt hthere.mp hno))
    rw [hu]
    exact hrefused .notPresent
  · have hu : u = _ := hbusy (hnamed.mpr hn) (hthere.mpr hp) ((hblocked hn).mpr hb)
    rw [hu]
    exact hrefused .busy
  · have hu : u = (((s.heard c).checkSection f k).setStrip creel
        { ((s.heard c).checkSection f k).strip creel with check := some ⟨0, 0#24⟩ }).enterBook .selfCheck c :=
      hdone (hnamed.mpr hn) (hthere.mpr hp) (Bool.eq_false_iff.mpr (mt (hblocked hn).mp hb))
    have hchecked := State.checkSection_formed (f := f) (k := k) hformed
    refine ⟨?_, ?_, fun n hin => ?_, fun n hin hst hlisted => ?_⟩
    · rw [hu]
      exact State.enterBook_entered
    · rw [hu, State.enterBook_strip, State.setStrip_formed_same _ _ _ hchecked,
        State.checkSection_keeps (fun t => t.strip creel) (by simp) (by simp) (by simp), State.heard_strip]
    · rw [hu, State.enterBook_spindle, State.setStrip_spindle,
        State.checkSection_spindle hformed ((hsection hn n).mp hin), State.heard_spindle]
      rfl
    · rw [hu, State.enterBook_side, State.setStrip_side]
      exact State.checkSection_unlists hformed ((hsection hn n).mp hin) (by rwa [State.heard_spindle])
        (by rwa [State.heard_spindle])
  · exact (State.orderSelfCheck_keeps State.roving (by simp) (by simp) (by simp) (by simp) (by simp) (by simp)).trans
      (State.heard_roving c s)
  · exact (State.orderSelfCheck_keeps State.frames (by simp) (by simp) (by simp) (by simp) (by simp) (by simp)).trans
      (State.heard_frames c s)
  · exact (State.orderSelfCheck_keeps (fun t => t.disp.piecers) (by simp) (by simp) (by simp) (by simp) (by simp)
      (by simp)).trans (by rw [State.heard_disp])

end Sys2Proof.Machine
end

section
/-! PROOFS. CUT_OUT and CLEAR_CUTOUT (R15, R16). -/

namespace Sys2Proof.Machine

/-! ### An attempt given up leaves its spindle's history (R11, R54) -/

section
variable {f n p : Nat} {s : State}

/-- A claim given up writes the state, the listing and the since of its spindle, and no more. -/
theorem State.claimAbandoned_spindle_same (hs : s.formed = true) : (s.claimAbandoned f n).spindle f n =
    { s.spindle f n with
      state := ((s.claimAbandoned f n).spindle f n).state
      listed := ((s.claimAbandoned f n).spindle f n).listed
      since := ((s.claimAbandoned f n).spindle f n).since } := by
  unfold State.claimAbandoned
  dsimp only
  split
  · split
    · rw [State.removeEntry_spindle, State.setSpindle_formed_same _ _ _ _ hs]
      rfl
    · rw [State.setSpindle_formed_same _ _ _ _ hs]
      rfl
  · rfl

/-- The spindle of an attempt abandoned by the part, whatever piecer makes it. -/
theorem State.abandon_spindle (hs : s.formed = true) (g m : Nat) : (s.abandon p).spindle g m =
    { s.spindle g m with
      state := ((s.abandon p).spindle g m).state
      listed := ((s.abandon p).spindle g m).listed
      since := ((s.abandon p).spindle g m).since } := by
  unfold State.abandon
  split
  · next hcur =>
    rw [State.spindle_of_table (t := (s.voidAttempt p true).attemptOver p) (s := s.voidAttempt p true) (by simp)]
    obtain ⟨t, ht⟩ := Option.isSome_iff_exists.mp hcur
    by_cases hno : (s.piecer p).spindle = none ∨ (s.piecer p).side = none
    · rw [State.voidAttempt_of_none s (.inr hno)]
    obtain ⟨hn, hd⟩ := not_or.mp hno
    obtain ⟨n, hn⟩ := Option.ne_none_iff_exists'.mp hn
    obtain ⟨d, hd⟩ := Option.ne_none_iff_exists'.mp hd
    rw [State.voidAttempt_of_attempt s ht hn hd]
    generalize hbefore : ((if true then s.hand (piecerAddr p) (.abandon t) else s).setPiecer p
      ((s.piecer p).voided t)).leaveLock p (creelOfSpindle (sideFrame d) n) = u
    have hu : u.formed = true := by rw [← hbefore]; simp (maxDischargeDepth := 40) [hs]
    have hspindle : u.spindle g m = s.spindle g m := by
      rw [← hbefore]
      exact State.spindle_of_table (by simp) g m
    rw [← hspindle]
    by_cases hkey : spindleKey g m = spindleKey (sideFrame d) n
    · have hsame (v : State) : v.spindle g m = v.spindle (sideFrame d) n := by unfold State.spindle; rw [hkey]
      rw [hsame, hsame]
      exact State.claimAbandoned_spindle_same hu
    · rw [State.claimAbandoned_spindle_other _ _ _ hkey]
  · rfl

/-- No other spindle is touched when the piecer's attempt stands on this one. -/
theorem State.abandon_spindle_other {g m d : Nat} (hd : (s.piecer p).side = some d) (hn : (s.piecer p).spindle = some n)
    (h : spindleKey g m ≠ spindleKey (sideFrame d) n) : (s.abandon p).spindle g m = s.spindle g m := by
  unfold State.abandon
  split
  · next hcur =>
    rw [State.spindle_of_table (t := (s.voidAttempt p true).attemptOver p) (s := s.voidAttempt p true) (by simp)]
    obtain ⟨t, ht⟩ := Option.isSome_iff_exists.mp hcur
    rw [State.voidAttempt_of_attempt s ht hn hd, State.claimAbandoned_spindle_other _ _ _ h]
    exact State.spindle_of_table (by simp) g m
  · rfl

theorem sideFrame_sideOf (hf : 1 ≤ f) : sideFrame (sideOf f n) = f := by
  unfold sideFrame sideOf
  split <;> omega

theorem State.attemptAt_eq_some (h : s.attemptAt f n = some p) :
    (s.side (sideOf f n)).piecer = some p ∧ (s.piecer p).spindle = some n := by
  unfold State.attemptAt at h
  split at h
  · next q hq =>
    split at h
    · next hcond =>
      obtain rfl := Option.some.inj h
      simp only [Bool.and_eq_true, beq_iff_eq] at hcond
      exact ⟨hq, hcond.2⟩
    · cases h
  · cases h

end

/-! ### The steps before the cut-out (R15) -/

section
variable {f n : Nat} {s : State}

theorem State.cutOutFirst_of_piecing (h : (s.spindle f n).state = .piecing) : s.cutOutFirst f n =
    match s.attemptAt f n with
    | some p => (s.abandon p).removeEntry f n
    | none => s.removeEntry f n := by
  simp only [State.cutOutFirst, h] <;> rfl

theorem State.cutOutFirst_of_down (h : (s.spindle f n).state = .down) : s.cutOutFirst f n =
    if (s.spindle f n).listed then s.removeEntry f n else s := by
  simp only [State.cutOutFirst, h]

theorem State.cutOutFirst_of_else (h : (s.spindle f n).state ≠ .piecing) (h' : (s.spindle f n).state ≠ .down) :
    s.cutOutFirst f n = s := by
  unfold State.cutOutFirst
  cases hst : (s.spindle f n).state <;> simp_all

theorem State.cutOutFirst_spindle (hs : s.formed = true) : (s.cutOutFirst f n).spindle f n =
    { s.spindle f n with
      state := ((s.cutOutFirst f n).spindle f n).state
      listed := ((s.cutOutFirst f n).spindle f n).listed
      since := ((s.cutOutFirst f n).spindle f n).since } := by
  by_cases hp : (s.spindle f n).state = .piecing
  · rw [State.cutOutFirst_of_piecing hp]
    split
    · rw [State.removeEntry_spindle]
      exact State.abandon_spindle hs f n
    · rw [State.removeEntry_spindle]
  by_cases hd : (s.spindle f n).state = .down
  · rw [State.cutOutFirst_of_down hd]
    split
    · rw [State.removeEntry_spindle]
    · rfl
  · rw [State.cutOutFirst_of_else hp hd]

theorem State.cutOutFirst_spindle_other {g m : Nat} (hf : 1 ≤ f)
    (hside : ∀ p, (s.side (sideOf f n)).piecer = some p → (s.piecer p).side = some (sideOf f n))
    (h : spindleKey g m ≠ spindleKey f n) : (s.cutOutFirst f n).spindle g m = s.spindle g m := by
  by_cases hp : (s.spindle f n).state = .piecing
  · rw [State.cutOutFirst_of_piecing hp]
    split
    · next p hat =>
      obtain ⟨hserves, hspindle⟩ := State.attemptAt_eq_some hat
      rw [State.removeEntry_spindle]
      exact State.abandon_spindle_other (hside p hserves) hspindle (by rwa [sideFrame_sideOf hf])
    · rw [State.removeEntry_spindle]
  by_cases hd : (s.spindle f n).state = .down
  · rw [State.cutOutFirst_of_down hd]
    split
    · rw [State.removeEntry_spindle]
    · rfl
  · rw [State.cutOutFirst_of_else hp hd]

theorem State.cutOutFirst_entries (hs : s.formed = true)
    (h : (s.spindle f n).state = .piecing ∨ ((s.spindle f n).state = .down ∧ (s.spindle f n).listed = true)) :
    ∀ e ∈ ((s.cutOutFirst f n).side (sideOf f n)).entries, e.spindle ≠ n := by
  obtain hp | ⟨hd, hl⟩ := h
  · rw [State.cutOutFirst_of_piecing hp]
    split
    · exact State.removeEntry_entries f n (State.abandon_formed _ _ hs)
    · exact State.removeEntry_entries f n hs
  · rw [State.cutOutFirst_of_down hd, if_pos hl]
    exact State.removeEntry_entries f n hs

theorem State.cutSpindle_journalled {c : CutCause} : (s.cutSpindle f n c).journalled .cutOut f 0 [w32 n, w32 c.code] :=
  State.count_journalled (State.journal_journalled ..)

/-- An answer takes no journal entry away. -/
theorem State.finish_journalled {cell : Nat} {r : Option Reason} {w : List Word} {k : JournalKind} {fr u : Nat}
    {l : List Word} (h : s.journalled k fr u l) : (s.finish cell r w).journalled k fr u l := by
  unfold State.journalled at h ⊢
  rw [State.finish_clock, State.finish_writer_pending]
  exact h.imp_left fun hmem => State.mem_finish_of_mem (by simp) hmem

end

/-! ### CUT_OUT (R15) -/

section
variable {s : State} {c : CellRead}

theorem State.orderCutOut_cases (hn : frameOk c.p1.toNat = true ∧ spindleOk c.p2.toNat = true) :
    ((s.spindle c.p1.toNat c.p2.toNat).state = .absent → s.orderCutOut c = s.finish c.cell (some .notPresent) []) ∧
    ((s.spindle c.p1.toNat c.p2.toNat).state = .cutOut → s.orderCutOut c = s.finish c.cell none [8#32]) ∧
    ((s.spindle c.p1.toNat c.p2.toNat).state ≠ .absent → (s.spindle c.p1.toNat c.p2.toNat).state ≠ .cutOut →
      s.orderCutOut c = ((s.cutOutFirst c.p1.toNat c.p2.toNat).cutSpindle c.p1.toNat c.p2.toNat .manual).finish c.cell none
        [w32 (s.spindle c.p1.toNat c.p2.toNat).state.code]) := by
  obtain ⟨hf, hspindle⟩ := hn
  refine ⟨fun h => ?_, fun h => ?_, fun h h' => ?_⟩
  · simp [State.orderCutOut, hf, hspindle, h, State.orderRefused]
  · simp [State.orderCutOut, hf, hspindle, h, State.orderDone]
    rfl
  · cases hst : (s.spindle c.p1.toNat c.p2.toNat).state <;>
      simp_all [State.orderCutOut, State.orderDone]

theorem State.orderCutOut_of_range (h : ¬(frameOk c.p1.toNat = true ∧ spindleOk c.p2.toNat = true)) :
    s.orderCutOut c = s.finish c.cell (some .outOfRange) [] := by
  refine if_pos ?_
  cases hf : frameOk c.p1.toNat <;> simp_all

end

theorem cutOut_settles {s : State} {c : CellRead} (hs : s.formed = true) (hn : frameOk c.p1.toNat = true ∧
    spindleOk c.p2.toNat = true) :
    let f := c.p1.toNat
    let n := c.p2.toNat
    let x := s.spindle f n
    let u := s.orderCutOut c
    x.state ≠ .absent → x.state ≠ .cutOut →
      u.answered c.cell none [w32 x.state.code] ∧
      u.spindle f n = { x with
        state := .cutOut, since := 0, cutCause := some .manual, saved := none, listed := (u.spindle f n).listed } ∧
      u.journalled .cutOut f 0 [c.p2, 3#32] ∧
      (x.state = .piecing ∨ (x.state = .down ∧ x.listed = true) →
        ∀ e, e ∈ (u.side (sideOf f n)).entries → e.spindle ≠ n) ∧
      ((∀ p, (s.side (sideOf f n)).piecer = some p → (s.piecer p).side = some (sideOf f n)) →
        ∀ g m, spindleKey g m ≠ spindleKey f n → u.spindle g m = s.spindle g m) := by
  intro f n x u hne hne'
  obtain ⟨_, _, hcut⟩ := s.orderCutOut_cases hn
  have hu : u = ((s.cutOutFirst f n).cutSpindle f n .manual).finish c.cell none [w32 x.state.code] := hcut hne hne'
  have hfirst := State.cutOutFirst_formed f n s hs
  have hf : 1 ≤ f := by
    have := hn.1
    simp only [frameOk, Bool.and_eq_true, decide_eq_true_eq] at this
    exact this.1
  have hw : w32 n = c.p2 := by simp [n, w32]
  rw [hu]
  refine ⟨State.finish_answered .., ?_, ?_, fun hlisted e he => ?_, fun hside g m hkey => ?_⟩
  · rw [State.finish_spindle, State.cutSpindle_spindle_same hfirst, State.cutOutFirst_spindle hs]
    rfl
  · rw [← hw]
    exact State.finish_journalled State.cutSpindle_journalled
  · rw [State.finish_side, State.cutSpindle_keeps (fun t => t.side (sideOf f n)) (by simp) (by simp) (by simp)] at he
    exact State.cutOutFirst_entries hs hlisted e he
  · rw [State.finish_spindle, State.cutSpindle_keeps (fun t => t.spindle g m)
      (fun _ _ => State.setSpindle_other _ _ _ _ _ _ hkey) (by simp) (by simp)]
    exact State.cutOutFirst_spindle_other hf hside hkey

/-! ### CLEAR_CUTOUT (R16) -/

/-- A CUT_OUT spindle brought back. -/
def Spindle.uncut (x : Spindle) : Spindle := { x.to .settling with attempts := 0, cutCause := none }

/-- The CUT_OUT spindles of a range. -/
def State.cutOuts (s : State) (f first last : Nat) : List Nat :=
  (s.spindlesFrom f first last).filter fun n => (s.spindle f n).state == .cutOut

section
variable {s : State} {f n first last : Nat}

theorem State.mem_cutOuts : n ∈ s.cutOuts f first last ↔
    (1 ≤ n ∧ n ≤ 1824) ∧ (first ≤ n ∧ n ≤ last) ∧ (s.spindle f n).state = .cutOut := by
  have listed (h : (s.spindle f n).state = .cutOut) : spindleKey f n ∈ s.watch.spindles.map Prod.fst :=
    mem_keys_of_tget_ne (d := Spindle.reset) fun e => by
      rw [State.spindle, e] at h
      cases h
  simp only [State.cutOuts, State.spindlesFrom, List.mem_filter, State.mem_spindlesOfFrame, Bool.and_eq_true,
    decide_eq_true_eq, beq_iff_eq]
  constructor
  · rintro ⟨⟨⟨hlo, hhi, _⟩, hrange⟩, hcut⟩
    exact ⟨⟨hlo, hhi⟩, hrange, hcut⟩
  · rintro ⟨⟨hlo, hhi⟩, hrange, hcut⟩
    exact ⟨⟨⟨hlo, hhi, listed hcut⟩, hrange⟩, hcut⟩

theorem State.nodup_cutOuts (hs : s.formed = true) : (s.cutOuts f first last).Nodup :=
  ((State.nodup_spindlesOfFrame hs f).filter _).filter _

/-- Each CUT_OUT spindle of the range is counted once. -/
theorem State.length_cutOuts (hs : s.formed = true) : (s.cutOuts f first last).length =
    ((List.range' 1 1824).filter fun n =>
      decide (first ≤ n ∧ n ≤ last) && decide ((s.spindle f n).state = .cutOut)).length := by
  have hright := (List.nodup_range' (s := 1) (n := 1824)).filter
    fun n => decide (first ≤ n ∧ n ≤ last) && decide ((s.spindle f n).state = .cutOut)
  refine ((List.perm_ext_iff_of_nodup (State.nodup_cutOuts hs) hright).mpr fun n => ?_).length_eq
  rw [State.mem_cutOuts, List.mem_filter, List.mem_range'_1, Bool.and_eq_true, decide_eq_true_eq, decide_eq_true_eq]
  exact and_congr_left fun _ => by omega

/-- The spindles of a list of a frame's brought back; every other stands. -/
theorem State.each_uncut_spindle (hs : s.formed = true) {l : List Nat} (hl : l.Nodup) :
    (n ∈ l → (s.each l fun n t => t.uncut f n).spindle f n = (s.spindle f n).uncut) ∧
    ∀ g m, (∀ n ∈ l, spindleKey g m ≠ spindleKey f n) →
      (s.each l fun n t => t.uncut f n).spindle g m = s.spindle g m := by
  refine ⟨fun hn => ?_, fun g m h => State.each_keeps_mem (fun t => t.spindle g m)
    (fun n hn t => State.setSpindle_other _ _ _ _ _ _ (h n hn)) s⟩
  have hrecord := State.each_record (Q := fun t => t.formed = true) (rec := fun m t => t.spindle f m)
    (F := fun _ => Spindle.uncut) (g := fun m t => t.uncut f m) (fun m t ht => State.setSpindle_formed _ _ _ _ ht)
    (fun m e t _ hne => State.setSpindle_other _ _ _ _ _ _ fun he => hne (spindleKey_inj_frame he))
    (fun m t ht => State.setSpindle_formed_same _ _ _ _ ht) hl hs n
  rw [if_pos hn] at hrecord
  exact hrecord

end

section
variable {s : State} {c : CellRead}

theorem State.orderClearCutout_refused (h : rangeOk c = false) :
    s.orderClearCutout c = s.finish c.cell (some .outOfRange) [] := by
  simp [State.orderClearCutout, State.orderRefused, h]

theorem State.orderClearCutout_done (h : rangeOk c = true) : s.orderClearCutout c =
    ((s.each (s.cutOuts c.p1.toNat c.p2.toNat c.p3.toNat) fun n t => t.uncut c.p1.toNat n).journal .cutCleared c.p1.toNat 0
      [c.p2, c.p3, w32 (s.cutOuts c.p1.toNat c.p2.toNat c.p3.toNat).length]).finish c.cell none
        [w32 (s.cutOuts c.p1.toNat c.p2.toNat c.p3.toNat).length] := by
  simp only [State.orderClearCutout, h]
  rfl

/-- What a write of a spindle, the journal and an answer keep, CLEAR_CUTOUT keeps. -/
theorem State.orderClearCutout_keeps {β : Type} (P : State → β) (hset : ∀ f n x t, P (State.setSpindle f n x t) = P t)
    (hjournal : ∀ k f u l t, P (State.journal k f u l t) = P t)
    (hfinish : ∀ n r w t, P (State.finish n r w t) = P t) : P (s.orderClearCutout c) = P s := by
  cases h : rangeOk c with
  | false => rw [State.orderClearCutout_refused h, hfinish]
  | true =>
    rw [State.orderClearCutout_done h, hfinish, hjournal]
    exact State.each_keeps P _ _ (fun n t => hset _ n _ t) s

theorem State.orderClearCutout_spindle (hs : s.formed = true) (h : rangeOk c = true) {g n : Nat} (hg : 1 ≤ g)
    (hn : 1 ≤ n) (hn' : n ≤ 1824) : (s.orderClearCutout c).spindle g n =
      if g = c.p1.toNat ∧ (c.p2.toNat ≤ n ∧ n ≤ c.p3.toNat) ∧ (s.spindle c.p1.toNat n).state = .cutOut then
        (s.spindle c.p1.toNat n).uncut
      else s.spindle g n := by
  obtain ⟨⟨hf, _⟩, _⟩ := rangeOk_iff.mp h
  obtain ⟨hin, hout⟩ := State.each_uncut_spindle (f := c.p1.toNat) (n := n) hs
    (State.nodup_cutOuts (f := c.p1.toNat) (first := c.p2.toNat) (last := c.p3.toNat) hs)
  rw [State.orderClearCutout_done h, State.finish_spindle, State.journal_spindle]
  split
  · next hyes =>
    obtain ⟨rfl, hrange, hcut⟩ := hyes
    exact hin (State.mem_cutOuts.mpr ⟨⟨hn, hn'⟩, hrange, hcut⟩)
  · next hno =>
    refine hout g n fun m hm hkey => hno ?_
    obtain ⟨⟨_, hm'⟩, hrange, hcut⟩ := State.mem_cutOuts.mp hm
    obtain ⟨rfl, rfl⟩ := spindleKey_inj hf hg hm' hn' hkey
    exact ⟨rfl, hrange, hcut⟩

end

/-- Settles O34: CUT_OUT by the tests of R15 and the steps before the cut-out; CLEAR_CUTOUT by the loop over the CUT_OUT
spindles of its range. -/
theorem cutOutsAreMadeAndCleared : Obligations.CutOutsAreMadeAndCleared := by
  unfold Obligations.CutOutsAreMadeAndCleared
  refine ⟨fun s c hs htakes => ?_, fun s c hs htakes => ?_⟩
  · intro f n x u named
    have hformed := State.heard_formed c s hs
    have hnamed : (frameOk c.p1.toNat = true ∧ spindleOk c.p2.toNat = true) ↔ named := by
      simp [frameOk, spindleOk, named, f, n]
    refine ⟨congrArg Host.Outcome.next (State.orderEvent_of_takes htakes), fun hno => ?_, fun hn hst => ?_,
      fun hn hst => ?_, fun hn hne hne' => ?_⟩
    · have hu : u = _ := State.orderCutOut_of_range (s := s.heard c) (mt hnamed.mp hno)
      rw [hu, State.finish_watch, State.heard_watch]
      exact ⟨State.finish_answered .., rfl⟩
    · obtain ⟨habsent, _, _⟩ := (s.heard c).orderCutOut_cases (hnamed.mpr hn)
      have hu : u = _ := habsent (by rwa [State.heard_spindle])
      rw [hu, State.finish_watch, State.heard_watch]
      exact ⟨State.finish_answered .., rfl⟩
    · obtain ⟨_, hcut, _⟩ := (s.heard c).orderCutOut_cases (hnamed.mpr hn)
      have hu : u = _ := hcut (by rwa [State.heard_spindle])
      rw [hu, State.finish_watch, State.heard_watch]
      exact ⟨State.finish_answered .., rfl⟩
    · have hcut := cutOut_settles hformed (hnamed.mpr hn)
      simp only [State.heard_spindle, State.heard_side, State.heard_piecer] at hcut
      exact hcut hne hne'
  · intro f u inRange count
    have hformed := State.heard_formed c s hs
    have hcount : w32 ((s.heard c).cutOuts f c.p2.toNat c.p3.toNat).length = count := by
      rw [State.length_cutOuts hformed]
      simp only [State.heard_spindle]
      rfl
    refine ⟨congrArg Host.Outcome.next (State.orderEvent_of_takes htakes), fun hno => ?_,
      fun hok => ⟨?_, ?_, fun g n hg hn hn' => ?_⟩, ?_⟩
    · have hu : u = _ := State.orderClearCutout_refused (s := s.heard c) hno
      rw [hu, State.finish_watch, State.heard_watch]
      exact ⟨State.finish_answered .., rfl⟩
    · have hu : u = _ := State.orderClearCutout_done (s := s.heard c) hok
      rw [hu, hcount]
      exact State.finish_answered ..
    · have hu : u = _ := State.orderClearCutout_done (s := s.heard c) hok
      rw [hu, hcount]
      exact State.finish_journalled (State.journal_journalled ..)
    · have hspindle := State.orderClearCutout_spindle hformed hok hg hn hn'
      simp only [State.heard_spindle] at hspindle
      exact hspindle
    · exact ⟨(State.orderClearCutout_keeps State.disp (by simp) (by simp) (by simp)).trans (State.heard_disp c s),
        (State.orderClearCutout_keeps State.roving (by simp) (by simp) (by simp)).trans (State.heard_roving c s),
        (State.orderClearCutout_keeps State.frames (by simp) (by simp) (by simp)).trans (State.heard_frames c s),
        (State.orderClearCutout_keeps State.rogue (by simp) (by simp) (by simp)).trans (State.heard_rogue c s)⟩

end Sys2Proof.Machine
end

section
/-! PROOFS. FRAME_START (R100) and CREEL_CHANGE (R123). -/

namespace Sys2Proof.Machine

/-! ### The order board: the desk, and the cells waiting to be written -/

/-- An item of the write queue that writes a cell. -/
def WriteItem.ofCell : WriteItem → Bool
  | .cellTaken _ | .cellDone _ => true
  | _ => false

/-- What the desk's orders rest on: the desk, where the part stands, the copy read, the page writes awaited, the clock
and the cells waiting to be written. -/
def State.board (s : State) :
    Desk × PartState × Option StartStep × Option PlanRead × Option ShiftWait × Word × List WriteItem :=
  (s.desk, s.regs.part, s.regs.start, s.plan.read, s.output.wait, s.clock, s.writer.queue.filter WriteItem.ofCell)

section
variable {s t : State}

theorem State.mem_queue_of_board (h : t.board = s.board) {i : WriteItem} (hi : i.ofCell = true) :
    i ∈ t.writer.queue ↔ i ∈ s.writer.queue := by
  have hfilter (u : State) : i ∈ u.writer.queue ↔ i ∈ u.writer.queue.filter WriteItem.ofCell := by
    rw [List.mem_filter, and_iff_left hi]
  simp only [State.board, Prod.mk.injEq] at h
  obtain ⟨_, _, _, _, _, _, hqueue⟩ := h
  rw [hfilter, hfilter, hqueue]

theorem State.desk_of_board (h : t.board = s.board) : t.desk = s.desk := congrArg Prod.fst h

/-- An order that entered the book stands in it. -/
theorem State.entered_of_board (h : t.board = s.board) {k : OrderKind} {c : CellRead} (he : s.entered k c) :
    t.entered k c := by
  obtain ⟨hbook, hview, hqueue⟩ := he
  have hdesk := State.desk_of_board h
  refine ⟨hdesk ▸ hbook, ?_, (State.mem_queue_of_board h rfl).mpr hqueue⟩
  rw [State.cellView, hdesk]
  exact hview

/-- An order answered stays answered. -/
theorem State.finished_of_board (h : t.board = s.board) {d : Nat} {r : Option Reason} {w : List Word}
    (hf : s.finished d r w) : t.finished d r w := by
  obtain ⟨hview, hanswer⟩ := hf
  have hdesk := State.desk_of_board h
  have hqueue {a : Answer} := State.mem_queue_of_board h (i := .cellDone a) rfl
  simp only [State.board, Prod.mk.injEq] at h
  obtain ⟨_, hpart, _, _, _, hclock, _⟩ := h
  unfold State.finished State.cellView
  rw [hdesk, hpart, hclock, hqueue]
  exact ⟨hview, hanswer⟩

theorem State.markItem_board {i : WriteItem} (hi : i.ofCell = false) : (s.markItem i).board = s.board := by
  unfold State.markItem
  split
  · rfl
  · simp [State.board, hi]

theorem State.markIf_board {b : Bool} {i : WriteItem} (hi : i.ofCell = false) : (s.markIf b i).board = s.board := by
  unfold State.markIf
  split
  · exact State.markItem_board hi
  · rfl

variable (s)

@[simp] theorem State.setStrip_board (d : Nat) (x : Strip) : (s.setStrip d x).board = s.board :=
  (State.markIf_board rfl).trans rfl
@[simp] theorem State.setSide_board (d : Nat) (x : Side) : (s.setSide d x).board = s.board :=
  (State.markIf_board rfl).trans rfl
@[simp] theorem State.setPiecer_board (p : Nat) (x : Piecer) : (s.setPiecer p x).board = s.board :=
  (State.markIf_board rfl).trans rfl
@[simp] theorem State.setFrame_board (f : Nat) (x : Frame) : (s.setFrame f x).board = s.board :=
  (State.markIf_board rfl).trans rfl
@[simp] theorem State.setCreel_board (d : Nat) (x : Creel) : (s.setCreel d x).board = s.board :=
  (State.markIf_board rfl).trans rfl
@[simp] theorem State.setCarrier_board (d : Nat) (x : Carrier) : (s.setCarrier d x).board = s.board :=
  (State.markIf_board rfl).trans rfl
@[simp] theorem State.setSweep_board (f : Nat) (x : Sweep) : (s.setSweep f x).board = s.board := rfl
@[simp] theorem State.setRoller_board (f : Nat) (x : Roller) : (s.setRoller f x).board = s.board := rfl
@[simp] theorem State.setFeed_board (f : Nat) (x : Feed) : (s.setFeed f x).board = s.board := rfl
@[simp] theorem State.raise_board (x : Cause) : (s.raise x).board = s.board := rfl
@[simp] theorem State.oweArbiter_board : s.oweArbiter.board = s.board := rfl
@[simp] theorem State.oweRefill_board : s.oweRefill.board = s.board := rfl
@[simp] theorem State.oweRelist_board (d : Nat) : (s.oweRelist d).board = s.board := rfl

@[simp] theorem State.setUnit_board (a : Nat) (x : Unit) : (s.setUnit a x).board = s.board :=
  (State.markIf_board (by unfold unitItem; split <;> rfl)).trans rfl

@[simp] theorem State.setSpindle_board (f n : Nat) (x : Spindle) : (s.setSpindle f n x).board = s.board :=
  ((State.markIf_board rfl).trans (State.markIf_board rfl)).trans rfl

@[simp] theorem State.count_board (f : Nat) (g : Counts → Counts) : (s.count f g).board = s.board := by
  unfold State.count
  split
  · rfl
  · exact (State.markItem_board rfl).trans rfl

theorem State.enterJournal_board (e : JournalEntry) : (s.enterJournal e).board = s.board := by
  unfold State.enterJournal
  split
  · simp [State.board, WriteItem.ofCell]
  · simp [State.board, State.pend, dropOldest_queue]

@[simp] theorem State.journal_board (k : JournalKind) (f u : Nat) (l : List Word) :
    (s.journal k f u l).board = s.board := by
  unfold State.journal
  rw [State.enterJournal_board]
  split <;> rfl

@[simp] theorem State.loseUnit_board (a : Nat) (w : Word) : (s.loseUnit a w).board = s.board := by
  unfold State.loseUnit State.journalLost
  dsimp only
  rw [State.raise_board, State.journal_board]
  exact State.setUnit_board s a ((s.unit a).lostAt s.clock)

@[simp] theorem State.hand_board (a : Nat) (x : Cmd) : (s.hand a x).board = s.board := by
  unfold State.hand
  dsimp only
  (repeat' split) <;> simp

end

/-! ### FRAME_START (R100) -/

section
variable {f : Nat} {s : State}

/-- What the frame's records and a command keep, the restart keeps. -/
theorem State.restart_keeps {β : Type} (P : State → β) (hframe : ∀ f x t, P (State.setFrame f x t) = P t)
    (hroller : ∀ f x t, P (State.setRoller f x t) = P t) (hfeed : ∀ f x t, P (State.setFeed f x t) = P t)
    (hpiecer : ∀ p x t, P (State.setPiecer p x t) = P t) (hcount : ∀ f g t, P (State.count f g t) = P t)
    (howe : ∀ t, P (State.oweArbiter t) = P t) (hhand : ∀ t, P (State.hand f .run t) = P t) : P (s.restart f) = P s := by
  rw [State.restart, State.handDrive, hhand, hframe,
    State.enterState_keeps f .restarting s P hframe hroller hfeed hpiecer
    hcount howe]

theorem State.restart_frame_other {g : Nat} (h : g ≠ f) : (s.restart f).frame g = s.frame g := by
  rw [State.restart, State.handDrive, State.hand_frame, State.setFrame_other _ _ _ _ h,
    State.enterState_frame_other _ _ _ h]

/-- A HALTED frame's restart leaves the Dispatcher and the feeds alone. -/
theorem State.restart_of_halted (h : (s.frame f).state = .halted) :
    (s.restart f).disp = s.disp ∧ (s.restart f).roving = s.roving := by
  have hclose (t : State) : (t.closeStop f).disp = t.disp ∧ (t.closeStop f).roving = t.roving := by
    unfold State.closeStop
    split <;> simp
  simp [State.restart, State.handDrive, State.enterState, h, FrameState.piecing, FrameState.runs, FrameState.stopped,
    hclose]

end

section
variable {s : State} {c : CellRead}

/-- The answers of FRAME_START in the order of its tests, and the restart. -/
theorem State.orderFrameStart_cases :
    (frameOk c.p1.toNat = false → s.orderFrameStart c = s.finish c.cell (some .outOfRange) []) ∧
    (frameOk c.p1.toNat = true →
      ((s.frame c.p1.toNat).state = .out ∨ (s.unit c.p1.toNat).presence = .absent →
        s.orderFrameStart c = s.finish c.cell (some .notPresent) []) ∧
      (¬((s.frame c.p1.toNat).state = .out ∨ (s.unit c.p1.toNat).presence = .absent) →
        ((s.frame c.p1.toNat).state ≠ .halted → s.orderFrameStart c = s.finish c.cell (some .notHalted) []) ∧
        ((s.frame c.p1.toNat).state = .halted →
          s.orderFrameStart c = (s.enterBook .frameStart c).restart c.p1.toNat))) := by
  unfold State.orderFrameStart State.orderRefused
  refine ⟨fun h => ?_, fun h => ⟨fun hno => ?_, fun hp => ⟨fun hst => ?_, fun hst => ?_⟩⟩⟩
  · simp [h]
  · simp [h, hno]
  · simp [h, hp, hst]
  · simp [h, hst, not_or.mp hp]

end

theorem frameOk_iff {f : Nat} : frameOk f = true ↔ 1 ≤ f ∧ f ≤ 8 := by simp [frameOk]

/-- Settles O41: the refusals by the order's tests, and the restart of the frame in the state with the order in the
book. -/
theorem frameStartRestartsAFrame : Obligations.FrameStartRestartsAFrame := by
  unfold Obligations.FrameStartRestartsAFrame
  intro s c hs htakes f x u named present
  have hformed := State.heard_formed c s hs
  obtain ⟨hrange, hok⟩ := (s.heard c).orderFrameStart_cases (c := c)
  simp only [State.heard_frame, State.heard_unit] at hok
  have hthere : ¬(x.state = .out ∨ (s.unit f).presence = .absent) ↔ present := not_or
  have hrefused (r : Reason) : ((s.heard c).finish c.cell (some r) []).answered c.cell (some r) [] ∧
      ((s.heard c).finish c.cell (some r) []).frames = s.frames :=
    ⟨State.finish_answered .., by rw [State.finish_frames, State.heard_frames]⟩
  refine ⟨congrArg Host.Outcome.next (State.orderEvent_of_takes htakes), fun hno => ?_, fun hn hno => ?_,
    fun hn hp hst => ?_, fun hn hp hst => ?_⟩
  · have hu : u = _ := hrange (Bool.eq_false_iff.mpr (mt frameOk_iff.mp hno))
    rw [hu]
    exact hrefused .outOfRange
  · obtain ⟨hmissing, _⟩ := hok (frameOk_iff.mpr hn)
    have hu : u = _ := hmissing (not_not.mp (mt hthere.mp hno))
    rw [hu]
    exact hrefused .notPresent
  · obtain ⟨_, hpresent⟩ := hok (frameOk_iff.mpr hn)
    obtain ⟨hnot, _⟩ := hpresent (hthere.mpr hp)
    have hu : u = _ := hnot hst
    rw [hu]
    exact hrefused .notHalted
  · obtain ⟨_, hpresent⟩ := hok (frameOk_iff.mpr hn)
    obtain ⟨_, hdone⟩ := hpresent (hthere.mpr hp)
    have hu : u = ((s.heard c).enterBook .frameStart c).restart f := hdone hst
    have hbook := State.enterBook_formed .frameStart c _ hformed
    obtain ⟨hdisp, hroving⟩ := State.restart_of_halted (s := (s.heard c).enterBook .frameStart c) (f := f)
      (by rwa [State.enterBook_frame, State.heard_frame])
    rw [hu]
    refine ⟨?_, ?_, ?_, fun g hg => ?_, ?_, ?_, ?_⟩
    · exact State.entered_of_board (State.restart_keeps State.board (by simp) (by simp) (by simp) (by simp) (by simp)
        (by simp) (by simp)) State.enterBook_entered
    · rw [State.restart_frame hbook, State.enterBook_frame, State.heard_frame, State.frameSettings,
        State.enterBook_settings, State.heard_settings]
      rfl
    · rw [State.restart_unit hbook]
      exact State.hand_unit_congr _ hs hbook (by rw [State.enterBook_unit, State.heard_unit])
        (by rw [State.enterBook_clock, State.heard_clock])
    · rw [State.restart_frame_other hg, State.enterBook_frame, State.heard_frame]
    · rw [hdisp, State.enterBook_disp, State.heard_disp]
    · rw [hroving, State.enterBook_roving, State.heard_roving]
    · rw [State.restart_keeps State.watch (by simp) (by simp) (by simp) (by simp) (by simp) (by simp) (by simp),
        State.enterBook_watch, State.heard_watch]

/-! ### CREEL_CHANGE (R123) -/

/-- A section's place in the queue: behind every stamp at or before its own (R110). -/
theorem placeByStamp_split (stampOf : Nat → Nat) (c t : Nat) (q : List Nat) : ∃ l r, q = l ++ r ∧
    placeByStamp stampOf c t q = l ++ [c] ++ r ∧ (∀ e, e ∈ l → stampOf e ≤ t) ∧ ∀ e, r.head? = some e →
      t < stampOf e := by
  induction q with
  | nil => exact ⟨[], [], rfl, rfl, by simp, by simp⟩
  | cons x q ih =>
    by_cases h : stampOf x ≤ t
    · obtain ⟨l, r, hq, hplace, hl, hr⟩ := ih
      refine ⟨x :: l, r, by rw [hq]; rfl, ?_, fun e he => ?_, hr⟩
      · rw [placeByStamp, if_pos h, hplace]
        rfl
      · obtain rfl | he := List.mem_cons.mp he
        · exact h
        · exact hl e he
    · refine ⟨[], x :: q, rfl, by rw [placeByStamp, if_neg h]; rfl, by simp, fun e he => ?_⟩
      obtain rfl : x = e := by simpa using he
      exact Nat.lt_of_not_le h

section
variable {s : State} {c : CellRead} {k : Nat}

/-- The section queued with the mill clock, its order kept. -/
def State.queueOrdered (c : CellRead) (k : Nat) (s : State) : State :=
  (s.queueByStamp k s.clock).setCreel k { (s.queueByStamp k s.clock).creel k with orderSeq := some c.seq }

/-- The answers of CREEL_CHANGE in the order of its tests, and the queueing. -/
theorem State.orderCreelChange_cases :
    (sectionParamsOk c = false → s.orderCreelChange c = s.finish c.cell (some .outOfRange) []) ∧
    (sectionParamsOk c = true →
      (s.sectionPresent c.p1.toNat c.p2.toNat = false → s.orderCreelChange c = s.finish c.cell (some .notPresent) []) ∧
      (s.sectionPresent c.p1.toNat c.p2.toNat = true →
        ((s.creel (creelNo c.p1.toNat c.p2.toNat)).state = .queued ∨
            (s.creel (creelNo c.p1.toNat c.p2.toNat)).state = .changing →
          s.orderCreelChange c = s.finish c.cell (some .duplicate) []) ∧
        (¬((s.creel (creelNo c.p1.toNat c.p2.toNat)).state = .queued ∨
            (s.creel (creelNo c.p1.toNat c.p2.toNat)).state = .changing) →
          (s.queueRoom = false → s.orderCreelChange c = s.finish c.cell (some .full) []) ∧
          (s.queueRoom = true → s.orderCreelChange c =
            (s.enterBook .creelChange c).queueOrdered c (creelNo c.p1.toNat c.p2.toNat))))) := by
  unfold State.orderCreelChange State.orderRefused
  refine ⟨fun h => ?_, fun h => ⟨fun hno => ?_,
    fun hp => ⟨fun hst => ?_, fun hst => ⟨fun hroom => ?_, fun hroom => ?_⟩⟩⟩⟩
  · simp [h]
  · simp [h, hno]
  · obtain hst | hst := hst <;> simp [h, hp, hst]
  · obtain ⟨hq, hc⟩ := not_or.mp hst
    simp only [h, hp, hroom]
    cases hstate : (s.creel (creelNo c.p1.toNat c.p2.toNat)).state <;> simp_all
  · obtain ⟨hq, hc⟩ := not_or.mp hst
    simp only [h, hp, hroom]
    cases hstate : (s.creel (creelNo c.p1.toNat c.p2.toNat)).state <;> simp_all <;> rfl

theorem State.queueByStamp_creel_same (hs : s.formed = true) (w : Word) : (s.queueByStamp k w).creel k =
    { s.creel k with state := .queued, queueStamp := some w } :=
  State.setCreel_formed_same _ _ _ hs

theorem State.queueByStamp_creel_other {e : Nat} (h : e ≠ k) (w : Word) : (s.queueByStamp k w).creel e = s.creel e :=
  State.setCreel_other _ _ _ _ h

theorem State.queueOrdered_creel_same (hs : s.formed = true) (hroom : s.queueRoom = true) :
    (s.queueOrdered c k).creel k =
    { s.creel k with state := .queued, queueStamp := some s.clock, orderSeq := some c.seq } := by
  rw [State.queueOrdered, State.setCreel_formed_same _ _ _ (State.queueByStamp_formed _ _ _ hs hroom),
    State.queueByStamp_creel_same hs]

theorem State.queueOrdered_creel_other {e : Nat} (h : e ≠ k) : (s.queueOrdered c k).creel e = s.creel e := by
  rw [State.queueOrdered, State.setCreel_other _ _ _ _ h, State.queueByStamp_creel_other h]

theorem State.queueOrdered_queue :
    (s.queueOrdered c k).roving.queue = placeByStamp s.queueStampOf k s.clock.toNat s.roving.queue := by
  rw [State.queueOrdered, State.setCreel_roving_queue]
  rfl

/-- What a write of the section and of the queue keep. -/
theorem State.queueOrdered_keeps {β : Type} (P : State → β) (hcreel : ∀ d x t, P (State.setCreel d x t) = P t)
    (hqueue : ∀ (t : State) l, P { t with roving.queue := l } = P t) : P (s.queueOrdered c k) = P s := by
  rw [State.queueOrdered, hcreel, State.queueByStamp, hqueue, hcreel]

end

/-- Settles O42: the refusals by the order's tests, and the queueing of the section in the state with the order in the
book. -/
theorem creelChangeQueuesASection : Obligations.CreelChangeQueuesASection := by
  unfold Obligations.CreelChangeQueuesASection
  intro s c hs htakes f k creel u named present waits
  have hformed := State.heard_formed c s hs
  obtain ⟨hrange, hok⟩ := (s.heard c).orderCreelChange_cases (c := c)
  simp only [State.heard_creel] at hok
  have hthere : (s.heard c).sectionPresent f k = true ↔ present := by
    rw [State.sectionPresent_iff, State.heard_frame, State.heard_frameSettings]
  have hroom : (s.heard c).queueRoom = true ↔ s.roving.queue.length < 32 := by
    simp [State.queueRoom, Config.changeQueueRoom]
  have hrefused (r : Reason) : ((s.heard c).finish c.cell (some r) []).answered c.cell (some r) [] ∧
      ((s.heard c).finish c.cell (some r) []).roving = s.roving :=
    ⟨State.finish_answered .., by rw [State.finish_roving, State.heard_roving]⟩
  refine ⟨congrArg Host.Outcome.next (State.orderEvent_of_takes htakes), fun hno => ?_, fun hn hno => ?_,
    fun hn hp hw => ?_, fun hn hp hw hfull => ?_, fun hn hp hw hfree => ?_⟩
  · have hu : u = _ := hrange (Bool.eq_false_iff.mpr (mt sectionParamsOk_iff.mp hno))
    rw [hu]
    exact hrefused .outOfRange
  · obtain ⟨hmissing, _⟩ := hok (sectionParamsOk_iff.mpr hn)
    have hu : u = _ := hmissing (Bool.eq_false_iff.mpr (mt hthere.mp hno))
    rw [hu]
    exact hrefused .notPresent
  · obtain ⟨_, hpresent⟩ := hok (sectionParamsOk_iff.mpr hn)
    obtain ⟨hwaits, _⟩ := hpresent (hthere.mpr hp)
    have hu : u = _ := hwaits hw
    rw [hu]
    exact hrefused .duplicate
  · obtain ⟨_, hpresent⟩ := hok (sectionParamsOk_iff.mpr hn)
    obtain ⟨_, hlists⟩ := hpresent (hthere.mpr hp)
    obtain ⟨hnoRoom, _⟩ := hlists hw
    have hu : u = _ := hnoRoom (Bool.eq_false_iff.mpr (mt hroom.mp (Nat.not_lt.mpr hfull)))
    rw [hu]
    exact hrefused .full
  · obtain ⟨_, hpresent⟩ := hok (sectionParamsOk_iff.mpr hn)
    obtain ⟨_, hlists⟩ := hpresent (hthere.mpr hp)
    obtain ⟨_, hqueues⟩ := hlists hw
    have hu : u = ((s.heard c).enterBook .creelChange c).queueOrdered c creel := hqueues (hroom.mpr hfree)
    have hbook := State.enterBook_formed .creelChange c _ hformed
    rw [hu]
    refine ⟨?_, ?_, ?_, fun e he => ?_, ?_, ?_, ?_, ?_⟩
    · exact State.entered_of_board (State.queueOrdered_keeps State.board (by simp) fun _ _ => rfl)
        State.enterBook_entered
    · rw [State.queueOrdered_creel_same hbook (hroom.mpr hfree), State.enterBook_creel, State.heard_creel,
        State.enterBook_clock, State.heard_clock]
    · have hstamps : ((s.heard c).enterBook .creelChange c).queueStampOf = s.queueStampOf := by
        funext e
        unfold State.queueStampOf
        rw [State.enterBook_creel, State.heard_creel]
      rw [State.queueOrdered_queue, hstamps, State.enterBook_clock, State.heard_clock, State.enterBook_roving,
        State.heard_roving]
      exact placeByStamp_split ..
    · rw [State.queueOrdered_creel_other he, State.enterBook_creel, State.heard_creel]
    · rw [State.queueOrdered_keeps (fun t => t.roving.carriers) (by simp) (fun _ _ => rfl), State.enterBook_roving,
        State.heard_roving]
    · rw [State.queueOrdered_keeps State.watch (by simp) (fun _ _ => rfl), State.enterBook_watch, State.heard_watch]
    · rw [State.queueOrdered_keeps State.disp (by simp) (fun _ _ => rfl), State.enterBook_disp, State.heard_disp]
    · rw [State.queueOrdered_keeps State.frames (by simp) (fun _ _ => rfl), State.enterBook_frames, State.heard_frames]

end Sys2Proof.Machine
end

section
/-! PROOFS. The order board stands while piecers, frames and carriers act. -/

namespace Sys2Proof.Machine

section
variable (s : State)

@[simp] theorem State.alarm_board (f : Nat) : (s.alarm f).board = s.board := by simp [State.alarm]
@[simp] theorem State.withdrawDrive_board (f : Nat) :
    (s.withdrawDrive f).board = s.board := by simp [State.withdrawDrive]

/-! ### Lists and spindles -/

@[simp] theorem State.removeEntry_board (f n : Nat) : (s.removeEntry f n).board = s.board := by
  unfold State.removeEntry
  dsimp only
  split <;> simp

@[simp] theorem State.claimAbandoned_board (f n : Nat) : (s.claimAbandoned f n).board = s.board := by
  unfold State.claimAbandoned
  dsimp only
  (repeat' split) <;> simp

/-! ### Piecers and the section lock -/

@[simp] theorem State.unserve_board (p : Nat) : (s.unserve p).board = s.board :=
  State.unserve_keeps p s State.board (by simp) (by simp)

@[simp] theorem State.journalMove_board (p a b : Nat) (r : Option MoveReason) :
    (s.journalMove p a b r).board = s.board := by
  simp [State.journalMove]

@[simp] theorem State.sendToBay_board (p : Nat) (pl : Placement) (r : Option MoveReason) :
    (s.sendToBay p pl r).board = s.board := by
  simp [State.sendToBay]

@[simp] theorem State.sendToSide_board (p d : Nat) (r : MoveReason) : (s.sendToSide p d r).board = s.board := by
  simp [State.sendToSide]

@[simp] theorem State.carrierTakes_board (c k : Nat) (w : Holder) : (s.carrierTakes c k w).board = s.board := by
  simp [State.carrierTakes]

@[simp] theorem State.piecerReleases_board (p k : Nat) : (s.piecerReleases p k).board = s.board := by
  unfold State.piecerReleases
  dsimp only
  (repeat' split) <;> simp

@[simp] theorem State.voidAttempt_board (p : Nat) (send : Bool) : (s.voidAttempt p send).board = s.board := by
  unfold State.voidAttempt
  dsimp only
  (repeat' split) <;> simp

@[simp] theorem State.attemptOver_board (p : Nat) : (s.attemptOver p).board = s.board := by
  unfold State.attemptOver
  dsimp only
  (repeat' split) <;> simp

@[simp] theorem State.abandon_board (p : Nat) : (s.abandon p).board = s.board := by
  unfold State.abandon
  split <;> simp

@[simp] theorem State.abandonAll_board (f : Nat) : (s.abandonAll f).board = s.board :=
  State.each_keeps State.board _ _ (by simp) s

@[simp] theorem State.abandonDrain_board (f : Nat) : (s.abandonDrain f).board = s.board :=
  State.each_keeps State.board _ _ (by simp) s

/-! ### Frames and the doff slots -/

@[simp] theorem State.enterState_board (f : Nat) (st : FrameState) : (s.enterState f st).board = s.board :=
  State.enterState_keeps f st s State.board (by simp) (by simp) (by simp) (by simp) (by simp) (by simp)

@[simp] theorem State.grantSlot_board (f k : Nat) : (s.grantSlot f k).board = s.board := by
  simp [State.grantSlot]

theorem grantN_board (n : Nat) : (grantN n s).board = s.board := by
  induction n generalizing s with
  | zero => rfl
  | succ n ih =>
    unfold grantN
    split
    · rw [ih, State.grantSlot_board]
    · rfl

@[simp] theorem State.doffArbiter_board : s.doffArbiter.board = s.board := by
  unfold State.doffArbiter
  split
  · exact grantN_board s 2
  · rfl

@[simp] theorem State.releaseSlot_board (f : Nat) : (s.releaseSlot f).board = s.board := by
  unfold State.releaseSlot
  split <;> simp

@[simp] theorem State.callFrame_board (f : Nat) (c : CallCause) : (s.callFrame f c).board = s.board := by
  simp [State.callFrame]

@[simp] theorem State.haltReport_board (f : Nat) (c : HaltCause) (left : FrameState) :
    (s.haltReport f c left).board = s.board := by
  simp [State.haltReport]

end

/-! ### What a grant may journal beside its own entry -/

namespace State.Grows

variable (s : State)

/-- A loop of passes, each of which may generate so many entries. -/
theorem each_mul {α : Type} {k : Nat} {g : α → State → State} (hg : ∀ x t, Grows k t (g x t)) (l : List α) :
    Grows (l.length * k) s (s.each l g) := by
  induction l generalizing s with
  | nil => exact (refl s).mono (Nat.zero_le _)
  | cons x r ih =>
    have hstep := (hg x s).trans (ih (g x s))
    refine hstep.mono (le_of_eq ?_)
    rw [List.length_cons, Nat.succ_mul, Nat.add_comm]

theorem carrierTakes (c k : Nat) (w : Holder) : Grows 1 s (s.carrierTakes c k w) :=
  ((setCreel ..).trans (setCarrier ..)).trans (hand ..)

theorem piecerReleases (p k : Nat) : Grows 1 s (s.piecerReleases p k) := by
  unfold State.piecerReleases
  dsimp only
  split
  · split
    · exact carrierTakes ..
    · exact (setCreel ..).mono (Nat.zero_le 1)
    · exact (setCreel ..).mono (Nat.zero_le 1)
  · exact (refl s).mono (Nat.zero_le 1)

theorem removeEntry (f n : Nat) : Grows 0 s (s.removeEntry f n) := by
  unfold State.removeEntry
  dsimp only
  split
  · exact (setSide ..).trans (oweRelist ..)
  · exact refl s

theorem claimAbandoned (f n : Nat) : Grows 0 s (s.claimAbandoned f n) := by
  unfold State.claimAbandoned
  dsimp only
  split
  · split
    · exact (setSpindle ..).trans (removeEntry ..)
    · exact setSpindle ..
  · exact refl s

theorem leaveLock (p k : Nat) : Grows 1 s (s.leaveLock p k) := by
  unfold State.leaveLock
  split
  · exact (setCreel ..).mono (Nat.zero_le 1)
  · exact piecerReleases ..

theorem voidAttempt (p : Nat) (send : Bool) : Grows 2 s (s.voidAttempt p send) := by
  unfold State.voidAttempt
  dsimp only
  split
  · refine trans (j := 2) (k := 0) (trans (j := 1) (k := 1) ?_ (leaveLock ..)) (claimAbandoned ..)
    refine trans (j := 1) (k := 0) ?_ (setPiecer ..)
    split
    · exact hand ..
    · exact (refl s).mono (Nat.zero_le 1)
  · exact (refl s).mono (Nat.zero_le 2)

theorem attemptOver (p : Nat) : Grows 2 s (s.attemptOver p) := by
  unfold State.attemptOver
  dsimp only
  split
  · exact (setPiecer ..).trans (sendToBay ..)
  split
  · exact (setPiecer ..).trans (sendToBay ..)
  · exact ((setPiecer ..).trans (oweArbiter _)).mono (Nat.zero_le 2)

theorem abandon (p : Nat) : Grows 4 s (s.abandon p) :=
  ite ((voidAttempt ..).trans (attemptOver ..)) ((refl s).mono (Nat.zero_le 4))

end State.Grows

/-- At most two piecers have attempts on a frame, one to a side. -/
theorem State.length_attemptsOn_le (s : State) (f : Nat) : (s.attemptsOn f).length ≤ 2 := List.length_filterMap_le ..

namespace State.Grows

variable (s : State)

theorem abandonDrain (f : Nat) : Grows 8 s (s.abandonDrain f) := by
  refine (each_mul s (fun p t => abandon t p) _).mono ?_
  have hle := (List.length_filter_le (fun p => (s.piecer p).state == .held || !pastJoin (s.piecer p).stage)
    (s.attemptsOn f)).trans (s.length_attemptsOn_le f)
  omega

end State.Grows

/-! ### A grant of a doff slot (R86, R88) -/

section
variable {s : State} {f k : Nat}

/-- The record of a frame granted a slot. -/
def Frame.granted (k : Nat) (x : Frame) : Frame :=
  { x with state := .draining, slot := some k, callStamp := none, callCause := none, drainBuild := x.buildM }

theorem State.grantSlot_frame_same (hs : s.formed = true) : (s.grantSlot f k).frame f = (s.frame f).granted k := by
  simp only [State.grantSlot]
  rw [State.frame_of_table (State.abandonDrain_frames ..), State.journal_frame,
    State.enterState_frame_same _ _ (State.setFrame_formed _ _ _ hs), State.setFrame_formed_same _ _ _ hs]
  rfl

theorem State.grantSlot_journalled {w : Word} (hw : (s.frame f).callStamp = some w) : (s.grantSlot f k).journalled
    .doffGranted f 0 [w32 k, w32 (s.frame f).buildM, w32 (s.since w)] := by
  simp only [State.grantSlot, hw]
  exact State.journalled_of_grows (State.Grows.abandonDrain ..) (by omega)

/-- Free slots turn on the slots held and the slots in force. -/
theorem State.freeSlot_congr {t : State} (hslot : ∀ g, (t.frame g).slot = (s.frame g).slot)
    (hsettings : t.settings = s.settings) : t.freeSlot = s.freeSlot := by
  have hholders : t.slotHolders = s.slotHolders := by simp only [State.slotHolders, hslot]
  unfold State.freeSlot
  rw [hholders, hsettings]
  simp only [hslot]

/-- The one CALLED frame is the next. -/
theorem State.nextCalled_of_unique (hf : f ∈ allFrames) (h : (s.frame f).state = .called)
    (hother : ∀ g ∈ allFrames, g ≠ f → (s.frame g).state ≠ .called) : s.nextCalled = some f := by
  cases hnext : s.nextCalled with
  | none => exact absurd h (State.nextCalled_eq_none.mp hnext f hf)
  | some g =>
    obtain ⟨hg, hcalled⟩ := State.nextCalled_state hnext
    by_contra hne
    exact hother g hg (fun he => hne (by rw [he])) hcalled

/-- With a slot free and one frame CALLED the arbiter grants it that slot, and no more. -/
theorem State.doffArbiter_of_one (hs : s.formed = true) (hwork : s.working = true) (hf : f ∈ allFrames)
    (h : (s.frame f).state = .called) (hother : ∀ g ∈ allFrames, g ≠ f → (s.frame g).state ≠ .called)
    (hk : s.freeSlot = some k) : s.doffArbiter = s.grantSlot f k := by
  have hnext := State.nextCalled_of_unique hf h hother
  have hrest : (s.grantSlot f k).nextCalled = none := State.nextCalled_eq_none.mpr fun g hg => by
    obtain rfl | hne := eq_or_ne g f
    · rw [State.grantSlot_frame_same hs]
      simp [Frame.granted]
    · rw [State.grantSlot_frame_other _ _ _ hne]
      exact hother g hg hne
  unfold State.doffArbiter
  rw [if_pos hwork]
  unfold grantN
  rw [hk, hnext]
  exact grantN_of_none (.inl hrest) 1

/-- A frame that was CALLED is CALLED still, or drains with a slot. -/
theorem grantN_called (hs : s.formed = true) (n : Nat) (h : (s.frame f).state = .called) :
    ((grantN n s).frame f).state = .called ∨
      (((grantN n s).frame f).state = .draining ∧ ((grantN n s).frame f).slot ≠ none) := by
  induction n generalizing s with
  | zero => exact .inl h
  | succ n ih =>
    unfold grantN
    split
    · next k g _ _ =>
      have hformed := State.grantSlot_formed g k s hs
      obtain rfl | hne := eq_or_ne f g
      · have hframe := State.grantSlot_frame_same (f := f) (k := k) hs
        obtain ⟨hstands, _⟩ := grantN_keeps hformed n (e := f) (by rw [hframe]; simp [Frame.granted])
        rw [hstands, hframe]
        exact .inr ⟨rfl, by simp [Frame.granted]⟩
      · exact ih hformed (by rwa [State.grantSlot_frame_other _ _ _ hne])
    · exact .inl h

theorem State.doffArbiter_called (hs : s.formed = true) (h : (s.frame f).state = .called) :
    (s.doffArbiter.frame f).state = .called ∨
      ((s.doffArbiter.frame f).state = .draining ∧ (s.doffArbiter.frame f).slot ≠ none) := by
  unfold State.doffArbiter
  split
  · exact grantN_called hs 2 h
  · exact .inl h

end

/-! ### A frame is called (R82) -/

section
variable {s : State} {f : Nat} {c : CallCause}

/-- A frame CALLED, before the arbiter. -/
def State.called (f : Nat) (c : CallCause) (s : State) : State :=
  ((s.enterState f .called).setFrame f { (s.enterState f .called).frame f with
    callStamp := some (s.enterState f .called).clock, callCause := some c })

theorem State.callFrame_eq : s.callFrame f c =
    ((s.called f c).journal .doffCalled f 0 [w32 c.code, w32 ((s.called f c).frame f).buildM]).doffArbiter := rfl

variable (hs : s.formed = true)
include hs

theorem State.called_formed : (s.called f c).formed = true :=
  State.setFrame_formed _ _ _ (State.enterState_formed _ _ _ hs)

theorem State.called_frame_same : (s.called f c).frame f =
    { s.frame f with state := .called, callStamp := some s.clock, callCause := some c } := by
  rw [State.called, State.setFrame_formed_same _ _ _ (State.enterState_formed _ _ _ hs),
    State.enterState_frame_same _ _ hs,
    State.enterState_clock]

omit hs in
theorem State.called_frame_other {g : Nat} (h : g ≠ f) : (s.called f c).frame g = s.frame g := by
  rw [State.called, State.setFrame_other _ _ _ _ h, State.enterState_frame_other _ _ _ h]

theorem State.called_freeSlot : (s.called f c).freeSlot = s.freeSlot := by
  refine State.freeSlot_congr (fun g => ?_) (State.settings_of_plan (by simp [State.called]))
  obtain rfl | hne := eq_or_ne g f
  · rw [State.called_frame_same hs]
  · rw [State.called_frame_other hne]

end

end Sys2Proof.Machine
end

section
/-! PROOFS. DOFF_NOW and FRAME_STOP (R83, R86, R88, R95 to R97). -/

namespace Sys2Proof.Machine

/-! ### DOFF_NOW -/

section
variable {s : State} {c : CellRead}

/-- The answers of DOFF_NOW by the frame's state, and the call. -/
theorem State.orderDoffNow_cases :
    (frameOk c.p1.toNat = false → s.orderDoffNow c = s.finish c.cell (some .outOfRange) []) ∧
    (frameOk c.p1.toNat = true →
      ((s.frame c.p1.toNat).state = .out → s.orderDoffNow c = s.finish c.cell (some .notPresent) []) ∧
      ((s.frame c.p1.toNat).state = .called ∨ (s.frame c.p1.toNat).state = .draining ∨
          (s.frame c.p1.toNat).state = .stopping ∨ (s.frame c.p1.toNat).state = .doffing →
        s.orderDoffNow c = s.finish c.cell (some .alreadyCalled) []) ∧
      ((s.frame c.p1.toNat).state = .halted ∨ (s.frame c.p1.toNat).state = .restarting →
        s.orderDoffNow c = s.finish c.cell (some .notRunning) []) ∧
      ((s.frame c.p1.toNat).state = .building ∨ (s.frame c.p1.toNat).state = .nearing →
        s.orderDoffNow c = (s.enterBook .doffNow c).callFrame c.p1.toNat .doffNow)) := by
  unfold State.orderDoffNow State.orderRefused
  refine ⟨fun h => ?_, fun h => ⟨fun hst => ?_, fun hst => ?_, fun hst => ?_, fun hst => ?_⟩⟩
  · simp [h]
  · simp [h, hst]
  · obtain hst | hst | hst | hst := hst <;> simp [h, hst]
  · obtain hst | hst := hst <;> simp [h, hst]
  · obtain hst | hst := hst <;> simp [h, hst]

end

/-- What a called frame comes to in its event: CALLED with no slot free, granted the free slot when no other is called.
-/
theorem callFrame_effect {s : State} {f : Nat} (hs : s.formed = true) (hf : f ∈ allFrames)
    (hrun : s.regs.part = .running) :
    let x := s.frame f
    let u := s.callFrame f .doffNow
    (s.freeSlot = none → u.journalled .doffCalled f 0 [2#32, w32 x.buildM] ∧
      u.frame f = { x with state := .called, callStamp := some s.clock, callCause := some .doffNow } ∧
      ∀ g, g ≠ f → u.frame g = s.frame g) ∧
    (∀ k, s.freeSlot = some k → s.nextCalled = none →
      u.frame f = { x with
        state := .draining, slot := some k, callStamp := none, callCause := none, drainBuild := x.buildM } ∧
      u.journalled .doffGranted f 0 [w32 k, w32 x.buildM, 0#32] ∧ ∀ g, g ≠ f → u.frame g = s.frame g) ∧
    ((u.frame f).state = .called ∨ ((u.frame f).state = .draining ∧ (u.frame f).slot ≠ none)) := by
  intro x u
  have hcalled : (s.called f .doffNow).formed = true := State.called_formed hs
  have hbuild : ((s.called f .doffNow).frame f).buildM = x.buildM := by rw [State.called_frame_same hs]
  have hu : u = ((s.called f .doffNow).journal .doffCalled f 0 [2#32, w32 x.buildM]).doffArbiter := by
    have heq : u = _ := State.callFrame_eq
    rw [heq, hbuild]
    rfl
  have hframe : ((s.called f .doffNow).journal .doffCalled f 0 [2#32, w32 x.buildM]).frame f =
      { x with state := .called, callStamp := some s.clock, callCause := some .doffNow } := by
    rw [State.journal_frame, State.called_frame_same hs]
  have hother (g : Nat) (hg : g ≠ f) :
      ((s.called f .doffNow).journal .doffCalled f 0 [2#32, w32 x.buildM]).frame g = s.frame g := by
    rw [State.journal_frame, State.called_frame_other hg]
  have hfree : ((s.called f .doffNow).journal .doffCalled f 0 [2#32, w32 x.buildM]).freeSlot = s.freeSlot :=
    (State.freeSlot_congr (fun g => by rw [State.journal_frame]) (State.settings_of_plan (by simp))).trans
      (State.called_freeSlot hs)
  have hclock : ((s.called f .doffNow).journal .doffCalled f 0 [2#32, w32 x.buildM]).clock = s.clock := by
    simp [State.called]
  have hwork : ((s.called f .doffNow).journal .doffCalled f 0 [2#32, w32 x.buildM]).working = true := by
    have hpart : ((s.called f .doffNow).journal .doffCalled f 0 [2#32, w32 x.buildM]).regs.part = .running := by
      rw [State.part_of_fixed (s := s) (by simp [State.called]), hrun]
    rw [State.working, hpart]
    rfl
  have hlater := State.journal_journalled .doffCalled f 0 [2#32, w32 x.buildM] (s.called f .doffNow)
  have hformed := State.journal_formed .doffCalled f 0 [2#32, w32 x.buildM] _ hcalled
  generalize (s.called f .doffNow).journal .doffCalled f 0 [2#32, w32 x.buildM] = t at *
  rw [hu]
  refine ⟨fun hnone => ?_, fun k hk hnone => ?_, ?_⟩
  · rw [State.doffArbiter_of_none (.inr (hfree.trans hnone))]
    exact ⟨hlater, hframe, hother⟩
  · have hgrant : t.doffArbiter = t.grantSlot f k := State.doffArbiter_of_one hformed hwork hf (by rw [hframe])
      (fun g hg hne => by
        rw [hother g hne]
        exact State.nextCalled_eq_none.mp hnone g hg) (hfree.trans hk)
    have hjournal := State.grantSlot_journalled (s := t) (f := f) (k := k) (w := s.clock) (by rw [hframe])
    rw [State.since, hclock, BitVec.sub_self, hframe] at hjournal
    rw [hgrant]
    refine ⟨?_, hjournal, fun g hg => ?_⟩
    · rw [State.grantSlot_frame_same hformed, hframe]
      rfl
    · rw [State.grantSlot_frame_other _ _ _ hg, hother g hg]
  · exact State.doffArbiter_called hformed (by rw [hframe])

/-! ### A grant and a release, for any frame -/

section
variable {s : State} (hs : s.formed = true)
include hs

/-- The arbiter leaves a frame's record, or grants it a slot. -/
theorem grantN_frame (n e : Nat) : (grantN n s).frame e = s.frame e ∨
    ((s.frame e).state = .called ∧ ∃ k, (grantN n s).frame e = (s.frame e).granted k) := by
  induction n generalizing s with
  | zero => exact .inl rfl
  | succ n ih =>
    unfold grantN
    split
    · next k g _ hg =>
      have hformed := State.grantSlot_formed g k s hs
      obtain rfl | hne := eq_or_ne e g
      · have hframe := State.grantSlot_frame_same (f := e) (k := k) hs
        obtain ⟨hstands, _⟩ := grantN_keeps hformed n (e := e) (by rw [hframe]; simp [Frame.granted])
        exact .inr ⟨(State.nextCalled_state hg).2, k, hstands.trans hframe⟩
      · have hstands := State.grantSlot_frame_other g k s hne
        have hrest := ih hformed
        rwa [hstands] at hrest
    · exact .inl rfl

theorem State.doffArbiter_frame (e : Nat) : s.doffArbiter.frame e = s.frame e ∨
    ((s.frame e).state = .called ∧ ∃ k, s.doffArbiter.frame e = (s.frame e).granted k) := by
  unfold State.doffArbiter
  split
  · exact grantN_frame hs 2 e
  · exact .inl rfl

theorem grantN_build (n e : Nat) : ((grantN n s).roller e).build = (s.roller e).build := by
  induction n generalizing s with
  | zero => rfl
  | succ n ih =>
    unfold grantN
    split
    · next k g _ _ => exact (ih (State.grantSlot_formed g k s hs)).trans (State.grantSlot_build g k hs e)
    · rfl

theorem State.releaseSlot_build (f e : Nat) : ((s.releaseSlot f).roller e).build = (s.roller e).build := by
  unfold State.releaseSlot State.doffArbiter
  split
  · split
    · rw [grantN_build (State.setFrame_formed _ _ _ hs), State.setFrame_roller]
    · rw [State.setFrame_roller]
  · rfl

/-- A frame that gives back its slot holds none, unless it was CALLED with one and is granted one anew. -/
theorem State.releaseSlot_frame (f : Nat) : (s.releaseSlot f).frame f = { s.frame f with slot := none } ∨
    ((s.frame f).state = .called ∧ (s.frame f).slot ≠ none ∧
      ∃ k, (s.releaseSlot f).frame f = { s.frame f with slot := none }.granted k) := by
  unfold State.releaseSlot
  split
  · next hslot =>
    have hset := State.setFrame_formed_same f { s.frame f with slot := none } s hs
    have harb := State.doffArbiter_frame (State.setFrame_formed f { s.frame f with slot := none } s hs) f
    rw [hset] at harb
    exact harb.imp id fun h => ⟨h.1, Option.isSome_iff_ne_none.mp hslot, h.2⟩
  · next hnone =>
    have hslot : (s.frame f).slot = none := by simpa using hnone
    refine .inl ?_
    rw [← hslot]

/-! ### The doffs counted -/

/-- A count that is not of doffs leaves them. -/
theorem State.count_doffs {f e : Nat} {g : Counts → Counts} (hg : ∀ x, (g x).doffs = x.doffs) :
    ((s.count f g).counts e).doffs = (s.counts e).doffs := by
  by_cases hp : s.output.page = none
  · rw [State.count_of_no_page hp]
  by_cases he : e = f
  · rw [he, State.count_counts_same hs hp, hg]
  · rw [State.count_counts_other he]

omit hs in
theorem State.doffs_of_counts {t : State} (h : t.output.counts = s.output.counts) (e : Nat) :
    (t.counts e).doffs = (s.counts e).doffs := by
  unfold State.counts
  rw [h]

theorem State.enterState_doffs (f e : Nat) (st : FrameState) :
    ((s.enterState f st).counts e).doffs = (s.counts e).doffs := by
  have hset := State.setFrame_formed f { s.frame f with state := st } s hs
  have hopen (t : State) : (t.openStop f).output.counts = t.output.counts := by
    unfold State.openStop
    split <;> simp
  have hclose (t : State) (ht : t.formed = true) : ((t.closeStop f).counts e).doffs = (t.counts e).doffs := by
    unfold State.closeStop
    split
    · exact (State.doffs_of_counts (State.setRoller_output_counts ..) e).trans (State.count_doffs ht fun _ => rfl)
    · rfl
  have hends (t : State) : (t.leaveFrameEnds f).output = t.output :=
    State.leaveFrameEnds_keeps f t State.output (by simp)
  have hframe : ((s.setFrame f { s.frame f with state := st }).counts e).doffs = (s.counts e).doffs :=
    State.doffs_of_counts (by simp) e
  have hlast (t : State) : ((if (s.frame f).state.piecing != st.piecing then
      (if st.piecing then t.leaveFrameEnds f else t).oweArbiter else t).counts e).doffs = (t.counts e).doffs := by
    refine State.doffs_of_counts ?_ e
    split
    · split
      · exact congrArg Output.counts (hends t)
      · rfl
    · rfl
  unfold State.enterState
  dsimp only
  rw [hlast]
  split
  · rw [State.doffs_of_counts (s := (s.setFrame f { s.frame f with state := st }).openStop f) (by simp),
      State.doffs_of_counts (hopen _), hframe]
  · split
    · rw [hclose _ hset, hframe]
    · exact hframe

theorem State.grantSlot_doffs (f k e : Nat) : ((s.grantSlot f k).counts e).doffs = (s.counts e).doffs := by
  simp only [State.grantSlot]
  rw [State.doffs_of_counts (congrArg Output.counts (State.abandonDrain_output ..)),
    State.doffs_of_counts (congrArg Output.counts (State.journal_output ..)),
      State.enterState_doffs (State.setFrame_formed _ _ _ hs),
    State.doffs_of_counts (congrArg Output.counts (State.setFrame_output ..))]

theorem grantN_doffs (n e : Nat) : ((grantN n s).counts e).doffs = (s.counts e).doffs := by
  induction n generalizing s with
  | zero => rfl
  | succ n ih =>
    unfold grantN
    split
    · next k g _ _ => exact (ih (State.grantSlot_formed g k s hs)).trans (State.grantSlot_doffs hs g k e)
    · rfl

theorem State.releaseSlot_doffs (f e : Nat) : ((s.releaseSlot f).counts e).doffs = (s.counts e).doffs := by
  have hset := State.setFrame_formed f { s.frame f with slot := none } s hs
  have hframe : ((s.setFrame f { s.frame f with slot := none }).counts e).doffs = (s.counts e).doffs :=
    State.doffs_of_counts (by simp) e
  unfold State.releaseSlot State.doffArbiter
  split
  · split
    · rw [grantN_doffs hset, hframe]
    · exact hframe
  · rfl

end

/-! ### A doff's completion (R95) -/

section
variable {s : State} {f : Nat}

/-- A doff's completion before its report and its order's end. -/
def State.doffReleased (f : Nat) (s : State) : State :=
  ((s.setRoller f { s.roller f with build := 0 }).setFrame f { s.frame f with buildM := 0 }).releaseSlot f

/-- A doff's completion before its order's end: the slot released, the doff counted and journalled. -/
def State.doffCounted (f : Nat) (s : State) : State :=
  ((s.doffReleased f).count f fun y => { y with doffs := addTo top32 y.doffs 1 }).journal .doffDone f 0
    [w32 ((s.frame f).slot.getD 0), w32 (s.frame f).buildM, (s.frame f).doneStamp]

theorem State.completeDoff_eq : s.completeDoff f = (s.doffCounted f).finishBook (orderOn .doffNow f) none
    [1#32, (s.frame f).doneStamp, w32 (s.frame f).drainBuild] := rfl

theorem State.doffCounted_board : (s.doffCounted f).board = s.board := by
  simp [State.doffCounted, State.doffReleased]

variable (hs : s.formed = true)
include hs

theorem State.doffReleased_formed : (s.doffReleased f).formed = true :=
  State.releaseSlot_formed _ _ (State.setFrame_formed _ _ _ (State.setRoller_formed _ _ _ hs))

theorem State.completeDoff_frame : (s.completeDoff f).frame f = { s.frame f with buildM := 0, slot := none } ∨
    ((s.frame f).state = .called ∧ (s.frame f).slot ≠ none ∧
      ∃ k, (s.completeDoff f).frame f = { s.frame f with buildM := 0, slot := none }.granted k) := by
  have hroller := State.setRoller_formed f { s.roller f with build := 0 } s hs
  have hset : ((s.setRoller f { s.roller f with build := 0 }).setFrame f { s.frame f with buildM := 0 }).frame f =
      { s.frame f with buildM := 0 } := State.setFrame_formed_same _ _ _ hroller
  have hreleased := State.releaseSlot_frame (State.setFrame_formed f { s.frame f with buildM := 0 } _ hroller) f
  rw [hset] at hreleased
  rw [State.completeDoff_eq, State.finishBook_frame, State.doffCounted, State.journal_frame, State.count_frame]
  exact hreleased

theorem State.completeDoff_build : ((s.completeDoff f).roller f).build = 0 := by
  have hroller := State.setRoller_formed f { s.roller f with build := 0 } s hs
  rw [State.completeDoff_eq, State.finishBook_roller, State.doffCounted, State.journal_roller,
    State.roller_of_table (State.count_rollers ..), State.doffReleased,
    State.releaseSlot_build (State.setFrame_formed _ _ _ hroller), State.setFrame_roller,
      State.setRoller_formed_same _ _ _ hs]

theorem State.doffReleased_doffs (e : Nat) : ((s.doffReleased f).counts e).doffs = (s.counts e).doffs := by
  rw [State.doffReleased, State.releaseSlot_doffs (State.setFrame_formed _ _ _ (State.setRoller_formed _ _ _ hs)),
    State.doffs_of_counts (congrArg Output.counts (State.setFrame_output ..)),
    State.doffs_of_counts (State.setRoller_output_counts ..)]

/-- What no part of a grant holds. -/
theorem State.releaseSlot_page (f : Nat) : (s.releaseSlot f).output.page = s.output.page := by
  have hgrant (g k : Nat) (t : State) : (t.grantSlot g k).output.page = t.output.page := by
    simp only [State.grantSlot]
    rw [State.abandonDrain_output, State.journal_output,
      State.enterState_keeps g .draining _ (fun u => u.output.page) (by simp) (by simp) (by simp) (by simp) (by simp) (by simp),
      State.setFrame_output]
  have hgrants (n : Nat) (t : State) : (grantN n t).output.page = t.output.page := by
    induction n generalizing t with
    | zero => rfl
    | succ n ih =>
      unfold grantN
      split
      · rw [ih, hgrant]
      · rfl
  unfold State.releaseSlot State.doffArbiter
  split
  · split
    · rw [hgrants, State.setFrame_output]
    · rw [State.setFrame_output]
  · rfl

theorem State.completeDoff_doffs (hp : s.output.page ≠ none) :
    ((s.completeDoff f).counts f).doffs = min 4294967295 ((s.counts f).doffs + 1) := by
  have hpage : (s.doffReleased f).output.page ≠ none := by
    rw [State.doffReleased, State.releaseSlot_page (State.setFrame_formed _ _ _ (State.setRoller_formed _ _ _ hs))]
    simpa using hp
  rw [State.completeDoff_eq, State.doffs_of_counts (congrArg Output.counts (State.finishBook_output ..)),
    State.doffCounted, State.doffs_of_counts (congrArg Output.counts (State.journal_output ..)),
    State.count_counts_same (State.doffReleased_formed hs) hpage]
  exact congrArg (addTo top32 · 1) (State.doffReleased_doffs hs f)

end

/-! ### Orders finished together, and others finished after them -/

section
variable {s : State} {d : Nat} {r : Option Reason} {w : List Word}

/-- An order DONE stays answered when others are DONE. -/
theorem State.finish_finished_of_done (h : s.finished d none w) (c : Nat) (l : List Word) :
    (s.finish c none l).finished d none w := by
  obtain ⟨hview, hanswer⟩ := h
  unfold State.finished
  rw [State.finish_regs, State.finish_clock]
  refine ⟨?_, ?_⟩
  · rw [State.cellView, State.finish_desk_view]
    by_cases hdc : d = c
    · rw [hdc]
      exact tget_tput_ne _ (by simp)
    · exact (tget_tput_other _ hdc).trans hview
  · split at hanswer
    · next hp =>
      rw [if_pos hp, State.finish_desk_held, if_pos hp]
      exact List.mem_append_left _ hanswer
    · next hp =>
      rw [if_neg hp]
      exact State.mem_finish_of_mem (by simp) hanswer

theorem State.finishBook_finished_of_done (h : s.finished d none w) (sel : BookEntry → Bool) (l : List Word) :
    (s.finishBook sel none l).finished d none w :=
  State.each_keeps_prop (Q := fun t => t.finished d none w) (fun c _ ht => State.finish_finished_of_done ht c l) _ h

theorem State.finish_book (c : Nat) (l : List Word) :
    (s.finish c r l).desk.book = s.desk.book.filter fun b => decide (b.cell ≠ c) := by
  by_cases h : s.regs.part = .stalled <;> simp [State.finish, State.setCellView, h]

/-- The orders in the book after some of them are finished. -/
theorem State.mem_finishBook_book {sel : BookEntry → Bool} {b : BookEntry} :
    b ∈ (s.finishBook sel r w).desk.book ↔ b ∈ s.desk.book ∧ ∀ e ∈ s.desk.book, sel e = true → b.cell ≠ e.cell := by
  have heach (l : List Nat) (t : State) : b ∈ (t.each l fun c u => u.finish c r w).desk.book ↔
      b ∈ t.desk.book ∧ ∀ c ∈ l, b.cell ≠ c := by
    induction l generalizing t with
    | nil => simp [State.each]
    | cons c l ih =>
      refine (ih (t.finish c r w)).trans ?_
      rw [State.finish_book, List.mem_filter, decide_eq_true_eq]
      simp [and_assoc]
  rw [State.finishBook, heach]
  simp only [List.forall_mem_map, List.mem_filter, and_imp]

/-- With the cells of the book distinct, an order that is not picked stays in the book. -/
theorem State.mem_finishBook_of_not_picked {sel : BookEntry → Bool} {b : BookEntry}
    (hcells : (s.desk.book.map BookEntry.cell).Nodup) (hb : b ∈ s.desk.book) (hsel : sel b = false) :
    b ∈ (s.finishBook sel r w).desk.book := by
  refine State.mem_finishBook_book.mpr ⟨hb, fun e he hpicked hcell => ?_⟩
  have hsame : b = e := List.inj_on_of_nodup_map hcells hb he hcell
  rw [hsame, hpicked] at hsel
  cases hsel

end

end Sys2Proof.Machine
end

section
/-! PROOFS. A stop of a frame (R97, R98), and the statement of DOFF_NOW and FRAME_STOP. -/

namespace Sys2Proof.Machine

/-! ### The stages of a stop -/

/-- The states whose stop leaves a doff owed (R97). -/
def FrameState.owesDoff : FrameState → Bool
  | .called | .draining | .stopping | .doffing => true
  | .out | .halted | .restarting | .building | .nearing => false

section
variable (f : Nat) (c : HaltCause) (s : State)

/-- The drive told, the attempts abandoned and the doff owed. -/
def State.stopTold (s : State) : State :=
  let t := ((s.withdrawDrive f).hand f .stop).abandonAll f
  t.setFrame f { t.frame f with doffOwed := (t.frame f).doffOwed || (s.frame f).state.owesDoff }

/-- A doff in its restart grace completed, or the slot released. -/
def State.stopReleased (s : State) : State :=
  if (s.frame f).doffFinish = .pending then
    (s.completeDoff f).setFrame f { (s.completeDoff f).frame f with doffFinish := .made }
  else s.releaseSlot f

/-- The frame HALTED, before its report. -/
def State.stopHalted (s : State) : State :=
  ((s.setFrame f { s.frame f with
    stopTimer := Timer.off, doffTimer := Timer.off, callStamp := none, callCause := none, grace := none
    haltCause := some c }).enterState f .halted).oweArbiter

theorem State.stopFrame_eq : s.stopFrame f c =
    ((((s.stopTold f).stopReleased f).stopHalted f c).haltReport f c (s.frame f).state).finishBook (orderOn .frameStart f)
      none [Config.openCode .stopped] := by
  unfold State.stopFrame State.stopTold State.stopReleased State.stopHalted State.handDrive
  cases (s.frame f).state <;> rfl

end

section
variable {f : Nat} {c : HaltCause} {s : State}

@[simp] theorem State.stopTold_board : (s.stopTold f).board = s.board := by simp [State.stopTold]

theorem State.stopTold_frame (hs : s.formed = true) : (s.stopTold f).frame f =
    { s.frame f with doffOwed := (s.frame f).doffOwed || (s.frame f).state.owesDoff } := by
  have hformed : (((s.withdrawDrive f).hand f .stop).abandonAll f).formed = true := by
    simp (maxDischargeDepth := 40) [hs]
  have hframe : (((s.withdrawDrive f).hand f .stop).abandonAll f).frame f = s.frame f := by
    rw [State.frame_of_table (State.abandonAll_frames ..), State.hand_frame, State.withdrawDrive_frame]
  rw [State.stopTold, State.setFrame_formed_same _ _ _ hformed, hframe]

theorem State.stopTold_formed (hs : s.formed = true) : (s.stopTold f).formed = true := by
  unfold State.stopTold
  simp (maxDischargeDepth := 40) [hs]

theorem State.stopTold_output : (s.stopTold f).output = s.output := by
  unfold State.stopTold
  rw [State.setFrame_output, State.abandonAll_output, State.hand_output, State.withdrawDrive, State.setUnit_output]

theorem State.stopReleased_of_pending (h : (s.frame f).doffFinish = .pending) : s.stopReleased f =
    (s.completeDoff f).setFrame f { (s.completeDoff f).frame f with doffFinish := .made } := if_pos h

theorem State.stopReleased_of_not_pending (h : (s.frame f).doffFinish ≠ .pending) :
    s.stopReleased f = s.releaseSlot f :=
  if_neg h

theorem State.stopReleased_formed (hs : s.formed = true) : (s.stopReleased f).formed = true := by
  unfold State.stopReleased
  split
  · exact State.setFrame_formed _ _ _ (State.completeDoff_formed _ _ hs)
  · exact State.releaseSlot_formed _ _ hs

@[simp] theorem State.stopHalted_board : (s.stopHalted f c).board = s.board := by simp [State.stopHalted]

theorem State.stopHalted_frame (hs : s.formed = true) : (s.stopHalted f c).frame f = { s.frame f with
    state := .halted, stopTimer := Timer.off, doffTimer := Timer.off, callStamp := none, callCause := none,
      grace := none
    haltCause := some c } := by
  rw [State.stopHalted, State.oweArbiter_frame, State.enterState_frame_same _ _ (State.setFrame_formed _ _ _ hs),
    State.setFrame_formed_same _ _ _ hs]

theorem State.stopHalted_formed (hs : s.formed = true) : (s.stopHalted f c).formed = true := by
  unfold State.stopHalted
  simp (maxDischargeDepth := 40) [hs]

theorem State.stopHalted_build (hs : s.formed = true) (e : Nat) :
    ((s.stopHalted f c).roller e).build = (s.roller e).build := by
  rw [State.stopHalted, State.oweArbiter_roller, State.enterState_build _ _ (State.setFrame_formed _ _ _ hs),
    State.setFrame_roller]

theorem State.stopHalted_doffs (hs : s.formed = true) (e : Nat) :
    ((s.stopHalted f c).counts e).doffs = (s.counts e).doffs := by
  rw [State.stopHalted, State.doffs_of_counts (congrArg Output.counts (State.oweArbiter_output _)),
    State.enterState_doffs (State.setFrame_formed _ _ _ hs),
    State.doffs_of_counts (congrArg Output.counts (State.setFrame_output ..))]

/-- The report and the end of a FRAME_START leave all but the alarm of the frame. -/
theorem State.stopFrame_frame (hs : s.formed = true) : (s.stopFrame f c).frame f =
    { ((s.stopTold f).stopReleased f).frame f with
      state := .halted, stopTimer := Timer.off, doffTimer := Timer.off, callStamp := none, callCause := none,
        grace := none
      haltCause := some c, alarm := true } := by
  have hreleased := State.stopReleased_formed (f := f) (State.stopTold_formed (f := f) hs)
  rw [State.stopFrame_eq, State.finishBook_frame, State.haltReport_frame f c (State.stopHalted_formed hreleased),
    State.stopHalted_frame hreleased]

theorem State.stopFrame_output_counts (e : Nat) (hs : s.formed = true) :
    ((s.stopFrame f c).counts e).doffs = (((s.stopTold f).stopReleased f).counts e).doffs ∧
      ((s.stopFrame f c).roller e).build = (((s.stopTold f).stopReleased f).roller e).build := by
  have hreleased := State.stopReleased_formed (f := f) (State.stopTold_formed (f := f) hs)
  have hreport (t : State) (left : FrameState) : (t.haltReport f c left).output = t.output := by
    simp [State.haltReport, State.alarm]
  rw [State.stopFrame_eq, State.finishBook_roller,
    State.doffs_of_counts (congrArg Output.counts (State.finishBook_output ..)),
    State.doffs_of_counts (congrArg Output.counts (hreport ..)), State.stopHalted_doffs hreleased,
    State.roller_of_table (congrArg Output.rollers (hreport ..)), State.stopHalted_build hreleased]
  exact ⟨rfl, rfl⟩

theorem State.stopFrame_att : (s.stopFrame f c).regs.att &&& 8#32 = 8#32 ∧
    (s.stopFrame f c).regs.att &&& 2#32 = 2#32 := by
  rw [State.stopFrame_eq, State.finishBook_regs]
  exact State.haltReport_att f c _

theorem State.stopFrame_arbiter : (s.stopFrame f c).work.arbiter = true := by
  rw [State.stopFrame_eq]
  simp [State.haltReport, State.alarm, State.stopHalted, State.oweArbiter]

/-! ### The orders that a stop ends -/

/-- A FRAME_START waiting is DONE with STOPPED. -/
theorem State.stopFrame_frameStart {b : BookEntry} (hcells : (s.desk.book.map BookEntry.cell).Nodup)
    (hb : b ∈ s.desk.book) (hk : b.kind = .frameStart) (hf : b.p1 = w32 f) :
    (s.stopFrame f c).finished b.cell none [Config.openCode .stopped] := by
  rw [State.stopFrame_eq]
  refine State.finishBook_finished ?_ (by simp [orderOn, hk, hf])
  have htold : (s.stopTold f).desk = s.desk := State.desk_of_board State.stopTold_board
  have hreport : ((((s.stopTold f).stopReleased f).stopHalted f c).haltReport f c (s.frame f).state).desk =
      ((s.stopTold f).stopReleased f).desk := State.desk_of_board (by simp)
  rw [hreport]
  by_cases hp : ((s.stopTold f).frame f).doffFinish = .pending
  · have hcounted : ((s.stopTold f).doffCounted f).desk = s.desk :=
      (State.desk_of_board State.doffCounted_board).trans htold
    rw [State.stopReleased_of_pending hp, State.setFrame_desk, State.completeDoff_eq]
    exact State.mem_finishBook_of_not_picked (by rwa [hcounted]) (by rwa [hcounted]) (by simp [orderOn, hk])
  · rwa [State.stopReleased_of_not_pending hp, State.desk_of_board (State.releaseSlot_board ..), htold]

/-- A DOFF_NOW whose doff is in its restart grace is DONE (R95). -/
theorem State.stopFrame_doffNow (hs : s.formed = true) {b : BookEntry} (hb : b ∈ s.desk.book) (hk : b.kind = .doffNow)
    (hf : b.p1 = w32 f) (hp : (s.frame f).doffFinish = .pending) :
    (s.stopFrame f c).finished b.cell none [1#32, (s.frame f).doneStamp, w32 (s.frame f).drainBuild] := by
  have htold := State.stopTold_frame (f := f) hs
  have hcounted : ((s.stopTold f).doffCounted f).desk = s.desk :=
    (State.desk_of_board State.doffCounted_board).trans (State.desk_of_board State.stopTold_board)
  have hdone : ((s.stopTold f).completeDoff f).finished b.cell none
      [1#32, (s.frame f).doneStamp, w32 (s.frame f).drainBuild] := by
    rw [State.completeDoff_eq, htold]
    exact State.finishBook_finished (by rwa [hcounted]) (by simp [orderOn, hk, hf])
  rw [State.stopFrame_eq, State.stopReleased_of_pending (by rw [htold]; exact hp)]
  exact State.finishBook_finished_of_done (State.finished_of_board (by simp) hdone) ..

end

/-! ### FRAME_STOP -/

section
variable {s : State} {c : CellRead}

/-- The answers of FRAME_STOP by the frame's state, and the stop. -/
theorem State.orderFrameStop_cases :
    (frameOk c.p1.toNat = false → s.orderFrameStop c = s.finish c.cell (some .outOfRange) []) ∧
    (frameOk c.p1.toNat = true →
      ((s.frame c.p1.toNat).state = .out → s.orderFrameStop c = s.finish c.cell (some .notPresent) []) ∧
      ((s.frame c.p1.toNat).state = .halted →
        s.orderFrameStop c = (s.hand c.p1.toNat .stop).finish c.cell none [2#32]) ∧
      ((s.frame c.p1.toNat).state ≠ .out → (s.frame c.p1.toNat).state ≠ .halted →
        s.orderFrameStop c = (s.stopFrame c.p1.toNat .order).finish c.cell none [w32 (s.frame c.p1.toNat).state.code])) := by
  unfold State.orderFrameStop State.orderRefused State.orderDone State.handDrive
  refine ⟨fun h => ?_, fun h => ⟨fun hst => ?_, fun hst => ?_, fun hout hhalted => ?_⟩⟩
  · simp [h]
  · simp [h, hst]
  · simp only [h, hst]
    rfl
  · cases hst : (s.frame c.p1.toNat).state <;> simp_all

end

/-- The record of a frame that FRAME_STOP halts, and what its stop does beside. -/
theorem stopFrame_effect {s : State} {f : Nat} (hs : s.formed = true) :
    let x := s.frame f
    let u := s.stopFrame f .order
    let y := u.frame f
    y.state = .halted ∧ y.haltCause = some .order ∧ y.stopTimer = ⟨false, 0⟩ ∧ y.doffTimer = ⟨false, 0⟩ ∧
    y.callStamp = none ∧ y.callCause = none ∧ y.grace = none ∧ y.alarm = true ∧
    (y.doffOwed = true ↔ x.doffOwed = true ∨ x.state = .called ∨ x.state = .draining ∨ x.state = .stopping ∨
      x.state = .doffing) ∧
    (x.doffFinish = .pending → y.doffFinish = .made ∧ y.buildM = 0 ∧ (u.roller f).build = 0 ∧
      (s.output.page ≠ none → (u.counts f).doffs = min 4294967295 ((s.counts f).doffs + 1))) ∧
    (x.doffFinish ≠ .pending → y.doffFinish = x.doffFinish ∧ y.buildM = x.buildM ∧
      (u.roller f).build = (s.roller f).build ∧ (u.counts f).doffs = (s.counts f).doffs) ∧
    ((x.state = .called → x.slot = none) → y.slot = none) := by
  intro x u y
  have htold := State.stopTold_frame (f := f) hs
  have hformed := State.stopTold_formed (f := f) hs
  have houtput := State.stopTold_output (f := f) (s := s)
  have hy : y = _ := State.stopFrame_frame hs
  obtain ⟨hdoffs, hbuild⟩ := State.stopFrame_output_counts (c := .order) (f := f) f hs
  have howes : (x.doffOwed || x.state.owesDoff) = true ↔ x.doffOwed = true ∨ x.state = .called ∨ x.state = .draining ∨
      x.state = .stopping ∨ x.state = .doffing := by
    cases x.state <;> simp [FrameState.owesDoff]
  by_cases hp : x.doffFinish = .pending
  · have hreleased := State.stopReleased_of_pending (s := s.stopTold f) (f := f) (by rw [htold]; exact hp)
    have hcompleted := State.completeDoff_formed f _ hformed
    have hframe := State.completeDoff_frame (f := f) hformed
    rw [htold] at hframe
    rw [hreleased, State.setFrame_formed_same _ _ _ hcompleted] at hy
    rw [hreleased, State.doffs_of_counts (congrArg Output.counts (State.setFrame_output ..))] at hdoffs
    rw [hreleased, State.setFrame_roller, State.completeDoff_build hformed] at hbuild
    have hcount (hpage : s.output.page ≠ none) : (u.counts f).doffs = min 4294967295 ((s.counts f).doffs + 1) := by
      refine hdoffs.trans ?_
      rw [State.completeDoff_doffs hformed (by rwa [houtput]), State.counts_of_output houtput]
    obtain hframe | ⟨hcalled, hslot, k, hframe⟩ := hframe
    · rw [hframe] at hy
      rw [hy]
      exact ⟨rfl, rfl, rfl, rfl, rfl, rfl, rfl, rfl, howes, fun _ => ⟨rfl, rfl, hbuild, hcount⟩,
        fun hno => absurd hp hno,
        fun _ => rfl⟩
    · rw [hframe] at hy
      rw [hy]
      exact ⟨rfl, rfl, rfl, rfl, rfl, rfl, rfl, rfl, howes, fun _ => ⟨rfl, rfl, hbuild, hcount⟩,
        fun hno => absurd hp hno,
        fun hnone => absurd (hnone hcalled) hslot⟩
  · have hreleased := State.stopReleased_of_not_pending (s := s.stopTold f) (f := f) (by rw [htold]; exact hp)
    have hframe := State.releaseSlot_frame hformed f
    rw [htold] at hframe
    rw [hreleased] at hy
    rw [hreleased, State.releaseSlot_doffs hformed, State.doffs_of_counts (congrArg Output.counts houtput)] at hdoffs
    rw [hreleased, State.releaseSlot_build hformed, State.roller_of_table (congrArg Output.rollers houtput)] at hbuild
    obtain hframe | ⟨hcalled, hslot, k, hframe⟩ := hframe
    · rw [hframe] at hy
      rw [hy]
      exact ⟨rfl, rfl, rfl, rfl, rfl, rfl, rfl, rfl, howes, fun hyes => absurd hyes hp,
        fun _ => ⟨rfl, rfl, hbuild, hdoffs⟩,
        fun _ => rfl⟩
    · rw [hframe] at hy
      rw [hy]
      exact ⟨rfl, rfl, rfl, rfl, rfl, rfl, rfl, rfl, howes, fun hyes => absurd hyes hp,
        fun _ => ⟨rfl, rfl, hbuild, hdoffs⟩,
        fun hnone => absurd (hnone hcalled) hslot⟩

/-- Orders are taken in RUNNING alone. -/
theorem State.running_of_takes {s : State} {k : OrderKind} {ps : List Word} {c : CellRead} (h : s.takes k ps c) :
    s.regs.part = .running := by
  obtain ⟨hnext, _⟩ := h
  unfold State.orderIsNext at hnext
  split at hnext
  · cases hnext
  · split at hnext
    · next hcond => exact hcond.1
    · cases hnext

theorem doffNow_acts {s : State} {c : CellRead} (hs : s.formed = true) (htakes : s.takes .doffNow [c.p1] c) :
    let f := c.p1.toNat
    let x := s.frame f
    let u := (s.heard c).orderDoffNow c
    let named := 1 ≤ f ∧ f ≤ 8
    exec (.doffNow c.p1) s = .next u.dropTaken.conclude ∧
      (¬named → u.answered c.cell (some .outOfRange) [] ∧ u.frames = s.frames) ∧
      (named → x.state = .out → u.answered c.cell (some .notPresent) [] ∧ u.frames = s.frames) ∧
      (named → x.state = .called ∨ x.state = .draining ∨ x.state = .stopping ∨ x.state = .doffing →
        u.answered c.cell (some .alreadyCalled) [] ∧ u.frames = s.frames) ∧
      (named → x.state = .halted ∨ x.state = .restarting →
        u.answered c.cell (some .notRunning) [] ∧ u.frames = s.frames) ∧
      (named → x.state = .building ∨ x.state = .nearing →
        u.entered .doffNow c ∧
        (s.freeSlot = none → u.journalled .doffCalled f 0 [2#32, w32 x.buildM] ∧
          u.frame f = { x with state := .called, callStamp := some s.clock, callCause := some .doffNow } ∧
          ∀ g, g ≠ f → u.frame g = s.frame g) ∧
        (∀ k, s.freeSlot = some k → s.nextCalled = none →
          u.frame f = { x with
            state := .draining, slot := some k, callStamp := none, callCause := none, drainBuild := x.buildM } ∧
          u.journalled .doffGranted f 0 [w32 k, w32 x.buildM, 0#32] ∧ ∀ g, g ≠ f → u.frame g = s.frame g) ∧
        ((u.frame f).state = .called ∨ ((u.frame f).state = .draining ∧ (u.frame f).slot ≠ none))) := by
  intro f x u named
  have hformed := State.heard_formed c s hs
  obtain ⟨hrange, hok⟩ := (s.heard c).orderDoffNow_cases (c := c)
  simp only [State.heard_frame] at hok
  have hrefused (r : Reason) : ((s.heard c).finish c.cell (some r) []).answered c.cell (some r) [] ∧
      ((s.heard c).finish c.cell (some r) []).frames = s.frames :=
    ⟨State.finish_answered .., by rw [State.finish_frames, State.heard_frames]⟩
  refine ⟨congrArg Host.Outcome.next (State.orderEvent_of_takes htakes), fun hno => ?_, fun hn hst => ?_,
    fun hn hst => ?_, fun hn hst => ?_, fun hn hst => ?_⟩
  · have hu : u = _ := hrange (Bool.eq_false_iff.mpr (mt frameOk_iff.mp hno))
    rw [hu]
    exact hrefused .outOfRange
  · obtain ⟨hout, _⟩ := hok (frameOk_iff.mpr hn)
    have hu : u = _ := hout hst
    rw [hu]
    exact hrefused .notPresent
  · obtain ⟨_, hcalled, _⟩ := hok (frameOk_iff.mpr hn)
    have hu : u = _ := hcalled hst
    rw [hu]
    exact hrefused .alreadyCalled
  · obtain ⟨_, _, hstopped, _⟩ := hok (frameOk_iff.mpr hn)
    have hu : u = _ := hstopped hst
    rw [hu]
    exact hrefused .notRunning
  · obtain ⟨_, _, _, hcalls⟩ := hok (frameOk_iff.mpr hn)
    have hu : u = ((s.heard c).enterBook .doffNow c).callFrame f .doffNow := hcalls hst
    have hrun : ((s.heard c).enterBook .doffNow c).regs.part = .running := by
      rw [State.enterBook_regs, State.heard_regs, State.running_of_takes htakes]
    have hframe (g : Nat) : ((s.heard c).enterBook .doffNow c).frame g = s.frame g := by
      rw [State.enterBook_frame, State.heard_frame]
    have hfree : ((s.heard c).enterBook .doffNow c).freeSlot = s.freeSlot :=
      State.freeSlot_congr (fun g => by rw [hframe]) (by rw [State.enterBook_settings, State.heard_settings])
    have hnext (h : s.nextCalled = none) : ((s.heard c).enterBook .doffNow c).nextCalled = none :=
      State.nextCalled_eq_none.mpr fun g hg => by
        rw [hframe]
        exact State.nextCalled_eq_none.mp h g hg
    obtain ⟨hnone, hone, hany⟩ := callFrame_effect (State.enterBook_formed .doffNow c _ hformed)
      (mem_allFrames.mpr hn) hrun
    simp only [hframe, hfree, State.enterBook_clock, State.heard_clock] at hnone hone
    rw [hu]
    refine ⟨?_, hnone, fun k hk hno => hone k hk (hnext hno), hany⟩
    exact State.entered_of_board (State.callFrame_board ..) State.enterBook_entered

/-- FRAME_STOP: its refusals, STOP handed again to the drive of a HALTED frame, and the stop. -/
theorem frameStop_acts {s : State} {c : CellRead} (hs : s.formed = true) (htakes : s.takes .frameStop [c.p1] c) :
    let f := c.p1.toNat
    let x := s.frame f
    let u := (s.heard c).orderFrameStop c
    let y := u.frame f
    let named := 1 ≤ f ∧ f ≤ 8
    exec (.frameStop c.p1) s = .next u.dropTaken.conclude ∧
      (¬named → u.answered c.cell (some .outOfRange) [] ∧ u.frames = s.frames) ∧
      (named → x.state = .out → u.answered c.cell (some .notPresent) [] ∧ u.frames = s.frames) ∧
      (named → x.state = .halted → u.answered c.cell none [2#32] ∧ u.frames = s.frames ∧
        u.unit f = (s.hand f .stop).unit f) ∧
      (named → x.state ≠ .out → x.state ≠ .halted →
        u.answered c.cell none [w32 x.state.code] ∧ y.state = .halted ∧ y.haltCause = some .order ∧
        y.stopTimer = ⟨false, 0⟩ ∧ y.doffTimer = ⟨false, 0⟩ ∧ y.callStamp = none ∧ y.callCause = none ∧ y.grace = none ∧
        y.alarm = true ∧ u.regs.att &&& 8#32 = 8#32 ∧ u.regs.att &&& 2#32 = 2#32 ∧ u.work.arbiter = true ∧
        (y.doffOwed = true ↔ x.doffOwed = true ∨ x.state = .called ∨ x.state = .draining ∨ x.state = .stopping ∨
          x.state = .doffing) ∧
        ((s.desk.book.map BookEntry.cell).Nodup → ∀ b, b ∈ s.desk.book → b.kind = .frameStart → b.p1 = w32 f →
          u.finished b.cell none [Config.openCode .stopped]) ∧
        (x.doffFinish = .pending → y.doffFinish = .made ∧ y.buildM = 0 ∧ (u.roller f).build = 0 ∧
          (s.output.page ≠ none → (u.counts f).doffs = min 4294967295 ((s.counts f).doffs + 1)) ∧
          ∀ b, b ∈ s.desk.book → b.kind = .doffNow → b.p1 = w32 f →
            u.finished b.cell none [1#32, x.doneStamp, w32 x.drainBuild]) ∧
        (x.doffFinish ≠ .pending → y.doffFinish = x.doffFinish ∧ y.buildM = x.buildM ∧
          (u.roller f).build = (s.roller f).build ∧ (u.counts f).doffs = (s.counts f).doffs) ∧
        ((x.state = .called → x.slot = none) → y.slot = none)) := by
  intro f x u y named
  have hformed := State.heard_formed c s hs
  obtain ⟨hrange, hok⟩ := (s.heard c).orderFrameStop_cases (c := c)
  simp only [State.heard_frame] at hok
  have hrefused (r : Reason) : ((s.heard c).finish c.cell (some r) []).answered c.cell (some r) [] ∧
      ((s.heard c).finish c.cell (some r) []).frames = s.frames :=
    ⟨State.finish_answered .., by rw [State.finish_frames, State.heard_frames]⟩
  refine ⟨congrArg Host.Outcome.next (State.orderEvent_of_takes htakes), fun hno => ?_, fun hn hst => ?_,
    fun hn hst => ?_, fun hn hout hhalted => ?_⟩
  · have hu : u = _ := hrange (Bool.eq_false_iff.mpr (mt frameOk_iff.mp hno))
    rw [hu]
    exact hrefused .outOfRange
  · have hu : u = _ := (hok (frameOk_iff.mpr hn)).1 hst
    rw [hu]
    exact hrefused .notPresent
  · have hu : u = ((s.heard c).hand f .stop).finish c.cell none [2#32] := (hok (frameOk_iff.mpr hn)).2.1 hst
    rw [hu]
    refine ⟨State.finish_answered .., ?_, ?_⟩
    · rw [State.finish_frames, State.hand_frames, State.heard_frames]
    · rw [State.finish_unit]
      exact State.hand_unit_congr .stop hs hformed (State.heard_unit ..) (State.heard_clock ..)
  · have hu : u = ((s.heard c).stopFrame f .order).finish c.cell none [w32 x.state.code] :=
      (hok (frameOk_iff.mpr hn)).2.2 hout hhalted
    have hy : y = ((s.heard c).stopFrame f .order).frame f := by
      rw [← State.finish_frame c.cell none [w32 x.state.code], ← hu]
    obtain ⟨hstate, hcause, hstop, hdoff, hstamp, hcall, hgrace, halarm, howed, hpending, hnot, hslot⟩ :=
      stopFrame_effect (f := f) hformed
    obtain ⟨h8, h2⟩ := State.stopFrame_att (f := f) (c := .order) (s := s.heard c)
    simp only [State.heard_frame, State.heard_roller, State.heard_output,
      State.doffs_of_counts (congrArg Output.counts (State.heard_output ..))] at howed hpending hnot hslot
    have hroller : u.roller f = ((s.heard c).stopFrame f .order).roller f := by rw [hu, State.finish_roller]
    have hdoffs : (u.counts f).doffs = (((s.heard c).stopFrame f .order).counts f).doffs := by
      rw [hu, State.doffs_of_counts (congrArg Output.counts (State.finish_output ..))]
    rw [hy, hroller, hdoffs]
    refine ⟨?_, hstate, hcause, hstop, hdoff, hstamp, hcall, hgrace, halarm, ?_, ?_, ?_, howed,
      fun hcells b hb hk hp => ?_,
      fun hp => ?_, hnot, hslot⟩
    · rw [hu]
      exact State.finish_answered ..
    · rw [hu, State.finish_regs]
      exact h8
    · rw [hu, State.finish_regs]
      exact h2
    · rw [hu, State.finish_work]
      exact State.stopFrame_arbiter
    · rw [hu]
      refine State.finish_finished_of_done (State.stopFrame_frameStart ?_ ?_ hk hp) ..
      · rw [State.heard_desk_book]
        exact hcells
      · rw [State.heard_desk_book]
        exact hb
    · obtain ⟨hmade, hm, hbuild, hcount⟩ := hpending hp
      refine ⟨hmade, hm, hbuild, hcount, fun b hb hk hf => ?_⟩
      have hx : (s.heard c).frame f = x := State.heard_frame ..
      have hdone : ((s.heard c).stopFrame f .order).finished b.cell none [1#32, x.doneStamp, w32 x.drainBuild] :=
        hx ▸ State.stopFrame_doffNow hformed ((State.heard_desk_book ..).symm ▸ hb) hk hf (hx.symm ▸ hp)
      rw [hu]
      exact State.finish_finished_of_done hdone ..

/-- Settles O40: DOFF_NOW and FRAME_STOP act by the state of the frame they name. -/
theorem doffNowAndFrameStopAct : Obligations.DoffNowAndFrameStopAct := by
  unfold Obligations.DoffNowAndFrameStopAct
  exact ⟨fun s c hs htakes => doffNow_acts hs htakes, fun s c hs htakes => frameStop_acts hs htakes⟩

end Sys2Proof.Machine
end

section
/-! PROOFS. Listing (R38), the commands handed for a unit (R191), and the Repeat-Breaker Table (R27 to R33). -/

namespace Sys2Proof.Machine

/-! ### Listing -/

/-- Settles O28: a spindle is listed at the tail of a list with room. -/
theorem listingTakesTheTail : Obligations.ListingTakesTheTail := by
  unfold Obligations.ListingTakesTheTail
  intro s f n hs d u
  refine ⟨fun hroom => ?_, fun hfull => ?_⟩
  · have hin : (s.side d).entries.length < Config.endListRoom := hroom
    have hu : u = (s.setSide d { s.side d with
        entries := (s.side d).entries ++ [⟨n, s.clock, (s.spindle f n).lastClass⟩] }).setSpindle f n
          { s.spindle f n with listed := true } := if_pos hin
    have hspindle : u.spindle f n = _ := State.listSpindle_spindle_same f n hs
    refine ⟨?_, ?_, fun e he => ?_, fun g m hne => State.listSpindle_spindle_other f n s hne⟩
    · rw [hu, State.setSpindle_side]
      exact State.setSide_formed_same _ _ _ hs
    · rw [hspindle, decide_eq_true hin, Bool.true_or]
    · rw [hu, State.setSpindle_side]
      exact State.setSide_other _ _ _ _ he
  · have hout : ¬(s.side d).entries.length < Config.endListRoom := Nat.not_lt.mpr hfull
    exact if_neg hout

/-! ### The commands handed for a unit -/

theorem Cmd.driveFour_iff (c : Cmd) : c.driveFour = true ↔ c = .run ∨ c = .stop ∨ c = .stopAtDoff ∨ c = .doff := by
  cases c <;> simp [Cmd.driveFour]

/-- The pairs of R191. -/
theorem Cmd.supersedes_iff (new old : Cmd) : new.supersedes old = true ↔
    ((new = .run ∨ new = .stop ∨ new = .stopAtDoff ∨ new = .doff) ∧
      (old = .run ∨ old = .stop ∨ old = .stopAtDoff ∨ old = .doff)) ∨
    ((new = .park ∨ ∃ d, new = .goto d) ∧ (old = .park ∨ ∃ d, old = .goto d)) ∨
    (∃ t, new = .abandon t ∧ (old = .hold t ∨ old = .resume t ∨ ∃ n, old = .attempt n t)) ∨
    (new = .ret ∧ (old = .change ∨ (∃ l, old = .load l) ∨ ∃ f k, old = .gotoCreel f k)) := by
  rw [← Cmd.driveFour_iff, ← Cmd.driveFour_iff]
  cases new
  case run | stop | stopAtDoff | doff =>
    change old.driveFour = true ↔ _
    simp [Cmd.driveFour]
  case status | attempt | hold | resume | load | gotoCreel | change =>
    change false = true ↔ _
    simp [Cmd.driveFour]
  case goto | park =>
    cases old
    case goto | park =>
      change true = true ↔ _
      simp [Cmd.driveFour]
    all_goals
      change false = true ↔ _
      simp [Cmd.driveFour]
  case abandon t =>
    cases old
    case attempt _ u | hold u | resume u =>
      change decide (u = t) = true ↔ _
      simp [Cmd.driveFour, eq_comm]
    all_goals
      change false = true ↔ _
      simp [Cmd.driveFour]
  case ret =>
    cases old
    case load | gotoCreel | change =>
      change true = true ↔ _
      simp [Cmd.driveFour]
    all_goals
      change false = true ↔ _
      simp [Cmd.driveFour]

/-- Settles O31: a command handed for a unit joins its queue, or loses the unit. -/
theorem handedCommandsQueue : Obligations.HandedCommandsQueue := by
  unfold Obligations.HandedCommandsQueue
  refine ⟨Cmd.supersedes_iff, fun s a c hs => ?_⟩
  intro x q placed
  have hsame : (s.hand a c).unit a = x.handed c s.clock := State.hand_unit_same hs a c
  have hplaced : placed = false ↔ c = .status ∧ .status ∈ x.unsent := by
    simp [placed, Unit.unsent]
  refine ⟨fun h => ?_, fun hpresent hyes hroom => ?_, fun hpresent hyes hfull => ?_,
    fun b hb => State.hand_unit_other hb c⟩
  · unfold State.hand
    dsimp only
    split
    · rfl
    · next hpresent => exact if_pos (hplaced.mp (h.resolve_left hpresent))
  · have hgoes : ¬(x.presence ≠ .present ∨ c = .status ∧ .status ∈ x.unsent) :=
      not_or.mpr ⟨not_not.mpr hpresent, fun h => Bool.false_ne_true ((hplaced.mpr h).symm.trans hyes)⟩
    have hless : ¬Config.unitQueueRoom ≤ q.length := Nat.not_le.mpr hroom
    rw [hsame, Unit.handed, if_neg hgoes]
    exact if_neg hless
  · have hgoes : ¬(x.presence ≠ .present ∨ c = .status ∧ .status ∈ x.unsent) :=
      not_or.mpr ⟨not_not.mpr hpresent, fun h => Bool.false_ne_true ((hplaced.mpr h).symm.trans hyes)⟩
    have hmore : Config.unitQueueRoom ≤ q.length := hfull
    have hlost : x.handed c s.clock = { x with queue := q }.lostAt s.clock := by
      rw [Unit.handed, if_neg hgoes]
      exact if_pos hmore
    rw [hsame, hlost]
    refine ⟨rfl, rfl, rfl, ?_⟩
    have hhand : s.hand a c = (s.setUnit a { x with queue := q }).loseUnit a lostByOverrun := by
      unfold State.hand
      dsimp only
      rw [if_neg (not_not.mpr hpresent), if_neg (not_or.mp hgoes).2]
      exact if_pos hmore
    rw [hhand, State.loseUnit, State.raise_att]
    exact or_and_self_right ..

/-! ### The Repeat-Breaker Table -/

theorem ways_find_eq_some {p : Nat → Bool} {w : Nat} :
    ways.find? p = some w ↔ p w = true ∧ w < 4 ∧ ∀ v, v < w → p v = false := by
  have hways : ways = List.range 4 := rfl
  rw [hways, List.find?_range_eq_some]
  simp

theorem ways_find_eq_none {p : Nat → Bool} : ways.find? p = none ↔ ∀ w, w < 4 → p w = false := by
  have hways : ways = List.range 4 := rfl
  rw [hways, List.find?_range_eq_none]
  simp

theorem Recency.victim_touch_ne (r : Recency) {w : Nat} (hw : w < 4) : (r.touch w).victim ≠ w := by
  obtain ⟨pair, low, high⟩ := r
  interval_cases w <;> simp [Recency.touch, Recency.victim] <;> split <;> decide

section
variable {t : RogueTable}

theorem RogueTable.target_of_invalid {set w : Nat} (hw : w < 4) (hfree : (t.entry set w).valid = false)
    (hbelow : ∀ v, v < w → (t.entry set v).valid = true) : t.target set = w := by
  have hfind : (ways.find? fun w => !(t.entry set w).valid) = some w :=
    ways_find_eq_some.mpr ⟨by simp [hfree], hw, fun v hv => by simp [hbelow v hv]⟩
  rw [RogueTable.target, hfind]

theorem RogueTable.target_of_valid {set : Nat} (hfull : ∀ w, w < 4 → (t.entry set w).valid = true) :
    t.target set = (t.choices set).victim := by
  have hfind : (ways.find? fun w => !(t.entry set w).valid) = none :=
    ways_find_eq_none.mpr fun w hw => by simp [hfull w hw]
  rw [RogueTable.target, hfind]

theorem RogueTable.target_lt (set : Nat) : t.target set < 4 := by
  cases hfind : ways.find? fun w => !(t.entry set w).valid with
  | some w =>
    rw [RogueTable.target, hfind]
    exact (ways_find_eq_some.mp hfind).2.1
  | none =>
    rw [RogueTable.target, hfind]
    change (t.choices set).victim < 4
    unfold Recency.victim
    (repeat' split) <;> decide

/-- What a lookup writes: one way, and the touch of its set. -/
theorem RogueTable.put_touch (ht : t.formed = true) {set w : Nat} (hw : w < 4) (e : RogueEntry) :
    ((t.put set w e).touch set w).entry set w = e ∧
    ((t.put set w e).touch set w).choices set = (t.choices set).touch w ∧
    (∀ set' w', w < 4 → w' < 4 → set' ≠ set ∨ w' ≠ w →
      ((t.put set w e).touch set w).entry set' w' = t.entry set' w') ∧
    ∀ set', set' ≠ set → ((t.put set w e).touch set w).choices set' = t.choices set' := by
  obtain ⟨hentries, hrecency⟩ := Bool.and_eq_true_iff.mp ht
  refine ⟨tget_tput_same _ _ hentries, tget_tput_same _ _ hrecency, fun set' w' _ hw' hne => ?_,
    fun set' hne => tget_tput_other _ hne⟩
  refine tget_tput_other _ ?_
  unfold wayIndex
  omega

theorem RogueTable.hit_eq_some {key w : Nat} : t.hit key = some w ↔
    ((t.entry (key % 16) w).valid = true ∧ (t.entry (key % 16) w).key = key) ∧ w < 4 ∧
      ∀ v, v < w → ¬((t.entry (key % 16) v).valid = true ∧ (t.entry (key % 16) v).key = key) := by
  unfold RogueTable.hit setOfKey
  rw [ways_find_eq_some]
  simp

theorem RogueTable.hit_eq_none {key : Nat} : t.hit key = none ↔
    ∀ w, w < 4 → ¬((t.entry (key % 16) w).valid = true ∧ (t.entry (key % 16) w).key = key) := by
  unfold RogueTable.hit setOfKey
  rw [ways_find_eq_none]
  simp

theorem RogueTable.lookup_of_miss {key : Nat} (hmiss : t.hit key = none) (clock : Word) (window limit : Nat) :
    t.lookup key clock window limit =
      ((t.put (key % 16) (t.target (key % 16)) ⟨true, key, 1, clock⟩).touch (key % 16) (t.target (key % 16)),
        ⟨false, 1⟩) := by
  rw [RogueTable.lookup, hmiss]
  rfl

/-- The entry and the verdict of a hit (R30 to R33). -/
def RogueEntry.hitAt (e : RogueEntry) (clock : Word) (window limit : Nat) : RogueEntry × Verdict :=
  if window < (clock - e.firstStamp).toNat then ({ e with count := 1, firstStamp := clock }, ⟨false, 1⟩)
  else if limit ≤ e.count + 1 then (RogueEntry.reset, ⟨true, e.count + 1⟩)
  else ({ e with count := e.count + 1 }, ⟨false, e.count + 1⟩)

theorem RogueTable.lookup_of_hit {key w : Nat} (hhit : t.hit key = some w) (clock : Word) (window limit : Nat) :
    t.lookup key clock window limit =
      ((t.put (key % 16) w ((t.entry (key % 16) w).hitAt clock window limit).1).touch (key % 16) w,
        ((t.entry (key % 16) w).hitAt clock window limit).2) := by
  rw [RogueTable.lookup, hhit]
  unfold RogueEntry.hitAt setOfKey
  dsimp only
  (repeat' split) <;> rfl

end

/-- Settles O27: touches, targets and lookups. -/
theorem lookupsAndTargets : Obligations.LookupsAndTargets := by
  unfold Obligations.LookupsAndTargets
  refine ⟨⟨fun r => ⟨rfl, rfl, rfl, rfl, fun w => r.victim_touch_ne⟩, fun t set =>
    ⟨fun w => RogueTable.target_of_invalid, fun hfull => RogueTable.target_of_valid hfull⟩⟩,
    fun t key clock window limit ht => ?_⟩
  intro set u at'
  refine ⟨fun hmiss => ?_, fun w hw hvalid hkey hbelow => ?_⟩
  · have hu : u = _ := RogueTable.lookup_of_miss (RogueTable.hit_eq_none.mpr hmiss) clock window limit
    simp only [at']
    rw [hu]
    exact ⟨RogueTable.put_touch ht (RogueTable.target_lt set) _, rfl⟩
  · have hu : u = _ :=
      RogueTable.lookup_of_hit (RogueTable.hit_eq_some.mpr ⟨⟨hvalid, hkey⟩, hw, hbelow⟩) clock window limit
    intro e age
    have hput := RogueTable.put_touch ht hw (e.hitAt clock window limit).1 (set := set)
    simp only [at']
    rw [hu]
    refine ⟨fun hlate => ?_, fun hin hmore => ?_, fun hin hlimit => ?_⟩
    · have hnew : e.hitAt clock window limit = ({ e with count := 1, firstStamp := clock }, ⟨false, 1⟩) := if_pos hlate
      rw [hnew] at hput
      exact ⟨by rw [hnew]; exact hput, by rw [hnew]⟩
    · have hnew : e.hitAt clock window limit = ({ e with count := e.count + 1 }, ⟨false, e.count + 1⟩) :=
        (if_neg (Nat.not_lt.mpr hin)).trans (if_neg (Nat.not_le.mpr hmore))
      rw [hnew] at hput
      exact ⟨by rw [hnew]; exact hput, by rw [hnew]⟩
    · have hnew : e.hitAt clock window limit = (RogueEntry.reset, ⟨true, e.count + 1⟩) :=
        (if_neg (Nat.not_lt.mpr hin)).trans (if_pos hlimit)
      rw [hnew] at hput
      exact ⟨by rw [hnew]; exact hput, by rw [hnew]⟩

end Sys2Proof.Machine
end

section
/-! PROOFS. PIECER_PLACE (R74, R75). -/

namespace Sys2Proof.Machine

section
variable {s : State} {c : CellRead} {p d : Nat}

/-! ### The refusals in their order -/

theorem piecerOk_iff : piecerOk p = true ↔ 1 ≤ p ∧ p ≤ 8 := by
  unfold piecerOk
  rw [Bool.and_eq_true, decide_eq_true_iff, decide_eq_true_iff]

theorem placeTarget_iff : within 1 poolTarget d = true ↔ 1 ≤ d ∧ d ≤ 18 := by
  unfold within poolTarget
  rw [Bool.and_eq_true, decide_eq_true_iff, decide_eq_true_iff]

/-- The piecer is there, and so is the frame of a side it is ordered to. -/
def State.placeable (s : State) (p d : Nat) : Prop :=
  (s.piecer p).state ≠ .absent ∧ (s.piecer p).state ≠ .lost ∧ (d ≤ 16 → (s.frame ((d + 1) / 2)).state ≠ .out)

/-- Another piecer serves the side. -/
def State.placeOccupied (s : State) (p d : Nat) : Prop :=
  d ≤ 16 ∧ (s.side d).piecer ≠ none ∧ (s.side d).piecer ≠ some p

/-- The piecer is on its way, or past the join point of its attempt, on another side. -/
def State.placeBusy (s : State) (p d : Nat) : Prop :=
  d ≤ 16 ∧ (s.piecer p).side ≠ some d ∧
    ((s.piecer p).state = .moving ∨ ((s.piecer p).state = .attempting ∧ pastJoin (s.piecer p).stage = true))

theorem State.placeRefusal_of_out (h : ¬((1 ≤ p ∧ p ≤ 8) ∧ 1 ≤ d ∧ d ≤ 18)) :
    s.placeRefusal p d = some .outOfRange := by
  have hbad : (!piecerOk p || !within 1 poolTarget d) = true := by
    rw [← Bool.not_and, Bool.not_eq_true', ← Bool.not_eq_true, Bool.and_eq_true, piecerOk_iff, placeTarget_iff]
    exact h
  unfold State.placeRefusal
  exact if_pos hbad

section
variable (hnamed : (1 ≤ p ∧ p ≤ 8) ∧ 1 ≤ d ∧ d ≤ 18)
include hnamed

theorem State.placeRefusal_of_named : s.placeRefusal p d =
    if (s.piecer p).state = .absent ∨ (s.piecer p).state = .lost then some .notPresent
    else if d ≤ 16 then
      if (s.frame (sideFrame d)).state = .out then some .notPresent
      else if (s.side d).piecer.isSome ∧ (s.side d).piecer ≠ some p then some .occupied
      else if (s.piecer p).side ≠ some d ∧ ((s.piecer p).state = .moving ∨
        ((s.piecer p).state = .attempting ∧ pastJoin (s.piecer p).stage = true)) then some .busy
      else none
    else none := by
  have hgood : ¬(!piecerOk p || !within 1 poolTarget d) = true := by
    rw [piecerOk_iff.mpr hnamed.1, placeTarget_iff.mpr hnamed.2]
    decide
  unfold State.placeRefusal
  exact if_neg hgood

theorem State.placeRefusal_of_not_placeable (h : ¬s.placeable p d) : s.placeRefusal p d = some .notPresent := by
  rw [State.placeRefusal_of_named hnamed]
  by_cases hgone : (s.piecer p).state = .absent ∨ (s.piecer p).state = .lost
  · exact if_pos hgone
  · obtain ⟨habsent, hlost⟩ := not_or.mp hgone
    obtain ⟨hside, hout⟩ : d ≤ 16 ∧ (s.frame (sideFrame d)).state = .out := by
      by_contra hno
      exact h ⟨habsent, hlost, fun hd hst => hno ⟨hd, hst⟩⟩
    rw [if_neg hgone, if_pos hside, if_pos hout]

section
variable (hplaceable : s.placeable p d)
include hplaceable

theorem State.placeRefusal_of_placeable : s.placeRefusal p d =
    if d ≤ 16 then
      if (s.side d).piecer.isSome ∧ (s.side d).piecer ≠ some p then some .occupied
      else if (s.piecer p).side ≠ some d ∧ ((s.piecer p).state = .moving ∨
        ((s.piecer p).state = .attempting ∧ pastJoin (s.piecer p).stage = true)) then some .busy
      else none
    else none := by
  obtain ⟨habsent, hlost, hout⟩ := hplaceable
  rw [State.placeRefusal_of_named hnamed, if_neg (not_or.mpr ⟨habsent, hlost⟩)]
  by_cases hd : d ≤ 16
  · rw [if_pos hd, if_pos hd]
    exact if_neg (hout hd)
  · rw [if_neg hd, if_neg hd]

theorem State.placeRefusal_of_occupied (h : s.placeOccupied p d) : s.placeRefusal p d = some .occupied := by
  obtain ⟨hd, hsome, hother⟩ := h
  rw [State.placeRefusal_of_placeable hnamed hplaceable, if_pos hd,
    if_pos ⟨Option.isSome_iff_ne_none.mpr hsome, hother⟩]

section
variable (hoccupied : ¬s.placeOccupied p d)
include hoccupied

theorem State.placeRefusal_of_free : s.placeRefusal p d =
    if d ≤ 16 ∧ (s.piecer p).side ≠ some d ∧ ((s.piecer p).state = .moving ∨
      ((s.piecer p).state = .attempting ∧ pastJoin (s.piecer p).stage = true)) then some .busy
    else none := by
  rw [State.placeRefusal_of_placeable hnamed hplaceable]
  by_cases hd : d ≤ 16
  · have hfree : ¬((s.side d).piecer.isSome ∧ (s.side d).piecer ≠ some p) := fun h =>
      hoccupied ⟨hd, Option.isSome_iff_ne_none.mp h.1, h.2⟩
    rw [if_pos hd, if_neg hfree]
    simp only [hd, true_and]
  · simp [hd]

theorem State.placeRefusal_of_busy (h : s.placeBusy p d) : s.placeRefusal p d = some .busy := by
  rw [State.placeRefusal_of_free hnamed hplaceable hoccupied]
  exact if_pos h

theorem State.placeRefusal_eq_none (h : ¬s.placeBusy p d) : s.placeRefusal p d = none := by
  rw [State.placeRefusal_of_free hnamed hplaceable hoccupied]
  exact if_neg h

end
end
end

/-! ### What an order taken does -/

theorem State.orderPiecerPlace_refused {r : Reason} (h : s.placeRefusal c.p1.toNat c.p2.toNat = some r) :
    s.orderPiecerPlace c = s.finish c.cell (some r) [] := by
  rw [State.orderPiecerPlace, h]
  rfl

theorem State.orderPiecerPlace_taken (h : s.placeRefusal c.p1.toNat c.p2.toNat = none) : s.orderPiecerPlace c =
    (if c.p2.toNat ≤ 16 then s.placeOnSide c c.p1.toNat c.p2.toNat
    else if c.p2.toNat = parkTarget then s.placeInBay c c.p1.toNat
    else s.placeInPool c c.p1.toNat).oweArbiter := by
  rw [State.orderPiecerPlace, h]

/-- What every order of a piecer leaves alone: other piecers and the frames. -/
def State.placesOnly (s u : State) (p : Nat) : Prop := (∀ q, q ≠ p → u.piecer q = s.piecer q) ∧ u.frames = s.frames

theorem State.placesOnly_setPiecer (x : Piecer) : s.placesOnly (s.setPiecer p x) p :=
  ⟨fun q hq => State.setPiecer_other _ _ _ _ hq, State.setPiecer_frames ..⟩

theorem State.placesOnly.trans {s t u : State} {p : Nat} (h : s.placesOnly t p) (h' : t.placesOnly u p) :
    s.placesOnly u p :=
  ⟨fun q hq => (h'.1 q hq).trans (h.1 q hq), h'.2.trans h.2⟩

theorem State.placesOnly_finish (r : Option Reason) (w : List Word) : s.placesOnly (s.finish c.cell r w) p :=
  ⟨fun _ _ => State.finish_piecer .., State.finish_frames ..⟩

theorem State.placesOnly_enterBook (k : OrderKind) : s.placesOnly (s.enterBook k c) p :=
  ⟨fun _ _ => State.enterBook_piecer .., State.enterBook_frames ..⟩

theorem State.placesOnly_voidAttempt (send : Bool) : s.placesOnly (s.voidAttempt p send) p :=
  ⟨fun _ hq => State.voidAttempt_piecer_other _ _ _ hq, State.voidAttempt_frames ..⟩

theorem State.placesOnly_sendToSide (r : MoveReason) : s.placesOnly (s.sendToSide p d r) p :=
  ⟨fun _ hq => State.sendToSide_piecer_other _ _ _ _ hq, State.sendToSide_frames ..⟩

theorem State.placesOnly_sendToBay (pl : Placement) (r : Option MoveReason) : s.placesOnly (s.sendToBay p pl r) p :=
  ⟨fun _ hq => State.sendToBay_piecer_other _ _ _ _ hq, State.sendToBay_frames ..⟩

theorem State.placesOnly_placeOnSide : s.placesOnly (s.placeOnSide c p d) p := by
  unfold State.placeOnSide State.orderDone
  dsimp only
  refine (State.placesOnly_setPiecer { s.piecer p with placement := .side }).trans ?_
  split
  · split
    · exact State.placesOnly_enterBook _
    · exact State.placesOnly_finish ..
  · exact ((State.placesOnly_enterBook _).trans (State.placesOnly_voidAttempt _)).trans (State.placesOnly_sendToSide _)

theorem State.placesOnly_placeInBay : s.placesOnly (s.placeInBay c p) p := by
  have hsent : s.placesOnly (((s.enterBook .piecerPlace c).voidAttempt p true).sendToBay p .park (some .order)) p :=
    ((State.placesOnly_enterBook _).trans (State.placesOnly_voidAttempt _)).trans (State.placesOnly_sendToBay ..)
  have howed : s.placesOnly ((s.enterBook .piecerPlace c).setPiecer p { s.piecer p with parkOwed := true }) p :=
    (State.placesOnly_enterBook _).trans (State.placesOnly_setPiecer _)
  unfold State.placeInBay State.orderDone
  dsimp only
  split
  case h_1 =>
    refine (State.placesOnly_setPiecer { s.piecer p with placement := .park }).trans ?_
    by_cases hbay : (s.piecer p).atBay = true
    · rw [if_pos hbay]
      exact State.placesOnly_finish ..
    · rw [if_neg hbay]
      exact State.placesOnly_enterBook _
  case h_2 => exact howed
  case h_3 =>
    split
    · exact howed
    · exact hsent
  case h_4 | h_5 => exact hsent
  case h_6 | h_7 => exact ⟨fun _ _ => rfl, rfl⟩

theorem State.placesOnly_placeInPool : s.placesOnly (s.placeInPool c p) p :=
  (State.placesOnly_setPiecer _).trans (State.placesOnly_finish ..)

theorem State.placesOnly_orderPiecerPlace : s.placesOnly (s.orderPiecerPlace c) c.p1.toNat := by
  cases h : s.placeRefusal c.p1.toNat c.p2.toNat with
  | some r =>
    rw [State.orderPiecerPlace_refused h]
    exact State.placesOnly_finish ..
  | none =>
    rw [State.orderPiecerPlace_taken h]
    have howed {t : State} (ht : s.placesOnly t c.p1.toNat) : s.placesOnly t.oweArbiter c.p1.toNat := ht
    split
    · exact howed State.placesOnly_placeOnSide
    · split
      · exact howed State.placesOnly_placeInBay
      · exact howed State.placesOnly_placeInPool

/-! ### The records (R75) -/

section
variable (hs : s.formed = true)
include hs

/-- A piecer without an attempt, or with a whole one, has none after it is void. -/
theorem State.voidAttempt_current (send : Bool)
    (h : (s.piecer p).current = none ∨ (s.piecer p).spindle ≠ none ∧ (s.piecer p).side ≠ none) :
    ((s.voidAttempt p send).piecer p).current = none := by
  rw [State.voidAttempt_piecer_same p send hs]
  split
  · rfl
  · next hno =>
    refine h.elim id fun ⟨hn, hd⟩ => ?_
    by_contra hcur
    obtain ⟨t, ht⟩ := Option.ne_none_iff_exists'.mp hcur
    obtain ⟨n, hn⟩ := Option.ne_none_iff_exists'.mp hn
    obtain ⟨d, hd⟩ := Option.ne_none_iff_exists'.mp hd
    exact hno t n d ht hn hd

theorem State.voidAttempt_placement (send : Bool) :
    ((s.voidAttempt p send).piecer p).placement = (s.piecer p).placement := by
  rw [State.voidAttempt_piecer_same p send hs]
  split <;> rfl

theorem State.placeOnSide_at (hside : (s.piecer p).side = some d) :
    (s.placeOnSide c p d).piecer p = { s.piecer p with placement := .side } ∧
    (if (s.piecer p).state = .moving then (s.placeOnSide c p d).entered .piecerPlace c
      else (s.placeOnSide c p d).answered c.cell none
        [w32 1, w32 ((s.piecer p).side.getD 0), w32 ((s.piecer p).position.getD 0)]) := by
  have hsame := State.setPiecer_formed_same p { s.piecer p with placement := .side } s hs
  by_cases hmoving : (s.piecer p).state = .moving
  · have hplace : s.placeOnSide c p d =
        (s.setPiecer p { s.piecer p with placement := .side }).enterBook .piecerPlace c := by
      rw [State.placeOnSide, if_pos hside, if_pos hmoving]
    rw [hplace, State.enterBook_piecer, hsame, if_pos hmoving]
    exact ⟨rfl, State.enterBook_entered⟩
  · have hplace : s.placeOnSide c p d = (s.setPiecer p { s.piecer p with placement := .side }).finish c.cell none
        (placeWords 1 { s.piecer p with placement := .side }) := by
      rw [State.placeOnSide, if_pos hside, if_neg hmoving, State.orderDone, hsame]
    rw [hplace, State.finish_piecer, hsame, if_neg hmoving]
    exact ⟨rfl, State.finish_answered ..⟩

theorem State.placeOnSide_sent (hside : (s.piecer p).side ≠ some d)
    (hcur : (s.piecer p).current = none ∨ (s.piecer p).spindle ≠ none ∧ (s.piecer p).side ≠ none) :
    let u := s.placeOnSide c p d
    let y := u.piecer p
    u.entered .piecerPlace c ∧ y.placement = .side ∧ y.state = .moving ∧ y.side = some d ∧ y.current = none ∧
      y.travel = ⟨true, 1000 * s.settings.travelTimeout⟩ ∧ (u.side d).piecer = some p := by
  intro u y
  let t := (s.setPiecer p { s.piecer p with placement := .side }).enterBook .piecerPlace c
  have ht : t.formed = true := State.enterBook_formed _ _ _ (State.setPiecer_formed _ _ _ hs)
  have hpiecer : t.piecer p = { s.piecer p with placement := .side } :=
    (State.enterBook_piecer ..).trans (State.setPiecer_formed_same _ _ _ hs)
  have hvoid := State.voidAttempt_formed p true t ht
  have hu : u = (t.voidAttempt p true).sendToSide p d .order := by
    simp only [u, State.placeOnSide, if_neg hside, t]
  have hy : y = _ := (congrArg (fun v => v.piecer p) hu).trans (State.sendToSide_piecer_same p d .order hvoid)
  have hsettings : (t.voidAttempt p true).settings = s.settings := by
    rw [State.settings_of_plan (State.voidAttempt_plan ..), State.enterBook_settings,
      State.settings_of_plan (State.setPiecer_plan ..)]
  rw [hy, hu]
  refine ⟨State.entered_of_board (s := t) ((State.sendToSide_board ..).trans (State.voidAttempt_board ..))
    State.enterBook_entered, ?_, rfl, rfl, ?_, ?_, State.sendToSide_side p d .order hvoid⟩
  · exact (State.voidAttempt_placement ht true).trans (by rw [hpiecer])
  · exact State.voidAttempt_current ht true (by rw [hpiecer]; exact hcur)
  · rw [hsettings]
    rfl

omit hs in
theorem State.placeInBay_of_parked (hst : (s.piecer p).state = .parked) : s.placeInBay c p =
    if (s.piecer p).atBay then (s.setPiecer p { s.piecer p with placement := .park }).finish c.cell none
      (placeWords 2 ((s.setPiecer p { s.piecer p with placement := .park }).piecer p))
    else (s.setPiecer p { s.piecer p with placement := .park }).enterBook .piecerPlace c := by
  unfold State.placeInBay State.orderDone
  dsimp only
  split
  case h_1 => rfl
  all_goals
    next hother => exact absurd (hst.symm.trans hother) (by decide)

theorem State.placeInBay_parked (hst : (s.piecer p).state = .parked) :
    (s.placeInBay c p).piecer p = { s.piecer p with placement := .park } ∧
    (if (s.piecer p).atBay = true then (s.placeInBay c p).answered c.cell none
        [w32 2, w32 ((s.piecer p).side.getD 0), w32 ((s.piecer p).position.getD 0)]
      else (s.placeInBay c p).entered .piecerPlace c) := by
  have hsame := State.setPiecer_formed_same p { s.piecer p with placement := .park } s hs
  by_cases hbay : (s.piecer p).atBay = true
  · have hplace : s.placeInBay c p = (s.setPiecer p { s.piecer p with placement := .park }).finish c.cell none
        (placeWords 2 { s.piecer p with placement := .park }) := by
      rw [State.placeInBay_of_parked hst, if_pos hbay, hsame]
    rw [hplace, State.finish_piecer, hsame, if_pos hbay]
    exact ⟨rfl, State.finish_answered ..⟩
  · have hplace : s.placeInBay c p =
        (s.setPiecer p { s.piecer p with placement := .park }).enterBook .piecerPlace c := by
      rw [State.placeInBay_of_parked hst, if_neg hbay]
    rw [hplace, State.enterBook_piecer, hsame, if_neg hbay]
    exact ⟨rfl, State.enterBook_entered⟩

omit hs in
theorem State.placeInBay_of_owed
    (hst : (s.piecer p).state = .moving ∨ (s.piecer p).state = .attempting ∧ pastJoin (s.piecer p).stage = true) :
    s.placeInBay c p = (s.enterBook .piecerPlace c).setPiecer p { s.piecer p with parkOwed := true } := by
  unfold State.placeInBay
  dsimp only
  split
  case h_2 => rfl
  case h_3 hattempting =>
    have hpast := hst.resolve_left fun hmoving => absurd (hmoving.symm.trans hattempting) (by decide)
    exact if_pos hpast.2
  all_goals
    next hother => exact absurd hst (by simp [hother])

theorem State.placeInBay_owed
    (hst : (s.piecer p).state = .moving ∨ (s.piecer p).state = .attempting ∧ pastJoin (s.piecer p).stage = true) :
    (s.placeInBay c p).entered .piecerPlace c ∧
      (s.placeInBay c p).piecer p = { s.piecer p with parkOwed := true } := by
  rw [State.placeInBay_of_owed hst]
  exact ⟨State.entered_of_board (State.setPiecer_board ..) State.enterBook_entered,
    State.setPiecer_formed_same _ _ _ (State.enterBook_formed _ _ _ hs)⟩

omit hs in
theorem State.placeInBay_of_sent (hst : (s.piecer p).state = .onSide ∨ (s.piecer p).state = .held ∨
      ((s.piecer p).state = .attempting ∧ pastJoin (s.piecer p).stage = false)) :
    s.placeInBay c p = ((s.enterBook .piecerPlace c).voidAttempt p true).sendToBay p .park (some .order) := by
  unfold State.placeInBay
  dsimp only
  split
  case h_3 hattempting =>
    have hpast : ¬pastJoin (s.piecer p).stage = true := by simpa [hattempting] using hst
    exact if_neg hpast
  case h_4 | h_5 => rfl
  all_goals
    next hother => exact absurd hst (by simp [hother])

theorem State.placeInBay_sent (hst : (s.piecer p).state = .onSide ∨ (s.piecer p).state = .held ∨
      ((s.piecer p).state = .attempting ∧ pastJoin (s.piecer p).stage = false))
    (hcur : (s.piecer p).current = none ∨ (s.piecer p).spindle ≠ none ∧ (s.piecer p).side ≠ none) :
    let u := s.placeInBay c p
    let y := u.piecer p
    u.entered .piecerPlace c ∧ y.placement = .park ∧ y.state = .parked ∧ y.side = none ∧ y.atBay = false ∧
      y.travel = ⟨true, 1000 * s.settings.travelTimeout⟩ ∧ y.current = none := by
  intro u y
  have hbook := State.enterBook_formed .piecerPlace c s hs
  have hvoid := State.voidAttempt_formed p true _ hbook
  have hu : u = ((s.enterBook .piecerPlace c).voidAttempt p true).sendToBay p .park (some .order) :=
    State.placeInBay_of_sent hst
  have hy : y = _ := (congrArg (fun v => v.piecer p) hu).trans (State.sendToBay_piecer_same p .park (some .order) hvoid)
  have hsettings : ((s.enterBook .piecerPlace c).voidAttempt p true).settings = s.settings := by
    rw [State.settings_of_plan (State.voidAttempt_plan ..), State.enterBook_settings]
  rw [hy, hu]
  refine ⟨State.entered_of_board (s := s.enterBook .piecerPlace c) (by simp) State.enterBook_entered, rfl, rfl, rfl,
    rfl,
    ?_, ?_⟩
  · rw [hsettings]
    rfl
  · exact State.voidAttempt_current hbook true (by rw [State.enterBook_piecer]; exact hcur)

theorem State.placeInPool_effect : (s.placeInPool c p).piecer p = { s.piecer p with placement := .pool } ∧
    (s.placeInPool c p).answered c.cell none
      [w32 3, w32 ((s.piecer p).side.getD 0), w32 ((s.piecer p).position.getD 0)] := by
  have hsame := State.setPiecer_formed_same p { s.piecer p with placement := .pool } s hs
  have hplace : s.placeInPool c p = (s.setPiecer p { s.piecer p with placement := .pool }).finish c.cell none
      (placeWords 3 { s.piecer p with placement := .pool }) := by
    rw [State.placeInPool, State.orderDone, hsame]
  rw [hplace, State.finish_piecer, hsame]
  exact ⟨rfl, State.finish_answered ..⟩

end

end

/-- Settles O39: PIECER_PLACE is refused, or acts by the target it names. -/
theorem piecerPlaceByTarget : Obligations.PiecerPlaceByTarget := by
  unfold Obligations.PiecerPlaceByTarget
  intro s c hs htakes p d x u y named present occupied busy words toBay
  have hformed := State.heard_formed c s hs
  have hx : (s.heard c).piecer p = x := State.heard_piecer ..
  have hsettings : (s.heard c).settings = s.settings := State.heard_settings ..
  have hpresent : (s.heard c).placeable p d ↔ present := by
    unfold State.placeable
    rw [hx, State.heard_frame]
  have hoccupied : (s.heard c).placeOccupied p d ↔ occupied := by
    unfold State.placeOccupied
    rw [State.heard_side]
  have hbusy : (s.heard c).placeBusy p d ↔ busy := by
    unfold State.placeBusy
    rw [hx]
  obtain ⟨hothers, hframes⟩ := State.placesOnly_orderPiecerPlace (s := s.heard c) (c := c)
  have hrefused {r : Reason} (h : (s.heard c).placeRefusal p d = some r) :
      u.answered c.cell (some r) [] ∧ u.disp = s.disp := by
    have hu : u = _ := State.orderPiecerPlace_refused h
    rw [hu]
    exact ⟨State.finish_answered .., by rw [State.finish_disp, State.heard_disp]⟩
  have hno1 (h : ¬named) := hrefused (State.placeRefusal_of_out h)
  have hno2 (hn : named) (h : ¬present) := hrefused (State.placeRefusal_of_not_placeable hn (mt hpresent.mp h))
  have hno3 (hn : named) (hp : present) (h : occupied) :=
    hrefused (State.placeRefusal_of_occupied hn (hpresent.mpr hp) (hoccupied.mpr h))
  have hno4 (hn : named) (hp : present) (ho : ¬occupied) (h : busy) :=
    hrefused (State.placeRefusal_of_busy hn (hpresent.mpr hp) (mt hoccupied.mp ho) (hbusy.mpr h))
  refine ⟨congrArg Host.Outcome.next (State.orderEvent_of_takes htakes), fun h => (hno1 h).1, fun hn h => (hno2 hn h).1,
    fun hn hp h => (hno3 hn hp h).1, fun hn hp ho h => (hno4 hn hp ho h).1, fun h => ?_, fun hn hp ho hb => ?_,
    fun q hq => (hothers q hq).trans (State.heard_piecer ..), hframes.trans (State.heard_frames ..)⟩
  · by_cases hn : named
    · by_cases hp : present
      · by_cases ho : occupied
        · exact (hno3 hn hp ho).2
        · exact (hno4 hn hp ho (((h.resolve_left (not_not.mpr hn)).resolve_left (not_not.mpr hp)).resolve_left ho)).2
      · exact (hno2 hn hp).2
    · exact (hno1 hn).2
  have htaken : u = _ := State.orderPiecerPlace_taken
    (State.placeRefusal_eq_none hn (hpresent.mpr hp) (mt hoccupied.mp ho) (mt hbusy.mp hb))
  have hside (hd : d ≤ 16) : u = ((s.heard c).placeOnSide c p d).oweArbiter := by
    rw [htaken, if_pos hd]
  have hbay (hd : d = 17) : u = ((s.heard c).placeInBay c p).oweArbiter := by
    have h16 : ¬c.p2.toNat ≤ 16 := by have : c.p2.toNat = 17 := hd; omega
    rw [htaken, if_neg h16]
    exact congrArg State.oweArbiter (if_pos hd)
  have hpool (hd : d = 18) : u = ((s.heard c).placeInPool c p).oweArbiter := by
    have h18 : c.p2.toNat = 18 := hd
    have h16 : ¬c.p2.toNat ≤ 16 := by omega
    have h17 : ¬c.p2.toNat = parkTarget := by unfold parkTarget; omega
    rw [htaken, if_neg h16]
    exact congrArg State.oweArbiter (if_neg h17)
  have hy {t : State} (hu : u = t.oweArbiter) : y = t.piecer p := by
    simp only [y, hu, State.oweArbiter_piecer]
  refine ⟨fun hd hat => ?_, fun hd haway hcur => ?_, fun hd hst => ?_, fun hd hst => ?_, fun hd hst hcur => ?_,
    fun hd => ?_⟩
  · obtain ⟨hrec, hanswer⟩ := State.placeOnSide_at (c := c) hformed (by rw [hx]; exact hat : ((s.heard c).piecer p).side = some d)
    rw [hx] at hrec hanswer
    have hyx : y = { x with placement := .side } := (hy (hside hd)).trans hrec
    refine ⟨hyx, ?_⟩
    simp only [words, hyx]
    rw [hside hd]
    exact hanswer
  · have heffect := State.placeOnSide_sent (c := c) hformed (by rw [hx]; exact haway : ((s.heard c).piecer p).side ≠ some d)
      (by rw [hx]; exact hcur)
    rw [hsettings] at heffect
    rw [hy (hside hd), hside hd]
    exact heffect
  · obtain ⟨hrec, hanswer⟩ := State.placeInBay_parked (c := c) hformed (by rw [hx]; exact hst : ((s.heard c).piecer p).state = .parked)
    rw [hx] at hrec hanswer
    have hyx : y = { x with placement := .park } := (hy (hbay hd)).trans hrec
    refine ⟨hyx, ?_⟩
    simp only [words, hyx]
    rw [hbay hd]
    exact hanswer
  · obtain ⟨hentered, hrec⟩ := State.placeInBay_owed (c := c) (p := p) hformed (by rw [hx]; exact hst)
    rw [hx] at hrec
    rw [hy (hbay hd), hbay hd]
    exact ⟨hentered, hrec⟩
  · obtain ⟨hentered, hplacement, hstate, hfields⟩ := State.placeInBay_sent (c := c) (p := p) hformed
      (by rw [hx]; exact hst) (by rw [hx]; exact hcur)
    rw [hsettings] at hfields
    simp only [toBay]
    rw [hy (hbay hd), hbay hd]
    exact ⟨hentered, hplacement, hstate, hfields⟩
  · obtain ⟨hrec, hanswer⟩ := State.placeInPool_effect (c := c) (p := p) hformed
    rw [hx] at hrec hanswer
    have hyx : y = { x with placement := .pool } := (hy (hpool hd)).trans hrec
    refine ⟨?_, hyx⟩
    simp only [words, hyx]
    rw [hpool hd]
    exact hanswer

end Sys2Proof.Machine
end

section
/-! PROOFS. WITHDRAW (R176). -/

namespace Sys2Proof.Machine

/-! ### The withdrawal of a doff (R84) -/

section
variable {s : State} {f : Nat}

@[simp] theorem State.placeByBuild_board (c : CallCause) : (s.placeByBuild f c).board = s.board := by
  unfold State.placeByBuild State.placeAt
  dsimp only
  split
  · exact State.callFrame_board ..
  · exact State.enterState_board ..

/-- The record of a frame whose DOFF_NOW is withdrawn. -/
def Frame.uncalled (x : Frame) : Frame := { x with doffOwed := false, callStamp := none, callCause := none }

theorem State.withdrawDoff_of_below (h : 1000 * (s.frame f).buildM < (s.roller f).doffValue) (hs : s.formed = true) :
    s.withdrawDoff f = (s.setFrame f (s.frame f).uncalled).enterState f
      (if (s.roller f).nearingValue ≤ 1000 * (s.frame f).buildM then .nearing else .building) := by
  have hsame : (s.setFrame f (s.frame f).uncalled).frame f = (s.frame f).uncalled := State.setFrame_formed_same _ _ _ hs
  have hwithdraw : s.withdrawDoff f = (s.setFrame f (s.frame f).uncalled).placeAt f
      ((s.setFrame f (s.frame f).uncalled).frame f).buildMm .compare := rfl
  rw [hwithdraw, hsame, State.placeAt, State.setFrame_roller]
  exact if_neg (Nat.not_le.mpr h)

theorem State.withdrawDoff_of_reached (h : (s.roller f).doffValue ≤ 1000 * (s.frame f).buildM) (hs : s.formed = true) :
    s.withdrawDoff f = (s.setFrame f (s.frame f).uncalled).callFrame f .compare := by
  have hsame : (s.setFrame f (s.frame f).uncalled).frame f = (s.frame f).uncalled := State.setFrame_formed_same _ _ _ hs
  have hwithdraw : s.withdrawDoff f = (s.setFrame f (s.frame f).uncalled).placeAt f
      ((s.setFrame f (s.frame f).uncalled).frame f).buildMm .compare := rfl
  rw [hwithdraw, hsame, State.placeAt, State.setFrame_roller]
  exact if_pos h

@[simp] theorem State.withdrawDoff_board : (s.withdrawDoff f).board = s.board := by
  unfold State.withdrawDoff
  rw [State.placeByBuild_board, State.setFrame_board]

/-- Where a frame goes whose DOFF_NOW is withdrawn. -/
theorem withdrawDoff_effect (hs : s.formed = true) :
    let y := (s.withdrawDoff f).frame f
    let build := 1000 * (s.frame f).buildM
    y.doffOwed = false ∧
    (build < (s.roller f).doffValue → y.callStamp = none ∧ y.callCause = none ∧
      y.state = if (s.roller f).nearingValue ≤ build then .nearing else .building) ∧
    ((s.roller f).doffValue ≤ build → s.freeSlot = none →
      y.state = .called ∧ y.callStamp = some s.clock ∧ y.callCause = some .compare) := by
  intro y build
  have hset := State.setFrame_formed f (s.frame f).uncalled s hs
  have hsame : (s.setFrame f (s.frame f).uncalled).frame f = (s.frame f).uncalled := State.setFrame_formed_same _ _ _ hs
  by_cases h : build < (s.roller f).doffValue
  · have hy : y = { (s.frame f).uncalled with
        state := if (s.roller f).nearingValue ≤ build then .nearing else .building } := by
      simp only [y]
      rw [State.withdrawDoff_of_below h hs, State.enterState_frame_same _ _ hset, hsame]
    rw [hy]
    exact ⟨rfl, fun _ => ⟨rfl, rfl, rfl⟩, fun hle => absurd h (Nat.not_lt.mpr hle)⟩
  · have hcalled : ((s.setFrame f (s.frame f).uncalled).called f .compare).frame f = { (s.frame f).uncalled with
        state := .called, callStamp := some s.clock, callCause := some .compare } := by
      rw [State.called_frame_same hset, hsame, State.setFrame_clock]
    have hjournalled (l : List Word) (k : JournalKind) :
        (((s.setFrame f (s.frame f).uncalled).called f .compare).journal k f 0 l).formed = true :=
      State.journal_formed _ _ _ _ _ (State.called_formed hset)
    have hu := (State.withdrawDoff_of_reached (Nat.not_lt.mp h) hs).trans State.callFrame_eq
    refine ⟨?_, fun hlt => absurd hlt h, fun _ hfree => ?_⟩
    · simp only [y]
      rw [hu]
      obtain hframe | ⟨_, k, hframe⟩ := State.doffArbiter_frame (hjournalled
        [w32 CallCause.compare.code, w32 (((s.setFrame f (s.frame f).uncalled).called f .compare).frame f).buildM]
        .doffCalled) f
      · rw [hframe, State.journal_frame, hcalled]
        rfl
      · rw [hframe, State.journal_frame, hcalled]
        rfl
    · have hslot (g : Nat) : ((s.setFrame f (s.frame f).uncalled).frame g).slot = (s.frame g).slot := by
        obtain rfl | hne := eq_or_ne g f
        · rw [hsame]
          rfl
        · rw [State.setFrame_other _ _ _ _ hne]
      have hnone : (((s.setFrame f (s.frame f).uncalled).called f .compare).journal .doffCalled f 0
          [w32 CallCause.compare.code,
            w32 (((s.setFrame f (s.frame f).uncalled).called f .compare).frame f).buildM]).freeSlot = none := by
        rw [State.freeSlot_congr (fun g => by rw [State.journal_frame]) (State.settings_of_plan (State.journal_plan ..)),
          State.called_freeSlot hset, State.freeSlot_congr hslot (State.settings_of_plan (State.setFrame_plan ..)),
            hfree]
      simp only [y]
      rw [hu, State.doffArbiter_of_none (.inr hnone), State.journal_frame, hcalled]
      exact ⟨rfl, rfl, rfl⟩

end

/-! ### The withdrawal of a change (R124) -/

section
variable {s : State} {k : Nat}

theorem State.leaveQueue_keeps {β : Type} (P : State → β) (hqueue : ∀ q t, P { t with roving.queue := q } = P t)
    (howe : ∀ t, P (State.oweRefill t) = P t) : P (s.leaveQueue k) = P s := by
  unfold State.leaveQueue
  split
  · rw [howe, hqueue]
  · rfl

@[simp] theorem State.leaveQueue_board : (s.leaveQueue k).board = s.board :=
  State.leaveQueue_keeps State.board (fun _ _ => rfl) fun _ => rfl

theorem State.leaveQueue_creel (e : Nat) : (s.leaveQueue k).creel e = s.creel e :=
  State.leaveQueue_keeps (fun t => t.creel e) (fun _ _ => rfl) fun _ => rfl

theorem State.leaveQueue_queue : (s.leaveQueue k).roving.queue = s.roving.queue.filter fun x => x != k := by
  unfold State.leaveQueue
  split
  · rfl
  · next hout =>
    refine (List.filter_eq_self.mpr fun e he => ?_).symm
    rw [bne_iff_ne]
    intro heq
    exact hout (heq ▸ he)

@[simp] theorem State.withdrawCreel_board : (s.withdrawCreel k).board = s.board := by
  simp [State.withdrawCreel]

/-- The section whose CREEL_CHANGE is withdrawn, and the queue. -/
theorem withdrawCreel_effect (hs : s.formed = true) :
    (s.withdrawCreel k).creel k = { s.creel k with
      state := if (s.creel k).remaining / 1000 ≤ (s.frameSettings (creelFrame k)).lowThreshold then .low else .fed
      queueStamp := none, orderSeq := none } ∧
    ∀ e, e ∈ (s.withdrawCreel k).roving.queue → e ≠ k := by
  have hqueue : (s.withdrawCreel k).roving.queue = s.roving.queue.filter fun x => x != k := by
    rw [← State.leaveQueue_queue]
    simp [State.withdrawCreel]
  have hsettings (f : Nat) : (s.leaveQueue k).frameSettings f = s.frameSettings f :=
    State.leaveQueue_keeps (fun t => t.frameSettings f) (fun _ _ => rfl) fun _ => rfl
  refine ⟨?_, fun e he => ?_⟩
  · simp only [State.withdrawCreel, State.oweRefill_creel]
    rw [State.setCreel_formed_same _ _ _ (State.leaveQueue_formed _ _ hs), State.leaveQueue_creel, hsettings]
    rfl
  · rw [hqueue] at he
    exact bne_iff_ne.mp (List.mem_filter.mp he).2

end

/-! ### The orders that can be withdrawn -/

section
variable {s : State} {b : BookEntry}

theorem State.withdrawable_iff : s.withdrawable b = true ↔
    (b.kind = .planSwitch ∧ s.plan.pending ≠ none) ∨ (b.kind = .doffNow ∧ (s.frame b.p1.toNat).state = .called) ∨
    (b.kind = .creelChange ∧ ((s.creel ((b.p1.toNat - 1) * 76 + b.p2.toNat)).state = .queued ∨
      (s.creel ((b.p1.toNat - 1) * 76 + b.p2.toNat)).state = .low)) ∨
    (b.kind = .piecerPlace ∧ (s.piecer b.p1.toNat).state = .moving) := by
  unfold State.withdrawable
  cases hk : b.kind <;> simp [creelNo, Option.isSome_iff_ne_none]

@[simp] theorem State.withdrawEffect_board : (s.withdrawEffect b).board = s.board := by
  unfold State.withdrawEffect
  split
  · exact (State.markItem_board rfl).trans rfl
  · exact State.withdrawDoff_board
  · exact State.withdrawCreel_board
  · simp [State.withdrawPlace]
  all_goals rfl

theorem State.withdrawEffect_planSwitch (hk : b.kind = .planSwitch) : (s.withdrawEffect b).plan =
    { s.plan with pending := none } := by
  unfold State.withdrawEffect
  rw [hk]
  exact State.markItem_plan ..

theorem State.withdrawEffect_doffNow (hk : b.kind = .doffNow) : s.withdrawEffect b = s.withdrawDoff b.p1.toNat := by
  unfold State.withdrawEffect
  rw [hk]

theorem State.withdrawEffect_creelChange (hk : b.kind = .creelChange) : s.withdrawEffect b =
    s.withdrawCreel ((b.p1.toNat - 1) * 76 + b.p2.toNat) := by
  unfold State.withdrawEffect
  rw [hk]
  rfl

theorem State.withdrawEffect_piecerPlace (hk : b.kind = .piecerPlace) : s.withdrawEffect b =
    s.setPiecer b.p1.toNat { s.piecer b.p1.toNat with placement := .pool, parkOwed := false } := by
  unfold State.withdrawEffect
  rw [hk]
  rfl

end

/-! ### WITHDRAW -/

section
variable {s : State} {d : Nat} {r : Option Reason} {w : List Word}

/-- An order answered stays answered when another is answered. -/
theorem State.finish_finished_other (h : s.finished d r w) {c : Nat} (hdc : d ≠ c) (r' : Option Reason)
    (l : List Word) :
    (s.finish c r' l).finished d r w := by
  obtain ⟨hview, hanswer⟩ := h
  unfold State.finished
  rw [State.finish_regs, State.finish_clock]
  refine ⟨?_, ?_⟩
  · rw [State.cellView, State.finish_desk_view]
    exact (tget_tput_other _ hdc).trans hview
  · split at hanswer
    · next hp =>
      rw [if_pos hp, State.finish_desk_held, if_pos hp]
      exact List.mem_append_left _ hanswer
    · next hp =>
      rw [if_neg hp]
      exact State.mem_finish_of_mem (by simp) hanswer

variable {c : CellRead}

theorem State.orderWithdraw_deferred {cell : Nat} {q : Word}
    (h : s.desk.deferred.find? (fun e => e.2 == c.p1) = some (cell, q)) : s.orderWithdraw c =
      ((s.undefer cell).finish cell (some .withdrawn) []).finish c.cell none [w32 cell] := by
  rw [State.orderWithdraw, h]
  rfl

theorem State.orderWithdraw_unknown (h : s.desk.deferred.find? (fun e => e.2 == c.p1) = none)
    (h' : s.desk.book.find? (fun b => b.seq == c.p1) = none) :
    s.orderWithdraw c = s.finish c.cell (some .notFound) [] := by
  rw [State.orderWithdraw, h, h']
  rfl

theorem State.orderWithdraw_book {b : BookEntry} (h : s.desk.deferred.find? (fun e => e.2 == c.p1) = none)
    (h' : s.desk.book.find? (fun b => b.seq == c.p1) = some b) : s.orderWithdraw c =
      if s.withdrawable b then
        ((s.finish b.cell (some .withdrawn) []).withdrawEffect b).finish c.cell none [w32 b.cell]
      else s.finish c.cell (some .tooLate) [] := by
  rw [State.orderWithdraw, h, h']
  rfl

end

/-- What a withdrawal from the book does beside its answer. -/
theorem withdrawBook_effect {s : State} {b : BookEntry} (c : CellRead) (hs : s.formed = true) :
    let u := ((s.finish b.cell (some .withdrawn) []).withdrawEffect b).finish c.cell none [w32 b.cell]
    let f := b.p1.toNat
    let creel := (f - 1) * 76 + b.p2.toNat
    u.answered c.cell none [w32 b.cell] ∧
    (b.cell ≠ c.cell → u.finished b.cell (some .withdrawn) []) ∧ (∀ e, e ∈ u.desk.book → e.cell ≠ b.cell) ∧
    (b.kind = .planSwitch → u.plan = { s.plan with pending := none }) ∧
    (b.kind = .doffNow → (u.frame f).doffOwed = false ∧
      let build := 1000 * (s.frame f).buildM
      (build < (s.roller f).doffValue → (u.frame f).callStamp = none ∧ (u.frame f).callCause = none ∧
        (u.frame f).state = if (s.roller f).nearingValue ≤ build then .nearing else .building) ∧
      ((s.roller f).doffValue ≤ build → s.freeSlot = none → (u.frame f).state = .called ∧
        (u.frame f).callStamp = some s.clock ∧ (u.frame f).callCause = some .compare)) ∧
    (b.kind = .creelChange → u.creel creel = { s.creel creel with
      state := if (s.creel creel).remaining / 1000 ≤ (s.frameSettings (creelFrame creel)).lowThreshold then .low
        else .fed
      queueStamp := none, orderSeq := none } ∧ ∀ e, e ∈ u.roving.queue → e ≠ creel) ∧
    (b.kind = .piecerPlace → u.piecer f = { s.piecer f with placement := .pool, parkOwed := false }) := by
  intro u f creel
  have ht := State.finish_formed b.cell (some .withdrawn) [] s hs
  have hfinished := State.finish_finished_self (s := s) (c := b.cell) (r := some .withdrawn) (w := [])
  refine ⟨State.finish_answered .., fun hne => ?_, fun e he => ?_, fun hk => ?_, fun hk => ?_, fun hk => ?_,
    fun hk => ?_⟩
  · exact State.finish_finished_other (State.finished_of_board State.withdrawEffect_board hfinished) hne none _
  · rw [State.finish_book, State.desk_of_board State.withdrawEffect_board, State.finish_book] at he
    exact of_decide_eq_true (List.mem_filter.mp (List.mem_filter.mp he).1).2
  · rw [State.finish_plan, State.withdrawEffect_planSwitch hk, State.finish_plan]
  · have heffect := withdrawDoff_effect (f := f) ht
    have hfree : (s.finish b.cell (some .withdrawn) []).freeSlot = s.freeSlot :=
      State.freeSlot_congr (fun g => by rw [State.finish_frame]) (State.settings_of_plan (State.finish_plan ..))
    rw [State.finish_frame, State.finish_roller, State.finish_clock, hfree] at heffect
    rw [State.finish_frame, State.withdrawEffect_doffNow hk]
    exact heffect
  · have heffect := withdrawCreel_effect (k := creel) ht
    rw [State.finish_creel, State.frameSettings, State.settings_of_plan (State.finish_plan ..)] at heffect
    rw [State.finish_creel, State.finish_roving, State.withdrawEffect_creelChange hk]
    exact heffect
  · rw [State.finish_piecer, State.withdrawEffect_piecerPlace hk, State.setPiecer_formed_same _ _ _ ht,
      State.finish_piecer]

/-- Settles O48: a WITHDRAW is answered by the order that it names. -/
theorem withdrawAnswersByTheNamedOrder : Obligations.WithdrawAnswersByTheNamedOrder := by
  unfold Obligations.WithdrawAnswersByTheNamedOrder
  intro s c hs htakes v u
  have hv : v.formed = true := State.heard_formed c s hs
  have hbook : v.desk.book = s.desk.book := State.heard_desk_book ..
  refine ⟨congrArg Host.Outcome.next (State.orderEvent_of_takes htakes), fun cell w hfind hne => ?_, fun hnone =>
    ⟨fun hunknown => ?_, fun b hb => ?_⟩⟩
  · have hu : u = _ := State.orderWithdraw_deferred hfind
    rw [hu]
    refine ⟨State.finish_answered .., State.finish_finished_other State.finish_finished_self hne .., fun e he => ?_⟩
    rw [State.finish_desk_deferred, State.finish_desk_deferred] at he
    exact bne_iff_ne.mp (List.mem_filter.mp he).2
  · have hu : u = _ := State.orderWithdraw_unknown hnone (by rw [hbook]; exact hunknown)
    rw [hu]
    exact State.finish_answered ..
  · intro f creel can
    have hu : u = _ := State.orderWithdraw_book hnone (by rw [hbook]; exact hb)
    have hcan : v.withdrawable b = true ↔ can := by
      rw [State.withdrawable_iff, State.heard_plan, State.heard_frame, State.heard_creel, State.heard_piecer]
    refine ⟨fun hno => ?_, fun hyes => ?_⟩
    · rw [if_neg (mt hcan.mp hno)] at hu
      rw [hu]
      refine ⟨State.finish_answered .., ?_, ?_, ?_, ?_⟩
      · rw [State.finish_frames, State.heard_frames]
      · rw [State.finish_roving, State.heard_roving]
      · rw [State.finish_disp, State.heard_disp]
      · rw [State.finish_plan, State.heard_plan]
    · rw [if_pos (hcan.mpr hyes)] at hu
      have heffect := withdrawBook_effect (b := b) c hv
      have hfree : v.freeSlot = s.freeSlot :=
        State.freeSlot_congr (fun g => by rw [State.heard_frame]) (State.heard_settings ..)
      rw [hu]
      simp only [v, State.heard_plan, State.heard_frame, State.heard_roller, State.heard_clock, State.heard_creel,
        State.heard_frameSettings, State.heard_piecer] at heffect hfree ⊢
      rw [hfree] at heffect
      exact heffect

end Sys2Proof.Machine
end

section
/-! PROOFS. The journal (R178 to R180). -/

namespace Sys2Proof.Machine

theorem exec_marksKept (c : Instr) (s : State) (h : s.marksKept = true) (hlegal : s.fixed.legal = true) :
    ∃ t, exec c s = .next t ∧ t.marksKept = true := by
  cases c with
  | powerOnReset => exact execPowerOnReset_marksKept s
  | srst => exact execSrst_marksKept s
  | runSet => exact execRunSet_marksKept s h
  | runClear => exact execRunClear_marksKept s h
  | look => exact execLook_marksKept s h
  | resume => exact execResume_marksKept s h
  | attWrite value => exact execAttWrite_marksKept value s h
  | registerWrite reg value => exact execRegisterWrite_marksKept reg value s h
  | sweepTimer frame => exact execSweepTimer_marksKept frame s h
  | stripRead frame reply => exact execStripRead_marksKept frame reply s h
  | stripNoReply frame => exact execStripNoReply_marksKept frame s h
  | rollerPulse frame => exact execRollerPulse_marksKept frame s h
  | shiftTimer => exact execShiftTimer_marksKept s h
  | boardScan => exact execBoardScan_marksKept s h
  | cutOut frame spindle => exact execCutOut_marksKept frame spindle s h
  | clearCutout frame first last => exact execClearCutout_marksKept frame first last s h
  | clearSlip frame first last => exact execClearSlip_marksKept frame first last s h
  | selfCheck frame strip => exact execSelfCheck_marksKept frame strip s h
  | tableRead => exact execTableRead_marksKept s h
  | piecerPlace piecer target => exact execPiecerPlace_marksKept piecer target s h
  | doffNow frame => exact execDoffNow_marksKept frame s h
  | frameStop frame => exact execFrameStop_marksKept frame s h
  | frameStart frame => exact execFrameStart_marksKept frame s h
  | creelChange frame creel => exact execCreelChange_marksKept frame creel s h
  | shiftClose => exact execShiftClose_marksKept s h
  | planSwitch copy mode => exact execPlanSwitch_marksKept copy mode s h
  | withdraw seq => exact execWithdraw_marksKept seq s h
  | attemptTimeout piecer => exact execAttemptTimeout_marksKept piecer s h
  | travelTimeout piecer => exact execTravelTimeout_marksKept piecer s h
  | returnPlaceTimeout piecer => exact execReturnPlaceTimeout_marksKept piecer s h
  | stopTimeout frame => exact execStopTimeout_marksKept frame s h
  | doffTimeout frame => exact execDoffTimeout_marksKept frame s h
  | changeTimeout carrier => exact execChangeTimeout_marksKept carrier s h
  | returnTimeout carrier => exact execReturnTimeout_marksKept carrier s h
  | visitStart => exact execVisitStart_marksKept s h
  | idleCycle => exact execIdleCycle_marksKept s h
  | replyWindowEnd => exact execReplyWindowEnd_marksKept s h hlegal
  | badReply late message => exact execBadReply_marksKept late message s h hlegal
  | nothing reply => exact execNothing_marksKept reply s h hlegal
  | state reply drive metres => exact execState_marksKept reply drive metres s h hlegal
  | atDoffPosition reply => exact execAtDoffPosition_marksKept reply s h hlegal
  | doffDone reply => exact execDoffDone_marksKept reply s h hlegal
  | driveFault reply => exact execDriveFault_marksKept reply s h hlegal
  | atSide reply side position => exact execAtSide_marksKept reply side position s h hlegal
  | step reply token stage position => exact execStep_marksKept reply token stage position s h hlegal
  | result reply token outcome => exact execResult_marksKept reply token outcome s h hlegal
  | held reply token => exact execHeld_marksKept reply token s h hlegal
  | refusedHold reply token => exact execRefusedHold_marksKept reply token s h hlegal
  | parked reply => exact execParked_marksKept reply s h hlegal
  | fault reply => exact execFault_marksKept reply s h hlegal
  | loaded reply lot => exact execLoaded_marksKept reply lot s h hlegal
  | arrived reply => exact execArrived_marksKept reply s h hlegal
  | changeDone reply => exact execChangeDone_marksKept reply s h hlegal
  | changeFault reply => exact execChangeFault_marksKept reply s h hlegal
  | returned reply => exact execReturned_marksKept reply s h hlegal
  | memoryBeat host => exact execMemoryBeat_marksKept host s h hlegal
  | busGrant => exact execBusGrant_marksKept s h
  | busYield host => exact execBusYield_marksKept host s h hlegal
  | beatError => exact execBeatError_marksKept s h
  | grantTimeout => exact execGrantTimeout_marksKept s h

theorem State.tick_marksKept (s : State) : s.tick.marksKept = s.marksKept := by
  rw [State.marksKept_eq, State.marksKept_eq]
  unfold State.tick State.tickClock
  (repeat' split) <;> rfl

theorem State.journalOpen_iff (s : State) : s.journalOpen = true ↔ s.regs.part = .running ∨ s.regs.part = .windingDown ∨
    (s.regs.part = .starting ∧ (s.regs.start = some .writes ∨ s.regs.start = some .pages)) := by
  unfold State.journalOpen
  cases s.regs.part <;> simp

/-! ### An entry generated -/

theorem JournalKind.urgent_iff (k : JournalKind) :
    k.urgent = true ↔ k = .unitLost ∨ k = .frameHalt ∨ k = .sectionEmpty ∨
    k = .lotMismatch ∨ k = .stripBlind ∨ k = .doffFault := by
  cases k <;> simp [JournalKind.urgent]

theorem State.journal_eq (s : State) (k : JournalKind) (f n : Nat) (l : List Word) : s.journal k f n l =
    State.enterJournal ⟨k, f, n, s.clock, l⟩ { s with regs :=
      if k = .unitLost ∨ k = .frameHalt ∨ k = .sectionEmpty ∨ k = .lotMismatch ∨ k = .stripBlind ∨ k = .doffFault then
        { s.regs with att := s.regs.att ||| 2#32 } else s.regs } := by
  unfold State.journal
  by_cases hk : k.urgent = true
  · rw [if_pos hk, if_pos (k.urgent_iff.mp hk)]
    rfl
  · rw [if_neg hk, if_neg (mt k.urgent_iff.mpr hk)]

section
variable {s : State} {e : JournalEntry}

theorem State.enterJournal_of_room (hopen : s.journalOpen = true) (hempty : s.writer.pending = [])
    (hroom : s.journalRoom = true) :
    s.enterJournal e = { s with writer := { s.writer with queue := s.writer.queue ++ [.journal e] } } := by
  unfold State.enterJournal
  rw [hopen, hempty, hroom]
  rfl

theorem State.enterJournal_of_shut
    (h : ¬(s.journalOpen = true ∧ s.writer.pending = [] ∧ s.journalRoom = true)) : s.enterJournal e = s.pend e := by
  unfold State.enterJournal
  refine if_neg fun hall => h ?_
  simp only [Bool.and_eq_true, List.isEmpty_iff] at hall
  exact ⟨hall.1.1, hall.1.2, hall.2⟩

theorem State.pend_of_room (h : s.writer.pending.length < 32) :
    s.pend e = { s with writer := { s.writer with pending := s.writer.pending ++ [e] } } := by
  have hin : (s.writer.pending ++ [e]).length ≤ Config.pendingListRoom := by
    rw [List.length_append]
    exact h
  simp only [State.pend, dropOldest]
  rw [if_pos hin]

theorem State.pend_of_full {old : JournalEntry} {r : List JournalEntry} (hp : s.writer.pending = old :: r)
    (h : s.writer.pending.length = 32) : s.pend e = { s with writer := { s.writer with
      pending := r ++ [e], drops := min 4294967295 (s.writer.drops + 1)
      firstDrop := if s.writer.drops = 0 then old.stamp else s.writer.firstDrop, lastDrop := old.stamp } } := by
  have hover : ¬(s.writer.pending ++ [e]).length ≤ Config.pendingListRoom := by
    rw [List.length_append, h]
    exact Nat.not_succ_le_self 32
  rw [hp] at hover
  simp only [State.pend, dropOldest, hp]
  rw [if_neg hover]
  rfl

end

/-! ### An entry written -/

theorem JournalEntry.length_toWords (e : JournalEntry) : e.toWords.length = 8 := by
  simp [JournalEntry.toWords]

/-- W advances, the header follows, and the threshold is tested. -/
theorem State.itemWritten_journal (s : State) (e : JournalEntry) :
    let u := s.itemWritten (.journal e)
    u.writer.writeMark = (s.writer.writeMark + 1) % s.writer.capacity ∧ .header ∈ u.writer.queue ∧
    u.writer.current = none ∧
    u.regs = if s.unread < s.settings.journalThreshold ∧ s.settings.journalThreshold ≤ u.unread then
      { s.regs with att := s.regs.att ||| 2#32 } else s.regs := by
  intro u
  let v : State := { s with writer.current := none, writer.writeMark := (s.writer.writeMark + 1) % s.writer.capacity }
  have hheader : WriteItem.header ∈ (v.markItem .header).writer.queue := by
    unfold State.markItem
    split
    · assumption
    · exact List.mem_append_right _ (List.mem_singleton_self _)
  have hsettings : (v.markItem .header).settings = s.settings := State.settings_of_plan (State.markItem_plan ..)
  have hmark : (v.markItem .header).writer.writeMark = (s.writer.writeMark + 1) % s.writer.capacity :=
    State.markItem_writer_writeMark ..
  have hunread : (v.markItem .header).unread = v.unread := by
    unfold State.unread
    rw [State.markItem_desk, State.markItem_writer_writeMark, State.markItem_writer_capacity]
  have hcurrent : (v.markItem .header).writer.current = none := State.markItem_writer_current ..
  have hregs : (v.markItem .header).regs = s.regs := State.markItem_regs ..
  have hu : u = if s.unread < (v.markItem .header).settings.journalThreshold ∧
      (v.markItem .header).settings.journalThreshold ≤ (v.markItem .header).unread then
        (v.markItem .header).raise .journal else v.markItem .header := rfl
  have huregs : u.unread = v.unread := by
    rw [hu]
    split
    · exact hunread
    · exact hunread
  rw [huregs]
  rw [hsettings, hunread] at hu
  by_cases hcross : s.unread < s.settings.journalThreshold ∧ s.settings.journalThreshold ≤ v.unread
  · rw [if_pos hcross] at hu ⊢
    rw [hu]
    refine ⟨hmark, hheader, hcurrent, ?_⟩
    rw [← hregs]
    rfl
  · rw [if_neg hcross] at hu ⊢
    rw [hu]
    exact ⟨hmark, hheader, hcurrent, hregs⟩

/-! ### Room returns -/

/-- With entries left pending there is no room (R179). -/
theorem State.flushJournal_full {s : State} (h : s.writer.drops = 0 ∨ s.journalRoom = true) (p : List JournalEntry)
    (l : List JournalEntry) (n : Nat) (hl : l.length = (if s.writer.drops = 0 then 0 else 1) + n)
    (hn : n = s.writer.capacity - 1 - s.unread - s.journalWaiting - (if s.writer.drops = 0 then 0 else 1)) :
    State.journalRoom { s with writer := { s.writer with
      drops := 0, pending := p, queue := s.writer.queue ++ l.map .journal } } = false := by
  have hwaiting := State.journalWaiting_append s p 0 l
  refine Bool.eq_false_iff.mpr fun hroom => ?_
  rw [State.journalRoom_iff, hwaiting, hl] at hroom
  have hsome : s.writer.drops ≠ 0 → s.unread + s.journalWaiting + 1 < s.writer.capacity := fun hne =>
    (State.journalRoom_iff s).mp (h.resolve_left hne)
  have hcapacity : s.unread + (s.journalWaiting + ((if s.writer.drops = 0 then 0 else 1) + n)) + 1 < s.writer.capacity :=
    hroom
  split at hcapacity <;> simp_all <;> omega

/-- What the return of room queues. -/
theorem flushJournal_effect {s : State} (hs : s.formed = true) :
    let w := s.writer
    let u := s.flushJournal
    let gap : WriteItem := .journal ⟨.gap, 0, 0, s.clock, [w32 w.drops, w.firstDrop, w.lastDrop]⟩
    (0 < w.drops → s.journalRoom = false → u = s) ∧
    (w.drops = 0 ∨ s.journalRoom = true →
      let room := w.capacity - 1 - s.unread - s.journalWaiting
      let n := min w.pending.length (room - (if w.drops = 0 then 0 else 1))
      u = { s with writer := { w with
        drops := 0, pending := w.pending.drop n
        queue := w.queue ++ (if w.drops = 0 then [] else [gap]) ++ (w.pending.take n).map .journal } } ∧
      (n < w.pending.length → u.journalRoom = false)) := by
  intro w u gap
  refine ⟨fun hdrops hroom => ?_, fun h => ?_⟩
  · have hne : ¬s.writer.drops = 0 := Nat.ne_of_gt hdrops
    simp only [u, State.flushJournal, hroom, Bool.and_false, Bool.false_eq_true, if_false, hne]
  · intro room n
    have hpending : s.writer.pending.length ≤ 32 := by
      simp only [State.formed, Writer.formed, Bool.and_eq_true, decide_eq_true_eq] at hs
      exact hs.1.2.1
    have hgap : (if w.drops = 0 then [] else [gap]) = ((if w.drops = 0 then []
        else [(⟨.gap, 0, 0, s.clock, [w32 w.drops, w.firstDrop,
          w.lastDrop]⟩ : JournalEntry)]).map WriteItem.journal) := by
      split <;> rfl
    have hu : u = _ := State.flushJournal_eq s hpending h
    have hu' : u = { s with writer := { w with
        drops := 0, pending := w.pending.drop n
        queue := w.queue ++ (if w.drops = 0 then [] else [gap]) ++ (w.pending.take n).map .journal } } := by
      rw [hgap]
      exact hu
    refine ⟨hu', fun hless => ?_⟩
    rw [hu', hgap, List.append_assoc, ← List.map_append]
    refine State.flushJournal_full h _ _ n ?_ ?_
    · rw [List.length_append, List.length_take, Nat.min_eq_left (Nat.le_of_lt hless)]
      split <;> rfl
    · exact (Nat.min_eq_right (Nat.le_of_lt (by
        refine Nat.lt_of_not_le fun hle => ?_
        exact absurd hless (Nat.not_lt.mpr (Nat.le_min.mpr ⟨Nat.le_refl _, hle⟩)))))

/-- Settles O29: the journal keeps its marks. -/
theorem journalKeepsItsMarks : Obligations.JournalKeepsItsMarks := by
  unfold Obligations.JournalKeepsItsMarks
  refine ⟨fun s => ⟨rfl, State.journalRoom_iff s, State.journalOpen_iff s⟩, fun s k f n l _ => ?_, fun s e => ?_,
    fun s word _ => ?_, fun s hs => flushJournal_effect hs, by decide, fun s h hcapacity => ?_,
      fun s t hs h hstep => ?_⟩
  · intro e urgent regs w
    have heq : s.journal k f n l = State.enterJournal e { s with regs := regs } := s.journal_eq k f n l
    have hopen : State.journalOpen { s with regs := regs } = s.journalOpen := by
      simp only [regs]
      split <;> rfl
    rw [heq]
    refine ⟨fun h hempty hroom => ?_, fun hshut hroom => ?_, fun old r hp hfull => ?_⟩
    · exact State.enterJournal_of_room (hopen.trans h) hempty hroom
    · rw [State.enterJournal_of_shut (by rw [hopen]; exact hshut)]
      exact State.pend_of_room hroom
    · rw [State.enterJournal_of_shut (s := { s with regs := regs })
        fun hall => List.cons_ne_nil old r (hp.symm.trans hall.2.1)]
      exact State.pend_of_full hp hfull
  · refine ⟨rfl, e.length_toWords, s.itemWritten_journal e⟩
  · intro c taken
    exact ⟨fun h => if_pos h, fun h => if_neg h⟩
  · obtain ⟨_, hmarks, _⟩ := (State.marksKept_iff s).mp h
    obtain ⟨hwrite, hread, hunread⟩ := hmarks hcapacity
    rw [State.journalWaiting_eq]
    exact ⟨by omega, hwrite, hread⟩
  · have hboth := step_keeps (P := fun s => s.sound = true ∧ s.marksKept = true) (fun _ _ h => h) (fun s h => ?_)
      (fun c s h => ?_) ⟨hs, h⟩ hstep
    · exact hboth.2
    · obtain ⟨hsound, hmarks⟩ := h
      obtain ⟨hbase, hlegal⟩ := (State.sound_iff s).mp hsound
      exact ⟨(State.sound_iff _).mpr ⟨State.tick_baseSound s hbase, (State.tick_legal s).trans hlegal⟩,
        (State.tick_marksKept s).trans hmarks⟩
    · obtain ⟨hsound, hmarks⟩ := h
      obtain ⟨hbase, hlegal⟩ := (State.sound_iff s).mp hsound
      obtain ⟨t, hexec, ht⟩ := exec_baseSound c s hbase
      obtain ⟨u, hexec', hkeeps⟩ := exec_keeps c s
      obtain ⟨v, hexec'', hv⟩ := exec_marksKept c s hmarks hlegal
      obtain rfl : t = u := Host.Outcome.next.inj (hexec.symm.trans hexec')
      obtain rfl : t = v := Host.Outcome.next.inj (hexec.symm.trans hexec'')
      exact ⟨t, hexec, (State.sound_iff t).mpr ⟨ht, hkeeps hlegal⟩, hv⟩

end Sys2Proof.Machine
end

section
/-! PROOFS. The words that show the records (R198, 11.2): the mirrors, the spindle map, the pages, the dump, the
journal. -/

namespace Sys2Proof.Machine

/-! ### Bytes of words -/

theorem wordBytes_append (l r : List Word) : wordBytes (l ++ r) = wordBytes l ++ wordBytes r :=
  List.flatMap_append

/-- The bytes of a value's word are the value's. -/
theorem wordBytes_w32 (v : Nat) : wordBytes [w32 v] = leBytes 4 v := by
  have hbyte (i : Nat) : (w32 v).extractLsb' (8 * i) 8 = BitVec.ofNat 8 (v % 4294967296 / 256 ^ i) := by
    apply BitVec.eq_of_toNat_eq
    simp only [w32, BitVec.extractLsb'_toNat, BitVec.toNat_ofNat, Nat.shiftRight_eq_div_pow, Nat.pow_mul]
  have hvalue (i : Nat) (hi : i < 4) : BitVec.ofNat 8 (v % 4294967296 / 256 ^ i) = BitVec.ofNat 8 (v / 256 ^ i) := by
    apply BitVec.eq_of_toNat_eq
    simp only [BitVec.toNat_ofNat]
    interval_cases i <;> omega
  simp only [wordBytes, List.flatMap_cons, List.flatMap_nil, List.append_nil, leBytes]
  refine List.map_congr_left fun i hi => ?_
  rw [hbyte, hvalue i (List.mem_range.mp hi)]

theorem wordBytes_word (w : Word) : wordBytes [w] = leBytes 4 w.toNat := by
  have hw : w = w32 w.toNat := BitVec.eq_of_toNat_eq (by simp [w32])
  rw [← wordBytes_w32, ← hw]

theorem wordBytes_zero : wordBytes [0#32] = leBytes 4 0 := wordBytes_word 0#32

/-- Words laid out from bytes of the right number are those bytes. -/
theorem wordBytes_wordsOf_full (n : Nat) (l : List Nat) (hl : ∀ x, x ∈ l → x < 256) (h : l.length = 4 * n) :
    wordBytes (wordsOf n l) = l.map (BitVec.ofNat 8) := by
  rw [wordBytes_wordsOf n l hl (le_of_eq h), h, Nat.sub_self]
  exact List.append_nil _

theorem length_wordsOf (n : Nat) (l : List Nat) : (wordsOf n l).length = n := by
  induction n generalizing l with
  | zero => rfl
  | succ n ih => simp [wordsOf, ih]

/-- The words of an answer or of an entry: six, 0 where none is given. -/
theorem take_six (l : List Word) : (l ++ List.replicate 6 0#32).take 6 =
    [l.getD 0 0#32, l.getD 1 0#32, l.getD 2 0#32, l.getD 3 0#32, l.getD 4 0#32, l.getD 5 0#32] := by
  match l with
  | [] => rfl
  | [_] => rfl
  | [_, _] => rfl
  | [_, _, _] => rfl
  | [_, _, _, _] => rfl
  | [_, _, _, _, _] => rfl
  | _ :: _ :: _ :: _ :: _ :: _ :: r => simp

theorem leBytes_one (v : Nat) : leBytes 1 v = [BitVec.ofNat 8 v] := by simp [leBytes]

theorem map_bytes1 (v : Nat) : (bytes1 v).map (BitVec.ofNat 8) = [BitVec.ofNat 8 v] := by
  rw [bytes1_map, leBytes_one]

/-- Every byte laid out is below 256. -/
def bytesOk (l : List Nat) : Prop := ∀ x, x ∈ l → x < 256

theorem bytesOk_append {l r : List Nat} (hl : bytesOk l) (hr : bytesOk r) : bytesOk (l ++ r) := fun x hx =>
  (List.mem_append.mp hx).elim (hl x) (hr x)

theorem bytesOk_zeros (n : Nat) : bytesOk (List.replicate n 0) := fun x hx => by
  rw [List.eq_of_mem_replicate hx]
  decide

theorem bytesOk_flatMap {α : Type} {l : List α} {g : α → List Nat} (h : ∀ a, bytesOk (g a)) : bytesOk (l.flatMap g) :=
  fun x hx => by
    obtain ⟨a, _, ha⟩ := List.mem_flatMap.mp hx
    exact h a x ha

theorem bytes1_ok (v : Nat) : bytesOk (bytes1 v) := bytes1_lt v
theorem bytes2_ok (v : Nat) : bytesOk (bytes2 v) := bytes2_lt v
theorem bytes4_ok (v : Nat) : bytesOk (bytes4 v) := bytes4_lt v

/-! ### The mirrors (11.2.6) -/

section
variable (s : State)

theorem State.sideBytes_ok (d : Nat) : bytesOk (s.sideBytes d) := by
  unfold State.sideBytes
  exact bytesOk_append (bytesOk_append (bytesOk_append (bytesOk_append (bytesOk_append (bytesOk_append (bytes1_ok _)
    (bytes1_ok _)) (bytes2_ok _)) (bytes1_ok _)) (bytes1_ok _)) (bytes4_ok _)) (bytesOk_zeros _)

theorem State.sideBytes_length (d : Nat) : (s.sideBytes d).length = 16 := by simp [State.sideBytes]

theorem State.sideBytes_map (d : Nat) : (s.sideBytes d).map (BitVec.ofNat 8) =
    ([(s.side d).entries.length, (s.side d).backlog] : List Nat).map (BitVec.ofNat 8) ++
      leBytes 2 (s.unlisted d).length ++ ([(s.side d).piecer.getD 0, 0] : List Nat).map (BitVec.ofNat 8) ++
      leBytes 4 (((s.side d).oldest.map BitVec.toNat).getD 0) ++ leBytes 6 0 := by
  simp only [State.sideBytes, List.map_append, map_bytes1, bytes2_map, bytes4_map, wordNat, codeOr_eq,
    State.unlistedCount,
    List.map_cons, List.map_nil, leBytes_zero, List.map_replicate, List.append_assoc, List.cons_append, List.nil_append]

theorem State.frameWords_bytes (f : Nat) : wordBytes (s.frameWords f) =
    let x := s.frame f
    ([x.state.code, x.slot.getD 0, flagNat x.doffOwed, (x.callCause.map CallCause.code).getD 0, x.doffFinish.code,
      (x.haltCause.map HaltCause.code).getD 0, x.grace.getD 0,
        (s.unit f).presence.code] : List Nat).map (BitVec.ofNat 8) ++
    leBytes 4 x.buildM ++ leBytes 4 ((x.callStamp.map BitVec.toNat).getD 0) ++
    leBytes 4 (flagNat x.alarm + 2 * flagNat x.unit) ++ (s.sideBytes (2 * f - 1)).map (BitVec.ofNat 8) ++
    (s.sideBytes (2 * f)).map (BitVec.ofNat 8) ++ leBytes 200 0 := by
  rw [State.frameWords]
  dsimp only
  rw [wordBytes_wordsOf]
  · simp only [List.map_append, List.length_append, map_bytes1, bytes4_map, wordNat, codeOr_eq, List.map_cons,
      List.map_nil,
      State.sideBytes_length, bytes1_length, bytes4_length, leBytes_zero, List.append_assoc, List.cons_append,
      List.nil_append]
  · have hbytes := s.sideBytes_ok
    refine bytesOk_append (bytesOk_append ?_ (hbytes _)) (hbytes _)
    simp (maxDischargeDepth := 40) only [bytesOk_append, bytes1_ok, bytes4_ok]
  · simp [State.sideBytes_length]

theorem State.linkBytes_map (a : Nat) : (s.linkBytes a).map (BitVec.ofNat 8) =
    ([(s.unit a).presence.code, (s.unit a).misses, (s.unit a).lastMiss.code, (s.unit a).queue.length] : List Nat).map
      (BitVec.ofNat 8) := by
  simp [State.linkBytes, map_bytes1]

theorem State.linkBytes_ok (a : Nat) : bytesOk (s.linkBytes a) :=
  bytesOk_append (bytesOk_append (bytesOk_append (bytes1_ok _) (bytes1_ok _)) (bytes1_ok _)) (bytes1_ok _)

theorem State.linkBytes_length (a : Nat) : (s.linkBytes a).length = 4 := rfl

theorem State.piecerWords_bytes (p : Nat) : wordBytes (s.piecerWords p) =
    let x := s.piecer p
    ([x.state.code, x.side.getD 0, x.placement.code, flagNat x.atBay, flagNat x.parkOwed, flagNat x.returned,
      if x.descending then 2 else 1, (x.stage.map stageCode).getD 0, x.home.getD 0] : List Nat).map (BitVec.ofNat 8) ++
    (s.linkBytes (8 + p)).map (BitVec.ofNat 8) ++ leBytes 2 (x.position.getD 0) ++ leBytes 2 (x.spindle.getD 0) ++
    leBytes 2 ((x.current.map BitVec.toNat).getD 0) ++ leBytes 2 ((x.void.map BitVec.toNat).getD 0) ++ leBytes 3 0 := by
  rw [State.piecerWords]
  dsimp only
  rw [wordBytes_wordsOf]
  · simp only [List.map_append, List.length_append, map_bytes1, bytes2_map, tokenNat, codeOr_eq, List.map_cons,
      List.map_nil,
      State.linkBytes_length, bytes1_length, bytes2_length, leBytes_zero, List.append_assoc, List.cons_append,
      List.nil_append, piecerAddr]
  · change bytesOk _
    simp (maxDischargeDepth := 40) only [bytesOk_append, bytes1_ok, bytes2_ok, State.linkBytes_ok]
  · simp [State.linkBytes_length]

theorem State.carrierWords_bytes (c : Nat) : wordBytes (s.carrierWords c) =
    let x := s.carrier c
    ([x.state.code, (x.creel.map fun k => (k - 1) / 76 + 1).getD 0, (x.creel.map fun k => (k - 1) % 76 + 1).getD 0] :
      List Nat).map (BitVec.ofNat 8) ++ (s.linkBytes (16 + c)).map (BitVec.ofNat 8) ++
    leBytes 2 ((x.lotSent.map BitVec.toNat).getD 0) ++ leBytes 2 ((x.lotLoaded.map BitVec.toNat).getD 0) ++
    leBytes 4 x.shownLeft ++ leBytes 1 0 := by
  have hframe : creelFrame = fun k => (k - 1) / 76 + 1 := rfl
  have hindex : creelIndex = fun k => (k - 1) % 76 + 1 := rfl
  rw [State.carrierWords]
  dsimp only
  rw [wordBytes_wordsOf]
  · simp only [List.map_append, List.length_append, map_bytes1, bytes2_map, bytes4_map, tokenNat, codeOr_eq,
      List.map_cons,
      List.map_nil, State.linkBytes_length, bytes1_length, bytes2_length, bytes4_length, leBytes_zero,
        List.append_assoc,
      List.cons_append, List.nil_append, carrierAddr, hframe, hindex]
  · change bytesOk _
    simp (maxDischargeDepth := 40) only [bytesOk_append, bytes1_ok, bytes2_ok, bytes4_ok, State.linkBytes_ok]
  · simp [State.linkBytes_length]

theorem State.creelWords_bytes (c : Nat) : wordBytes (s.creelWords c) =
    let x := s.creel c
    ([x.state.code, x.carrier.getD 0, x.lock.code, x.waiting.code,
      flagNat x.holdSent + 2 * flagNat (s.strip c).blind + 4 * flagNat (s.strip c).check.isSome, 0] : List Nat).map
        (BitVec.ofNat 8) ++
    leBytes 2 (x.remaining / 1000) ++ leBytes 4 ((x.queueStamp.map BitVec.toNat).getD 0) := by
  rw [State.creelWords]
  dsimp only
  rw [wordBytes_wordsOf_full]
  · simp only [List.map_append, map_bytes1, bytes2_map, bytes4_map, wordNat, codeOr_eq, List.map_cons, List.map_nil,
      List.append_assoc, List.cons_append, List.nil_append, Creel.remainingM]
  · change bytesOk _
    simp (maxDischargeDepth := 40) only [bytesOk_append, bytes1_ok, bytes2_ok, bytes4_ok]
  · rfl

theorem State.blockWords_bytes (c : Nat) : wordBytes (s.blockWords c) =
    (List.range' (24 * ((c - 1) % 76 + 1 - 1) + 1) 24).flatMap
      (fun m => leBytes 2 (s.spindle ((c - 1) / 76 + 1) m).entry) ++ leBytes 12 0 := by
  have hlength : ((spindlesOfSection (creelIndex c)).flatMap fun n => bytes2 (s.spindle (creelFrame c) n).entry).length =
      48 := by
    simp [List.length_flatMap, spindlesOfSection, Function.comp_def]
  rw [State.blockWords, wordBytes_wordsOf, hlength, List.map_flatMap]
  · simp only [bytes2_map, leBytes_zero, spindlesOfSection_eq]
    rfl
  · exact bytesOk_flatMap fun n => bytes2_ok _
  · rw [hlength]
    decide

end

/-! ### The spindle map's entry (R23) -/

theorem Spindle.entry_fields (x : Spindle) (h : x.attempts ≤ 7) :
    x.entry % 16 = x.state.code ∧ x.entry.testBit 4 = x.listed ∧ x.entry.testBit 5 = x.slip ∧
      x.entry / 64 % 8 = x.attempts ∧ x.entry / 512 % 8 = (x.cutCause.map CutCause.code).getD 0 ∧
      x.entry / 4096 = (x.lastClass.map BreakClass.code).getD 0 ∧ x.entry < 32768 := by
  have hstate : x.state.code < 16 := by cases x.state <;> decide
  have hcut : (x.cutCause.map CutCause.code).getD 0 < 8 := by
    cases x.cutCause with
    | none => decide
    | some c => cases c <;> decide
  have hclass : (x.lastClass.map BreakClass.code).getD 0 < 8 := by
    cases x.lastClass with
    | none => decide
    | some c => cases c <;> decide
  have hlisted : flagNat x.listed < 2 := by cases x.listed <;> decide
  have hslip : flagNat x.slip < 2 := by cases x.slip <;> decide
  have hflag (b : Bool) : b = decide (flagNat b = 1) := by cases b <;> rfl
  rw [Nat.testBit_eq_decide_div_mod_eq, Nat.testBit_eq_decide_div_mod_eq, Spindle.entry, codeOr_eq, codeOr_eq]
  generalize x.state.code = a at *
  generalize (x.cutCause.map CutCause.code).getD 0 = c at *
  generalize (x.lastClass.map BreakClass.code).getD 0 = d at *
  refine ⟨by omega, ?_, ?_, by omega, by omega, by omega, by omega⟩
  · rw [hflag x.listed]
    refine decide_eq_decide.mpr ?_
    rw [← hflag x.listed]
    omega
  · rw [hflag x.slip]
    refine decide_eq_decide.mpr ?_
    rw [← hflag x.slip]
    omega

/-! ### The pages (R136) -/

theorem pageWords_eq (p : OpenPage) (stamp : Word) (close : Option PageCause) (counts : List (Nat × Counts)) :
    let wide (v : Nat) : List Word := [w32 (v % 4294967296), w32 (v / 4294967296)]
    let block (x : Counts) : List Word :=
      wide x.spindleMm ++ wide x.runningSweeps ++ wide x.plannedSweeps ++
        [w32 x.frontMm, w32 (min 4294967295 (x.weightSum / 100000000)), w32 x.stopDs,
          w32 (if x.plannedSweeps = 0 then 0 else x.runningSweeps * 1000 / x.plannedSweeps),
          w32 x.breakRun, w32 x.breakDoffStart, w32 x.breakProveFail, w32 x.breakStarve, w32 x.pieced,
            w32 x.pieceFailures,
          w32 x.cutRogue, w32 x.cutAttempts, w32 x.cutManual, w32 x.cutNoRoving, w32 x.cutSensor,
          w32 x.doffs, w32 x.creelChanges, w32 x.lotMismatches, w32 x.slips] ++ List.replicate 5 0#32
    pageWords p stamp close counts =
      [p.stamp, w32 p.cause.openCode, stamp, w32 ((close.map PageCause.closeCode).getD 0), w32 p.merged, 0#32] ++
        (List.range' 1 8).flatMap fun f => block (tget Counts.reset counts f) := by
  intro wide block
  have hblock (x : Counts) : x.toWords = block x := rfl
  rw [pageWords, codeOr_eq]
  simp only [hblock]
  rfl

/-! ### The dump (R36) -/

theorem RogueEntry.dumpBytes_ok (e : RogueEntry) : bytesOk e.dumpBytes := by
  unfold RogueEntry.dumpBytes
  split
  · change bytesOk _
    simp (maxDischargeDepth := 40) only [bytesOk_append, bytes1_ok, bytes2_ok, bytes4_ok]
  · exact bytesOk_zeros 12

theorem RogueEntry.dumpBytes_length (e : RogueEntry) : e.dumpBytes.length = 12 := by
  unfold RogueEntry.dumpBytes
  split
  · rfl
  · exact List.length_replicate

theorem RogueEntry.dumpBytes_map (e : RogueEntry) : e.dumpBytes.map (BitVec.ofNat 8) =
    if e.valid then
      ([1, e.count, e.key / 2048 + 1, 0] : List Nat).map (BitVec.ofNat 8) ++ leBytes 2 e.key ++ leBytes 2 (e.key % 2048) ++
        leBytes 4 e.firstStamp.toNat
    else leBytes 12 0 := by
  unfold RogueEntry.dumpBytes
  split
  · simp only [List.map_append, map_bytes1, bytes2_map, bytes4_map, List.map_cons, List.map_nil, keyFrame, keySpindle,
      List.cons_append, List.nil_append]
  · rw [leBytes_zero, List.map_replicate]

theorem RogueTable.setBytes_ok (t : RogueTable) (i : Nat) : bytesOk (t.setBytes i) :=
  bytesOk_append (bytesOk_append (bytesOk_append (bytes1_ok _) (bytes1_ok _)) (bytes1_ok _)) (bytes1_ok _)

theorem RogueTable.setBytes_map (t : RogueTable) (i : Nat) : (t.setBytes i).map (BitVec.ofNat 8) =
    ([flagNat (t.choices i).pair, flagNat (t.choices i).low, flagNat (t.choices i).high, t.target i] : List Nat).map
      (BitVec.ofNat 8) := by
  simp [RogueTable.setBytes, map_bytes1]

/-- The ways set by set are the 64 entries in their order. -/
theorem range_ways : (List.range 16).flatMap (fun set => ways.map (wayIndex set)) = List.range 64 := by decide

theorem Snapshot.toWords_bytes (x : Snapshot) : wordBytes x.toWords =
    leBytes 4 x.clock.toNat ++ leBytes 4 x.table.validCount ++ leBytes 4 x.limit ++ leBytes 4 x.window ++
      leBytes 4 x.seq.toNat ++ leBytes 8 0 ++
      (List.range 64).flatMap (fun i => (tget RogueEntry.reset x.table.entries i).dumpBytes.map (BitVec.ofNat 8)) ++
      (List.range 16).flatMap fun i => (x.table.setBytes i).map (BitVec.ofNat 8) := by
  have hways : ((List.range 16).flatMap fun set => ways.flatMap fun w => (x.table.entry set w).dumpBytes) =
      (List.range 64).flatMap fun i => (tget RogueEntry.reset x.table.entries i).dumpBytes := by
    rw [← range_ways, List.flatMap_assoc]
    simp only [List.flatMap_map]
    rfl
  have hentries : ((List.range 64).flatMap fun i => (tget RogueEntry.reset x.table.entries i).dumpBytes).length = 768 := by
    simp [List.length_flatMap, RogueEntry.dumpBytes_length]
  have hsets : ((List.range 16).flatMap x.table.setBytes).length = 64 := by
    simp [List.length_flatMap, RogueTable.setBytes]
  have hhead : wordBytes [x.clock, w32 x.table.validCount, w32 x.limit, w32 x.window, x.seq, 0#32, 0#32] =
      leBytes 4 x.clock.toNat ++ leBytes 4 x.table.validCount ++ leBytes 4 x.limit ++ leBytes 4 x.window ++
      leBytes 4 x.seq.toNat ++ leBytes 8 0 := by
    have hcons (w : Word) (l : List Word) : wordBytes (w :: l) = wordBytes [w] ++ wordBytes l := wordBytes_append [w] l
    rw [hcons x.clock, hcons (w32 _), hcons (w32 x.limit), hcons (w32 x.window), hcons x.seq, hcons 0#32,
      wordBytes_word,
      wordBytes_w32, wordBytes_w32, wordBytes_w32, wordBytes_word, wordBytes_zero]
    simp only [List.append_assoc]
    rfl
  rw [Snapshot.toWords, wordBytes_append, hhead, hways, wordBytes_wordsOf_full]
  · rw [List.map_append, List.map_flatMap, List.map_flatMap, List.append_assoc]
    simp only [List.append_assoc]
  · exact bytesOk_append (bytesOk_flatMap fun i => RogueEntry.dumpBytes_ok _) (bytesOk_flatMap x.table.setBytes_ok)
  · rw [List.length_append, hentries, hsets]

/-! ### The head of a journal entry (11.2.3) -/

theorem JournalEntry.toWords_bytes (e : JournalEntry) : wordBytes (e.toWords.take 1) =
    leBytes 2 e.kind.code ++ leBytes 1 e.frame ++ leBytes 1 e.unit := by
  have hhead : e.toWords.take 1 = wordsOf 1 (bytes2 e.kind.code ++ bytes1 e.frame ++ bytes1 e.unit) := rfl
  rw [hhead, wordBytes_wordsOf_full]
  · rw [List.map_append, List.map_append, bytes2_map, bytes1_map, bytes1_map]
  · exact bytesOk_append (bytesOk_append (bytes2_ok _) (bytes1_ok _)) (bytes1_ok _)
  · rfl

theorem JournalEntry.toWords_drop (e : JournalEntry) : e.toWords.drop 1 =
    [e.stamp, e.fields.getD 0 0#32, e.fields.getD 1 0#32, e.fields.getD 2 0#32, e.fields.getD 3 0#32,
      e.fields.getD 4 0#32, e.fields.getD 5 0#32] := by
  have hdrop : e.toWords.drop 1 = e.stamp :: (e.fields ++ List.replicate 6 0#32).take 6 := rfl
  rw [hdrop, take_six]

end Sys2Proof.Machine
end

section
/-! PROOFS. The updates of the records and their change numbers (R169, R170). -/

namespace Sys2Proof.Machine

/-! ### Change numbers -/

theorem nextOdd_cases (w : Word) : nextOdd w = (if w.toNat % 2 = 0 then w + 1#32 else w + 2#32) ∧
    (nextOdd w).toNat % 2 = 1 := by
  have hbit : w.getLsbD 0 = true ↔ w.toNat % 2 = 1 := by
    rw [BitVec.getLsbD, Nat.testBit_zero, decide_eq_true_eq]
  unfold nextOdd
  by_cases h : w.toNat % 2 = 0
  · have hno : ¬w.getLsbD 0 = true := by rw [hbit]; omega
    rw [if_neg hno, if_pos h]
    refine ⟨rfl, ?_⟩
    rw [BitVec.toNat_add]
    simp
    omega
  · have hyes : w.getLsbD 0 = true := by rw [hbit]; omega
    rw [if_pos hyes, if_neg h]
    refine ⟨rfl, ?_⟩
    rw [BitVec.toNat_add]
    simp
    omega

theorem State.served_iff (s : State) : s.served = true ↔ (s.regs.part = .stalled → s.regs.rewriting ≠ none) ∧
    (s.regs.part = .starting →
      s.regs.start = some .planFault ∨ s.regs.start = some .writes ∨ s.regs.start = some .pages) := by
  unfold State.served
  cases s.regs.part <;> simp [Option.isSome_iff_ne_none, or_assoc]

theorem State.holdNumber_same {s : State} (hs : s.formed = true) (o : Nat) (w : Word) :
    (s.holdNumber o w).numberHeld o = some w := by
  simp only [State.formed, Writer.formed, Bool.and_eq_true] at hs
  exact tget_tput_same _ _ hs.1.2.2

/-! ### The transfers of an update -/

/-- The words of a run, each with its offset. -/
def spreadRun (r : Nat × List Word) : List (Nat × Word) :=
  (List.range r.2.length).map fun i => (r.1 + 4 * i, r.2.getD i 0#32)

theorem spreadRun_cons (a : Nat) (w : Word) (l : List Word) :
    spreadRun (a, w :: l) = (a, w) :: spreadRun (a + 4, l) := by
  have hnext (i : Nat) : a + 4 * (i + 1) = a + 4 + 4 * i := by omega
  simp only [spreadRun, List.length_cons, List.range_succ_eq_map, List.map_cons, List.map_map]
  congr 1
  refine List.map_congr_left fun i _ => ?_
  simp only [Function.comp_apply, Nat.succ_eq_add_one, hnext, List.getD_cons_succ]

theorem spreadRun_append (a : Nat) (l r : List Word) :
    spreadRun (a, l ++ r) = spreadRun (a, l) ++ spreadRun (a + 4 * l.length, r) := by
  induction l generalizing a with
  | nil => rfl
  | cons w l ih =>
    have hnext : a + 4 + 4 * l.length = a + 4 * (l.length + 1) := by omega
    rw [List.cons_append, spreadRun_cons, ih, spreadRun_cons, List.cons_append, List.length_cons, hnext]

/-- A run cut into transfers holds the same words at the same places. -/
theorem cutRun_spread (n a : Nat) (l : List Word) (h : l.length ≤ n) :
    (cutRun n a l).flatMap spreadRun = spreadRun (a, l) := by
  induction n generalizing a l with
  | zero =>
    rw [List.length_eq_zero_iff.mp (Nat.le_zero.mp h)]
    rfl
  | succ n ih =>
    unfold cutRun
    split
    · next hempty =>
      rw [List.isEmpty_iff.mp hempty]
      rfl
    · next hsome =>
      rw [List.flatMap_cons, ih _ _ (by rw [List.length_drop]; omega)]
      by_cases hlong : 8 ≤ l.length
      · have hstart : a + 32 = a + 4 * (l.take 8).length := by rw [List.length_take, Nat.min_eq_left hlong]
        rw [hstart, ← spreadRun_append, List.take_append_drop]
      · rw [List.drop_eq_nil_of_le (Nat.le_of_lt (Nat.lt_of_not_le hlong)),
          List.take_of_length_le (Nat.le_of_lt (Nat.lt_of_not_le hlong))]
        exact List.append_nil _

/-- No transfer of a run is empty or longer than 8 beats. -/
theorem cutRun_length (n a : Nat) (l : List Word) : ∀ x, x ∈ cutRun n a l → 1 ≤ x.2.length ∧ x.2.length ≤ 8 := by
  induction n generalizing a l with
  | zero => exact fun x hx => nomatch hx
  | succ n ih =>
    unfold cutRun
    split
    · exact fun x hx => nomatch hx
    · next hsome =>
      intro x hx
      obtain rfl | hx := List.mem_cons.mp hx
      · have hpos : 0 < l.length := List.length_pos_iff.mpr fun hnil => hsome (by rw [hnil]; rfl)
        rw [List.length_take]
        omega
      · exact ih _ _ x hx

theorem transfersOf_spread (runs : List (Nat × List Word)) :
    (runs.flatMap transfersOf).flatMap spreadRun = runs.flatMap spreadRun := by
  rw [List.flatMap_assoc]
  refine List.flatMap_congr fun r _ => ?_
  exact cutRun_spread _ _ _ (Nat.le_refl _)

/-- The odd number is the first word of an update, at its own place. -/
theorem withOdd_spread (o : Nat) (odd : Word) (runs : List (Nat × List Word)) :
    (withOdd o odd runs).flatMap spreadRun = (o, odd) :: runs.flatMap spreadRun := by
  have halone : spreadRun (o, [odd]) = [(o, odd)] := rfl
  unfold withOdd
  split
  · next a l r =>
    split
    · next ha => rw [List.flatMap_cons, spreadRun_cons, List.flatMap_cons, ha, List.cons_append]
    · rw [List.flatMap_cons, halone]
      rfl
  · rfl

theorem withOdd_head (o : Nat) (odd : Word) (runs : List (Nat × List Word)) :
    ∃ l r, withOdd o odd runs = (o, odd :: l) :: r := by
  unfold withOdd
  split
  · next a l r =>
    split
    · exact ⟨l, r, rfl⟩
    · exact ⟨[], (a, l) :: r, rfl⟩
  · exact ⟨[], [], rfl⟩

/-- The transfers of a numbered update: the odd number's place first, the even number alone last. -/
theorem update_transfers (o : Nat) (odd : Word) (runs : List (Nat × List Word)) :
    ∃ l rest, (withOdd o odd runs ++ [(o, [odd + 1#32])]).flatMap transfersOf = (o, l) :: rest ∧
      ((o, l) :: rest).flatMap spreadRun = (o, odd) :: runs.flatMap spreadRun ++ [(o, odd + 1#32)] ∧
      rest.getLast? = some (o, [odd + 1#32]) ∧ ∀ x, x ∈ (o, l) :: rest → 1 ≤ x.2.length ∧ x.2.length ≤ 8 := by
  obtain ⟨l, r, hhead⟩ := withOdd_head o odd runs
  have hlast : transfersOf (o, [odd + 1#32]) = [(o, [odd + 1#32])] := rfl
  have hfirst : transfersOf (o, odd :: l) = (o, (odd :: l).take 8) :: cutRun l.length (o + 32) ((odd :: l).drop 8) :=
    rfl
  have heq : (withOdd o odd runs ++ [(o, [odd + 1#32])]).flatMap transfersOf = (o, (odd :: l).take 8) ::
      (cutRun l.length (o + 32) ((odd :: l).drop 8) ++ r.flatMap transfersOf ++ [(o, [odd + 1#32])]) := by
    rw [List.flatMap_append, hhead, List.flatMap_cons, hfirst, List.flatMap_cons, hlast, List.flatMap_nil,
      List.append_nil,
      List.cons_append, List.cons_append]
  refine ⟨(odd :: l).take 8, _, heq, ?_, by rw [List.getLast?_append]; rfl, fun x hx => ?_⟩
  · rw [← heq, transfersOf_spread, List.flatMap_append, withOdd_spread]
    rfl
  · rw [← heq] at hx
    obtain ⟨y, _, hy⟩ := List.mem_flatMap.mp hx
    exact cutRun_length _ _ _ x hy

/-! ### The beginning of an item -/

section
variable (s : State) (i : WriteItem) (o : Nat)

theorem State.beginItem_held {v : Word} (hplace : s.numberPlace i = some o) (hheld : s.numberHeld o = some v) :
    s.beginItem i = s.beginNumbered i o v := by
  simp only [State.beginItem, hplace, hheld]

theorem State.beginItem_unheld (hplace : s.numberPlace i = some o) (hheld : s.numberHeld o = none) :
    s.beginItem i = State.requestRead .reportWriter o 1 { s with writer.current := some ⟨i, true, []⟩ } := by
  simp only [State.beginItem, hplace, hheld]

theorem State.noteOpenBegun_eq : s.noteOpenBegun i = { s with output := if i = .openPage then
    { s.output with wait := s.output.wait.map fun w => { w with openBegun := true } } else s.output } := by
  unfold State.noteOpenBegun
  split <;> rfl

/-- A numbered update: the number held, and its first transfer requested. -/
theorem State.beginNumbered_effect {held : Word} (hs : s.formed = true) :
    let spread (r : Nat × List Word) : List (Nat × Word) :=
      (List.range r.2.length).map fun i => (r.1 + 4 * i, r.2.getD i 0#32)
    let odd := nextOdd held
    let u := s.beginNumbered i o held
    u.numberHeld o = some odd ∧ (∀ p, p ≠ o → u.numberHeld p = s.numberHeld p) ∧
    u.output = (if i = .openPage then
      { s.output with wait := s.output.wait.map fun w => { w with openBegun := true } } else s.output) ∧
    ∃ l rest, u = { s with
        writer := { s.writer with numbers := u.writer.numbers, current := some ⟨i, false, rest⟩ }
        output := u.output, port := s.port.request ⟨.reportWriter, true, s.areaAddr o, l.length, 0, l⟩ } ∧
      ((o, l) :: rest).flatMap spread = (o, odd) :: (s.fieldRuns i).flatMap spread ++ [(o, odd + 1#32)] ∧
      rest.getLast? = some (o, [odd + 1#32]) ∧ ∀ x, x ∈ (o, l) :: rest → 1 ≤ x.2.length ∧ x.2.length ≤ 8 := by
  intro spread odd u
  obtain ⟨l, rest, htransfers, hspread, hlast, hlength⟩ := update_transfers o odd (s.fieldRuns i)
  have hu : u = { s with
      writer := { s.writer with
        numbers := tput none s.writer.numbers o (some odd), current := some ⟨i, false, rest⟩ }
      output := if i = .openPage then
        { s.output with wait := s.output.wait.map fun w => { w with openBegun := true } } else s.output
      port := s.port.request ⟨.reportWriter, true, s.areaAddr o, l.length, 0, l⟩ } := by
    have hbegin : u = State.sendTransfers i ((withOdd o odd (s.fieldRuns i) ++ [(o, [odd + 1#32])]).flatMap transfersOf)
        ((s.holdNumber o odd).noteOpenBegun i) := rfl
    rw [hbegin, htransfers, State.noteOpenBegun_eq]
    rfl
  have hnumbers : tableWf none s.writer.numbers = true := by
    simp only [State.formed, Writer.formed, Bool.and_eq_true] at hs
    exact hs.1.2.2
  refine ⟨?_, fun p hp => ?_, by rw [hu], l, rest, by rw [hu], hspread, hlast, hlength⟩
  · rw [hu]
    exact tget_tput_same _ _ hnumbers
  · rw [hu]
    exact tget_tput_other _ hp

end

theorem serveN_item {s : State} {i : WriteItem} {r : List WriteItem} (hserved : s.served = true)
    (hnone : s.writer.current = none) (hqueue : s.writer.queue = i :: r) (hi : i ≠ .mark) (n : Nat) :
    serveN (n + 1) s = serveN n (State.beginItem i { s with writer := { s.writer with queue := r } }) := by
  have hgoes : (s.served && s.writer.current.isNone) = true := by rw [hserved, hnone]; rfl
  rw [serveN, if_pos hgoes, hqueue]
  exact if_neg hi

/-! ### The end of a transfer -/

section
variable {s : State} {x : Update} {o : Nat} {last : Word}

theorem WriteItem.numbered_iff {i : WriteItem} : i.numbered = true ↔ i = .openPage ∨ s.numberPlace i ≠ none := by
  cases i <;> simp [WriteItem.numbered, State.numberPlace]

theorem State.numberRead_held (hcur : s.writer.current = some x) (hplace : s.numberPlace x.item = some o) :
    s.numberRead o last = s.beginNumbered x.item o last := by
  simp only [State.numberRead, hcur]
  exact if_pos hplace

theorem State.numberRead_gone (hcur : s.writer.current = some x) (hplace : s.numberPlace x.item ≠ some o) :
    (s.numberRead o last).writer.current = none ∧ (s.numberRead o last).writer.queue = s.writer.queue := by
  have hread : s.numberRead o last = { s.holdNumber o last with writer.current := none } := by
    simp only [State.numberRead, hcur]
    exact if_neg hplace
  rw [hread]
  exact ⟨rfl, rfl⟩

theorem State.writeEnded_more {a : Nat} {l : List Word} {r : List (Nat × List Word)} (hcur : s.writer.current = some x)
    (hleft : x.left = (a, l) :: r) : s.writeEnded o last = State.requestWrite a l
      { s with writer := { s.writer with current := some ⟨x.item, false, r⟩ } } := by
  simp only [State.writeEnded, hcur, hleft]
  rfl

theorem State.writeEnded_last (hcur : s.writer.current = some x) (hleft : x.left = []) : s.writeEnded o last =
    (if x.item.numbered then s.holdNumber o last else s).itemWritten x.item := by
  simp only [State.writeEnded, hcur, hleft]

end

/-- What the end of a transfer of the Report Writer does. -/
theorem transferEnded_effect {s : State} {x : Update} {t : Transfer} (hs : s.formed = true)
    (hcur : s.writer.current = some x) (ht : t.block = .reportWriter) :
    let v : State := { s with port := s.port.finish }
    let offset := s.transferOffset t
    let u := s.transferEnded t
    let numbered := x.item = .openPage ∨ s.numberPlace x.item ≠ none
    (t.write = false →
      (s.numberPlace x.item = some offset → u = v.beginNumbered x.item offset (t.words.headD 0#32)) ∧
      (s.numberPlace x.item ≠ some offset → u.writer.current = none ∧ u.writer.queue = s.writer.queue)) ∧
    (t.write = true →
      (∀ a l r, x.left = (a, l) :: r → u = { v with
        writer := { v.writer with current := some ⟨x.item, false, r⟩ }
        port := v.port.request ⟨.reportWriter, true, v.areaAddr a, l.length, 0, l⟩ }) ∧
      (x.left = [] → numbered → u = (v.holdNumber offset (t.words.getLastD 0#32)).itemWritten x.item) ∧
      (x.left = [] → ¬numbered → u = v.itemWritten x.item)) ∧
    (v.holdNumber offset (t.words.getLastD 0#32)).numberHeld offset = some (t.words.getLastD 0#32) := by
  intro v offset u numbered
  have hv : v.formed = true := hs
  have hvcur : v.writer.current = some x := hcur
  have hu : u = if t.write then v.writeEnded offset (t.words.getLastD 0#32)
      else v.numberRead offset (t.words.headD 0#32) := by
    have hended : u = match t.block with
      | .reportWriter =>
        if t.write then v.writeEnded offset (t.words.getLastD 0#32) else v.numberRead offset (t.words.headD 0#32)
      | .orderDesk => v.deskRead offset t.words
      | .planStore => v.planRead t.words
      | .outputCounter => v.pageRead offset t.words := rfl
    rw [hended, ht]
  have hnumbered : x.item.numbered = true ↔ numbered := WriteItem.numbered_iff
  refine ⟨fun hread => ?_, fun hwrite => ?_, State.holdNumber_same hv _ _⟩
  · rw [hread, if_neg Bool.false_ne_true] at hu
    rw [hu]
    exact ⟨fun hplace => State.numberRead_held hvcur hplace, fun hplace => State.numberRead_gone hvcur hplace⟩
  · rw [if_pos hwrite] at hu
    rw [hu]
    refine ⟨fun a l r hleft => State.writeEnded_more hvcur hleft, fun hleft hyes => ?_, fun hleft hno => ?_⟩
    · rw [State.writeEnded_last hvcur hleft, if_pos (hnumbered.mpr hyes)]
    · rw [State.writeEnded_last hvcur hleft, if_neg (mt hnumbered.mp hno)]

/-! ### Where the records stand -/

theorem creelNo_last (n : Nat) : blockOffset (creelNo n 76) + 64 = 0xA000 + 5120 * (n - 1) + 4864 := by
  unfold blockOffset creelNo creelFrame creelIndex
  omega

theorem State.numberPlace_none {s : State} (i : WriteItem) (h : s.numberPlace i = none) : i = .openPage ∨ i = .mark ∨
    (∃ f, i = .mapTail f) ∨ (∃ c, i = .cellTaken c) ∨ (∃ a, i = .cellDone a) ∨ ∃ e, i = .journal e := by
  cases i <;> simp [State.numberPlace] at h ⊢

theorem Answer.toWords_eq (a : Answer) : a.toWords = [w32 ((a.reason.map Reason.code).getD 0), a.words.getD 0 0#32,
    a.words.getD 1 0#32, a.words.getD 2 0#32, a.words.getD 3 0#32, a.words.getD 4 0#32, a.words.getD 5 0#32,
      a.stamp] := by
  rw [Answer.toWords, codeOr_eq, take_six]
  rfl

theorem Answer.stage_code (a : Answer) : w32 a.stage.code = if a.reason = none then 3#32 else 4#32 := by
  unfold Answer.stage
  cases a.reason <;> rfl

theorem length_planWords (p : Option Plan) : (planWords p).length = 2 := by
  cases p <;> rfl

theorem State.length_headerWords (s : State) : s.headerWords.length = 8 := by
  simp [State.headerWords, length_planWords, PlanFault.toWords]

theorem State.length_unitWords (s : State) (n : Nat) : (s.unitWords n).length = if n ≤ 8 then 6 else 4 := by
  unfold State.unitWords
  split
  · exact length_wordsOf ..
  · exact length_wordsOf ..

/-- The copy and id of a plan as the header shows them. -/
theorem planWords_eq (o : Option Plan) : planWords o =
    [w32 ((o.map fun x => x.copy.code).getD 0), (o.map Plan.id).getD 0#32] := by
  cases o <;> rfl

/-- Settles O30: the updates and the words they write. -/
theorem updatesAreNumbered : Obligations.UpdatesAreNumbered := by
  unfold Obligations.UpdatesAreNumbered
  intro spread asks
  refine ⟨nextOdd_cases, State.served_iff, fun s n => ?_, fun s n a => ?_, fun s n => ?_, Spindle.entry_fields,
    pageWords_eq,
    fun x => ?_, fun e => ⟨e.toWords_bytes, e.toWords_drop⟩, ?_, fun s i r hserved hnone hqueue hi n =>
      serveN_item hserved hnone hqueue hi n, fun s i o hplace => ⟨fun v hheld => s.beginItem_held i o hplace hheld,
      fun hheld => s.beginItem_unheld i o hplace hheld⟩, fun s i o held hs => s.beginNumbered_effect i o hs,
    fun s x t hs hcur ht => transferEnded_effect hs hcur ht⟩
  · intro block page
    have hlength (m : Nat) (l : List Nat) := length_wordsOf m l
    refine ⟨rfl, rfl, ?_, rfl, rfl, rfl, rfl, rfl, hlength .., rfl, rfl, ?_, rfl, rfl, hlength .., rfl, rfl,
      hlength .., rfl,
      fun p hp => ⟨fun hpage => ?_, fun stamp cause counts => ?_⟩, fun x => ⟨rfl, rfl⟩, State.numberPlace_none, rfl,
        rfl, ?_⟩
    · exact s.length_headerWords
    · exact s.length_unitWords n
    · subst hp
      constructor
      · simp only [State.numberPlace, hpage]
        rfl
      · simp only [State.fieldRuns, hpage]
        rfl
    · subst hp
      exact ⟨rfl, rfl⟩
    · exact congrArg (fun o => [(o, List.replicate 64 0#32)]) (creelNo_last n)
  · intro word
    refine ⟨rfl, rfl, rfl, rfl, ?_, rfl⟩
    have hruns : s.fieldRuns (.cellDone a) = [(cellOffset a.cell + 0x1C, a.toWords),
      (cellOffset a.cell, [w32 a.stage.code])] :=
      rfl
    rw [hruns, a.toWords_eq, a.stage_code]
    rfl
  · intro bytes flag stamp token copy side link frame part
    have hside (d : Nat) : (s.sideBytes d).map (BitVec.ofNat 8) = side d := s.sideBytes_map d
    have hlink (d : Nat) : (s.linkBytes d).map (BitVec.ofNat 8) = link d := s.linkBytes_map d
    refine ⟨?_, rfl, ?_, fun hn => ?_, fun hn => ?_, s.creelWords_bytes n, s.blockWords_bytes n⟩
    · rw [State.headerWords, planWords_eq, planWords_eq]
      cases s.plan.pending <;> rfl
    · intro x
      rw [← hside, ← hside]
      exact s.frameWords_bytes n
    · intro x
      rw [← hlink, State.unitWords, if_pos hn]
      exact s.piecerWords_bytes n
    · intro x
      have haddr : 16 + (n - 8) = 8 + n := by omega
      have hbytes := s.carrierWords_bytes (n - 8)
      rw [haddr] at hbytes
      rw [← hlink, State.unitWords, if_neg (Nat.not_le.mpr hn)]
      exact hbytes
  · intro bytes flag entry
    have hentry (e : RogueEntry) : e.dumpBytes.map (BitVec.ofNat 8) = entry e := e.dumpBytes_map
    have hset (i : Nat) := x.table.setBytes_map i
    have hwords := x.toWords_bytes
    simp only [hentry, hset] at hwords
    exact hwords
  · refine ⟨rfl, rfl, rfl, rfl, rfl, rfl, rfl, rfl, rfl, rfl, rfl, rfl, rfl, rfl, rfl, rfl, rfl, rfl, rfl, rfl⟩

end Sys2Proof.Machine
end

section
/-! PROOFS. Sweep timers, pulses and strip reads (R1 to R4, R129, R130). -/

namespace Sys2Proof.Machine

/-! ### Timers and pulses -/

section
variable {s : State} {f : Nat}

theorem State.startSweep_of_none (h : (s.sweep f).left = []) : s.startSweep f = s.setSweep f
    ⟨⟨true, s.settings.sweepPeriod⟩, s.settings.sweepPeriod, sectionsInPlan (s.frameSettings f).perSide⟩ := by
  simp only [State.startSweep, h]
  rfl

theorem State.startSweep_of_some (h : (s.sweep f).left ≠ []) : s.startSweep f = s.setSweep f
    { s.sweep f with timer := ⟨true, s.settings.sweepPeriod⟩ } := by
  have hsome : ¬(s.sweep f).left.isEmpty = true := mt List.isEmpty_iff.mp h
  rw [State.startSweep]
  exact if_neg hsome

theorem State.setRoller_output_eq (x : Roller) : s.setRoller f x =
    { s with output := { s.output with rollers := (s.setRoller f x).output.rollers } } := rfl

end

/-- Settles O18: sweep timers and roller pulses. -/
theorem sweepTimerAndRollerPulse : Obligations.SweepTimerAndRollerPulse := by
  unfold Obligations.SweepTimerAndRollerPulse
  intro s f hs
  have hpulse : exec (.rollerPulse f) s = if s.regs.part = .halted ∨ s.regs.ending.isSome = true then .next s
      else .next (s.setRoller f ((s.roller f).pulse (s.frameSettings f).pulses)) := rfl
  have htimer : exec (.sweepTimer f) s = if s.expires (s.sweep f).timer then .next (s.startSweep f) else .next s := rfl
  refine ⟨fun h => ?_, fun hpart hending => ⟨s.setRoller f ((s.roller f).pulse (s.frameSettings f).pulses), ?_,
    State.setRoller_output_eq _, fun g hg => State.setRoller_other _ _ _ _ hg, fun h0 => ?_, fun h1 => ?_,
      fun hmore => ?_⟩,
    fun hout => ⟨s.startSweep f, ?_, ?_, fun hnone => ?_, fun hsome => ?_, fun g hg => ?_⟩, fun hno => ?_⟩
  · rw [hpulse, if_pos (h.imp_right Option.isSome_iff_ne_none.mpr)]
  · rw [hpulse, if_neg (not_or.mpr ⟨hpart, by rw [hending]; decide⟩)]
  · rw [State.setRoller_formed_same _ _ _ hs, Roller.pulse, if_pos h0]
  · rw [State.setRoller_formed_same _ _ _ hs, Roller.pulse, if_neg (by omega), if_pos h1]
  · rw [State.setRoller_formed_same _ _ _ hs, Roller.pulse, if_neg (by omega), if_neg (by omega)]
  · rw [htimer, if_pos (State.expires_iff.mpr hout)]
  · unfold State.startSweep
    dsimp only
    split <;> rfl
  · rw [State.startSweep_of_none hnone, State.setSweep_formed_same _ _ _ hs]
  · rw [State.startSweep_of_some hsome, State.setSweep_formed_same _ _ _ hs]
  · unfold State.startSweep
    dsimp only
    split <;> exact State.setSweep_other _ _ _ _ hg
  · rw [htimer, if_neg (mt State.expires_iff.mp hno)]

/-! ### The bytes of a reply (11.4) -/

theorem stripCounts_isSome (k : Nat) (reply : List Byte) : (stripCounts k reply).isSome = true ↔
    reply.length = 14 ∧ reply.head? = some (BitVec.ofNat 8 k) ∧
      reply.getLast? = some (~~~ (reply.take 13).foldl (· + ·) 0#8) := by
  unfold stripCounts byteSum
  split
  · next h => exact ⟨fun _ => h, fun _ => rfl⟩
  · next h => exact ⟨fun hsome => (nomatch hsome), fun hyes => absurd hyes h⟩

theorem nibbles_getD (l : List Byte) (i : Nat) (hi : i < l.length) :
    (l.flatMap nibbles).getD (2 * i) 0 = (l.getD i 0#8).toNat / 16 ∧
      (l.flatMap nibbles).getD (2 * i + 1) 0 = (l.getD i 0#8).toNat % 16 := by
  induction l generalizing i with
  | nil => exact absurd hi (Nat.not_lt_zero i)
  | cons b r ih =>
    cases i with
    | zero => exact ⟨rfl, rfl⟩
    | succ i =>
      have hnext := ih i (Nat.lt_of_succ_lt_succ hi)
      have htwice : 2 * (i + 1) = 2 * i + 1 + 1 := by omega
      rw [htwice]
      exact hnext

theorem stripCounts_counts {k : Nat} {reply : List Byte} {v : List Nat} (h : stripCounts k reply = some v) :
    v.length = 24 ∧ ∀ i, i < 12 → v.getD (2 * i) 0 = (reply.getD (i + 1) 0#8).toNat / 16 ∧
      v.getD (2 * i + 1) 0 = (reply.getD (i + 1) 0#8).toNat % 16 := by
  obtain ⟨hlength, _⟩ := (stripCounts_isSome k reply).mp (by rw [h]; rfl)
  have hv : v = ((reply.drop 1).take 12).flatMap nibbles := by
    unfold stripCounts at h
    split at h
    · exact (Option.some.inj h).symm
    · cases h
  have hmiddle : ((reply.drop 1).take 12).length = 12 := by
    rw [List.length_take, List.length_drop, hlength]
    rfl
  have hbyte (i : Nat) (hi : i < 12) : ((reply.drop 1).take 12).getD i 0#8 = reply.getD (i + 1) 0#8 := by
    simp [List.getD_eq_getElem?_getD, hi, Nat.add_comm]
  refine ⟨?_, fun i hi => ?_⟩
  · rw [hv, List.length_flatMap]
    simp [nibbles, hlength]
  · rw [hv, ← hbyte i hi]
    exact nibbles_getD _ i (by rw [hmiddle]; exact hi)

/-! ### A strip addressed -/

section
variable {s : State} {f k : Nat} {rest : List Nat}

/-- The strip addressed leaves the sweep, which ends after the last. -/
def State.stripTaken (f : Nat) (rest : List Nat) (u : State) : State :=
  let v := u.setSweep f { u.sweep f with left := rest }
  if rest = [] then v.sweepEnd f else v

theorem State.readStrip_of_addressed (hlive : s.live = true) (hleft : (s.sweep f).left = k :: rest)
    (good : Nat → Option (List Nat)) : s.readStrip f good =
      State.stripTaken f rest (if (s.frameSettings f).sectionIn k then s.takeRead f k (good k) else s) := by
  simp only [State.readStrip, hleft, hlive, State.stripTaken]
  cases rest <;> rfl

theorem State.stripAddressed_iff : s.stripAddressed f = true ↔ s.live = true ∧ (s.sweep f).left ≠ [] := by
  unfold State.stripAddressed
  cases (s.sweep f).left <;> simp

theorem FrameState.judging_iff (st : FrameState) : st.judging = true ↔
    st = .building ∨ st = .nearing ∨ st = .called ∨ st = .draining := by
  cases st <;> simp [FrameState.judging]

end

section
variable {s : State} {f k : Nat} {v : List Nat}

theorem State.takeRead_good (v : List Nat) : s.takeRead f k (some v) =
    match (s.strip (creelNo f k)).check with
    | some c => if (s.frame f).state.judging then (s.countRead f k true).loopSweep f k c v else s.countRead f k true
    | none => if (s.frame f).state.judging && !(s.strip (creelNo f k)).blind then (s.countRead f k true).judgeStrip f k v
      else s.countRead f k true := rfl

end

/-- The breaks of a read are those found spindle by spindle. -/
theorem judgeAll_cons (s : State) (f n count : Nat) (r : List (Nat × Nat)) :
    let one := s.judge f n count
    let others := judgeAll f r one.1
    judgeAll f ((n, count) :: r) s = (others.1, (one.2.toList.map fun c => (n, c)) ++ others.2) := by
  intro one others
  have heq : judgeAll f ((n, count) :: r) s = match one.2 with
    | some c => (others.1, (n, c) :: others.2)
    | none => others := rfl
  rw [heq]
  cases one.2 <;> rfl

/-! ### Blindness (R3) -/

section
variable {s : State} {f k : Nat} {good : Bool}

theorem State.countRead_of_blind (h : ((s.strip (creelNo f k)).count good).blind = false)
    (h3 : ((s.strip (creelNo f k)).count good).badRun = 3) : s.countRead f k good =
      ((s.setStrip (creelNo f k) { (s.strip (creelNo f k)).count good with blind := true }).journal .stripBlind f 0
        [w32 k]).alarm f := by
  simp only [State.countRead, h, h3]
  rfl

theorem State.countRead_of_clear (h : ((s.strip (creelNo f k)).count good).blind = true)
    (h3 : ((s.strip (creelNo f k)).count good).goodRun = 3) : s.countRead f k good =
      (s.setStrip (creelNo f k) { (s.strip (creelNo f k)).count good with blind := false }).journal .stripClear f 0
        [w32 k] := by
  simp only [State.countRead, h, h3]
  rfl

theorem State.countRead_of_else
    (h : ¬(((s.strip (creelNo f k)).count good).blind = false ∧ ((s.strip (creelNo f k)).count good).badRun = 3))
    (h' : ¬(((s.strip (creelNo f k)).count good).blind = true ∧ ((s.strip (creelNo f k)).count good).goodRun = 3)) :
    s.countRead f k good = s.setStrip (creelNo f k) ((s.strip (creelNo f k)).count good) := by
  unfold State.countRead
  dsimp only
  rw [if_neg (by simpa using h), if_neg (by simpa using h')]

/-- What a read counted leaves unchanged. -/
theorem State.countRead_keeps {β : Type} (P : State → β) (hstrip : ∀ c x t, P (State.setStrip c x t) = P t)
    (hjournal : ∀ j a b l t, P (State.journal j a b l t) = P t) (halarm : ∀ e t, P (State.alarm e t) = P t) :
    P (s.countRead f k good) = P s := by
  unfold State.countRead
  dsimp only
  split
  · rw [halarm, hjournal, hstrip]
  · split
    · rw [hjournal, hstrip]
    · rw [hstrip]

end

/-- What a read does to its strip. -/
theorem countRead_effect {s : State} {f k : Nat} {good : Bool} (hs : s.formed = true) :
    let x := s.strip (creelNo f k)
    let u := s.countRead f k good
    let y := u.strip (creelNo f k)
    y.badRun = (if good then 0 else min 3 (x.badRun + 1)) ∧
    y.goodRun = (if good then min 3 (x.goodRun + 1) else 0) ∧
    y.check = x.check ∧
    (y.blind = true ↔ (x.blind = true ∧ y.goodRun ≠ 3) ∨ (x.blind = false ∧ y.badRun = 3)) ∧
    (x.blind = false → y.blind = true → u.journalled .stripBlind f 0 [w32 k] ∧
      (u.frame f).alarm = true ∧ u.regs.att &&& 8#32 = 8#32 ∧ u.regs.att &&& 2#32 = 2#32) ∧
    (x.blind = true → y.blind = false → u.journalled .stripClear f 0 [w32 k]) := by
  intro x u y
  let z := x.count good
  have hz : z.badRun = (if good then 0 else min 3 (x.badRun + 1)) ∧
      z.goodRun = (if good then min 3 (x.goodRun + 1) else 0) ∧ z.check = x.check ∧ z.blind = x.blind := by
    cases hgood : good <;> simp [z, Strip.count, hgood]
  obtain ⟨hbad, hgoodRun, hcheck, hblind⟩ := hz
  by_cases hgoes : z.blind = false ∧ z.badRun = 3
  · obtain ⟨hclear, h3⟩ := hgoes
    let t := s.setStrip (creelNo f k) { z with blind := true }
    have ht : t.formed = true := State.setStrip_formed _ _ _ hs
    have hu : u = (t.journal .stripBlind f 0 [w32 k]).alarm f := State.countRead_of_blind hclear h3
    have hy : y = { z with blind := true } := by
      simp only [y]
      rw [hu, State.alarm_strip, State.journal_strip]
      exact State.setStrip_formed_same _ _ _ hs
    rw [hy]
    refine ⟨hbad, hgoodRun, hcheck, iff_of_true rfl (.inr ⟨hblind ▸ hclear, h3⟩), fun _ _ => ?_, fun hyes => ?_⟩
    · rw [hu]
      refine ⟨?_, ?_, ?_, ?_⟩
      · exact State.journalled_of_grows (State.Grows.alarm ..) (by omega)
      · rw [State.alarm_frame_same _ _ (State.journal_formed _ _ _ _ _ ht)]
      · rw [State.alarm_att]
        exact or_and_self_right ..
      · rw [State.alarm_att, State.journal_att]
        exact or_and_of_and_eq _ (or_and_self_right ..)
    · exact absurd (hyes.symm.trans (hblind ▸ hclear)) (by decide)
  · by_cases hcomes : z.blind = true ∧ z.goodRun = 3
    · obtain ⟨hwas, h3⟩ := hcomes
      have hu : u = (s.setStrip (creelNo f k) { z with blind := false }).journal .stripClear f 0 [w32 k] :=
        State.countRead_of_clear hwas h3
      have hy : y = { z with blind := false } := by
        simp only [y]
        rw [hu, State.journal_strip]
        exact State.setStrip_formed_same _ _ _ hs
      rw [hy]
      refine ⟨hbad, hgoodRun, hcheck, iff_of_false Bool.false_ne_true ?_, fun hno _ => ?_, fun _ _ => ?_⟩
      · rintro (⟨_, hne⟩ | ⟨hno, _⟩)
        · exact hne h3
        · exact absurd (hno.symm.trans (hblind ▸ hwas)) (by decide)
      · exact absurd (hno.symm.trans (hblind ▸ hwas)) (by decide)
      · rw [hu]
        exact State.journal_journalled ..
    · have hy : y = z := by
        simp only [y, u]
        rw [State.countRead_of_else hgoes hcomes]
        exact State.setStrip_formed_same _ _ _ hs
      rw [hy]
      refine ⟨hbad, hgoodRun, hcheck, ?_, fun hno hyes => ?_, fun hyes hno => ?_⟩
      · rw [← hblind]
        cases hb : z.blind <;> simp_all
      · exact absurd (hyes.symm.trans (hblind.trans hno)) (by decide)
      · exact absurd (hno.symm.trans (hblind.trans hyes)) (by decide)

/-- Settles O19: strips are read whole. -/
theorem stripReadIsTakenWhole : Obligations.StripReadIsTakenWhole := by
  unfold Obligations.StripReadIsTakenWhole
  refine ⟨fun k reply => ⟨stripCounts_isSome k reply, fun v => stripCounts_counts⟩,
    fun s f k rest reply => ⟨fun h => ?_,
    fun hlive hleft => ?_⟩, fun s f k v => ?_, fun s f k v => ?_,
      fun s f n count r => ⟨rfl, judgeAll_cons s f n count r⟩,
    fun s f k good hs => ?_⟩
  · have hno : ¬s.stripAddressed f = true := by
      rw [State.stripAddressed_iff]
      rintro ⟨hlive, hleft⟩
      exact h.elim (fun hdead => Bool.false_ne_true (hdead.symm.trans hlive)) hleft
    exact ⟨if_neg hno, if_neg hno⟩
  · intro ended
    have hyes : s.stripAddressed f = true :=
      State.stripAddressed_iff.mpr ⟨hlive, by rw [hleft]; exact List.cons_ne_nil _ _⟩
    have hread : exec (.stripRead f reply) s = .next (s.readStrip f fun k => stripCounts k reply).conclude :=
      if_pos hyes
    have hnone : exec (.stripNoReply f) s = .next (s.readStrip f fun _ => none).conclude := if_pos hyes
    rw [hread, hnone, State.readStrip_of_addressed hlive hleft, State.readStrip_of_addressed hlive hleft]
    refine ⟨fun hin => ?_, fun hout => ?_⟩
    · rw [if_pos hin, if_pos hin]
      exact ⟨rfl, rfl⟩
    · rw [if_neg (Bool.eq_false_iff.mp hout), if_neg (Bool.eq_false_iff.mp hout)]
      exact ⟨rfl, rfl⟩
  · intro st judges x counted
    have hjudges : (s.frame f).state.judging = true ↔ judges := FrameState.judging_iff st
    refine ⟨rfl, fun hcheck hyes => ?_, fun hcheck hno => ?_, fun c hcheck hyes => ?_, fun hcheck hno => ?_⟩
    · have hcheck' : (s.strip (creelNo f k)).check = none := hcheck
      have hblind : (s.strip (creelNo f k)).blind = false := hyes.2
      rw [State.takeRead_good, hcheck']
      simp only [hjudges.mpr hyes.1, hblind]
      rfl
    · have hcheck' : (s.strip (creelNo f k)).check = none := hcheck
      rw [State.takeRead_good, hcheck']
      refine if_neg fun hall => hno ?_
      simp only [Bool.and_eq_true, Bool.not_eq_true'] at hall
      exact ⟨hjudges.mp hall.1, hall.2⟩
    · have hcheck' : (s.strip (creelNo f k)).check = some c := hcheck
      rw [State.takeRead_good, hcheck']
      exact if_pos (hjudges.mpr hyes)
    · obtain ⟨c, hcheck'⟩ := Option.ne_none_iff_exists'.mp (hcheck : (s.strip (creelNo f k)).check ≠ none)
      rw [State.takeRead_good, hcheck']
      exact if_neg (mt hjudges.mp hno)
  · intro judged
    have hspindles : spindlesOfSection k = List.range' (24 * (k - 1) + 1) 24 := spindlesOfSection_eq k
    have heq : s.judgeStrip f k v = State.each (judgeAll f ((spindlesOfSection k).zip v) s).2
        (fun b t => t.settleBreak f b.1 b.2) (judgeAll f ((spindlesOfSection k).zip v) s).1 := rfl
    rw [heq, hspindles]
    rfl
  · intro x u y
    obtain ⟨hbad, hgood, hcheck, hblind, hgoes, hcomes⟩ := countRead_effect (f := f) (k := k) (good := good) hs
    refine ⟨hbad, hgood, hcheck, hblind, hgoes, hcomes, ?_, fun c hc => ?_, ?_, ?_, ?_⟩
    · exact State.countRead_keeps (fun t => t.watch.spindles) (by simp) (by simp) (by simp)
    · simp only [u, State.countRead]
      (repeat' split) <;> simp [State.setStrip_other, hc]
    · exact State.countRead_keeps State.disp (by simp) (by simp) (by simp)
    · exact State.countRead_keeps State.roving (by simp) (by simp) (by simp)
    · exact State.countRead_keeps State.output (by simp) (by simp) (by simp)

/-! ### The history, and the states without a test (R4) -/

theorem Spindle.push_history (high : Bool) (x : Spindle) : (x.push high).history.getLsbD 0 = high ∧
    ∀ i, i < 31 → (x.push high).history.getLsbD (i + 1) = x.history.getLsbD i := by
  refine ⟨?_, fun i hi => ?_⟩
  · cases high <;> simp [Spindle.push]
  · have hlt : i + 1 < 32 := by omega
    have hbit : x.history[i] = x.history.getLsbD i := (BitVec.getLsbD_eq_getElem (by omega)).symm
    cases high <;> simp [Spindle.push, hlt, hbit]

/-- Settles O23: the history, and the states of a judged spindle without a test. -/
theorem otherStatesHaveNoTest : Obligations.OtherStatesHaveNoTest := by
  unfold Obligations.OtherStatesHaveNoTest
  intro s f n count hs high x y u
  obtain ⟨hnewest, hrest⟩ := Spindle.push_history high x
  refine ⟨hnewest, hrest, rfl, fun hst => ?_, fun hst => ?_⟩
  · simp only [u, State.judge]
    obtain hst | hst := hst <;> rw [hst]
  · have hu : u = (s.setSpindle f n y, none) := by
      simp only [u, State.judge]
      obtain hst | hst | hst | hst := hst <;> rw [hst]
    rw [hu]
    exact ⟨rfl, State.setSpindle_formed_same _ _ _ _ hs⟩

end Sys2Proof.Machine
end

section
/-! PROOFS. Breaks settled (R9, R11, R33). -/

namespace Sys2Proof.Machine

/-! ### What is counted -/

/-- Between two states a frame's accumulators change so while a page is open, and not else (R135). -/
def State.Counted (f : Nat) (g : Counts → Counts) (s t : State) : Prop :=
  t.output.page = s.output.page ∧ t.counts f = if s.output.page = none then s.counts f else g (s.counts f)

section
variable {s t u : State} {f : Nat} {g h : Counts → Counts}

theorem State.counted_of_output (hout : t.output = s.output) : State.Counted f id s t :=
  ⟨by rw [hout], by rw [State.counts_of_output hout]; split <;> rfl⟩

theorem State.Counted.trans (ht : State.Counted f g s t) (hu : State.Counted f h t u) :
    State.Counted f (h ∘ g) s u := by
  obtain ⟨hpage, hcounts⟩ := ht
  obtain ⟨hpage', hcounts'⟩ := hu
  refine ⟨hpage'.trans hpage, ?_⟩
  rw [hcounts', hpage, hcounts]
  split <;> rfl

theorem State.counted_count (hs : s.formed = true) (f : Nat) (g : Counts → Counts) :
    State.Counted f g s (s.count f g) := by
  refine ⟨State.count_output_page .., ?_⟩
  split
  · next hp => rw [State.count_of_no_page hp]
  · next hp => exact State.count_counts_same hs hp

end

section
variable {s : State} {f n : Nat}

theorem State.counted_cutSpindle (hs : s.formed = true) (c : CutCause) :
    State.Counted f (Counts.addCut c) s (s.cutSpindle f n c) := by
  have hset := State.setSpindle_formed f n { (s.spindle f n).to .cutOut with cutCause := some c, saved := none } s hs
  exact (State.counted_of_output (by simp)).trans (State.counted_count (State.journal_formed .cutOut f 0 _ _ hset) f _)

/-- One more failure of a piece in the accumulators. -/
def Counts.addFailure (x : Counts) : Counts := { x with pieceFailures := addTo top32 x.pieceFailures 1 }

theorem State.counted_pieceFail (hs : s.formed = true) (p : Nat) (t : Token) (k : FailKind) (stage : Option AttemptStep)
    (cut : Bool) : State.Counted f Counts.addFailure s (s.pieceFail f n p t k stage cut) :=
  (State.counted_of_output (State.journal_output ..)).trans (State.counted_count (State.journal_formed _ _ _ _ _ hs) f _)

theorem State.pieceFail_keeps {β : Type} (P : State → β) (hjournal : ∀ j a b l t, P (State.journal j a b l t) = P t)
    (hcount : ∀ a h t, P (State.count a h t) = P t) (p : Nat) (t : Token) (k : FailKind) (stage : Option AttemptStep)
    (cut : Bool) : P (s.pieceFail f n p t k stage cut) = P s := by
  unfold State.pieceFail
  rw [hcount, hjournal]

theorem State.pieceFail_journalled (p : Nat) (t : Token) (k : FailKind) (cut : Bool) {u : State}
    (h : State.Grows 1 (s.pieceFail f n p t k none cut) u) : u.journalled .pieceFail f p
      [w32 n, t.setWidth 32, w32 k.code, w32 0, w32 (s.spindle f n).attempts, flagWord cut] :=
  State.journalled_of_grows ((State.Grows.count ..).trans h) (by omega)

/-! ### The report of a break -/

theorem breakOutcome_code (x : Spindle) : w32 (breakOutcome x).code = if x.state = .starved then 3#32
    else if x.state = .cutOut then 4#32 else if x.listed = true then 1#32 else 2#32 := by
  unfold breakOutcome
  cases x.state <;> cases x.listed <;> rfl

theorem State.reportBreak_keeps {β : Type} (P : State → β) (hjournal : ∀ j a b l t, P (State.journal j a b l t) = P t)
    (hcount : ∀ a h t, P (State.count a h t) = P t) (c : BreakClass) (r : Nat) : P (s.reportBreak f n c r) = P s := by
  unfold State.reportBreak
  rw [hjournal, hcount]

@[simp] theorem State.reportBreak_spindle (c : BreakClass) (r g m : Nat) :
    (s.reportBreak f n c r).spindle g m = s.spindle g m :=
  State.reportBreak_keeps (fun t => t.spindle g m) (by simp) (by simp) c r

@[simp] theorem State.reportBreak_rogue (c : BreakClass) (r : Nat) : (s.reportBreak f n c r).rogue = s.rogue :=
  State.reportBreak_keeps State.rogue (by simp) (by simp) c r

@[simp] theorem State.reportBreak_disp (c : BreakClass) (r : Nat) : (s.reportBreak f n c r).disp = s.disp :=
  State.reportBreak_keeps State.disp (by simp) (by simp) c r

theorem State.counted_reportBreak (hs : s.formed = true) (c : BreakClass) (r : Nat) :
    State.Counted f (Counts.addBreak c) s (s.reportBreak f n c r) := by
  have hcounted := State.counted_count hs f (Counts.addBreak c)
  exact hcounted.trans (State.counted_of_output (State.journal_output ..))

theorem State.reportBreak_journalled (c : BreakClass) (r : Nat) : (s.reportBreak f n c r).journalled .break f 0
    [w32 n, w32 c.code, w32 (breakOutcome (s.spindle f n)).code, w32 r] :=
  State.journal_journalled ..

theorem State.reportBreak_grows (c : BreakClass) (r : Nat) : State.Grows 1 s (s.reportBreak f n c r) :=
  (State.Grows.count ..).trans (State.Grows.journal ..)

end

/-! ### The break before its report -/

/-- The spindle takes the class of its break. -/
def State.classed (f n : Nat) (c : BreakClass) (s : State) : State :=
  s.setSpindle f n { s.spindle f n with lastClass := some c }

/-- The break settled, and its repeat count (R9, R33). -/
def State.broken (f n : Nat) (c : BreakClass) (s : State) : State × Nat :=
  match c with
  | .starve => (s.setSpindle f n ((s.spindle f n).to .starved), 0)
  | .doffStart => (s.makeDown f n, 0)
  | .proveFail => (s.settleProveFail f n, 0)
  | .run =>
    let v := s.rogue.lookup (spindleKey f n) s.clock (600 * s.settings.rogueWindow) s.settings.rogueLimit
    (if v.2.rogue then { s with rogue := v.1 }.cutSpindle f n .rogue else { s with rogue := v.1 }.makeDown f n,
      v.2.repeats)

section
variable {s : State} {f n : Nat} {c : BreakClass}

theorem State.settleBreak_eq : s.settleBreak f n c =
    let k := if (s.creel (creelNo f ((n - 1) / 24 + 1))).remaining = 0 then .starve else c
    let t := (s.classed f n k).broken f n k
    t.1.reportBreak f n k t.2 := by
  have hcreel : creelOfSpindle f n = creelNo f ((n - 1) / 24 + 1) := rfl
  unfold State.settleBreak
  rw [hcreel]
  dsimp only
  generalize (if (s.creel (creelNo f ((n - 1) / 24 + 1))).remaining = 0 then BreakClass.starve else c) = k
  cases k
  case starve => rfl
  case doffStart => rfl
  case proveFail => rfl
  case run =>
    simp only [State.broken, State.classed, Nat.mul_comm 600]
    split <;> rfl

section
variable (hs : s.formed = true)
include hs

theorem State.classed_formed : (s.classed f n c).formed = true := State.setSpindle_formed _ _ _ _ hs

theorem State.classed_spindle : (s.classed f n c).spindle f n = { s.spindle f n with lastClass := some c } :=
  State.setSpindle_formed_same _ _ _ _ hs

/-- The state with the table of a lookup. -/
theorem State.rogueLookup_formed : State.formed { s with rogue := (s.rogue.lookup (spindleKey f n) s.clock
    (600 * s.settings.rogueWindow) s.settings.rogueLimit).1 } = true := by
  have hrogue : s.rogue.formed = true := by
    simp only [State.formed, Bool.and_eq_true] at hs
    simp [hs]
  have hlookup := RogueTable.lookup_formed s.rogue (spindleKey f n) s.clock (600 * s.settings.rogueWindow)
    s.settings.rogueLimit hrogue
  simp only [State.formed, Bool.and_eq_true] at hs ⊢
  simp [hs, hlookup]

theorem State.makeDown_class : ((s.makeDown f n).spindle f n).state = .down ∧
    ((s.makeDown f n).spindle f n).listed = decide ((s.side (sideOf f n)).entries.length < 64) ∧
    ((s.makeDown f n).spindle f n).lastClass = (s.spindle f n).lastClass ∧
    ((s.makeDown f n).spindle f n).attempts = (s.spindle f n).attempts := by
  rw [State.makeDown_spindle_same f n hs]
  exact ⟨rfl, rfl, rfl, rfl⟩

end

theorem State.makeDown_rogue : (s.makeDown f n).rogue = s.rogue :=
  State.makeDown_keeps f n s State.rogue (by simp) (by simp)

theorem State.makeDown_output : (s.makeDown f n).output = s.output :=
  State.makeDown_keeps f n s State.output (by simp) (by simp)

/-! ### A failed proof (R11, R59) -/

/-- The spindle with the failure on its account. -/
def State.charged (f n : Nat) (s : State) : State := s.setSpindle f n (s.spindle f n).failed

theorem State.settleProveFail_eq : s.settleProveFail f n =
    if s.settings.attemptLimit ≤ min 7 ((s.spindle f n).attempts + 1) then
      ((s.charged f n).cutSpindle f n .attempts).pieceFail f n 0 0#16 .proveFail none true
    else ((s.charged f n).makeDown f n).pieceFail f n 0 0#16 .proveFail none false := by
  have hsettings : (s.charged f n).settings = s.settings := State.settings_of_plan (State.setSpindle_plan ..)
  have heq : s.settleProveFail f n =
      if (s.charged f n).settings.attemptLimit ≤ (s.spindle f n).failed.attempts then
        ((s.charged f n).cutSpindle f n .attempts).pieceFail f n 0 0#16 .proveFail none true
      else ((s.charged f n).makeDown f n).pieceFail f n 0 0#16 .proveFail none false := rfl
  rw [heq, hsettings]
  rfl

theorem settleProveFail_rogue : (s.settleProveFail f n).rogue = s.rogue := by
  rw [State.settleProveFail_eq]
  split
  · rw [State.pieceFail_keeps State.rogue (by simp) (by simp),
      State.cutSpindle_keeps State.rogue (by simp) (by simp) (by simp),
      State.charged, State.setSpindle_rogue]
  · rw [State.pieceFail_keeps State.rogue (by simp) (by simp), State.makeDown_rogue, State.charged,
      State.setSpindle_rogue]

/-- Below the limit the spindle is DOWN, at the limit CUT_OUT. -/
theorem settleProveFail_effect (hs : s.formed = true) :
    let attempts := min 7 ((s.spindle f n).attempts + 1)
    let u := s.settleProveFail f n
    let y := u.spindle f n
    y.attempts = attempts ∧ y.lastClass = (s.spindle f n).lastClass ∧
    (attempts < s.settings.attemptLimit → y.state = .down ∧
      y.listed = decide ((s.side (sideOf f n)).entries.length < 64) ∧
      (∀ w, State.Grows 1 u w → w.journalled .pieceFail f 0 [w32 n, 0#32, 6#32, 0#32, w32 attempts, 0#32]) ∧
      State.Counted f Counts.addFailure s u) ∧
    (s.settings.attemptLimit ≤ attempts → y.state = .cutOut ∧ y.cutCause = some .attempts ∧ u.disp = s.disp ∧
      (∀ w, State.Grows 1 u w → w.journalled .pieceFail f 0 [w32 n, 0#32, 6#32, 0#32, w32 attempts, 1#32]) ∧
      State.Counted f (Counts.addFailure ∘ Counts.addCut .attempts) s u) := by
  intro attempts u y
  have ht : (s.charged f n).formed = true := State.setSpindle_formed _ _ _ _ hs
  have hx : (s.charged f n).spindle f n = (s.spindle f n).failed := State.setSpindle_formed_same _ _ _ _ hs
  have hside : (s.charged f n).side (sideOf f n) = s.side (sideOf f n) := State.setSpindle_side ..
  have hcharged : State.Counted f id s (s.charged f n) := State.counted_of_output (State.setSpindle_output ..)
  have hattempts : (s.spindle f n).failed.attempts = attempts := rfl
  by_cases hlimit : s.settings.attemptLimit ≤ attempts
  · have hu : u = ((s.charged f n).cutSpindle f n .attempts).pieceFail f n 0 0#16 .proveFail none true := by
      simp only [u, State.settleProveFail_eq]
      exact if_pos hlimit
    have hcut : ((s.charged f n).cutSpindle f n .attempts).spindle f n =
        { (s.spindle f n).failed.to .cutOut with cutCause := some .attempts, saved := none } := by
      rw [State.cutSpindle_spindle_same ht, hx]
    have hy : y = { (s.spindle f n).failed.to .cutOut with cutCause := some .attempts, saved := none } := by
      simp only [y]
      rw [hu, State.pieceFail_keeps (fun t => t.spindle f n) (by simp) (by simp)]
      exact hcut
    have hjournalled {w : State} := State.pieceFail_journalled (s := (s.charged f n).cutSpindle f n .attempts) (f := f)
      (n := n) 0 0#16 .proveFail true (u := w)
    simp only [hcut] at hjournalled
    have hcounted := (hcharged.trans (State.counted_cutSpindle ht .attempts)).trans
      (State.counted_pieceFail (n := n) (State.cutSpindle_formed f n .attempts _ ht) 0 0#16 .proveFail none true)
    rw [hy, hu]
    refine ⟨rfl, rfl, fun hlow => absurd hlimit (Nat.not_le.mpr hlow),
      fun _ => ⟨rfl, rfl, ?_, fun _ => hjournalled, hcounted⟩⟩
    rw [State.pieceFail_keeps State.disp (by simp) (by simp),
      State.cutSpindle_keeps State.disp (by simp) (by simp) (by simp)]
    exact State.setSpindle_disp ..
  · have hu : u = ((s.charged f n).makeDown f n).pieceFail f n 0 0#16 .proveFail none false := by
      simp only [u, State.settleProveFail_eq]
      exact if_neg hlimit
    have hy : y = ((s.charged f n).makeDown f n).spindle f n := by
      simp only [y]
      rw [hu, State.pieceFail_keeps (fun t => t.spindle f n) (by simp) (by simp)]
    obtain ⟨hstate, hlisted, hclass, hcount⟩ := State.makeDown_class (f := f) (n := n) ht
    have hjournalled {w : State} := State.pieceFail_journalled (s := (s.charged f n).makeDown f n) (f := f) (n := n) 0
      0#16 .proveFail false (u := w)
    simp only [hcount, hx, hattempts] at hjournalled
    have hcounted := (hcharged.trans (State.counted_of_output State.makeDown_output)).trans
      (State.counted_pieceFail (f := f) (n := n) (State.makeDown_formed f n _ ht) 0 0#16 .proveFail none false)
    rw [hside] at hlisted
    rw [hy, hu]
    refine ⟨?_, ?_, fun _ => ⟨hstate, hlisted, fun _ => hjournalled, hcounted⟩, fun hle => absurd hle hlimit⟩
    · rw [hcount, hx]
      rfl
    · rw [hclass, hx]
      rfl

end

section
variable {s : State} {f n : Nat} (hs : s.formed = true)
include hs

/-- A break settled leaves the class. -/
theorem State.broken_lastClass (k : BreakClass) :
    ((s.broken f n k).1.spindle f n).lastClass = (s.spindle f n).lastClass := by
  cases k
  case starve =>
    unfold State.broken
    rw [State.setSpindle_formed_same _ _ _ _ hs]
    rfl
  case doffStart => exact (State.makeDown_class hs).2.2.1
  case proveFail => exact (settleProveFail_effect hs).2.1
  case run =>
    have hlookup := State.rogueLookup_formed (f := f) (n := n) hs
    unfold State.broken
    dsimp only
    split
    · rw [State.cutSpindle_spindle_same hlookup]
      rfl
    · exact (State.makeDown_class hlookup).2.2.1

end

/-- Settles O24: a break is settled by its class and its section. -/
theorem breaksAreSettled : Obligations.BreaksAreSettled := by
  unfold Obligations.BreaksAreSettled
  intro s f n c hs empty u x y room outcome up counts a
  have hsettled (k : BreakClass) (hk : (if (s.creel (creelNo f ((n - 1) / 24 + 1))).remaining = 0 then .starve else c) = k) :
      u = ((s.classed f n k).broken f n k).1.reportBreak f n k ((s.classed f n k).broken f n k).2 := by
    have hu : u = _ := State.settleBreak_eq
    rw [hu, hk]
  have hclassed (k : BreakClass) : State.Counted f id s (s.classed f n k) :=
    State.counted_of_output (State.setSpindle_output ..)
  have hreported {t : State} {k : BreakClass} {r : Nat} {g : Counts → Counts} (hu : u = t.reportBreak f n k r)
      (ht : t.formed = true) (hg : State.Counted f g s t) : y = t.spindle f n ∧ u.rogue = t.rogue ∧ u.disp = t.disp ∧
        counts (Counts.addBreak k (g a)) ∧ u.journalled .break f 0 [w32 n, w32 k.code, outcome, w32 r] ∧
        State.Grows 1 t u := by
    have hy : y = t.spindle f n := by simp only [y, hu, State.reportBreak_spindle]
    have hcounted := hg.trans (State.counted_reportBreak (f := f) (n := n) ht k r)
    have houtcome : outcome = w32 (breakOutcome (t.spindle f n)).code := by
      rw [breakOutcome_code, ← hy]
    refine ⟨hy, ?_, ?_, ?_, ?_, ?_⟩
    · rw [hu, State.reportBreak_rogue]
    · rw [hu, State.reportBreak_disp]
    · simp only [counts]
      rw [hu]
      exact hcounted.2
    · rw [houtcome, hu]
      exact State.reportBreak_journalled ..
    · rw [hu]
      exact State.reportBreak_grows ..
  have hside (k : BreakClass) : (s.classed f n k).side (sideOf f n) = s.side (sideOf f n) := State.setSpindle_side ..
  have hrogue (k : BreakClass) : (s.classed f n k).rogue = s.rogue := State.setSpindle_rogue ..
  have hdisp (k : BreakClass) : (s.classed f n k).disp = s.disp := State.setSpindle_disp ..
  have hclock (k : BreakClass) : (s.classed f n k).clock = s.clock := State.setSpindle_clock ..
  have hsettings (k : BreakClass) : (s.classed f n k).settings = s.settings :=
    State.settings_of_plan (State.setSpindle_plan ..)
  refine ⟨fun hempty => ?_, fun hsome => ?_⟩
  · have ht := State.classed_formed (f := f) (n := n) (c := .starve) hs
    have hx := State.classed_spindle (f := f) (n := n) (c := .starve) hs
    have hu : u = ((s.classed f n .starve).setSpindle f n (((s.classed f n .starve).spindle f n).to .starved)).reportBreak
        f n .starve 0 := hsettled .starve (if_pos hempty)
    obtain ⟨hy, hrogue', hdisp', hcounts, hjournalled, _⟩ := hreported hu
      (State.setSpindle_formed f n _ _ ht) ((hclassed .starve).trans (State.counted_of_output (State.setSpindle_output ..)))
    rw [State.setSpindle_formed_same _ _ _ _ ht, hx] at hy
    have houtcome : outcome = 3#32 := if_pos (by rw [hy]; rfl)
    rw [houtcome] at hjournalled
    refine ⟨by rw [hy]; rfl, by rw [hy]; rfl, by rw [hy]; rfl, ?_, ?_, hcounts, hjournalled⟩
    · rw [hrogue', State.setSpindle_rogue, hrogue]
    · rw [hdisp', State.setSpindle_disp, hdisp]
  · have hu := hsettled c (if_neg hsome)
    have ht := State.classed_formed (f := f) (n := n) (c := c) hs
    have hx := State.classed_spindle (f := f) (n := n) (c := c) hs
    refine ⟨?_, fun hk => ?_, fun hk => ?_, fun hk => ?_⟩
    · have hy : y = ((s.classed f n c).broken f n c).1.spindle f n := by
        simp only [y]
        rw [hu, State.reportBreak_spindle]
      rw [hy, State.broken_lastClass ht, hx]
    · subst hk
      obtain ⟨hy, hrogue', _, hcounts, hjournalled, _⟩ := hreported (t := (s.classed f n .doffStart).makeDown f n) hu
        (State.makeDown_formed f n _ ht) ((hclassed .doffStart).trans (State.counted_of_output State.makeDown_output))
      obtain ⟨hstate, hlisted, _⟩ := State.makeDown_class (f := f) (n := n) ht
      rw [hside] at hlisted
      rw [hy]
      exact ⟨hstate, hlisted, by rw [hrogue', State.makeDown_rogue, hrogue], hcounts, hjournalled⟩
    · subst hk
      intro v
      have hlookup := State.rogueLookup_formed (f := f) (n := n) ht
      have hv : (s.classed f n .run).rogue.lookup (spindleKey f n) (s.classed f n .run).clock
          (600 * (s.classed f n .run).settings.rogueWindow) (s.classed f n .run).settings.rogueLimit = v := by
        rw [hrogue, hclock, hsettings]
      rw [hv] at hlookup
      have hbroken : (s.classed f n .run).broken f n .run = (if v.2.rogue
          then State.cutSpindle f n .rogue { s.classed f n .run with rogue := v.1 }
          else State.makeDown f n { s.classed f n .run with rogue := v.1 }, v.2.repeats) := by
        rw [← hv]
        rfl
      have htable : State.Counted f id s { s.classed f n .run with rogue := v.1 } := hclassed .run
      rw [hbroken] at hu
      by_cases hv2 : v.2.rogue = true
      · rw [if_pos hv2] at hu
        obtain ⟨hy, hrogue', hdisp', hcounts, hjournalled, _⟩ := hreported hu
          (State.cutSpindle_formed f n .rogue _ hlookup) (htable.trans (State.counted_cutSpindle hlookup .rogue))
        rw [State.cutSpindle_spindle_same hlookup] at hy
        refine ⟨?_, hjournalled, fun _ => ⟨by rw [hy]; rfl, by rw [hy], ?_, hcounts⟩,
          fun hno => absurd (hno.symm.trans hv2) (by decide)⟩
        · rw [hrogue', State.cutSpindle_keeps State.rogue (by simp) (by simp) (by simp)]
        · rw [hdisp', State.cutSpindle_keeps State.disp (by simp) (by simp) (by simp)]
          exact hdisp .run
      · rw [if_neg hv2] at hu
        obtain ⟨hy, hrogue', _, hcounts, hjournalled, _⟩ := hreported hu
          (State.makeDown_formed f n _ hlookup) (htable.trans (State.counted_of_output State.makeDown_output))
        obtain ⟨hstate, hlisted, _⟩ := State.makeDown_class (f := f) (n := n) hlookup
        refine ⟨by rw [hrogue', State.makeDown_rogue], hjournalled, fun hyes => absurd hyes hv2,
          fun _ => ⟨?_, ?_, hcounts⟩⟩
        · rw [hy, hstate]
        · rw [hy, hlisted]
          exact congrArg (fun d : Side => decide (d.entries.length < 64)) (hside .run)
    · subst hk
      intro attempts
      obtain ⟨hattempts, _, hlow, hhigh⟩ := settleProveFail_effect (f := f) (n := n) ht
      rw [hside, hsettings, hx] at hlow
      rw [hsettings, hx] at hhigh
      rw [hx] at hattempts
      have hcounted : ∃ g, State.Counted f g (s.classed f n .proveFail) ((s.classed f n .proveFail).settleProveFail f n) := by
        by_cases h : attempts < s.settings.attemptLimit
        · exact ⟨_, (hlow h).2.2.2⟩
        · exact ⟨_, (hhigh (Nat.not_lt.mp h)).2.2.2.2⟩
      obtain ⟨g, hg⟩ := hcounted
      obtain ⟨hy, hrogue', hdisp', _, hjournalled, hgrows⟩ := hreported
        (t := (s.classed f n .proveFail).settleProveFail f n) hu (State.settleProveFail_formed f n _ ht)
        ((hclassed .proveFail).trans hg)
      refine ⟨by rw [hy]; exact hattempts, ?_, hjournalled, fun hless => ?_, fun hmore => ?_⟩
      · rw [hrogue', settleProveFail_rogue, hrogue]
      · obtain ⟨hstate, hlisted, hfail, hcount⟩ := hlow hless
        obtain ⟨_, _, _, hcounts, _⟩ := hreported (t := (s.classed f n .proveFail).settleProveFail f n) hu
          (State.settleProveFail_formed f n _ ht) ((hclassed .proveFail).trans hcount)
        rw [hy]
        exact ⟨hstate, hlisted, hfail u hgrows, hcounts⟩
      · obtain ⟨hstate, hcause, hlists, hfail, hcount⟩ := hhigh hmore
        obtain ⟨_, _, _, hcounts, _⟩ := hreported (t := (s.classed f n .proveFail).settleProveFail f n) hu
          (State.settleProveFail_formed f n _ ht) ((hclassed .proveFail).trans hcount)
        rw [hy]
        exact ⟨hstate, hcause, by rw [hdisp', hlists, hdisp], hfail u hgrows, hcounts⟩

end Sys2Proof.Machine
end

section
/-! PROOFS. The order board's invariant (R150, R172, R174): it lets the PLAN_SWITCH whose copy is read stand in the
deferred list, and such an order enters the book without leaving that list. -/

namespace Sys2Proof.Machine

/-- A valid plan copy, id 77, with every frame out of plan, and its check word at the end. -/
def emptyPlanCopy : List Word :=
  let l := [77, 100, 50, 1, 1, 1, 4, 2, 10, 1, 10, 30, 1, 1, 10, 60, 60, 60, 1].map w32 ++ List.replicate 2028 0#32
  l ++ [~~~ l.foldl (· + ·) 0#32]

/-- A PLAN_SWITCH of copy Q with mode SHIFT_END, read from cell 1. -/
def deferredSwitch : CellRead := ⟨1, 5#32, 1#32, 2#32, 2#32, 0#32, 0#32, true⟩

/-- A part RUNNING that has read all but the last word of the copy for a PLAN_SWITCH whose cell stands in the deferred
list. The bus has granted the read of that word, which the host writes with the last beat. -/
def deferredReading : State := { State.reset with
  regs := { State.reset.regs with run := true, part := .running }
  writer := { State.reset.writer with capacity := 256 }
  plan := { State.reset.plan with read := some ⟨.q, (emptyPlanCopy.take 2047).reverse⟩ }
  desk := { State.reset.desk with scan := some (.taking [deferredSwitch]), deferred := [(1, 5#32)] }
  port := ⟨some ⟨.planStore, false, 0, 1, 0, []⟩, [], true, true, ⟨false, 0⟩, false⟩
  pending := [.memoryBeat [(0, emptyPlanCopy.getD 2047 0#32)]] }

theorem deferredReading_sound : deferredReading.sound = true := by decide

theorem deferredReading_formed : deferredReading.formed = true := by decide

theorem deferredReading_booked : deferredReading.booked = true := by decide

/-- With the copy's last word the switch becomes pending: its cell is TAKEN and still in the deferred list. -/
theorem step_deferredReading_unbooked : ∃ t, step deferredReading = .next t ∧ t.booked = false :=
  ⟨_, rfl, by decide +kernel⟩

/-- Refutes O5: nothing in the invariant keeps the cell of the PLAN_SWITCH whose copy is read out of the deferred list.
When the copy has been read whole the order enters the book (SHIFT_END) without leaving that list, which then names a
TAKEN cell. -/
theorem not_everyStepKeepsTheBook : ¬ Obligations.EveryStepKeepsTheBook := by
  unfold Obligations.EveryStepKeepsTheBook
  intro ⟨_, hkeeps⟩
  obtain ⟨t, hstep, hunbooked⟩ := step_deferredReading_unbooked
  have hbooked := hkeeps _ t deferredReading_sound deferredReading_formed deferredReading_booked hstep
  rw [hunbooked] at hbooked
  exact Bool.false_ne_true hbooked

end Sys2Proof.Machine
end

section
/-! PROOFS. What the records' operations leave alone: the page view, the page and its waits, the items that wait to be
written, the attention causes, the Repeat-Breaker Table and the pending switch's order. -/

namespace Sys2Proof.Machine

/-- The state `t` comes from `s` by work on the records: counts go to an open page only, causes are only raised, an item
other than a cell's waits on, and the order of a pending PLAN_SWITCH stays in a book of distinct cells. -/
structure State.Works (s t : State) : Prop where
  output : t.output = { s.output with rollers := t.output.rollers, counts := t.output.counts }
  counts : s.output.page = none → t.output.counts = s.output.counts
  att : ∃ w, t.regs.att = s.regs.att ||| w
  queue : ∀ i, i.ofCell = false → i ∈ s.writer.queue → i ∈ t.writer.queue
  rogue : t.rogue = s.rogue
  plan : t.plan = s.plan
  cells : List.Sublist (t.desk.book.map BookEntry.cell) (s.desk.book.map BookEntry.cell)
  switch : (s.desk.book.map BookEntry.cell).Nodup → ∀ b, b ∈ s.desk.book → b.kind = .planSwitch → b ∈ t.desk.book

section
variable {o s t : State}

@[simp] theorem State.Works.refl : s.Works s :=
  ⟨rfl, fun _ => rfl, ⟨0#32, by simp⟩, fun _ _ h => h, rfl, rfl, List.Sublist.refl _, fun _ _ h _ => h⟩

theorem State.Works.trans (h : o.Works s) (k : s.Works t) : o.Works t where
  output := by rw [k.output, h.output]
  counts hp := (k.counts (by rw [h.output]; exact hp)).trans (h.counts hp)
  att := by
    obtain ⟨v, hv⟩ := h.att
    obtain ⟨w, hw⟩ := k.att
    exact ⟨v ||| w, by rw [hw, hv, BitVec.or_assoc]⟩
  queue i hi hm := k.queue i hi (h.queue i hi hm)
  rogue := k.rogue.trans h.rogue
  plan := k.plan.trans h.plan
  cells := k.cells.trans h.cells
  switch hn b hb hk := k.switch (hn.sublist h.cells) b (h.switch hn b hb hk) hk

/-- A step that leaves the registers, the table and the desk alone. -/
theorem State.Works.of_keeps (houtput : t.output = { s.output with rollers := t.output.rollers })
    (hatt : t.regs.att = s.regs.att) (hqueue : ∀ i, i.ofCell = false → i ∈ s.writer.queue → i ∈ t.writer.queue)
    (hrogue : t.rogue = s.rogue) (hplan : t.plan = s.plan) (hbook : t.desk.book = s.desk.book) : s.Works t where
  output := by rw [houtput]
  counts _ := by rw [houtput]
  att := ⟨0#32, by simp [hatt]⟩
  queue := hqueue
  rogue := hrogue
  plan := hplan
  cells := by rw [hbook]
  switch _ b hb _ := hbook ▸ hb

/-! ### The operations on the records -/

@[simp] theorem State.each_works {α : Type} (l : List α) (g : α → State → State)
    (hg : ∀ x t, o.Works t → o.Works (g x t)) (h : o.Works s) : o.Works (s.each l g) := by
  induction l generalizing s with
  | nil => exact h
  | cons x l ih => exact ih (hg x s h)

@[simp] theorem State.ite_works (c : Prop) [Decidable c] (hs : o.Works s) (ht : o.Works t) :
    o.Works (if c then s else t) := by
  split
  · exact hs
  · exact ht

@[simp] theorem State.markItem_works (i : WriteItem) (h : o.Works s) : o.Works (s.markItem i) :=
  h.trans (State.Works.of_keeps (by unfold State.markItem; split <;> rfl) (by unfold State.markItem; split <;> rfl)
    (fun _ _ hm => State.mem_markItem.mpr (.inl hm)) (by unfold State.markItem; split <;> rfl)
    (by unfold State.markItem; split <;> rfl) (by unfold State.markItem; split <;> rfl))

@[simp] theorem State.markIf_works (b : Bool) (i : WriteItem) (h : o.Works s) : o.Works (s.markIf b i) := by
  unfold State.markIf
  split <;> simp [h]

@[simp] theorem State.raise_works (c : Cause) (h : o.Works s) : o.Works (s.raise c) :=
  h.trans ⟨rfl, fun _ => rfl, ⟨c.bit, rfl⟩, fun _ _ hm => hm, rfl, rfl, List.Sublist.refl _, fun _ _ hb _ => hb⟩

/-- Work that was done, and a table, a queue or a note of what is owed besides. -/
theorem State.Works.congr (h : o.Works s) (houtput : t.output = { s.output with rollers := t.output.rollers })
    (hregs : t.regs = s.regs) (hwriter : t.writer = s.writer) (hrogue : t.rogue = s.rogue)
    (hplan : t.plan = s.plan) (hdesk : t.desk = s.desk) : o.Works t :=
  h.trans (State.Works.of_keeps houtput (by rw [hregs]) (fun _ _ hm => hwriter ▸ hm) hrogue hplan (by rw [hdesk]))

@[simp] theorem State.setSpindle_works (f n : Nat) (x : Spindle) (h : o.Works s) : o.Works (s.setSpindle f n x) :=
  State.markIf_works _ _ (State.markIf_works _ _ (h.congr rfl rfl rfl rfl rfl rfl))
@[simp] theorem State.setStrip_works (c : Nat) (x : Strip) (h : o.Works s) : o.Works (s.setStrip c x) :=
  State.markIf_works _ _ (h.congr rfl rfl rfl rfl rfl rfl)
@[simp] theorem State.setSweep_works (f : Nat) (x : Sweep) (h : o.Works s) : o.Works (s.setSweep f x) :=
  h.congr rfl rfl rfl rfl rfl rfl
@[simp] theorem State.setSide_works (d : Nat) (x : Side) (h : o.Works s) : o.Works (s.setSide d x) :=
  State.markIf_works _ _ (h.congr rfl rfl rfl rfl rfl rfl)
@[simp] theorem State.setPiecer_works (p : Nat) (x : Piecer) (h : o.Works s) : o.Works (s.setPiecer p x) :=
  State.markIf_works _ _ (h.congr rfl rfl rfl rfl rfl rfl)
@[simp] theorem State.setFrame_works (f : Nat) (x : Frame) (h : o.Works s) : o.Works (s.setFrame f x) :=
  State.markIf_works _ _ (h.congr rfl rfl rfl rfl rfl rfl)
@[simp] theorem State.setCreel_works (c : Nat) (x : Creel) (h : o.Works s) : o.Works (s.setCreel c x) :=
  State.markIf_works _ _ (h.congr rfl rfl rfl rfl rfl rfl)
@[simp] theorem State.setCarrier_works (c : Nat) (x : Carrier) (h : o.Works s) : o.Works (s.setCarrier c x) :=
  State.markIf_works _ _ (h.congr rfl rfl rfl rfl rfl rfl)
@[simp] theorem State.setFeed_works (f : Nat) (x : Feed) (h : o.Works s) : o.Works (s.setFeed f x) :=
  h.congr rfl rfl rfl rfl rfl rfl
@[simp] theorem State.setRoller_works (f : Nat) (x : Roller) (h : o.Works s) : o.Works (s.setRoller f x) :=
  h.congr rfl rfl rfl rfl rfl rfl
@[simp] theorem State.setUnit_works (a : Nat) (x : Unit) (h : o.Works s) : o.Works (s.setUnit a x) :=
  State.markIf_works _ _ (h.congr rfl rfl rfl rfl rfl rfl)
@[simp] theorem State.oweArbiter_works (h : o.Works s) : o.Works s.oweArbiter := h.congr rfl rfl rfl rfl rfl rfl
@[simp] theorem State.oweRefill_works (h : o.Works s) : o.Works s.oweRefill := h.congr rfl rfl rfl rfl rfl rfl
@[simp] theorem State.oweRelist_works (d : Nat) (h : o.Works s) : o.Works (s.oweRelist d) :=
  h.congr rfl rfl rfl rfl rfl rfl
@[simp] theorem State.work_works (w : Work) (h : o.Works s) : o.Works { s with work := w } :=
  h.congr rfl rfl rfl rfl rfl rfl
@[simp] theorem State.changeQueue_works (l : List Nat) (h : o.Works s) :
    o.Works { s with roving := { s.roving with queue := l } } := h.congr rfl rfl rfl rfl rfl rfl

@[simp] theorem State.enterJournal_works (e : JournalEntry) (h : o.Works s) : o.Works (s.enterJournal e) := by
  unfold State.enterJournal State.pend
  split
  · exact h.trans (State.Works.of_keeps rfl rfl (fun _ _ hm => List.mem_append_left _ hm) rfl rfl rfl)
  · exact h.trans (State.Works.of_keeps rfl rfl (fun _ _ hm => by rw [dropOldest_queue]; exact hm) rfl rfl rfl)

@[simp] theorem State.journal_works (k : JournalKind) (f n : Nat) (l : List Word) (h : o.Works s) :
    o.Works (s.journal k f n l) := by
  unfold State.journal
  split <;> simp [h]

@[simp] theorem State.count_works (f : Nat) (g : Counts → Counts) (h : o.Works s) : o.Works (s.count f g) := by
  unfold State.count
  split
  · exact h
  · next hpage =>
    exact State.markItem_works _ (h.trans ⟨rfl, fun hp => absurd (hp.symm.trans hpage) nofun, ⟨0#32, by simp⟩,
      fun _ _ hm => hm, rfl, rfl, List.Sublist.refl _, fun _ _ hb _ => hb⟩)

/-- An item of no cell waits on when orders end. -/
theorem State.finishBook_queue {sel : BookEntry → Bool} {a : Option Reason} {l : List Word} {i : WriteItem}
    (hi : i.ofCell = false) (hm : i ∈ s.writer.queue) : i ∈ (s.finishBook sel a l).writer.queue := by
  unfold State.finishBook
  generalize (s.desk.book.filter sel).map BookEntry.cell = cells
  induction cells generalizing s with
  | nil => exact hm
  | cons c cells ih => exact ih (State.mem_finish_of_mem (fun h => by rw [h] at hi; cases hi) hm)

/-- The book after orders have ended is a part of what it was. -/
theorem State.finishBook_book_sublist (sel : BookEntry → Bool) (a : Option Reason) (l : List Word) :
    List.Sublist (s.finishBook sel a l).desk.book s.desk.book := by
  unfold State.finishBook
  generalize (s.desk.book.filter sel).map BookEntry.cell = cells
  induction cells generalizing s with
  | nil => exact List.Sublist.refl _
  | cons c cells ih => exact ih.trans (State.finish_book c l ▸ List.filter_sublist)

/-- Orders of other kinds than PLAN_SWITCH end. -/
@[simp] theorem State.finishBook_works (sel : BookEntry → Bool) (a : Option Reason) (l : List Word)
    (hsel : ∀ b, b.kind = .planSwitch → sel b = false) (h : o.Works s) : o.Works (s.finishBook sel a l) :=
  h.trans {
    output := by simp
    counts := fun _ => by simp
    att := ⟨0#32, by simp⟩
    queue := fun _ hi hm => State.finishBook_queue hi hm
    rogue := by simp
    plan := by simp
    cells := (State.finishBook_book_sublist sel a l).map _
    switch := fun hn b hb hk => State.mem_finishBook_of_not_picked hn hb (hsel b hk) }

/-- An order on a frame or a piecer is no PLAN_SWITCH. -/
@[simp] theorem orderOn_planSwitch {k : OrderKind} {n : Nat} {b : BookEntry} (hk : k ≠ .planSwitch)
    (hb : b.kind = .planSwitch) : orderOn k n b = false := by
  simp [orderOn, hb, Ne.symm hk]

@[simp] theorem orderOnSection_planSwitch {k : OrderKind} {f n : Nat} {b : BookEntry} (hk : k ≠ .planSwitch)
    (hb : b.kind = .planSwitch) : orderOnSection k f n b = false := by
  simp [orderOnSection, hb, Ne.symm hk]

@[simp] theorem State.alarm_works (f : Nat) (h : o.Works s) : o.Works (s.alarm f) := by
  unfold State.alarm
  (repeat' split) <;> simp +contextual (maxDischargeDepth := 40) [h]

@[simp] theorem State.unitAlarm_works (f : Nat) (h : o.Works s) : o.Works (s.unitAlarm f) := by
  unfold State.unitAlarm
  (repeat' split) <;> simp +contextual (maxDischargeDepth := 40) [h]

@[simp] theorem State.journalLost_works (a : Nat) (cause : Word) (h : o.Works s) : o.Works (s.journalLost a cause) := by
  unfold State.journalLost
  (repeat' split) <;> simp +contextual (maxDischargeDepth := 40) [h]

@[simp] theorem State.loseUnit_works (a : Nat) (cause : Word) (h : o.Works s) : o.Works (s.loseUnit a cause) :=
  State.raise_works _ (State.journalLost_works _ _ ((State.setUnit_works a ((s.unit a).lostAt s.clock) h).congr rfl rfl rfl rfl rfl rfl))

@[simp] theorem State.hand_works (a : Nat) (c : Cmd) (h : o.Works s) : o.Works (s.hand a c) := by
  unfold State.hand
  dsimp only
  (repeat' split) <;> simp +contextual (maxDischargeDepth := 40) [h]

@[simp] theorem State.listSpindle_works (f n : Nat) (h : o.Works s) : o.Works (s.listSpindle f n) := by
  unfold State.listSpindle
  dsimp only
  (repeat' split) <;> simp +contextual (maxDischargeDepth := 40) [h]

@[simp] theorem State.removeEntry_works (f n : Nat) (h : o.Works s) : o.Works (s.removeEntry f n) := by
  unfold State.removeEntry
  dsimp only
  (repeat' split) <;> simp +contextual (maxDischargeDepth := 40) [h]

@[simp] theorem State.relist_works (d : Nat) (h : o.Works s) : o.Works (s.relist d) := by
  unfold State.relist
  (repeat' split) <;> simp +contextual (maxDischargeDepth := 40) [h]

@[simp] theorem State.pieced_works (f n : Nat) (h : o.Works s) : o.Works (s.pieced f n) := by
  unfold State.pieced
  (repeat' split) <;> simp +contextual (maxDischargeDepth := 40) [h]

@[simp] theorem State.carrierTakes_works (c k : Nat) (waiting : Holder) (h : o.Works s) :
    o.Works (s.carrierTakes c k waiting) := by
  unfold State.carrierTakes
  dsimp only
  (repeat' split) <;> simp +contextual (maxDischargeDepth := 40) [h]

@[simp] theorem State.piecerReleases_works (p k : Nat) (h : o.Works s) : o.Works (s.piecerReleases p k) := by
  unfold State.piecerReleases
  dsimp only
  (repeat' split) <;> simp +contextual (maxDischargeDepth := 40) [h]

@[simp] theorem State.carrierReleases_works (c k : Nat) (h : o.Works s) : o.Works (s.carrierReleases c k) := by
  unfold State.carrierReleases
  dsimp only
  (repeat' split) <;> simp +contextual (maxDischargeDepth := 40) [h]

@[simp] theorem State.claimAbandoned_works (f n : Nat) (h : o.Works s) : o.Works (s.claimAbandoned f n) := by
  unfold State.claimAbandoned
  dsimp only
  (repeat' split) <;> simp +contextual (maxDischargeDepth := 40) [h]

@[simp] theorem State.journalMove_works (p left dest : Nat) (r : Option MoveReason) (h : o.Works s) :
    o.Works (s.journalMove p left dest r) := by
  unfold State.journalMove
  (repeat' split) <;> simp +contextual (maxDischargeDepth := 40) [h]

@[simp] theorem State.unserve_works (p : Nat) (h : o.Works s) : o.Works (s.unserve p) := by
  unfold State.unserve
  (repeat' split) <;> simp +contextual (maxDischargeDepth := 40) [h]

@[simp] theorem State.sendToSide_works (p d : Nat) (r : MoveReason) (h : o.Works s) : o.Works (s.sendToSide p d r) := by
  unfold State.sendToSide
  dsimp only
  (repeat' split) <;> simp +contextual (maxDischargeDepth := 40) [h]

@[simp] theorem State.sendToBay_works (p : Nat) (placement : Placement) (r : Option MoveReason) (h : o.Works s) :
    o.Works (s.sendToBay p placement r) := by
  unfold State.sendToBay
  dsimp only
  (repeat' split) <;> simp +contextual (maxDischargeDepth := 40) [h]

@[simp] theorem State.attemptOver_works (p : Nat) (h : o.Works s) : o.Works (s.attemptOver p) := by
  unfold State.attemptOver
  dsimp only
  (repeat' split) <;> simp +contextual (maxDischargeDepth := 40) [h]

@[simp] theorem State.voidAttempt_works (p : Nat) (send : Bool) (h : o.Works s) : o.Works (s.voidAttempt p send) := by
  unfold State.voidAttempt
  dsimp only
  (repeat' split) <;> simp +contextual (maxDischargeDepth := 40) [h]

@[simp] theorem State.abandon_works (p : Nat) (h : o.Works s) : o.Works (s.abandon p) := by
  unfold State.abandon
  (repeat' split) <;> simp +contextual (maxDischargeDepth := 40) [h]

@[simp] theorem State.abandonDrain_works (f : Nat) (h : o.Works s) : o.Works (s.abandonDrain f) := by
  unfold State.abandonDrain
  (repeat' split) <;> simp +contextual (maxDischargeDepth := 40) [h]

@[simp] theorem State.piecerLost_works (p : Nat) (byLink : Bool) (h : o.Works s) : o.Works (s.piecerLost p byLink) := by
  unfold State.piecerLost
  dsimp only
  (repeat' split) <;> simp +contextual (maxDischargeDepth := 40) [h]

@[simp] theorem State.queueByStamp_works (c : Nat) (t : Word) (h : o.Works s) : o.Works (s.queueByStamp c t) :=
  State.Works.congr (State.setCreel_works c { s.creel c with state := .queued, queueStamp := some t } h) rfl rfl rfl rfl rfl rfl

@[simp] theorem State.displaceTail_works (h : o.Works s) : o.Works s.displaceTail := by
  unfold State.displaceTail
  split
  · exact h
  · split
    · exact h
    · exact State.Works.congr (State.setCreel_works _ _ h) rfl rfl rfl rfl rfl rfl

@[simp] theorem State.queueAtHead_works (c : Nat) (h : o.Works s) : o.Works (s.queueAtHead c) := by
  unfold State.queueAtHead
  dsimp only
  split <;> exact State.Works.congr (State.setCreel_works _ _ (State.displaceTail_works h)) rfl rfl rfl rfl rfl rfl

@[simp] theorem State.leaveQueue_works (c : Nat) (h : o.Works s) : o.Works (s.leaveQueue c) := by
  unfold State.leaveQueue
  (repeat' split) <;> simp +contextual (maxDischargeDepth := 40) [h]

@[simp] theorem refillN_works (n : Nat) (h : o.Works s) : o.Works (refillN n s) := by
  induction n generalizing s with
  | zero => exact h
  | succ n ih =>
    unfold refillN
    (repeat' split) <;> simp (maxDischargeDepth := 40) [h, ih]

@[simp] theorem State.refill_works (h : o.Works s) : o.Works s.refill := by
  unfold State.refill
  (repeat' split) <;> simp +contextual (maxDischargeDepth := 40) [h]

@[simp] theorem State.lowTest_works (c : Nat) (h : o.Works s) : o.Works (s.lowTest c) := by
  unfold State.lowTest
  dsimp only
  (repeat' split) <;> simp +contextual (maxDischargeDepth := 40) [h]

@[simp] theorem State.runOutSpindle_works (f n : Nat) (h : o.Works s) : o.Works (s.runOutSpindle f n) := by
  unfold State.runOutSpindle
  dsimp only
  (repeat' split) <;> simp +contextual (maxDischargeDepth := 40) [h]

@[simp] theorem State.runOutTest_works (c : Nat) (h : o.Works s) : o.Works (s.runOutTest c) := by
  unfold State.runOutTest
  dsimp only
  (repeat' split) <;> simp +contextual (maxDischargeDepth := 40) [h]

@[simp] theorem State.consume_works (f advance : Nat) (h : o.Works s) : o.Works (s.consume f advance) := by
  unfold State.consume
  dsimp only
  (repeat' split) <;> simp +contextual (maxDischargeDepth := 40) [h]

@[simp] theorem dispatchN_works (n : Nat) (h : o.Works s) : o.Works (dispatchN n s) := by
  induction n generalizing s with
  | zero => exact h
  | succ n ih =>
    unfold dispatchN
    dsimp only
    (repeat' split) <;> simp (maxDischargeDepth := 40) [h, ih]

@[simp] theorem State.dispatch_works (h : o.Works s) : o.Works s.dispatch := by
  unfold State.dispatch
  (repeat' split) <;> simp +contextual (maxDischargeDepth := 40) [h]

@[simp] theorem State.sendBack_works (c : Nat) (h : o.Works s) : o.Works (s.sendBack c) := by
  unfold State.sendBack
  (repeat' split) <;> simp +contextual (maxDischargeDepth := 40) [h]

@[simp] theorem State.failChange_works (c : Nat) (h : o.Works s) : o.Works (s.failChange c) := by
  unfold State.failChange
  dsimp only
  (repeat' split) <;> simp +contextual (maxDischargeDepth := 40) [h]

@[simp] theorem State.carrierLost_works (c : Nat) (h : o.Works s) : o.Works (s.carrierLost c) := by
  unfold State.carrierLost
  dsimp only
  (repeat' split) <;> simp +contextual (maxDischargeDepth := 40) [h]

@[simp] theorem State.queueNow_works (l : List Nat) (h : o.Works s) : o.Works (s.queueNow l) := by
  unfold State.queueNow
  (repeat' split) <;> simp +contextual (maxDischargeDepth := 40) [h]

@[simp] theorem State.creelOut_works (k : Nat) (h : o.Works s) : o.Works (s.creelOut k) := by
  unfold State.creelOut
  dsimp only
  (repeat' split) <;> simp +contextual (maxDischargeDepth := 40) [h]

@[simp] theorem State.closeStop_works (f : Nat) (h : o.Works s) : o.Works (s.closeStop f) := by
  unfold State.closeStop
  (repeat' split) <;> simp +contextual (maxDischargeDepth := 40) [h]

@[simp] theorem State.openStop_works (f : Nat) (h : o.Works s) : o.Works (s.openStop f) := by
  unfold State.openStop
  (repeat' split) <;> simp +contextual (maxDischargeDepth := 40) [h]

@[simp] theorem State.leaveFrameEnds_works (f : Nat) (h : o.Works s) : o.Works (s.leaveFrameEnds f) := by
  unfold State.leaveFrameEnds
  refine State.each_works _ _ (fun d t ht => ?_) h
  split <;> simp [ht]

@[simp] theorem State.enterState_works (f : Nat) (st : FrameState) (h : o.Works s) : o.Works (s.enterState f st) := by
  unfold State.enterState
  dsimp only
  (repeat' split) <;> simp +contextual (maxDischargeDepth := 40) [h]

@[simp] theorem State.handDrive_works (f : Nat) (c : Cmd) (h : o.Works s) : o.Works (s.handDrive f c) := by
  unfold State.handDrive
  (repeat' split) <;> simp +contextual (maxDischargeDepth := 40) [h]

@[simp] theorem State.grantSlot_works (f k : Nat) (h : o.Works s) : o.Works (s.grantSlot f k) := by
  unfold State.grantSlot
  dsimp only
  (repeat' split) <;> simp +contextual (maxDischargeDepth := 40) [h]

@[simp] theorem grantN_works (n : Nat) (h : o.Works s) : o.Works (grantN n s) := by
  induction n generalizing s with
  | zero => exact h
  | succ n ih =>
    unfold grantN
    (repeat' split) <;> simp (maxDischargeDepth := 40) [h, ih]

@[simp] theorem State.doffArbiter_works (h : o.Works s) : o.Works s.doffArbiter := by
  unfold State.doffArbiter
  (repeat' split) <;> simp +contextual (maxDischargeDepth := 40) [h]

@[simp] theorem State.callFrame_works (f : Nat) (c : CallCause) (h : o.Works s) : o.Works (s.callFrame f c) := by
  unfold State.callFrame
  dsimp only
  (repeat' split) <;> simp +contextual (maxDischargeDepth := 40) [h]

@[simp] theorem State.releaseSlot_works (f : Nat) (h : o.Works s) : o.Works (s.releaseSlot f) := by
  unfold State.releaseSlot
  (repeat' split) <;> simp +contextual (maxDischargeDepth := 40) [h]

@[simp] theorem State.completeDoff_works (f : Nat) (h : o.Works s) : o.Works (s.completeDoff f) := by
  unfold State.completeDoff
  dsimp only
  (repeat' split) <;> simp +contextual (maxDischargeDepth := 40) [h]

@[simp] theorem State.graceSpindle_works (f n : Nat) (afterDoff : Bool) (h : o.Works s) :
    o.Works (s.graceSpindle f n afterDoff) := by
  unfold State.graceSpindle
  dsimp only
  (repeat' split) <;> simp +contextual (maxDischargeDepth := 40) [h]

@[simp] theorem State.placeAt_works (f build : Nat) (c : CallCause) (h : o.Works s) :
    o.Works (s.placeAt f build c) := by
  unfold State.placeAt
  dsimp only
  (repeat' split) <;> simp +contextual (maxDischargeDepth := 40) [h]

@[simp] theorem State.placeByBuild_works (f : Nat) (c : CallCause) (h : o.Works s) : o.Works (s.placeByBuild f c) := by
  unfold State.placeByBuild
  (repeat' split) <;> simp +contextual (maxDischargeDepth := 40) [h]

@[simp] theorem State.graceEnd_works (f : Nat) (h : o.Works s) : o.Works (s.graceEnd f) := by
  unfold State.graceEnd
  dsimp only
  (repeat' split) <;> simp +contextual (maxDischargeDepth := 40) [h]

@[simp] theorem State.notice_works (f : Nat) (h : o.Works s) : o.Works (s.notice f) := by
  unfold State.notice
  dsimp only
  (repeat' split) <;> simp +contextual (maxDischargeDepth := 40) [h]

@[simp] theorem State.drainTest_works (f : Nat) (h : o.Works s) : o.Works (s.drainTest f) := by
  unfold State.drainTest
  dsimp only
  (repeat' split) <;> simp +contextual (maxDischargeDepth := 40) [h]

@[simp] theorem State.driveLost_works (f : Nat) (h : o.Works s) : o.Works (s.driveLost f) := by
  unfold State.driveLost
  (repeat' split) <;> simp +contextual (maxDischargeDepth := 40) [h]

@[simp] theorem State.updateStop_works (f : Nat) (h : o.Works s) : o.Works (s.updateStop f) := by
  unfold State.updateStop
  (repeat' split) <;> simp +contextual (maxDischargeDepth := 40) [h]

@[simp] theorem State.captureLengths_works (f running : Nat) (h : o.Works s) :
    o.Works (s.captureLengths f running) := by
  unfold State.captureLengths
  dsimp only
  (repeat' split) <;> simp +contextual (maxDischargeDepth := 40) [h]

@[simp] theorem State.sweepCapture_works (f running planned period : Nat) (h : o.Works s) :
    o.Works (s.sweepCapture f running planned period) := by
  unfold State.sweepCapture
  dsimp only
  (repeat' split) <;> simp +contextual (maxDischargeDepth := 40) [h]

@[simp] theorem State.boundaryCapture_works (f : Nat) (h : o.Works s) : o.Works (s.boundaryCapture f) := by
  unfold State.boundaryCapture
  dsimp only
  (repeat' split) <;> simp +contextual (maxDischargeDepth := 40) [h]

@[simp] theorem State.loadCompare_works (f : Nat) (h : o.Works s) : o.Works (s.loadCompare f) := by
  unfold State.loadCompare
  dsimp only
  (repeat' split) <;> simp +contextual (maxDischargeDepth := 40) [h]

@[simp] theorem State.checkReport_works (f k passed failed completion : Nat) (h : o.Works s) :
    o.Works (s.checkReport f k passed failed completion) := by
  unfold State.checkReport
  (repeat' split) <;> simp +contextual (maxDischargeDepth := 40) [h]

@[simp] theorem State.dropCheck_works (f k : Nat) (h : o.Works s) : o.Works (s.dropCheck f k) := by
  unfold State.dropCheck
  (repeat' split) <;> simp +contextual (maxDischargeDepth := 40) [h]

@[simp] theorem State.spindlesIn_works (f : Nat) (l : List Nat) (h : o.Works s) : o.Works (s.spindlesIn f l) := by
  unfold State.spindlesIn
  (repeat' split) <;> simp +contextual (maxDischargeDepth := 40) [h]

@[simp] theorem State.spindlesOut_works (f : Nat) (l : List Nat) (h : o.Works s) : o.Works (s.spindlesOut f l) := by
  unfold State.spindlesOut
  (repeat' split) <;> simp +contextual (maxDischargeDepth := 40) [h]

@[simp] theorem State.recount_works (d : Nat) (h : o.Works s) : o.Works (s.recount d) := by
  unfold State.recount
  dsimp only
  (repeat' split) <;> simp +contextual (maxDischargeDepth := 40) [h]

@[simp] theorem State.recountAll_works (h : o.Works s) : o.Works s.recountAll := by
  unfold State.recountAll
  (repeat' split) <;> simp +contextual (maxDischargeDepth := 40) [h]

@[simp] theorem State.startAttempt_works (p d n : Nat) (h : o.Works s) : o.Works (s.startAttempt p d n) := by
  unfold State.startAttempt
  dsimp only
  (repeat' split) <;> simp +contextual (maxDischargeDepth := 40) [h]

@[simp] theorem State.choose_works (d : Nat) (h : o.Works s) : o.Works (s.choose d) := by
  unfold State.choose
  dsimp only
  (repeat' split) <;> simp +contextual (maxDischargeDepth := 40) [h]

@[simp] theorem State.chooseAll_works (h : o.Works s) : o.Works s.chooseAll := by
  unfold State.chooseAll
  (repeat' split) <;> simp +contextual (maxDischargeDepth := 40) [h]

@[simp] theorem State.homePass_works (p : Nat) (h : o.Works s) : o.Works (s.homePass p) := by
  unfold State.homePass
  dsimp only
  (repeat' split) <;> simp +contextual (maxDischargeDepth := 40) [h]

@[simp] theorem State.lendPass_works (p : Nat) (h : o.Works s) : o.Works (s.lendPass p) := by
  unfold State.lendPass
  dsimp only
  (repeat' split) <;> simp +contextual (maxDischargeDepth := 40) [h]

@[simp] theorem State.arbitrate_works (h : o.Works s) : o.Works s.arbitrate := by
  unfold State.arbitrate
  (repeat' split) <;> simp +contextual (maxDischargeDepth := 40) [h]

@[simp] theorem State.frameEnd_works (p : Nat) (h : o.Works s) : o.Works (s.frameEnd p) := by
  unfold State.frameEnd
  dsimp only
  (repeat' split) <;> simp +contextual (maxDischargeDepth := 40) [h]

@[simp] theorem State.tellLoss_works (a : Nat) (h : o.Works s) : o.Works (s.tellLoss a) := by
  unfold State.tellLoss
  (repeat' split) <;> simp +contextual (maxDischargeDepth := 40) [h]

@[simp] theorem State.tellLosses_works (h : o.Works s) : o.Works s.tellLosses := by
  unfold State.tellLosses
  (repeat' split) <;> simp +contextual (maxDischargeDepth := 40) [h]

@[simp] theorem State.relistOwed_works (h : o.Works s) : o.Works s.relistOwed := by
  unfold State.relistOwed
  (repeat' split) <;> simp +contextual (maxDischargeDepth := 40) [h]

@[simp] theorem State.arbiterOwed_works (h : o.Works s) : o.Works s.arbiterOwed := by
  unfold State.arbiterOwed
  dsimp only
  (repeat' split) <;> simp +contextual (maxDischargeDepth := 40) [h]

@[simp] theorem State.refillOwed_works (h : o.Works s) : o.Works s.refillOwed := by
  unfold State.refillOwed
  (repeat' split) <;> simp +contextual (maxDischargeDepth := 40) [h]

@[simp] theorem State.settleRound_works (h : o.Works s) : o.Works s.settleRound := by
  unfold State.settleRound
  dsimp only
  (repeat' split) <;> simp +contextual (maxDischargeDepth := 40) [h]

@[simp] theorem settleN_works (n : Nat) (h : o.Works s) : o.Works (settleN n s) := by
  induction n generalizing s with
  | zero => exact h
  | succ n ih =>
    unfold settleN
    dsimp only
    (repeat' split) <;> simp (maxDischargeDepth := 40) [h, ih]

@[simp] theorem State.settle_works (h : o.Works s) : o.Works s.settle := by
  unfold State.settle
  (repeat' split) <;> simp +contextual (maxDischargeDepth := 40) [h]

@[simp] theorem State.poolPiecers_works (f : Nat) (h : o.Works s) : o.Works (s.poolPiecers f) := by
  unfold State.poolPiecers
  refine State.each_works _ _ (fun d t ht => ?_) h
  (repeat' split) <;> simp [ht]

@[simp] theorem State.sectionOut_works (f k : Nat) (h : o.Works s) : o.Works (s.sectionOut f k) := by
  unfold State.sectionOut
  (repeat' split) <;> simp +contextual (maxDischargeDepth := 40) [h]

@[simp] theorem State.frameOut_works (f n : Nat) (h : o.Works s) : o.Works (s.frameOut f n) := by
  unfold State.frameOut
  dsimp only
  (repeat' split) <;> simp +contextual (maxDischargeDepth := 40) [h]

@[simp] theorem State.sectionsIn_works (f : Nat) (l : List Nat) (h : o.Works s) : o.Works (s.sectionsIn f l) := by
  unfold State.sectionsIn
  dsimp only
  (repeat' split) <;> simp +contextual (maxDischargeDepth := 40) [h]

@[simp] theorem State.frameIn_works (f : Nat) (h : o.Works s) : o.Works (s.frameIn f) := by
  unfold State.frameIn
  dsimp only
  (repeat' split) <;> simp +contextual (maxDischargeDepth := 40) [h]

@[simp] theorem State.frameResized_works (f n m : Nat) (h : o.Works s) : o.Works (s.frameResized f n m) := by
  unfold State.frameResized
  dsimp only
  (repeat' split) <;> simp +contextual (maxDischargeDepth := 40) [h]

@[simp] theorem State.switchFrames_works (old : Settings) (h : o.Works s) : o.Works (s.switchFrames old) := by
  unfold State.switchFrames
  dsimp only
  (repeat' split) <;> simp +contextual (maxDischargeDepth := 40) [h]

@[simp] theorem State.switchCompare_works (h : o.Works s) : o.Works s.switchCompare := by
  unfold State.switchCompare
  refine State.each_works _ _ (fun f t ht => ?_) h
  dsimp only
  split <;> simp [ht]

@[simp] theorem State.lotRequeue_works (c : Nat) (h : o.Works s) : o.Works (s.lotRequeue c) := by
  unfold State.lotRequeue
  (repeat' split) <;> simp +contextual (maxDischargeDepth := 40) [h]

@[simp] theorem State.switchRoving_works (old : Settings) (h : o.Works s) : o.Works (s.switchRoving old) := by
  unfold State.switchRoving
  dsimp only
  (repeat' split) <;> simp +contextual (maxDischargeDepth := 40) [h]

@[simp] theorem State.switchReport_works (left : Option Plan) (old : Settings) (cause : Option PageCause)
    (h : o.Works s) : o.Works (s.switchReport left old cause) := by
  unfold State.switchReport
  dsimp only
  (repeat' split) <;> simp +contextual (maxDischargeDepth := 40) [h]

@[simp] theorem State.takeHomes_works (h : o.Works s) : o.Works s.takeHomes := by
  unfold State.takeHomes
  (repeat' split) <;> simp +contextual (maxDischargeDepth := 40) [h]

end

end Sys2Proof.Machine
end

section
/-! PROOFS. Shift boundaries (R139 to R142, R145). -/

namespace Sys2Proof.Machine

section
variable {s t u : State}

theorem State.Works.page (h : s.Works t) : t.output.page = s.output.page := by rw [h.output]
theorem State.Works.view (h : s.Works t) : t.output.view = s.output.view := by rw [h.output]
theorem State.Works.wait (h : s.Works t) : t.output.wait = s.output.wait := by rw [h.output]
theorem State.Works.shift (h : s.Works t) : t.output.shift = s.output.shift := by rw [h.output]

theorem State.Works.settings (h : s.Works t) : t.settings = s.settings := State.settings_of_plan h.plan

theorem State.Works.pageView (h : s.Works t) (p : Nat) : t.pageView p = s.pageView p := by
  rw [State.pageView, h.view, State.pageView]

theorem State.freePages_congr (h : t.output.view = s.output.view) : t.freePages = s.freePages := by
  unfold State.freePages State.pageView
  rw [h]

/-- The pages and what is awaited of them stand, counts go to an open page only, no attention cause is taken back, an
item other than a cell's waits on, and the Repeat-Breaker Table stands. -/
structure State.SamePages (s t : State) : Prop where
  page : t.output.page = s.output.page
  view : t.output.view = s.output.view
  wait : t.output.wait = s.output.wait
  att : ∃ w, t.regs.att = s.regs.att ||| w
  counts : s.output.page = none → t.output.counts = s.output.counts
  queue : ∀ i, i.ofCell = false → i ∈ s.writer.queue → i ∈ t.writer.queue
  rogue : t.rogue = s.rogue

theorem State.Works.samePages (h : s.Works t) : s.SamePages t :=
  ⟨h.page, h.view, h.wait, h.att, h.counts, h.queue, h.rogue⟩

/-- A step that changes neither the pages nor the registers. -/
theorem State.SamePages.of_keeps (hpage : t.output.page = s.output.page) (hview : t.output.view = s.output.view)
    (hwait : t.output.wait = s.output.wait) (hcounts : t.output.counts = s.output.counts) (hregs : t.regs = s.regs)
    (hqueue : ∀ i, i.ofCell = false → i ∈ s.writer.queue → i ∈ t.writer.queue) (hrogue : t.rogue = s.rogue) :
    s.SamePages t :=
  ⟨hpage, hview, hwait, ⟨0#32, by simp [hregs]⟩, fun _ => hcounts, hqueue, hrogue⟩

theorem State.SamePages.trans (h : s.SamePages t) (k : t.SamePages u) : s.SamePages u where
  page := k.page.trans h.page
  view := k.view.trans h.view
  wait := k.wait.trans h.wait
  att := by
    obtain ⟨v, hv⟩ := h.att
    obtain ⟨w, hw⟩ := k.att
    exact ⟨v ||| w, by rw [hw, hv, BitVec.or_assoc]⟩
  counts hp := (k.counts (h.page.trans hp)).trans (h.counts hp)
  queue i hi hm := k.queue i hi (h.queue i hi hm)
  rogue := k.rogue.trans h.rogue

theorem State.SamePages.attBit (h : s.SamePages t) {m : Word} (hm : s.regs.att &&& m = m) : t.regs.att &&& m = m := by
  obtain ⟨w, hw⟩ := h.att
  rw [hw]
  exact or_and_of_and_eq w hm

/-! ### A plan switch at a boundary -/

/-- The plan in force, with nothing pending. -/
def State.underPlan (p : Plan) (s : State) : State :=
  { s with plan := { s.plan with active := some p, pending := none } }

/-- The records of a switch, up to the lots and drafts. -/
def State.switchRecords (p : Plan) (s : State) : State :=
  let v := ((s.underPlan p).takeHomes.switchFrames s.settings).switchCompare
  (if s.settings.doffSlots < v.settings.doffSlots then v.doffArbiter else v).switchRoving s.settings

theorem State.applySwitch_eq (s : State) (p : Plan) (cause : Option PageCause) : s.applySwitch p cause =
    ((s.switchRecords p).switchShift s.settings cause).switchReport s.plan.active s.settings cause := rfl

theorem State.switchRecords_works (s : State) (p : Plan) : (s.underPlan p).Works (s.switchRecords p) := by
  have hcompare := State.switchCompare_works (State.switchFrames_works s.settings
    (State.takeHomes_works (State.Works.refl (s := s.underPlan p))))
  exact State.switchRoving_works _ (State.ite_works _ (State.doffArbiter_works hcompare) hcompare)

theorem State.switchShift_eq (s : State) (old : Settings) (cause : Option PageCause) :
    s.switchShift old cause = { s with output := { s.output with shift := (s.switchShift old cause).output.shift } } := by
  unfold State.switchShift
  (repeat' split) <;> rfl

theorem State.applySwitch_samePages (s : State) (p : Plan) (cause : Option PageCause) :
    s.SamePages (s.applySwitch p cause) := by
  have hrecords := s.switchRecords_works p
  have hshift : (s.switchRecords p).SamePages ((s.switchRecords p).switchShift s.settings cause) := by
    rw [State.switchShift_eq]
    exact State.SamePages.of_keeps rfl rfl rfl rfl rfl (fun _ _ hm => hm) rfl
  have hunder : s.SamePages (s.underPlan p) := State.SamePages.of_keeps rfl rfl rfl rfl rfl (fun _ _ hm => hm) rfl
  exact ((hunder.trans hrecords.samePages).trans hshift).trans (State.switchReport_works _ _ _ State.Works.refl).samePages

theorem State.finishBook_samePages (sel : BookEntry → Bool) (r : Option Reason) (l : List Word) :
    s.SamePages (s.finishBook sel r l) :=
  State.SamePages.of_keeps (by simp) (by simp) (by simp) (by simp) (by simp)
    (fun _ hi hm => State.finishBook_queue hi hm) (by simp)

theorem State.planBoundary_of_none (cause : PageCause) (h : s.plan.pending = none) : s.planBoundary cause = s := by
  unfold State.planBoundary
  rw [h]

/-- The Plan Store leaves the pages alone. -/
theorem State.planBoundary_samePages (s : State) (cause : PageCause) : s.SamePages (s.planBoundary cause) := by
  unfold State.planBoundary
  split
  · exact State.Works.refl.samePages
  · split
    · exact (s.applySwitch_samePages _ _).trans (State.finishBook_samePages ..)
    · have hmark := (State.markItem_works .header
        (State.Works.refl (s := { s with plan := { s.plan with pending := none } }))).samePages
      have hnone : s.SamePages { s with plan := { s.plan with pending := none } } :=
        State.SamePages.of_keeps rfl rfl rfl rfl rfl (fun _ _ hm => hm) rfl
      exact (hnone.trans hmark).trans (State.finishBook_samePages ..)

/-! ### The page work -/

/-- The open page is closed: it leaves the output, the view shows it CLOSED, the rest is work on the records. -/
theorem State.closePage_works {p : OpenPage} (cause : PageCause) (hp : s.output.page = some p) :
    State.Works (State.setPageView p.number .closed { s with
      output := { s.output with page := none }
      writer := { s.writer with
        queue := closeInQueue ⟨p, s.clock, cause, s.output.counts⟩ s.writer.queue } }) (s.closePage cause) := by
  unfold State.closePage
  rw [hp]
  exact State.raise_works _ (State.journal_works _ _ _ _
    (State.each_works _ _ (fun f _ ht => State.setRoller_works f _ ht) State.Works.refl))

theorem State.closePage_att {p : OpenPage} (cause : PageCause) (hp : s.output.page = some p) :
    (s.closePage cause).regs.att &&& 4#32 = 4#32 := by
  unfold State.closePage
  rw [hp]
  exact or_and_self_right _ _

/-- A page is opened: it is the output's page with nothing counted, the view shows it OPEN. -/
theorem State.openNewPage_works (s : State) (n : Nat) (cause : PageCause) :
    State.Works (State.setPageView n .opened { s with
      output := { s.output with page := some ⟨n, s.clock, cause, 0⟩, counts := [] } }) (s.openNewPage n cause) := by
  unfold State.openNewPage
  exact State.markItem_works _ (State.each_works _ _
    (fun f _ ht => State.ite_works _ (State.openStop_works f ht) ht) State.Works.refl)

theorem State.absorb_works {p : OpenPage} (cause : PageCause) (hp : s.output.page = some p) :
    State.Works { s with output := { s.output with page := some { p with merged := min 4294967295 (p.merged + 1) } } }
      (s.absorb cause) := by
  unfold State.absorb
  rw [hp]
  exact State.raise_works _ (State.journal_works _ _ _ _ (State.markItem_works _ State.Works.refl))

theorem State.absorb_att {p : OpenPage} (cause : PageCause) (hp : s.output.page = some p) :
    (s.absorb cause).regs.att &&& 4#32 = 4#32 := by
  unfold State.absorb
  rw [hp]
  exact or_and_self_right _ _

/-- The page left and the page taken at a rotation. -/
theorem State.closeAndOpen_pages {p : OpenPage} (n : Nat) (cause : PageCause) (hp : s.output.page = some p) :
    let u := (s.closePage cause).openNewPage n cause
    u.regs.att &&& 4#32 = 4#32 ∧ u.output.page = some ⟨n, s.clock, cause, 0⟩ ∧ u.pageView n = some .opened ∧
      (p.number ≠ n → u.pageView p.number = some .closed) ∧ u.output.wait = s.output.wait ∧ u.plan = s.plan := by
  have hclose := State.closePage_works cause hp
  have hopen := (s.closePage cause).openNewPage_works n cause
  have hclock : (s.closePage cause).clock = s.clock := State.clock_of_fixed (State.closePage_fixed cause s)
  refine ⟨hopen.samePages.attBit ?_, by rw [hopen.page, ← hclock]; rfl, ?_, fun hne => ?_, ?_, ?_⟩
  · exact State.closePage_att cause hp
  · rw [hopen.pageView]
    exact tget_tput_ne _ (by simp)
  · rw [hopen.pageView]
    have hother := tget_tput_other (d := none) (t := (s.closePage cause).output.view) (n := n) (some .opened) hne
    refine hother.trans ?_
    rw [hclose.view]
    exact tget_tput_ne _ (by simp)
  · exact hopen.wait.trans hclose.wait
  · exact hopen.plan.trans hclose.plan

theorem State.rotatePage_of_free {n : Nat} {r : List Nat} (cause : PageCause) (h : s.freePages = n :: r)
    (hpart : s.regs.part ≠ .stalled) : s.rotatePage cause = (s.closePage cause).openNewPage n cause := by
  unfold State.rotatePage
  rw [h]
  exact if_neg hpart

theorem State.rotatePage_of_absorbed (cause : PageCause) (h : s.freePages = [] ∨ s.regs.part = .stalled) :
    s.rotatePage cause = s.absorb cause := by
  unfold State.rotatePage
  cases hfree : s.freePages with
  | nil => rfl
  | cons n r => exact if_pos (h.resolve_left (by simp [hfree]))

/-- What a boundary does to the pages and to the timer. -/
structure State.Turned (s : State) (cause : PageCause) (u : State) : Prop where
  att : s.output.page ≠ none → u.regs.att &&& 4#32 = 4#32
  rotated : ∀ p, s.output.page = some p → ∀ n r, s.freePages = n :: r → s.regs.part ≠ .stalled →
    u.output.page = some ⟨n, s.clock, cause, 0⟩ ∧ u.pageView n = some .opened ∧
      (p.number ≠ n → u.pageView p.number = some .closed)
  absorbed : ∀ p, s.output.page = some p → s.freePages = [] ∨ s.regs.part = .stalled →
    u.output.page = some { p with merged := min 4294967295 (p.merged + 1) } ∧ u.output.view = s.output.view

theorem State.rotatePage_turned (s : State) (cause : PageCause) : s.Turned cause (s.rotatePage cause) ∧
    (s.rotatePage cause).output.wait = s.output.wait ∧ (s.rotatePage cause).plan = s.plan := by
  by_cases habsorbed : s.freePages = [] ∨ s.regs.part = .stalled
  · rw [State.rotatePage_of_absorbed cause habsorbed]
    refine ⟨⟨fun hp => ?_, fun p hp n r hfree hpart => ?_, fun p hp _ => ?_⟩, ?_, ?_⟩
    · obtain ⟨p, hp⟩ := Option.ne_none_iff_exists'.mp hp
      exact State.absorb_att cause hp
    · exact absurd habsorbed (not_or.mpr ⟨by simp [hfree], hpart⟩)
    · exact ⟨(State.absorb_works cause hp).page, (State.absorb_works cause hp).view⟩
    · cases hp : s.output.page with
      | none => simp [State.absorb, hp]
      | some p => exact (State.absorb_works cause hp).wait
    · cases hp : s.output.page with
      | none => simp [State.absorb, hp]
      | some p => exact (State.absorb_works cause hp).plan
  · obtain ⟨hfree, hpart⟩ := not_or.mp habsorbed
    obtain ⟨n, r, hfree⟩ := List.exists_cons_of_ne_nil hfree
    rw [State.rotatePage_of_free cause hfree hpart]
    have hopen := (s.closePage cause).openNewPage_works n cause
    refine ⟨⟨fun hp => ?_, fun p hp m r' hfree' _ => ?_, fun p hp h => absurd h habsorbed⟩, ?_, ?_⟩
    · obtain ⟨p, hp⟩ := Option.ne_none_iff_exists'.mp hp
      exact (State.closeAndOpen_pages n cause hp).1
    · obtain ⟨rfl, _⟩ := List.cons.inj (hfree.symm.trans hfree')
      obtain ⟨_, hpage, hopened, hclosed, _⟩ := State.closeAndOpen_pages n cause hp
      exact ⟨hpage, hopened, hclosed⟩
    · refine hopen.wait.trans ?_
      cases hp : s.output.page with
      | none => simp [State.closePage, hp, State.setPageView]
      | some p => exact (State.closePage_works cause hp).wait
    · refine hopen.plan.trans ?_
      cases hp : s.output.page with
      | none => simp [State.closePage, hp, State.setPageView]
      | some p => exact (State.closePage_works cause hp).plan

/-- Work on the records before a boundary, and what leaves the pages alone after it. -/
theorem State.Turned.congr {v : State} {cause : PageCause} (h : t.Turned cause u)
    (hpage : t.output.page = s.output.page)
    (hview : t.output.view = s.output.view) (hclock : t.clock = s.clock)
    (hpart : t.regs.part = s.regs.part) (hv : u.SamePages v) : s.Turned cause v := by
  have hfree : t.freePages = s.freePages := State.freePages_congr hview
  have hpageView (p : Nat) : v.pageView p = u.pageView p := by rw [State.pageView, hv.view, State.pageView]
  refine ⟨fun hp => hv.attBit (h.att (hpage ▸ hp)), fun p hp n r hnr hs => ?_, fun p hp habs => ?_⟩
  · obtain ⟨hnew, hopened, hclosed⟩ := h.rotated p (hpage.trans hp) n r (hfree.trans hnr) (hpart ▸ hs)
    rw [hv.page, hpageView, hpageView, hnew, hclock]
    exact ⟨rfl, hopened, hclosed⟩
  · rw [hv.page, hv.view, ← hview]
    exact h.absorbed p (hpage.trans hp) (by rw [hfree, hpart]; exact habs)

/-- The captures of a boundary: every frame in plan. -/
def State.captured (s : State) : State :=
  s.each (allFrames.filter fun f => (s.frame f).state != .out) fun f t => t.boundaryCapture f

theorem State.captured_works (s : State) : s.Works s.captured :=
  State.each_works _ _ (fun f _ ht => State.boundaryCapture_works f ht) State.Works.refl

theorem State.captured_fixed (s : State) : s.captured.fixed = s.fixed :=
  State.each_fixed _ _ (fun f t => State.boundaryCapture_fixed f t) s

theorem State.boundaryPage_eq {cause : PageCause} (hcause : cause ≠ .partStop) :
    s.boundaryPage cause = (s.captured.rotatePage cause).loadShift := by
  cases cause with
  | partStop => exact absurd rfl hcause
  | start | shiftTimer | shiftClose => rfl

theorem State.boundaryPage_plan {cause : PageCause} (hcause : cause ≠ .partStop) :
    (s.boundaryPage cause).plan = s.plan := by
  obtain ⟨_, _, hplan⟩ := s.captured.rotatePage_turned cause
  rw [State.boundaryPage_eq hcause]
  exact hplan.trans s.captured_works.plan

/-- With no switch pending a boundary is its captures and its page work. -/
theorem State.boundary_of_none {cause : PageCause} (hcause : cause ≠ .partStop) (h : s.plan.pending = none) :
    s.boundary cause = (s.captured.rotatePage cause).loadShift := by
  rw [State.boundary, State.planBoundary_of_none cause (by rw [State.boundaryPage_plan hcause]; exact h),
    State.boundaryPage_eq hcause]

/-- A boundary turns the page and, with no switch pending, loads the timer again. -/
theorem State.boundary_turned (s : State) {cause : PageCause} (hcause : cause ≠ .partStop) :
    s.Turned cause (s.boundary cause) ∧ (s.boundary cause).output.wait = s.output.wait ∧
    (s.plan.pending = none → (s.boundary cause).output.shift =
      if s.settings.shiftLength = 0 then ⟨false, 0⟩ else ⟨true, 60000 * s.settings.shiftLength⟩) := by
  have hworks := s.captured_works
  have hfixed := s.captured_fixed
  obtain ⟨hturned, hwait, hplan⟩ := s.captured.rotatePage_turned cause
  have hload : (s.captured.rotatePage cause).SamePages (s.boundaryPage cause) := by
    rw [State.boundaryPage_eq hcause]
    exact State.SamePages.of_keeps rfl rfl rfl rfl rfl (fun _ _ hm => hm) rfl
  have hsame := hload.trans (State.planBoundary_samePages _ cause)
  refine ⟨hturned.congr hworks.page hworks.view (State.clock_of_fixed hfixed) (State.part_of_fixed hfixed) hsame,
    hsame.wait.trans (hwait.trans hworks.wait), fun hnone => ?_⟩
  rw [State.boundary_of_none hcause hnone, State.loadShift, State.settings_of_plan (hplan.trans hworks.plan)]
  rfl

end

end Sys2Proof.Machine
end

section
/-! PROOFS. Shift boundaries and SHIFT_CLOSE (R139 to R142, R145). -/

namespace Sys2Proof.Machine

/-! ### The order board at a boundary -/

section
variable (s : State)

@[simp] theorem State.each_board {α : Type} (l : List α) (g : α → State → State)
    (h : ∀ x t, (g x t).board = t.board) : (s.each l g).board = s.board :=
  State.each_keeps State.board l g h s

@[simp] theorem State.ite_board (c : Prop) [Decidable c] (t : State) :
    (if c then s else t).board = if c then s.board else t.board := apply_ite State.board c s t

@[simp] theorem State.openStop_board (f : Nat) : (s.openStop f).board = s.board := by
  unfold State.openStop
  split <;> simp

@[simp] theorem State.closeStop_board (f : Nat) : (s.closeStop f).board = s.board := by
  unfold State.closeStop
  split <;> simp

@[simp] theorem State.updateStop_board (f : Nat) : (s.updateStop f).board = s.board := by
  simp [State.updateStop]

@[simp] theorem State.captureLengths_board (f n : Nat) : (s.captureLengths f n).board = s.board := by
  simp [State.captureLengths]

@[simp] theorem State.queueByStamp_board (c : Nat) (w : Word) : (s.queueByStamp c w).board = s.board :=
  State.setCreel_board s c { s.creel c with state := .queued, queueStamp := some w }

@[simp] theorem State.lowTest_board (c : Nat) : (s.lowTest c).board = s.board := by
  unfold State.lowTest
  dsimp only
  (repeat' split) <;> simp

@[simp] theorem State.runOutSpindle_board (f n : Nat) : (s.runOutSpindle f n).board = s.board := by
  unfold State.runOutSpindle
  dsimp only
  (repeat' split) <;> simp

@[simp] theorem State.runOutTest_board (c : Nat) : (s.runOutTest c).board = s.board := by
  unfold State.runOutTest
  dsimp only
  split
  · simp
  · rfl

@[simp] theorem State.consume_board (f n : Nat) : (s.consume f n).board = s.board := by
  unfold State.consume
  dsimp only
  simp

@[simp] theorem State.boundaryCapture_board (f : Nat) : (s.boundaryCapture f).board = s.board := by
  unfold State.boundaryCapture
  dsimp only
  split <;> simp

theorem closeInQueue_ofCell (c : ClosedPage) (l : List WriteItem) :
    (closeInQueue c l).filter WriteItem.ofCell = l.filter WriteItem.ofCell := by
  induction l with
  | nil => rfl
  | cons i l ih =>
    unfold closeInQueue
    split
    · next hi => rw [hi]; rfl
    · rw [List.filter_cons, List.filter_cons, ih]

@[simp] theorem State.closePage_board (cause : PageCause) : (s.closePage cause).board = s.board := by
  unfold State.closePage
  split
  · rfl
  · rw [State.raise_board, State.journal_board, State.each_board _ _ _ fun f t => t.setRoller_board f _]
    simp [State.board, State.setPageView, closeInQueue_ofCell]

@[simp] theorem State.openNewPage_board (n : Nat) (cause : PageCause) : (s.openNewPage n cause).board = s.board := by
  unfold State.openNewPage
  simp only [State.markItem_board (i := .openPage) rfl, State.each_board, State.ite_board, State.openStop_board,
    ite_self,
    implies_true]
  rfl

@[simp] theorem State.absorb_board (cause : PageCause) : (s.absorb cause).board = s.board := by
  unfold State.absorb
  split
  · rfl
  · rw [State.raise_board, State.journal_board, State.markItem_board rfl]
    rfl

@[simp] theorem State.rotatePage_board (cause : PageCause) : (s.rotatePage cause).board = s.board := by
  unfold State.rotatePage
  (repeat' split) <;> simp

/-- With no switch pending a boundary leaves the order board alone. -/
theorem State.boundary_board {cause : PageCause} (hcause : cause ≠ .partStop) (h : s.plan.pending = none) :
    (s.boundary cause).board = s.board := by
  have hcaptured : s.captured.board = s.board := State.each_board s _ _ fun f t => t.boundaryCapture_board f
  rw [State.boundary_of_none hcause h, ← hcaptured, ← State.rotatePage_board s.captured cause]
  rfl

end

/-! ### O43: the boundaries -/

section
variable (s : State) (c : CellRead)

/-- A SHIFT_CLOSE stands in the book, with what it waits for, before its boundary. -/
def State.closing : State :=
  { s.enterBook .shiftClose c with output := { s.output with
    wait := s.output.page.map fun p => shiftWait s.freePages p s.clock } }

theorem State.orderShiftClose_eq : s.orderShiftClose c = (s.closing c).boundary .shiftClose := by
  simp [State.orderShiftClose, State.closing]

theorem State.closing_plan : (s.closing c).plan = s.plan := State.enterBook_plan (s := s) (k := .shiftClose) (c := c)

theorem State.closing_entered : (s.closing c).entered .shiftClose c := State.enterBook_entered (s := s)

theorem State.orderShiftClose_turned : s.Turned .shiftClose (s.orderShiftClose c) ∧
    (s.orderShiftClose c).output.wait = (s.output.page.map fun p => shiftWait s.freePages p s.clock) ∧
    (s.plan.pending = none → (s.orderShiftClose c).output.shift =
      if s.settings.shiftLength = 0 then ⟨false, 0⟩ else ⟨true, 60000 * s.settings.shiftLength⟩) := by
  obtain ⟨hturned, hwait, hshift⟩ := (s.closing c).boundary_turned (cause := .shiftClose) (by simp)
  rw [State.orderShiftClose_eq]
  refine ⟨hturned.congr rfl rfl (by simp [State.closing]) (by simp [State.closing]) State.Works.refl.samePages, hwait,
    fun hnone => ?_⟩
  rw [hshift ((congrArg PlanStore.pending (s.closing_plan c)).trans hnone), State.settings_of_plan (s.closing_plan c)]

theorem State.orderShiftClose_entered (h : s.plan.pending = none) : (s.orderShiftClose c).entered .shiftClose c := by
  have hpending : (s.closing c).plan.pending = none := (congrArg PlanStore.pending (s.closing_plan c)).trans h
  rw [State.orderShiftClose_eq]
  exact State.entered_of_board (State.boundary_board _ (by simp) hpending) (s.closing_entered c)

end

/-- Settles O43: a boundary of the timer or of SHIFT_CLOSE captures, turns the page and loads the timer again. -/
theorem shiftBoundariesTurnThePage : Obligations.ShiftBoundariesTurnThePage := by
  unfold Obligations.ShiftBoundariesTurnThePage
  intro s c _ turned
  have hturned (cause : PageCause) (u : State) (h : s.Turned cause u) (hshift : s.plan.pending = none → u.output.shift =
      if s.settings.shiftLength = 0 then ⟨false, 0⟩ else ⟨true, 60000 * s.settings.shiftLength⟩) : turned cause u :=
    ⟨fun p hp => ⟨h.att (by simp [hp]), h.rotated p hp, h.absorbed p hp⟩, hshift⟩
  have hexpires : s.expires s.output.shift = true ↔ s.regs.part ≠ .halted ∧ s.output.shift = ⟨true, 0⟩ :=
    State.expires_iff
  refine ⟨fun hpart hzero => ⟨?_, ?_⟩, fun hno => ?_, fun htakes => ⟨?_, fun hnone => ?_, ?_⟩⟩
  · exact if_pos (hexpires.mpr ⟨hpart, hzero⟩)
  · obtain ⟨h, _, hshift⟩ := s.boundary_turned (cause := .shiftTimer) (by simp)
    exact hturned _ _ h hshift
  · exact if_neg (mt hexpires.mp hno)
  · exact congrArg Host.Outcome.next (State.orderEvent_of_takes htakes)
  · exact (s.heard c).orderShiftClose_entered c (by simpa using hnone)
  · obtain ⟨h, _, hshift⟩ := (s.heard c).orderShiftClose_turned c
    refine hturned _ _ (h.congr ?_ ?_ ?_ ?_ State.Works.refl.samePages) ?_
    · simp
    · simp
    · simp
    · simp
    · simpa using hshift

end Sys2Proof.Machine
end

section
/-! PROOFS. What a SHIFT_CLOSE waits for (R145, R184). -/

namespace Sys2Proof.Machine

/-- Orders that end while STALLED: their answers are held, and nothing joins the write queue. -/
theorem State.finishBook_stalled {s : State} (sel : BookEntry → Bool) (r : Option Reason) (w : List Word)
    (h : s.regs.part = .stalled) :
    (s.finishBook sel r w).desk.held = s.desk.held ++ (s.desk.book.filter sel).map (fun b => ⟨b.cell, r, w, s.clock⟩) ∧
    (s.finishBook sel r w).writer.queue = s.writer.queue := by
  have heach (l : List Nat) (t : State) (ht : t.regs.part = .stalled) :
      (t.each l fun c u => u.finish c r w).desk.held = t.desk.held ++ l.map (fun c => ⟨c, r, w, t.clock⟩) ∧
      (t.each l fun c u => u.finish c r w).writer.queue = t.writer.queue := by
    induction l generalizing t with
    | nil => exact ⟨(List.append_nil _).symm, rfl⟩
    | cons c l ih =>
      obtain ⟨hheld, hqueue⟩ := ih (t.finish c r w) (by rw [State.finish_regs]; exact ht)
      rw [State.finish_desk_held, if_pos ht, State.finish_clock, List.append_assoc] at hheld
      rw [State.finish_writer_queue, if_pos ht] at hqueue
      exact ⟨hheld, hqueue⟩
  obtain ⟨hheld, hqueue⟩ := heach ((s.desk.book.filter sel).map BookEntry.cell) s h
  rw [List.map_map] at hheld
  exact ⟨hheld, hqueue⟩

section
variable {s : State} {w : ShiftWait}

/-- The words of a SHIFT_CLOSE that is DONE. -/
def ShiftWait.words (w : ShiftWait) : List Word :=
  [if w.absorbed then 2#32 else 1#32, w32 w.page, w.stamp, w32 w.merged]

theorem ShiftWait.opened_eq (w : ShiftWait) : w.opened = { w with openLeft := w.openLeft && !w.openBegun } := by
  obtain ⟨_, _, _, _, _, _, openLeft, openBegun⟩ := w
  cases openBegun <;> simp [ShiftWait.opened]

/-- The test with no page write left: the order is DONE, and nothing is awaited. -/
theorem State.shiftTest_effect (hw : s.output.wait = some w) (hclose : w.closeLeft = false)
    (hopen : w.openLeft = false) :
    s.shiftTest.output = { s.output with wait := none } ∧
    (∀ b, b ∈ s.desk.book → b.kind = .shiftClose → s.shiftTest.finished b.cell none w.words ∧
      ∀ x, x ∈ s.shiftTest.desk.book → x.cell ≠ b.cell) ∧
    (s.regs.part = .stalled → s.shiftTest.writer.queue = s.writer.queue ∧ s.shiftTest.desk.held = s.desk.held ++
      (s.desk.book.filter fun b => b.kind == .shiftClose).map fun b => ⟨b.cell, none, w.words, s.clock⟩) := by
  have hwords : [w32 (if w.absorbed then 2 else 1), w32 w.page, w.stamp, w32 w.merged] = w.words := by
    unfold ShiftWait.words
    cases w.absorbed <;> rfl
  rw [State.shiftTest_done s w hw hclose hopen, hwords]
  refine ⟨State.finishBook_output .., fun b hb hk => ⟨?_, fun x hx => ?_⟩, fun hstalled => ?_⟩
  · exact State.finishBook_finished hb (by simp [hk])
  · exact (State.mem_finishBook_book.mp hx).2 b hb (by simp [hk])
  · obtain ⟨hheld, hqueue⟩ := State.finishBook_stalled (s := { s with output := { s.output with wait := none } })
      (fun b => b.kind == .shiftClose) none w.words hstalled
    exact ⟨hqueue, hheld⟩

/-- A page write that has ended, by what it leaves to wait for. -/
theorem State.pageWritten_effect (left : ShiftWait → ShiftWait) (hw : s.output.wait = some w) {x : ShiftWait}
    (hx : left w = x) :
    (x.closeLeft = true ∨ x.openLeft = true ∨ s.regs.rewriting = some .rewrite →
      s.pageWritten left = { s with output := { s.output with wait := some x } }) ∧
    (x.closeLeft = false → x.openLeft = false → s.regs.rewriting ≠ some .rewrite →
      (s.pageWritten left).output = { s.output with wait := none } ∧
        ∀ b, b ∈ s.desk.book → b.kind = .shiftClose → (s.pageWritten left).finished b.cell none x.words) := by
  have hleft : s.output.wait.map left = some x := by rw [hw, ← hx]; rfl
  refine ⟨fun h => ?_, fun hclose hopen hserved => ?_⟩
  · by_cases hrewrite : s.regs.rewriting = some .rewrite
    · rw [State.pageWritten_rewriting left s hrewrite, hleft]
    · rw [State.pageWritten_served left s hrewrite, hleft]
      refine State.shiftTest_waits _ fun y hy => ?_
      obtain rfl := Option.some.inj hy
      exact h.imp_right fun h => h.resolve_right hrewrite
  · rw [State.pageWritten_served left s hserved, hleft]
    obtain ⟨houtput, hfinished, _⟩ := State.shiftTest_effect
      (s := { s with output := { s.output with wait := some x } }) rfl hclose hopen
    exact ⟨houtput, fun b hb hk => (hfinished b hb hk).1⟩

end

/-- Settles O44: a SHIFT_CLOSE waits for the page writes of its boundary, and ends with the last of them. -/
theorem shiftCloseWaitsForItsPages : Obligations.ShiftCloseWaitsForItsPages := by
  unfold Obligations.ShiftCloseWaitsForItsPages
  refine ⟨fun s c p _ _ hp => ?_, fun s w _ hw => ?_⟩
  · obtain ⟨_, hwait, _⟩ := s.orderShiftClose_turned c
    rw [hp] at hwait
    refine ⟨fun n r hfree => ?_, fun hfree => ?_⟩
    · rw [hwait, hfree]
      rfl
    · rw [hwait, hfree]
      rfl
  intro words written
  have hwritten (i : WriteItem) (left : ShiftWait → ShiftWait) (x : ShiftWait) (hx : left w = x)
      (hwords : x.words = words)
      (hi : s.itemWritten i = State.pageWritten left { s with writer := { s.writer with current := none } }) :
      written i x := by
    obtain ⟨hwaits, hdone⟩ := State.pageWritten_effect (s := { s with writer := { s.writer with current := none } }) left hw hx
    rw [hwords] at hdone
    rw [← hi] at hwaits hdone
    exact ⟨hwaits, hdone⟩
  refine ⟨fun c => hwritten _ (ShiftWait.closed c.page.number) _ rfl rfl rfl, ?_, fun hpart hstart hrewrite => ?_⟩
  · exact hwritten _ ShiftWait.opened _ w.opened_eq rfl rfl
  · have hreached : s.markReached = s.shiftTest.resumeCells := by
      unfold State.markReached
      rw [hstart, hrewrite]
    rw [hreached]
    refine ⟨fun hleft => ?_, fun hclose hopen => ?_⟩
    · rw [State.shiftTest_waits s fun y hy => by rw [Option.some.inj (hw.symm.trans hy)] at hleft; exact hleft]
      exact ⟨rfl, rfl, rfl⟩
    · obtain ⟨houtput, hfinished, hstalled⟩ := State.shiftTest_effect hw hclose hopen
      obtain ⟨hqueue, hheld⟩ := hstalled hpart
      refine ⟨houtput, fun b hb hk => ?_, ?_⟩
      · obtain ⟨⟨hview, _⟩, hgone⟩ := hfinished b hb hk
        exact ⟨hview, hgone⟩
      · change (s.shiftTest.writer.queue ++ s.shiftTest.desk.held.map .cellDone) ++ [.mark] = _
        rw [hqueue, hheld, List.map_append, List.map_map, ← List.append_assoc s.writer.queue]
        rfl

end Sys2Proof.Machine
end

section
/-! PROOFS. The validation of a plan copy (R151 to R153, 8.3). -/

namespace Sys2Proof.Machine

/-! ### The first that fails -/

section
variable {α : Type} {f : Nat → Option α}

theorem findSome_range'_eq_some {a len n : Nat} {x : α} (hn : a ≤ n ∧ n < a + len) (hx : f n = some x)
    (hbefore : ∀ m, a ≤ m → m < n → f m = none) : (List.range' a len).findSome? f = some x := by
  induction len generalizing a with
  | zero => omega
  | succ len ih =>
    rw [List.range'_succ, List.findSome?_cons]
    by_cases ha : a = n
    · rw [ha, hx]
    · rw [hbefore a le_rfl (by omega)]
      exact ih (by omega) fun m hm => hbefore m (by omega)

theorem findSome_range'_eq_none {a len : Nat} (h : ∀ m, a ≤ m → m < a + len → f m = none) :
    (List.range' a len).findSome? f = none :=
  List.findSome?_eq_none_iff.mpr fun m hm => by
    have := List.mem_range'_1.mp hm
    exact h m this.1 this.2

theorem oneTo_eq_range' (n : Nat) : oneTo n = List.range' 1 n := by
  simp [oneTo, List.range_eq_range', Nat.add_comm _ 1, List.map_add_range']

theorem findSome_congr {g : Nat → Option α} {l : List Nat} (h : ∀ n, n ∈ l → f n = g n) :
    l.findSome? f = l.findSome? g := by
  induction l with
  | nil => rfl
  | cons n l ih =>
    rw [List.findSome?_cons, List.findSome?_cons, h n List.mem_cons_self,
      ih fun m hm => h m (List.mem_cons_of_mem n hm)]

end

/-! ### The words of a copy -/

section
variable {l : List Word} {f n : Nat}

theorem frameSetting_frameBlock (hn : 1 ≤ n ∧ n ≤ 88) :
    frameSetting (frameBlock l f) n = (l.getD (64 + 96 * (f - 1) + (n - 1)) 0#32).toNat := by
  unfold frameSetting frameBlock
  rw [List.getD_eq_getElem?_getD, List.getElem?_take, if_pos (by omega), List.getElem?_drop, Nat.mul_comm (f - 1) 96,
    ← List.getD_eq_getElem?_getD]

theorem length_frameBlock (hl : l.length = 2048) (hf : f ≤ 8) : (frameBlock l f).length = 88 := by
  simp only [frameBlock, List.length_take, List.length_drop]
  omega

theorem checkWordOk_iff (hl : l.length = 2048) :
    checkWordOk l = true ↔ l.getLast? = some (~~~ (l.take 2047).foldl (· + ·) 0#32) := by
  simp [checkWordOk, hl, wordSum]

theorem mem_sectionsInPlan {k p : Nat} (hk : 1 ≤ k) :
    k ∈ sectionsInPlan p ↔ k ≤ p / 24 ∨ (39 ≤ k ∧ k ≤ 38 + p / 24) := by
  simp only [sectionsInPlan, List.mem_append, List.mem_map, mem_oneTo]
  constructor
  · rintro (h | ⟨m, hm, rfl⟩) <;> omega
  · rintro (h | h)
    · exact .inl ⟨hk, h⟩
    · exact .inr ⟨k - 38, by omega, by omega⟩

end

/-! ### The fields of the group -/

/-- The ranges of the group fields 1 to 18 (8.3.1). -/
def groupRanges : List (Nat × Nat) :=
  [(100, 1000), (50, 1000), (1, 15), (1, 7), (1, 7), (4, 31), (2, 15), (10, 480), (1, 7), (10, 120),
    (30, 600), (1, 64), (1, 2), (10, 300), (60, 900), (60, 1200), (60, 720), (1, 4095)]

/-- The ranges of a frame's fields 2 to 12 (8.3.2). -/
def frameRanges : List (Nat × Nat) :=
  [(24, 912), (400, 10000), (100, 800), (2000, 20000), (1, 64), (100, 20000), (0, 2000), (2, 40),
    (0, 65535), (500, 6000), (50, 1000)]

/-- A value lies in a range. -/
def Inside (r : Nat × Nat) (v : Nat) : Prop := r.1 ≤ v ∧ v ≤ r.2

/-- Group field n lies in its range; a shift length may be 0. -/
def GroupRange (n v : Nat) : Prop := Inside (groupRanges.getD (n - 1) (0, 16)) v ∨ (n = 17 ∧ v = 0)

theorem groupRangeOk_iff {n v : Nat} (hn : 1 ≤ n ∧ n ≤ 26) : groupRangeOk n v = true ↔ GroupRange n v := by
  obtain ⟨hlo, hhi⟩ := hn
  interval_cases n <;> simp [groupRangeOk, within, GroupRange, Inside, groupRanges] <;> omega

section
variable {capacity n : Nat} {l : List Word}

theorem groupFault_of_ok (hn : 1 ≤ n ∧ n ≤ 26) (hrange : GroupRange n (groupSetting l n))
    (hrelation : n = 18 → groupSetting l n < capacity) : groupFault capacity l n = none := by
  have hsmall : ¬(n = 18 ∧ capacity ≤ groupSetting l n) := fun ⟨h18, hle⟩ => absurd (hrelation h18) (by omega)
  simp [groupFault, (groupRangeOk_iff hn).mpr hrange, hsmall]

theorem groupFault_of_range (hn : 1 ≤ n ∧ n ≤ 26) (hrange : ¬GroupRange n (groupSetting l n)) :
    groupFault capacity l n = some ⟨3, 0, n⟩ := by
  have hbad : groupRangeOk n (groupSetting l n) = false := by
    rw [Bool.eq_false_iff]
    exact mt (groupRangeOk_iff hn).mp hrange
  simp [groupFault, hbad, planFault, PlanItem.code]

theorem groupFault_of_relation (hn : 1 ≤ n ∧ n ≤ 26) (hrange : GroupRange n (groupSetting l n))
    (hrelation : ¬(n = 18 → groupSetting l n < capacity)) : groupFault capacity l n = some ⟨4, 0, n⟩ := by
  have hbad : n = 18 ∧ capacity ≤ groupSetting l n := by omega
  rw [groupFault, (groupRangeOk_iff hn).mpr hrange, if_pos hbad]
  rfl

end

/-! ### The fields of a frame -/

section
variable {b : List Word} {f n : Nat}

/-- Field n of a frame, of these values, lies in its range: in_plan is 0 or 1, and only of a frame in plan are the
others read. -/
def FrameRange (v : Nat → Nat) (n : Nat) : Prop :=
  if n = 1 then v 1 ≤ 1
  else v 1 = 1 → n ≤ 12 → Inside (frameRanges.getD (n - 2) (0, 0)) (v n) ∧ (n = 2 → v n % 24 = 0)

/-- Field n of a frame meets its relation to the full roving length. -/
def FrameRelation (v : Nat → Nat) (n : Nat) : Prop :=
  v 1 = 1 → (n = 12 → v 12 < v 11) ∧
    (13 ≤ n → n - 12 ≤ v 2 / 24 ∨ (39 ≤ n - 12 ∧ n - 12 ≤ 38 + v 2 / 24) → v n ≤ v 11)

section
variable {v w : Nat → Nat}

theorem frameRange_congr (h : ∀ m, 1 ≤ m → m ≤ 88 → v m = w m) (hn : 1 ≤ n ∧ n ≤ 88) :
    FrameRange v n ↔ FrameRange w n := by
  unfold FrameRange
  rw [h 1 (by omega) (by omega), h n hn.1 hn.2]

theorem frameRelation_congr (h : ∀ m, 1 ≤ m → m ≤ 88 → v m = w m) (hn : 1 ≤ n ∧ n ≤ 88) :
    FrameRelation v n ↔ FrameRelation w n := by
  unfold FrameRelation
  rw [h 1 (by omega) (by omega), h 2 (by omega) (by omega), h 11 (by omega) (by omega), h 12 (by omega) (by omega),
    h n hn.1 hn.2]

end

theorem frameRangeOk_iff {v : Nat} (hn : 2 ≤ n ∧ n ≤ 12) :
    frameRangeOk n v = true ↔ Inside (frameRanges.getD (n - 2) (0, 0)) v ∧ (n = 2 → v % 24 = 0) := by
  obtain ⟨hlo, hhi⟩ := hn
  interval_cases n <;> simp [frameRangeOk, within, Inside, frameRanges]

/-- The failure of field n of a frame, in_plan among the fields. -/
def fieldFault (b : List Word) (f n : Nat) : Option PlanFault :=
  if n = 1 then (if frameSetting b 1 ≤ 1 then none else some ⟨3, f, 1⟩)
  else if frameSetting b 1 = 1 then frameFault b f n else none

/-- The fields of a frame are tested in order, in_plan first. -/
theorem frameFaults_eq (b : List Word) (f : Nat) : frameFaults b f = (List.range' 1 88).findSome? (fieldFault b f) := by
  have hfields : (List.range 87).map (· + 2) = List.range' 2 87 := by
    simp [List.range_eq_range', Nat.add_comm _ 2, List.map_add_range']
  rw [List.range'_succ, List.findSome?_cons]
  unfold frameFaults
  split
  · next h =>
    simp only [fieldFault, h, if_true, Nat.zero_le]
    exact (findSome_range'_eq_none fun m hm _ => by simp [fieldFault, h, show m ≠ 1 by omega]).symm
  · next h =>
    rw [hfields]
    simp only [fieldFault, h, if_true, le_refl]
    exact findSome_congr fun m hm => by
      have := List.mem_range'_1.mp hm
      rw [fieldFault, if_neg (by omega), if_pos h]
  · next h0 h1 =>
    have h2 : ¬frameSetting b 1 ≤ 1 := by
      intro hle
      rcases Nat.le_one_iff_eq_zero_or_eq_one.mp hle with h | h
      · exact h0 h
      · exact h1 h
    simp [fieldFault, h2, planFault, PlanItem.code]

theorem frameFault_of_le (hn : 2 ≤ n ∧ n ≤ 12) : frameFault b f n =
    if frameRangeOk n (frameSetting b n) then
      (if n = 12 ∧ frameSetting b 11 ≤ frameSetting b n then some ⟨4, f, n⟩ else none)
    else some ⟨3, f, n⟩ := by
  rw [frameFault, if_pos hn.2]
  cases frameRangeOk n (frameSetting b n) <;> rfl

theorem frameFault_of_gt (hn : 13 ≤ n) : frameFault b f n =
    if (n - 12 ≤ frameSetting b 2 / 24 ∨ (39 ≤ n - 12 ∧ n - 12 ≤ 38 + frameSetting b 2 / 24)) ∧
      frameSetting b 11 < frameSetting b n then some ⟨4, f, n⟩ else none := by
  have hmem : (sectionsInPlan (frameSetting b 2)).contains (n - 12) = true ↔
      n - 12 ≤ frameSetting b 2 / 24 ∨ (39 ≤ n - 12 ∧ n - 12 ≤ 38 + frameSetting b 2 / 24) :=
    List.contains_iff_mem.trans (mem_sectionsInPlan (by omega))
  rw [frameFault, if_neg (by omega)]
  simp only [Bool.and_eq_true, hmem, decide_eq_true_eq]
  rfl

/-- The failure of a field, by its range and its relation. -/
theorem fieldFault_cases (f : Nat) (hn : 1 ≤ n) :
    (FrameRange (frameSetting b) n → FrameRelation (frameSetting b) n → fieldFault b f n = none) ∧
    (¬FrameRange (frameSetting b) n → fieldFault b f n = some ⟨3, f, n⟩) ∧
    (FrameRange (frameSetting b) n → ¬FrameRelation (frameSetting b) n → fieldFault b f n = some ⟨4, f, n⟩) := by
  unfold fieldFault FrameRange
  by_cases h1 : n = 1
  · have hrelation : FrameRelation (frameSetting b) n := fun _ => ⟨by omega, by omega⟩
    simp only [h1, if_true] at hrelation ⊢
    exact ⟨fun h _ => if_pos h, fun h => if_neg h, fun _ h => absurd hrelation h⟩
  simp only [h1, if_false]
  by_cases hin : frameSetting b 1 = 1
  · simp only [hin, if_true, true_implies, FrameRelation]
    by_cases hle : n ≤ 12
    · simp only [hle, true_implies, ← frameRangeOk_iff (v := frameSetting b n) ⟨(by omega : 2 ≤ n), hle⟩,
        frameFault_of_le (f := f) (b := b) ⟨(by omega : 2 ≤ n), hle⟩]
      refine ⟨fun hrange hrelation => ?_, fun hrange => if_neg hrange, fun hrange hrelation => ?_⟩
      · rw [if_pos hrange, if_neg]
        rintro ⟨rfl, hlarge⟩
        exact absurd (hrelation.1 rfl) (by omega)
      · rw [if_pos hrange, if_pos]
        by_contra hsmall
        refine hrelation ⟨fun h12 => ?_, by omega⟩
        subst h12
        omega
    · simp only [hle, false_implies, true_implies, not_true_eq_false, true_and,
        frameFault_of_gt (f := f) (b := b) (show 13 ≤ n by omega)]
      refine ⟨fun hrelation => ?_, fun hrelation => ?_⟩
      · rw [if_neg]
        rintro ⟨hsection, hlarge⟩
        exact absurd (hrelation.2 (by omega) hsection) (by omega)
      · rw [if_pos]
        by_contra h
        exact hrelation ⟨by omega, fun _ hsection => by
          by_contra hlarge
          exact h ⟨hsection, by omega⟩⟩
  · simp [hin, FrameRelation]

end

end Sys2Proof.Machine
end

section
/-! PROOFS. PLAN_SWITCH (R150 to R154). -/

namespace Sys2Proof.Machine

/-! ### The settings of a copy -/

theorem getD_map_oneTo {α : Type} {g : Nat → α} {d : α} {n p : Nat} (hp : 1 ≤ p ∧ p ≤ n) :
    ((oneTo n).map g).getD (p - 1) d = g p := by
  have hlt : p - 1 < n := by omega
  simp [oneTo, List.getD_eq_getElem?_getD, hlt, Nat.sub_add_cancel hp.1]

section
variable {l : List Word}

theorem parseSettings_home {p : Nat} (hp : 1 ≤ p ∧ p ≤ 8) :
    (parseSettings l).home p = if groupSetting l (18 + p) = 0 then none else some (groupSetting l (18 + p)) := by
  unfold Settings.home parseSettings
  simp only [getD_map_oneTo hp]

theorem parseSettings_frame {f : Nat} (hf : 1 ≤ f ∧ f ≤ 8) : (parseSettings l).frame f = parseFrame (frameBlock l f) :=
  getD_map_oneTo hf

/-- The section start values are the fields from 13 on. -/
theorem drop_eq_map_frameSetting {b : List Word} (hb : b.length = 88) :
    (b.drop 12).map BitVec.toNat = (List.range' 13 76).map (frameSetting b) := by
  refine List.ext_getElem (by simp [hb]) fun n h₁ h₂ => ?_
  have hn : n < 76 := by simpa using h₂
  simp [frameSetting, List.getD_eq_getElem?_getD, List.getElem?_eq_getElem (show 12 + n < b.length by omega)]

/-! ### The tests of a copy's words -/

variable {capacity : Nat}

/-- The group field that fails first. -/
theorem fieldFaults_of_group {n : Nat} {x : PlanFault} (hn : 1 ≤ n ∧ n ≤ 26) (hx : groupFault capacity l n = some x)
    (hbefore : ∀ m, 1 ≤ m → m < n → groupFault capacity l m = none) : fieldFaults capacity l = some x := by
  rw [fieldFaults, oneTo_eq_range' 26, findSome_range'_eq_some ⟨hn.1, by omega⟩ hx hbefore]

theorem fieldFaults_of_groups (h : ∀ n, 1 ≤ n → n ≤ 26 → groupFault capacity l n = none) :
    fieldFaults capacity l = (List.range' 1 8).findSome? fun f => frameFaults (frameBlock l f) f := by
  rw [fieldFaults, oneTo_eq_range' 26, findSome_range'_eq_none fun m hlo hhi => h m hlo (by omega), oneTo_eq_range']

/-- The home side that an earlier piecer has. -/
def SharesHome (l : List Word) (p : Nat) : Prop :=
  ∃ q, 1 ≤ q ∧ q < p ∧ groupSetting l (18 + q) = groupSetting l (18 + p) ∧ groupSetting l (18 + p) ≠ 0

/-- The test of one piecer's home side. -/
def homeTest (t : Settings) (p : Nat) : Option PlanFault :=
  if (t.home p).isSome && (oneTo (p - 1)).any fun q => t.home q == t.home p then some (planFault .home 0 (18 + p))
  else none

theorem homeFault_eq (t : Settings) : homeFault t = (List.range' 1 8).findSome? (homeTest t) := by
  rw [homeFault, oneTo_eq_range']
  rfl

theorem homeTest_iff {p : Nat} (hp : 1 ≤ p ∧ p ≤ 8) :
    (SharesHome l p → homeTest (parseSettings l) p = some ⟨5, 0, 18 + p⟩) ∧
    (¬SharesHome l p → homeTest (parseSettings l) p = none) := by
  have hshares : ((((parseSettings l).home p).isSome &&
      (oneTo (p - 1)).any fun q => (parseSettings l).home q == (parseSettings l).home p) = true) ↔ SharesHome l p := by
    simp only [Bool.and_eq_true, List.any_eq_true, mem_oneTo, beq_iff_eq, parseSettings_home hp]
    constructor
    · rintro ⟨hsome, q, ⟨hq, hlt⟩, heq⟩
      have hzero : groupSetting l (18 + p) ≠ 0 := fun h => by simp [h] at hsome
      rw [parseSettings_home ⟨hq, by omega⟩, if_neg hzero] at heq
      refine ⟨q, hq, by omega, ?_, hzero⟩
      by_cases h0 : groupSetting l (18 + q) = 0
      · simp [h0] at heq
      · simpa [h0] using heq
    · rintro ⟨q, hq, hlt, heq, hzero⟩
      refine ⟨by simp [hzero], q, ⟨hq, by omega⟩, ?_⟩
      rw [parseSettings_home ⟨hq, by omega⟩, heq]
  exact ⟨fun h => if_pos (hshares.mpr h), fun h => if_neg (mt hshares.mp h)⟩

end

/-! ### The failure of a copy read by a PLAN_SWITCH -/

section
variable {s : State} {copy : PlanCopy} {l : List Word}

theorem State.switchFault_of_active (h : s.plan.active.map Plan.copy = some copy) :
    s.switchFault copy l = some ⟨1, 0, 0⟩ := if_pos h

theorem State.switchFault_of_copy (h : s.plan.active.map Plan.copy ≠ some copy) {x : PlanFault}
    (hx : copyFault s.writer.capacity l = some x) : s.switchFault copy l = some x := by
  rw [State.switchFault, if_neg h, hx]

theorem State.switchFault_of_valid (h : s.plan.active.map Plan.copy ≠ some copy)
    (hx : copyFault s.writer.capacity l = none) : s.switchFault copy l = s.momentFault (parseSettings l) := by
  rw [State.switchFault, if_neg h, hx]

theorem copyFault_of_field {capacity : Nat} {x : PlanFault} (hcheck : checkWordOk l = true)
    (hx : fieldFaults capacity l = some x) : copyFault capacity l = some x := by
  simp [copyFault, hcheck, hx]

theorem copyFault_of_fields {capacity : Nat} (hcheck : checkWordOk l = true) (hx : fieldFaults capacity l = none) :
    copyFault capacity l = homeFault (parseSettings l) := by
  simp [copyFault, hcheck, hx]

/-- A frame keeps its place and its spindles unless it is HALTED or OUT. -/
def State.Stays (s : State) (t : Settings) (f : Nat) : Prop :=
  (s.frame f).state ≠ .halted → (s.frame f).state ≠ .out →
    (t.frame f).inPlan = (s.frameSettings f).inPlan ∧ (t.frame f).perSide = (s.frameSettings f).perSide

/-- The test of one frame's state. -/
def State.frameStateTest (s : State) (t : Settings) (f : Nat) : Option PlanFault :=
  if (s.frame f).state == .halted || (s.frame f).state == .out then none
  else if (s.frameSettings f).inPlan != (t.frame f).inPlan then some (planFault .frameState f 1)
  else if (s.frameSettings f).perSide != (t.frame f).perSide then some (planFault .frameState f 2)
  else none

theorem State.frameStateFault_eq (t : Settings) :
    s.frameStateFault t = (List.range' 1 8).findSome? (s.frameStateTest t) := rfl

theorem State.frameStateTest_iff (s : State) (t : Settings) (f : Nat) :
    (s.Stays t f → s.frameStateTest t f = none) ∧
    (¬s.Stays t f → s.frameStateTest t f =
      some ⟨6, f, if (t.frame f).inPlan = (s.frameSettings f).inPlan then 2 else 1⟩) := by
  unfold State.frameStateTest State.Stays
  by_cases hrest : (s.frame f).state = .halted ∨ (s.frame f).state = .out
  · rw [if_pos (by simpa using hrest)]
    refine ⟨fun _ => rfl, fun h => absurd (fun h1 h2 => ?_) h⟩
    exact absurd hrest (not_or.mpr ⟨h1, h2⟩)
  · rw [if_neg (by simpa using hrest)]
    obtain ⟨hhalted, hout⟩ := not_or.mp hrest
    simp only [ne_eq, hhalted, hout, not_false_eq_true, true_implies]
    by_cases hin : (t.frame f).inPlan = (s.frameSettings f).inPlan
    · by_cases hper : (t.frame f).perSide = (s.frameSettings f).perSide
      · simp [hin, hper]
      · simp [hin, hper, Ne.symm hper, planFault, PlanItem.code]
    · simp [hin, Ne.symm hin, planFault, PlanItem.code]

/-- FRAME_STATE of the lowest frame that does not stay, else SLOTS (R152). -/
theorem State.momentFault_cases (s : State) (t : Settings) :
    (∀ f, 1 ≤ f ∧ f ≤ 8 → ¬s.Stays t f → (∀ g, 1 ≤ g → g < f → s.Stays t g) →
      s.momentFault t = some ⟨6, f, if (t.frame f).inPlan = (s.frameSettings f).inPlan then 2 else 1⟩) ∧
    ((∀ f, 1 ≤ f → f ≤ 8 → s.Stays t f) → s.momentFault t =
      if t.doffSlots < ((List.range' 1 8).filter fun f => (s.frame f).slot.isSome).length then some ⟨7, 0,
        13⟩ else none) := by
  refine ⟨fun f hf hno hbefore => ?_, fun hall => ?_⟩
  · rw [State.momentFault, State.frameStateFault_eq, findSome_range'_eq_some ⟨hf.1, by omega⟩
      ((s.frameStateTest_iff t f).2 hno) fun g hg hlt => (s.frameStateTest_iff t g).1 (hbefore g hg hlt)]
  · rw [State.momentFault, State.frameStateFault_eq, findSome_range'_eq_none fun g hg hlt =>
      (s.frameStateTest_iff t g).1 (hall g hg (by omega))]
    rfl

end

end Sys2Proof.Machine
end

section
/-! PROOFS. PLAN_SWITCH is decided (R150 to R154). -/

namespace Sys2Proof.Machine

/-! ### A copy that fails -/

section
variable {s : State} {copy : PlanCopy} {l : List Word}

/-- The words of a frame's fields, in_plan first. -/
def frameField (l : List Word) (f n : Nat) : Nat := groupSetting l (64 + 96 * (f - 1) + (n - 1))

theorem frameSetting_eq_frameField (l : List Word) (f n : Nat) (hlo : 1 ≤ n) (hhi : n ≤ 88) :
    frameSetting (frameBlock l f) n = frameField l f n := frameSetting_frameBlock ⟨hlo, hhi⟩

/-- A group field is in its range and meets its relation. -/
def GroupOk (capacity : Nat) (l : List Word) (n : Nat) : Prop :=
  GroupRange n (groupSetting l n) ∧ (n = 18 → groupSetting l n < capacity)

/-- A frame's field is in its range and meets its relation. -/
def FieldOk (l : List Word) (f n : Nat) : Prop := FrameRange (frameField l f) n ∧ FrameRelation (frameField l f) n

/-- The failure of a frame's field, of the words of a copy. -/
theorem fieldFault_frameBlock {f n : Nat} (hn : 1 ≤ n ∧ n ≤ 88) :
    (FieldOk l f n → fieldFault (frameBlock l f) f n = none) ∧
    (¬FrameRange (frameField l f) n → fieldFault (frameBlock l f) f n = some ⟨3, f, n⟩) ∧
    (FrameRange (frameField l f) n → ¬FrameRelation (frameField l f) n →
      fieldFault (frameBlock l f) f n = some ⟨4, f, n⟩) := by
  obtain ⟨hok, hrange, hrelation⟩ := fieldFault_cases (b := frameBlock l f) f hn.1
  have hsame := frameSetting_eq_frameField l f
  rw [frameRange_congr hsame hn, frameRelation_congr hsame hn] at hok hrelation
  rw [frameRange_congr hsame hn] at hrange
  exact ⟨fun h => hok h.1 h.2, hrange, hrelation⟩

theorem frameFaults_of_ok {f : Nat} (h : ∀ n, 1 ≤ n → n ≤ 88 → FieldOk l f n) :
    frameFaults (frameBlock l f) f = none := by
  rw [frameFaults_eq]
  exact findSome_range'_eq_none fun n hlo hhi => (fieldFault_frameBlock ⟨hlo, by omega⟩).1 (h n hlo (by omega))

theorem frameFaults_of_first {f n : Nat} {x : PlanFault} (hn : 1 ≤ n ∧ n ≤ 88)
    (hx : fieldFault (frameBlock l f) f n = some x) (hbefore : ∀ m, 1 ≤ m → m < n → FieldOk l f m) :
    frameFaults (frameBlock l f) f = some x := by
  rw [frameFaults_eq]
  exact findSome_range'_eq_some ⟨hn.1, by omega⟩ hx fun m hlo hlt =>
    (fieldFault_frameBlock ⟨hlo, by omega⟩).1 (hbefore m hlo hlt)

/-- The copy is not the active one, and its check word is right. -/
def State.Checked (s : State) (copy : PlanCopy) (l : List Word) : Prop :=
  s.plan.active.map Plan.copy ≠ some copy ∧ l.getLast? = some (~~~ (l.take 2047).foldl (· + ·) 0#32)

theorem State.switchFault_of_field (hl : l.length = 2048) (h : s.Checked copy l) {x : PlanFault}
    (hx : fieldFaults s.writer.capacity l = some x) : s.switchFault copy l = some x :=
  State.switchFault_of_copy h.1 (copyFault_of_field ((checkWordOk_iff hl).mpr h.2) hx)

theorem State.switchFault_of_check (hl : l.length = 2048) (hactive : s.plan.active.map Plan.copy ≠ some copy)
    (hcheck : l.getLast? ≠ some (~~~ (l.take 2047).foldl (· + ·) 0#32)) : s.switchFault copy l = some ⟨2, 0, 0⟩ := by
  have hbad : checkWordOk l = false := Bool.eq_false_iff.mpr (mt (checkWordOk_iff hl).mp hcheck)
  exact State.switchFault_of_copy hactive (by simp [copyFault, hbad, planFault, PlanItem.code])

/-- The first group field that fails. -/
theorem State.switchFault_of_group (hl : l.length = 2048) (h : s.Checked copy l) {n : Nat} (hn : 1 ≤ n ∧ n ≤ 26)
    (hno : ¬GroupOk s.writer.capacity l n) (hbefore : ∀ m, 1 ≤ m → m < n → GroupOk s.writer.capacity l m) :
    (¬GroupRange n (groupSetting l n) → s.switchFault copy l = some ⟨3, 0, n⟩) ∧
    (GroupRange n (groupSetting l n) → s.switchFault copy l = some ⟨4, 0, n⟩) := by
  have hfirst {x : PlanFault} (hx : groupFault s.writer.capacity l n = some x) : s.switchFault copy l = some x :=
    State.switchFault_of_field hl h (fieldFaults_of_group hn hx fun m hlo hlt =>
      groupFault_of_ok ⟨hlo, by omega⟩ (hbefore m hlo hlt).1 (hbefore m hlo hlt).2)
  exact ⟨fun hrange => hfirst (groupFault_of_range hn hrange),
    fun hrange => hfirst (groupFault_of_relation hn hrange fun hrelation => hno ⟨hrange, hrelation⟩)⟩

theorem fieldFaults_of_groupsOk {capacity : Nat} (hgroups : ∀ n, 1 ≤ n → n ≤ 26 → GroupOk capacity l n) :
    fieldFaults capacity l = (List.range' 1 8).findSome? fun f => frameFaults (frameBlock l f) f :=
  fieldFaults_of_groups fun n hlo hhi => groupFault_of_ok ⟨hlo, hhi⟩ (hgroups n hlo hhi).1 (hgroups n hlo hhi).2

/-- The first field of a frame that fails, the group's fields being right. -/
theorem State.switchFault_of_frame (hl : l.length = 2048) (h : s.Checked copy l)
    (hgroups : ∀ n, 1 ≤ n → n ≤ 26 → GroupOk s.writer.capacity l n) {f n : Nat} (hf : 1 ≤ f ∧ f ≤ 8)
    (hn : 1 ≤ n ∧ n ≤ 88) (hno : ¬FieldOk l f n)
    (hframes : ∀ g, 1 ≤ g → g < f → ∀ m, 1 ≤ m → m ≤ 88 → FieldOk l g m)
    (hbefore : ∀ m, 1 ≤ m → m < n → FieldOk l f m) :
    (¬FrameRange (frameField l f) n → s.switchFault copy l = some ⟨3, f, n⟩) ∧
    (FrameRange (frameField l f) n → s.switchFault copy l = some ⟨4, f, n⟩) := by
  have hfirst {x : PlanFault} (hx : fieldFault (frameBlock l f) f n = some x) : s.switchFault copy l = some x := by
    refine State.switchFault_of_field hl h ?_
    rw [fieldFaults_of_groupsOk hgroups]
    exact findSome_range'_eq_some ⟨hf.1, by omega⟩ (frameFaults_of_first hn hx hbefore) fun g hlo hlt =>
      frameFaults_of_ok (hframes g hlo hlt)
  obtain ⟨_, hrange, hrelation⟩ := fieldFault_frameBlock (l := l) (f := f) hn
  exact ⟨fun hr => hfirst (hrange hr), fun hr => hfirst (hrelation hr fun hrel => hno ⟨hr, hrel⟩)⟩

/-- Every field being right, the home sides are looked at. -/
theorem copyFault_of_fieldsOk {capacity : Nat} (hcheck : checkWordOk l = true)
    (hgroups : ∀ n, 1 ≤ n → n ≤ 26 → GroupOk capacity l n)
    (hframes : ∀ f, 1 ≤ f → f ≤ 8 → ∀ m, 1 ≤ m → m ≤ 88 → FieldOk l f m) :
    copyFault capacity l = (List.range' 1 8).findSome? (homeTest (parseSettings l)) := by
  rw [copyFault_of_fields hcheck, homeFault_eq]
  rw [fieldFaults_of_groupsOk hgroups]
  exact findSome_range'_eq_none fun f hlo hhi => frameFaults_of_ok (hframes f hlo (by omega))

theorem State.switchFault_of_home (hl : l.length = 2048) (h : s.Checked copy l)
    (hgroups : ∀ n, 1 ≤ n → n ≤ 26 → GroupOk s.writer.capacity l n)
    (hframes : ∀ f, 1 ≤ f → f ≤ 8 → ∀ m, 1 ≤ m → m ≤ 88 → FieldOk l f m) {p : Nat} (hp : 1 ≤ p ∧ p ≤ 8)
    (hshares : SharesHome l p) (hbefore : ∀ q, 1 ≤ q → q < p → ¬SharesHome l q) :
    s.switchFault copy l = some ⟨5, 0, 18 + p⟩ := by
  refine State.switchFault_of_copy h.1 ?_
  rw [copyFault_of_fieldsOk ((checkWordOk_iff hl).mpr h.2) hgroups hframes]
  exact findSome_range'_eq_some ⟨hp.1, by omega⟩ ((homeTest_iff hp).1 hshares) fun q hlo hlt =>
    (homeTest_iff ⟨hlo, by omega⟩).2 (hbefore q hlo hlt)

theorem State.switchFault_of_homesOk (hl : l.length = 2048) (h : s.Checked copy l)
    (hgroups : ∀ n, 1 ≤ n → n ≤ 26 → GroupOk s.writer.capacity l n)
    (hframes : ∀ f, 1 ≤ f → f ≤ 8 → ∀ m, 1 ≤ m → m ≤ 88 → FieldOk l f m)
    (hhomes : ∀ p, 1 ≤ p → p ≤ 8 → ¬SharesHome l p) :
    s.switchFault copy l = s.momentFault (parseSettings l) := by
  refine State.switchFault_of_valid h.1 ?_
  rw [copyFault_of_fieldsOk ((checkWordOk_iff hl).mpr h.2) hgroups hframes]
  exact findSome_range'_eq_none fun p hlo hhi => (homeTest_iff ⟨hlo, by omega⟩).2 (hhomes p hlo (by omega))

/-- A frame's settings in a copy. -/
theorem parseFrame_frameBlock (hl : l.length = 2048) {f : Nat} (hf : 1 ≤ f ∧ f ≤ 8) :
    (parseSettings l).frame f = if frameField l f 1 = 1 then
      ⟨true, frameField l f 2, frameField l f 3, frameField l f 4, frameField l f 5, frameField l f 6, frameField l f 7,
        frameField l f 8, frameField l f 9, frameField l f 10, frameField l f 11, frameField l f 12,
        (List.range' 13 76).map (frameField l f)⟩
      else ⟨false, 0, 0, 0, 0, 0, 0, 0, 0, 0, 0, 0, []⟩ := by
  have hsame := frameSetting_eq_frameField l f
  have hstarts : (List.range' 13 76).map (frameSetting (frameBlock l f)) = (List.range' 13 76).map (frameField l f) :=
    List.map_congr_left fun n hn => by
      have := List.mem_range'_1.mp hn
      exact hsame n (by omega) (by omega)
  rw [parseSettings_frame hf, parseFrame, drop_eq_map_frameSetting (length_frameBlock hl hf.2), hstarts]
  rw [hsame 1 (by decide) (by decide), hsame 2 (by decide) (by decide), hsame 3 (by decide) (by decide), hsame 4 (by decide) (by decide), hsame 5 (by decide) (by decide), hsame 6 (by decide) (by decide), hsame 7 (by decide) (by decide), hsame 8 (by decide) (by decide), hsame 9 (by decide) (by decide), hsame 10 (by decide) (by decide), hsame 11 (by decide) (by decide), hsame 12 (by decide) (by decide)]
  rfl

end

end Sys2Proof.Machine
end

section
/-! PROOFS. PLAN_SWITCH is decided (R150 to R154). -/

namespace Sys2Proof.Machine

section
variable {s : State} {c : CellRead}

theorem planCopy_of_not {w : Word} (h : ¬(w = 1#32 ∨ w = 2#32)) : planCopy w = none := by
  obtain ⟨h1, h2⟩ := not_or.mp h
  unfold planCopy
  split
  · next hw => exact absurd (BitVec.eq_of_toNat_eq hw) h1
  · next hw => exact absurd (BitVec.eq_of_toNat_eq hw) h2
  · rfl

theorem switchMode_of_not {w : Word} (h : ¬(w = 1#32 ∨ w = 2#32)) : switchMode w = none := by
  obtain ⟨h1, h2⟩ := not_or.mp h
  unfold switchMode
  split
  · next hw => exact absurd (BitVec.eq_of_toNat_eq hw) h1
  · next hw => exact absurd (BitVec.eq_of_toNat_eq hw) h2
  · rfl

/-- The copy and the mode that an order names. -/
def CellRead.NamesSwitch (c : CellRead) : Prop := (c.p1 = 1#32 ∨ c.p1 = 2#32) ∧ (c.p2 = 1#32 ∨ c.p2 = 2#32)

theorem State.orderPlanSwitch_unnamed (h : ¬c.NamesSwitch) : s.orderPlanSwitch c = (some .outOfRange, s) := by
  unfold State.orderPlanSwitch
  by_cases hcopy : c.p1 = 1#32 ∨ c.p1 = 2#32
  · rw [switchMode_of_not (fun hmode => h ⟨hcopy, hmode⟩)]
    cases planCopy c.p1 <;> rfl
  · rw [planCopy_of_not hcopy]

theorem State.orderPlanSwitch_pending (h : c.NamesSwitch) (hpending : s.plan.pending ≠ none) :
    s.orderPlanSwitch c = (some .pending, s) := by
  have hsome : s.plan.pending.isSome = true := Option.isSome_iff_ne_none.mpr hpending
  obtain ⟨hcopy, hmode⟩ := h
  unfold State.orderPlanSwitch
  rcases hcopy with hcopy | hcopy <;> rcases hmode with hmode | hmode <;> rw [hcopy, hmode] <;> exact if_pos hsome

theorem State.orderPlanSwitch_reads (h : c.NamesSwitch) (hpending : s.plan.pending = none) :
    s.orderPlanSwitch c = (none, { s with
      plan := { s.plan with read := some ⟨if c.p1 = 1#32 then .p else .q, []⟩ }
      port := s.port.request
        ⟨.planStore, false, s.areaAddr (if c.p1 = 1#32 then 0x1000 else 0x3000), 8, 0, []⟩ }) := by
  have hsome : ¬s.plan.pending.isSome = true := by simp [hpending]
  obtain ⟨hcopy, hmode⟩ := h
  unfold State.orderPlanSwitch
  rcases hcopy with hcopy | hcopy <;> rcases hmode with hmode | hmode <;> rw [hcopy, hmode] <;> exact if_neg hsome

theorem State.handOrder_planSwitch {r : Reason} (h : s.orderPlanSwitch c = (some r, s)) :
    s.handOrder .planSwitch c = (s.finish c.cell (some r) []).dropTaken := by
  unfold State.handOrder
  rw [h]
  rfl

theorem State.handOrder_planSwitch_reads {t : State} (h : s.orderPlanSwitch c = (none, t)) :
    s.handOrder .planSwitch c = t := by
  unfold State.handOrder
  rw [h]

theorem State.applySwitch_plan (s : State) (p : Plan) (cause : Option PageCause) :
    (s.applySwitch p cause).plan = { s.plan with active := some p, pending := none } := by
  rw [State.applySwitch_eq, State.switchShift_eq]
  exact (State.switchReport_works _ _ _ State.Works.refl).plan.trans (s.switchRecords_works p).plan

/-- A copy read whole that fails. -/
theorem State.decideSwitch_of_fault {copy : PlanCopy} {l : List Word} {x : PlanFault}
    (h : s.switchFault copy l = some x) :
    s.decideSwitch c copy l = s.finish c.cell (some .invalid) x.toWords := by
  unfold State.decideSwitch
  rw [h]

theorem State.decideSwitch_now {copy : PlanCopy} {l : List Word} (h : s.switchFault copy l = none)
    (hmode : c.p2 = 1#32) :
    s.decideSwitch c copy l = (s.applySwitch (parsePlan copy l) none).finish c.cell none
      [w32 copy.code, l.headD 0#32, s.clock, 0#32] := by
  unfold State.decideSwitch
  rw [h, hmode]
  rfl

theorem State.decideSwitch_shiftEnd {copy : PlanCopy} {l : List Word} (h : s.switchFault copy l = none)
    (hmode : c.p2 = 2#32) : s.decideSwitch c copy l =
      (State.markItem .header { s with plan := { s.plan with pending := some ⟨parsePlan copy l, c.seq⟩ } }).enterBook
        .planSwitch c := by
  unfold State.decideSwitch
  rw [h, hmode]
  rfl

end

/-- The taking of a PLAN_SWITCH: its refusals that need no reading, and the reading of the copy. -/
theorem execPlanSwitch_effect (htakes : s.takes .planSwitch [c.p1, c.p2] c) :
    let v := s.heard c
    (¬c.NamesSwitch → ∃ u : State, exec (.planSwitch c.p1 c.p2) s = .next u.dropTaken.conclude ∧
      u.answered c.cell (some .outOfRange) [] ∧ u.plan = s.plan) ∧
    (c.NamesSwitch → s.plan.pending ≠ none → ∃ u : State, exec (.planSwitch c.p1 c.p2) s = .next u.dropTaken.conclude ∧
      u.answered c.cell (some .pending) [] ∧ u.plan = s.plan) ∧
    (c.NamesSwitch → s.plan.pending = none → exec (.planSwitch c.p1 c.p2) s = .next (State.conclude { v with
      plan := { v.plan with read := some ⟨if c.p1 = 1#32 then .p else .q, []⟩ }
      port := v.port.request
        ⟨.planStore, false, v.areaAddr (if c.p1 = 1#32 then 0x1000 else 0x3000), 8, 0, []⟩ })) := by
  intro v
  have hexec : exec (.planSwitch c.p1 c.p2) s = .next (v.handOrder .planSwitch c).conclude :=
    congrArg Host.Outcome.next (State.orderEvent_of_takes htakes)
  have hplan : v.plan = s.plan := State.heard_plan ..
  have hrefused (r : Reason) (h : v.orderPlanSwitch c = (some r, v)) : ∃ u : State,
      exec (.planSwitch c.p1 c.p2) s = .next u.dropTaken.conclude ∧ u.answered c.cell (some r) [] ∧ u.plan = s.plan :=
    ⟨v.finish c.cell (some r) [], by rw [hexec, State.handOrder_planSwitch h], State.finish_answered ..,
      (State.finish_plan ..).trans hplan⟩
  refine ⟨fun hno => hrefused _ (State.orderPlanSwitch_unnamed hno), fun hnamed hpending => ?_, fun hnamed hnone => ?_⟩
  · exact hrefused _ (State.orderPlanSwitch_pending hnamed (by rw [hplan]; exact hpending))
  · rw [hexec, State.handOrder_planSwitch_reads (State.orderPlanSwitch_reads hnamed (by rw [hplan]; exact hnone))]

/-- A copy read whole: the switch is refused, takes effect, or becomes pending. -/
theorem decideSwitch_effect (v : State) (c : CellRead) (copy : PlanCopy) (l : List Word) :
    let u := v.decideSwitch c copy l
    (∀ x, v.switchFault copy l = some x → u.plan = v.plan ∧
      u.answered c.cell (some .invalid) [w32 x.item, w32 x.frame, w32 x.field]) ∧
    (v.switchFault copy l = none → c.p2 = 1#32 →
      u.plan = { v.plan with active := some ⟨copy, l.headD 0#32, parseSettings l⟩, pending := none } ∧
      u.answered c.cell none [w32 copy.code, l.headD 0#32, v.clock, 0#32]) ∧
    (v.switchFault copy l = none → c.p2 = 2#32 →
      u.plan = { v.plan with pending := some ⟨⟨copy, l.headD 0#32, parseSettings l⟩, c.seq⟩ } ∧
      u.entered .planSwitch c) := by
  intro u
  refine ⟨fun x hx => ?_, fun hvalid hmode => ?_, fun hvalid hmode => ?_⟩
  · have hu : u = _ := State.decideSwitch_of_fault hx
    rw [hu]
    exact ⟨State.finish_plan .., State.finish_answered ..⟩
  · have hu : u = _ := State.decideSwitch_now hvalid hmode
    rw [hu]
    exact ⟨(State.finish_plan ..).trans (State.applySwitch_plan ..), State.finish_answered ..⟩
  · have hu : u = _ := State.decideSwitch_shiftEnd hvalid hmode
    rw [hu]
    refine ⟨?_, State.enterBook_entered⟩
    rw [State.enterBook_plan, State.markItem_plan]
    rfl

/-- Settles O45: the refusals that need no reading, the reading of the copy, its validation and the settings of its
words. -/
theorem planSwitchIsDecided : Obligations.PlanSwitchIsDecided := by
  unfold Obligations.PlanSwitchIsDecided
  refine ⟨fun s c => ⟨execPlanSwitch_effect, fun r hr => if_pos hr, fun r hr => ?_⟩, ?_, ?_⟩
  · intro l v u
    obtain ⟨hfault, hnow, hend⟩ := decideSwitch_effect v c r.copy l
    refine ⟨if_neg (by omega), hfault, fun hvalid hmode => ?_, fun hvalid hmode => ?_⟩
    · obtain ⟨hplan, hanswered⟩ := hnow hvalid hmode
      exact ⟨congrArg PlanStore.active hplan, congrArg PlanStore.pending hplan, hanswered⟩
    · obtain ⟨hplan, hentered⟩ := hend hvalid hmode
      exact ⟨(congrArg PlanStore.active hplan :), congrArg PlanStore.pending hplan, hentered⟩
  · intro s copy l hl
    intro value field frames groups perFrame inside groupRange groupRelation frameRange frameRelation groupOk frameOk'
      groupsOk fieldsOk framesOk shares homesOk t fixed frameStays fault checked
    refine ⟨State.switchFault_of_active, State.switchFault_of_check hl, fun hc n hlo hhi hno hbefore => ?_,
      fun hc hgroups f n hf hlo hhi hno hframes hbefore => ?_, fun hc hgroups hframes p hlo hhi hshares hbefore => ?_,
      fun hc hgroups hframes hhomes => ⟨fun f hf hno hbefore => ?_, fun hall => ?_⟩⟩
    · exact State.switchFault_of_group hl hc ⟨hlo, hhi⟩ hno hbefore
    · exact State.switchFault_of_frame hl hc hgroups hf ⟨hlo, hhi⟩ hno hframes hbefore
    · exact State.switchFault_of_home hl hc hgroups (fun f hlo hhi => hframes f ⟨hlo, hhi⟩) ⟨hlo, hhi⟩ hshares hbefore
    all_goals
      have hvalid := State.switchFault_of_homesOk hl hc hgroups (fun f hlo hhi => hframes f ⟨hlo, hhi⟩) hhomes
      obtain ⟨hfirst, hslots⟩ := s.momentFault_cases (parseSettings l)
    · exact hvalid.trans (hfirst f hf (mt (fun h hfixed => h hfixed.1 hfixed.2) hno)
        fun g hlo hlt h1 h2 => hbefore g hlo hlt ⟨h1, h2⟩)
    · exact hvalid.trans (hslots fun f hlo hhi h1 h2 => hall f ⟨hlo, hhi⟩ ⟨h1, h2⟩)
  · intro l hl
    refine ⟨rfl, fun p hlo hhi => ?_, fun f hlo hhi => ?_⟩
    · exact parseSettings_home ⟨hlo, hhi⟩
    · exact parseFrame_frameBlock hl ⟨hlo, hhi⟩

end Sys2Proof.Machine
end

section
/-! PROOFS. The end of winding down (R144, R166, R177). -/

namespace Sys2Proof.Machine

/-! ### The journal flushed -/

/-- Journal entries join the write queue, and of the writer nothing else changes but the pending list and its drops. -/
def State.Flushed (s t : State) : Prop :=
  ∃ d p l, t = { s with writer := { s.writer with drops := d, pending := p, queue := s.writer.queue ++ l } } ∧
    ∀ i, i ∈ l → ∃ e, i = WriteItem.journal e

theorem State.Flushed.refl (s : State) : s.Flushed s := ⟨s.writer.drops, s.writer.pending, [], by simp, nofun⟩

theorem flushEntries_flushed (n : Nat) (s : State) : s.Flushed (flushEntries n s) := by
  induction n generalizing s with
  | zero => exact State.Flushed.refl s
  | succ n ih =>
    unfold flushEntries
    split
    · exact State.Flushed.refl s
    · next e r hpending =>
      split
      · obtain ⟨d, p, l, ht, hl⟩ := ih { s with writer := { s.writer with
          pending := r, queue := s.writer.queue ++ [.journal e] } }
        refine ⟨d, p, .journal e :: l, by rw [ht]; simp, fun i hi => ?_⟩
        exact (List.mem_cons.mp hi).elim (fun h => ⟨e, h⟩) (hl i)
      · exact State.Flushed.refl s

theorem State.flushJournal_flushed (s : State) : s.Flushed s.flushJournal := by
  unfold State.flushJournal
  dsimp only
  split
  · obtain ⟨d, p, l, ht, hl⟩ := flushEntries_flushed Config.pendingListRoom { s with writer := { s.writer with
      queue := s.writer.queue ++
        [.journal ⟨.gap, 0, 0, s.clock, [w32 s.writer.drops, s.writer.firstDrop, s.writer.lastDrop]⟩]
      drops := 0 } }
    refine ⟨d, p, .journal ⟨.gap, 0, 0, s.clock, [w32 s.writer.drops, s.writer.firstDrop, s.writer.lastDrop]⟩ :: l, ?_,
      fun i hi => (List.mem_cons.mp hi).elim (fun h => ⟨_, h⟩) (hl i)⟩
    rw [if_pos rfl, ht]
    simp
  · split
    · exact flushEntries_flushed _ s
    · exact State.Flushed.refl s

/-! ### Rest -/

theorem CarrierState.parked_iff (x : CarrierState) :
    x.parked = true ↔ x = .absent ∨ x = .idle ∨ x = .fault ∨ x = .lost := by
  cases x <;> simp [CarrierState.parked]

theorem State.atRest_iff (s : State) : s.atRest = true ↔ (∀ f, 1 ≤ f → f ≤ 8 → (s.frame f).slot = none) ∧
    (∀ c, 1 ≤ c → c ≤ 4 → (s.carrier c).state = .absent ∨ (s.carrier c).state = .idle ∨ (s.carrier c).state = .fault ∨
      (s.carrier c).state = .lost) ∧
    ∀ p, 1 ≤ p → p ≤ 8 → (s.piecer p).state = .absent ∨ (s.piecer p).state = .lost ∨
      ((s.piecer p).state = .parked ∧ (s.piecer p).atBay = true) := by
  have hslots : s.slotHolders.isEmpty = true ↔ ∀ f, 1 ≤ f → f ≤ 8 → (s.frame f).slot = none := by
    simp [State.slotHolders, mem_allFrames]
  have hcarriers : ([1, 2, 3, 4].all fun c => (s.carrier c).state.parked) = true ↔ ∀ c, 1 ≤ c → c ≤ 4 →
      (s.carrier c).state = .absent ∨ (s.carrier c).state = .idle ∨ (s.carrier c).state = .fault ∨
        (s.carrier c).state = .lost := by
    rw [show [1, 2, 3, 4] = oneTo 4 from rfl]
    simp only [List.all_eq_true, mem_oneTo, CarrierState.parked_iff, and_imp]
  have hpiecers : (allPiecers.all fun p => (s.piecer p).atRest) = true ↔ ∀ p, 1 ≤ p → p ≤ 8 →
      (s.piecer p).state = .absent ∨ (s.piecer p).state = .lost ∨
        ((s.piecer p).state = .parked ∧ (s.piecer p).atBay = true) := by
    simp only [List.all_eq_true, mem_allPiecers, and_imp, Piecer.atRest, Bool.or_eq_true, Bool.and_eq_true, beq_iff_eq]
    exact forall_congr' fun p => forall_congr' fun _ => forall_congr' fun _ => by
      rw [or_assoc, or_comm (a := (s.piecer p).state = .lost), or_comm, or_assoc]
  rw [State.atRest, Bool.and_eq_true, Bool.and_eq_true, hslots, hcarriers, hpiecers, and_assoc]

/-! ### The sections keep no order -/

/-- A record that is not the reset record is listed with its number. -/
theorem mem_of_tget_ne {α : Type} {d : α} {t : List (Nat × α)} {n : Nat} (h : tget d t n ≠ d) :
    (n, tget d t n) ∈ t := by
  induction t with
  | nil => exact absurd rfl h
  | cons e r ih =>
    obtain ⟨k, v⟩ := e
    by_cases hk : n = k
    · simp [tget, hk]
    · rw [tget, if_neg hk] at h ⊢
      exact List.mem_cons_of_mem _ (ih h)

theorem State.dropCreelOrders_keeps {β : Type} (P : State → β) (h : ∀ c x t, P (State.setCreel c x t) = P t)
    (s : State) :
    P s.dropCreelOrders = P s :=
  State.each_keeps P _ _ (fun _ _ => h _ _ _) s

theorem State.dropCreelOrders_orderSeq {s : State} (hs : s.formed = true) (c : Nat) :
    (s.dropCreelOrders.creel c).orderSeq = none := by
  have hloop (l : List Nat) (t : State) (ht : t.formed = true) (h : c ∈ l ∨ (t.creel c).orderSeq = none) :
      ((t.each l fun c u => u.setCreel c { u.creel c with orderSeq := none }).creel c).orderSeq = none := by
    induction l generalizing t with
    | nil => exact h.resolve_left List.not_mem_nil
    | cons k l ih =>
      refine ih _ (State.setCreel_formed _ _ _ ht) ?_
      by_cases hk : c = k
      · rw [hk, State.setCreel_formed_same _ _ _ ht]
        exact .inr rfl
      · rw [State.setCreel_other _ _ _ _ hk]
        exact h.imp_left fun hm => (List.mem_cons.mp hm).resolve_left hk
  refine hloop _ s hs ?_
  by_cases hnone : (s.creel c).orderSeq = none
  · exact .inr hnone
  · refine .inl (List.mem_map.mpr ⟨(c, s.creel c), List.mem_filter.mpr ⟨?_, ?_⟩, rfl⟩)
    · exact mem_of_tget_ne fun h => hnone (congrArg Creel.orderSeq h)
    · simpa [Option.isSome_iff_ne_none] using hnone

end Sys2Proof.Machine
end

section
/-! PROOFS. The end of winding down (R144, R166, R177). -/

namespace Sys2Proof.Machine

/-! ### The PART_STOP boundary -/

section
variable {s : State}

theorem mem_closeInQueue (c : ClosedPage) (l : List WriteItem) : .closedPage c ∈ closeInQueue c l := by
  induction l with
  | nil => exact List.mem_singleton_self _
  | cons i l ih =>
    unfold closeInQueue
    split
    · exact List.mem_cons_self
    · exact List.mem_cons_of_mem _ ih

theorem State.closePage_of_none (cause : PageCause) (h : s.output.page = none) : s.closePage cause = s := by
  unfold State.closePage
  rw [h]

/-- The page closed at a PART_STOP boundary, with its accumulators. -/
def State.ClosedFor (s : State) (p : OpenPage) (u : State) : Prop :=
  u.pageView p.number = some .closed ∧
    .closedPage ⟨p, s.clock, .partStop, u.output.counts⟩ ∈ u.writer.queue ∧ u.regs.att &&& 4#32 = 4#32

theorem State.ClosedFor.samePages {p : OpenPage} {u v : State} (h : s.ClosedFor p u) (hpage : u.output.page = none)
    (hv : u.SamePages v) : s.ClosedFor p v := by
  obtain ⟨hview, hqueue, hatt⟩ := h
  refine ⟨?_, ?_, hv.attBit hatt⟩
  · rw [State.pageView, hv.view]
    exact hview
  · rw [hv.counts hpage]
    exact hv.queue _ rfl hqueue

/-- The captures and the page work of a PART_STOP boundary. -/
theorem State.boundaryPage_partStop (s : State) :
    let q := s.boundaryPage .partStop
    q.output.page = none ∧ q.output.shift = ⟨false, 0⟩ ∧ q.plan = s.plan ∧ q.rogue = s.rogue ∧
      ∀ p, s.output.page = some p → s.ClosedFor p q := by
  intro q
  have hcaptured := s.captured_works
  have hclock : s.captured.clock = s.clock := State.clock_of_fixed s.captured_fixed
  have hq : q = { s.captured.closePage .partStop with output := { (s.captured.closePage .partStop).output with
      shift := ⟨false, 0⟩ } } := rfl
  cases hp : s.output.page with
  | none =>
    rw [hq, State.closePage_of_none _ (hcaptured.page.trans hp)]
    exact ⟨hcaptured.page.trans hp, rfl, hcaptured.plan, hcaptured.rogue, nofun⟩
  | some p =>
    have hpage := hcaptured.page.trans hp
    have hclose := State.closePage_works .partStop hpage
    rw [hq]
    refine ⟨hclose.page, rfl, hclose.plan.trans hcaptured.plan, hclose.rogue.trans hcaptured.rogue, fun p' hp' => ?_⟩
    obtain rfl := Option.some.inj hp'
    refine ⟨?_, ?_, State.closePage_att .partStop hpage⟩
    · exact (hclose.pageView p.number).trans (tget_tput_ne _ (by simp))
    · have hcounts : (s.captured.closePage .partStop).output.counts = s.captured.output.counts := hclose.counts rfl
      have hmem := hclose.queue (.closedPage ⟨p, s.captured.clock, .partStop, s.captured.output.counts⟩) rfl
        (mem_closeInQueue ..)
      rw [hclock, ← hcounts] at hmem
      exact hmem

/-- A switch at PART_STOP leaves a stopped shift timer stopped. -/
theorem State.applySwitch_shift {p : Plan} (h : s.output.shift = ⟨false, 0⟩) :
    (s.applySwitch p (some .partStop)).output.shift = ⟨false, 0⟩ := by
  have hrecords : (s.switchRecords p).output.shift = ⟨false, 0⟩ := (s.switchRecords_works p).shift.trans h
  rw [State.applySwitch_eq, (State.switchReport_works _ _ _ State.Works.refl).shift]
  unfold State.switchShift
  rw [if_neg fun hload => hload.2.2 rfl]
  split
  · rfl
  · exact hrecords

/-- The Plan Store at a PART_STOP boundary: nothing is pending afterwards. -/
theorem State.planBoundary_partStop (s : State) : (s.planBoundary .partStop).plan.pending = none ∧
    (s.output.shift = ⟨false, 0⟩ → (s.planBoundary .partStop).output.shift = ⟨false, 0⟩) := by
  unfold State.planBoundary
  split
  · next h => exact ⟨h, id⟩
  · split
    · rw [State.finishBook_plan, State.finishBook_output, State.applySwitch_plan]
      exact ⟨rfl, State.applySwitch_shift⟩
    · rw [State.finishBook_plan, State.finishBook_output, State.markItem_plan, State.markItem_output]
      exact ⟨rfl, id⟩

theorem State.boundary_partStop (s : State) :
    let b := s.boundary .partStop
    b.output.page = none ∧ b.output.shift = ⟨false, 0⟩ ∧ b.plan.pending = none ∧ b.rogue = s.rogue ∧
      (s.plan.pending = none → b.plan = s.plan) ∧ ∀ p, s.output.page = some p → s.ClosedFor p b := by
  intro b
  obtain ⟨hpage, hshift, hplan, hrogue, hclosed⟩ := s.boundaryPage_partStop
  have hsame := (s.boundaryPage .partStop).planBoundary_samePages .partStop
  obtain ⟨hpending, hstopped⟩ := (s.boundaryPage .partStop).planBoundary_partStop
  refine ⟨hsame.page.trans hpage, hstopped hshift, hpending, hsame.rogue.trans hrogue, fun hnone => ?_, fun p hp => ?_⟩
  · have hb : b = s.boundaryPage .partStop :=
      State.planBoundary_of_none _ ((congrArg PlanStore.pending hplan).trans hnone)
    rw [hb]
    exact hplan
  · exact (hclosed p hp).samePages hpage hsame

/-! ### The end begins -/

/-- The boundary of the end, settled, and what the orders and the sections are left with. -/
def State.endSettled (s : State) : State := (s.boundary .partStop).settle.dropCreelOrders

theorem State.dropCreelOrders_works (s : State) : s.Works s.dropCreelOrders :=
  State.each_works _ _ (fun c _ ht => State.setCreel_works c _ ht) State.Works.refl

theorem State.endSettled_works (s : State) : (s.boundary .partStop).Works s.endSettled :=
  (State.settle_works State.Works.refl).trans (State.dropCreelOrders_works _)

theorem State.endSettled_fixed (s : State) : s.endSettled.fixed = s.fixed :=
  (State.dropCreelOrders_fixed _).trans ((State.settle_fixed _).trans (State.boundary_fixed _ _))

/-- Every order left is withdrawn. -/
def State.endOrders (s : State) : State :=
  s.endSettled.finishBook (fun _ => true) (some .withdrawn) [w32 PageCause.partStop.closeCode]

theorem State.beginEnd_eq (s : State) :
    s.beginEnd = State.endWrites { s.endOrders with output := { s.endOrders.output with wait := none } } := by
  unfold State.beginEnd State.endOrders State.endSettled
  rfl

/-- A flush changes the journal's lists, and the write queue at its tail. -/
theorem State.Flushed.keeps {t : State} (h : s.Flushed t) :
    t.regs = s.regs ∧ t.clock = s.clock ∧ t.output = s.output ∧ t.plan = s.plan ∧
    t.desk = s.desk ∧ t.frames = s.frames ∧ t.watch = s.watch ∧ t.disp = s.disp ∧ t.roving = s.roving ∧
    t.rogue = s.rogue ∧ ∀ i, i ∈ s.writer.queue → i ∈ t.writer.queue := by
  obtain ⟨d, p, l, rfl, _⟩ := h
  exact ⟨rfl, rfl, rfl, rfl, rfl, rfl, rfl, rfl, rfl, rfl, fun i hi => List.mem_append_left _ hi⟩

theorem State.endWrites_flushed (s : State) :
    State.Flushed { s with regs := { s.regs with ending := some .writing } } s.endWrites := by
  unfold State.endWrites
  exact State.flushJournal_flushed _

theorem State.finishBook_all_book (r : Option Reason) (l : List Word) :
    (s.finishBook (fun _ => true) r l).desk.book = [] :=
  List.eq_nil_iff_forall_not_mem.mpr fun b hb => by
    obtain ⟨hmem, hnone⟩ := State.mem_finishBook_book.mp hb
    exact hnone b hmem rfl rfl

/-- The end after its boundary is settled: every order is withdrawn, nothing is awaited, the journal is flushed. -/
structure State.Ended (e u : State) : Prop where
  part : u.regs.part = .windingDown
  ending : u.regs.ending = some .writing
  output : u.output = { e.output with wait := none }
  plan : u.plan = e.plan
  book : u.desk.book = []
  clock : u.clock = e.clock
  closed : ∀ t p, State.ClosedFor t p e → State.ClosedFor t p u
  finished : ∀ b, b ∈ e.desk.book → u.finished b.cell (some .withdrawn) [3#32]
  roving : u.roving = e.roving
  frames : u.frames = e.frames
  watch : u.watch = e.watch
  disp : u.disp = e.disp
  rogue : u.rogue = e.rogue

theorem State.endWrites_ended {e w u : State} (hw : w = e.finishBook (fun _ => true) (some .withdrawn) [3#32])
    (hu : u = State.endWrites { w with output := { w.output with wait := none } })
    (hpart : e.regs.part = .windingDown) (hpage : e.output.page = none) : e.Ended u := by
  obtain ⟨hregs, hclock, houtput, hplan, hdesk, hframes, hwatch, hdisp, hroving, hrogue, hqueue⟩ :=
    (State.endWrites_flushed { w with output := { w.output with wait := none } }).keeps
  rw [← hu] at hregs hclock houtput hplan hdesk hframes hwatch hdisp hroving hrogue hqueue
  have hsame : e.SamePages w := hw ▸ State.finishBook_samePages ..
  have hwpart : w.regs.part = .windingDown := by rw [hw, State.finishBook_regs, hpart]
  have hrun : ¬w.regs.part = .stalled := by simp [hwpart]
  exact {
    part := by rw [hregs]; exact hwpart
    ending := by rw [hregs]
    output := by rw [houtput, hw, State.finishBook_output]
    plan := by rw [hplan, hw, State.finishBook_plan]
    book := by rw [hdesk, hw, State.finishBook_all_book]
    clock := by rw [hclock, hw, State.finishBook_clock]
    closed := fun t p h => by
      obtain ⟨hview, hmem, hatt⟩ := h.samePages hpage hsame
      unfold State.ClosedFor State.pageView
      rw [houtput, hregs]
      exact ⟨hview, hqueue _ hmem, hatt⟩
    finished := fun b hb => by
      obtain ⟨hview, hanswer⟩ : w.finished b.cell (some .withdrawn) [3#32] := hw ▸ State.finishBook_finished hb rfl
      rw [if_neg hrun] at hanswer
      unfold State.finished State.cellView
      rw [hdesk, hregs, hclock, if_neg hrun]
      exact ⟨hview, hqueue _ hanswer⟩
    roving := by rw [hroving, hw, State.finishBook_roving]
    frames := by rw [hframes, hw, State.finishBook_frames]
    watch := by rw [hwatch, hw, State.finishBook_watch]
    disp := by rw [hdisp, hw, State.finishBook_disp]
    rogue := by rw [hrogue, hw, State.finishBook_rogue] }

theorem State.endOrders_eq (s : State) :
    s.endOrders = s.endSettled.finishBook (fun _ => true) (some .withdrawn) [3#32] := rfl

theorem State.endSettled_page (s : State) : s.endSettled.output.page = none :=
  s.endSettled_works.page.trans s.boundary_partStop.1

theorem State.beginEnd_ended (s : State) (hpart : s.regs.part = .windingDown) : s.endSettled.Ended s.beginEnd :=
  State.endWrites_ended s.endOrders_eq s.beginEnd_eq ((State.part_of_fixed s.endSettled_fixed).trans hpart)
    s.endSettled_page

end

end Sys2Proof.Machine
end

section
/-! PROOFS. Winding down ends (R144, R166, R177). -/

namespace Sys2Proof.Machine

section
variable (s : State)

/-- The end's own effect on the pages, the orders and the records. -/
theorem beginEnd_effect (hs : s.formed = true) (hpart : s.regs.part = .windingDown) :
    let v := (s.boundary .partStop).settle
    let u := s.beginEnd
    u.regs.part = .windingDown ∧ u.regs.ending = some .writing ∧ u.output.page = none ∧ u.output.shift = ⟨false, 0⟩ ∧
    u.output.wait = none ∧ u.plan.pending = none ∧ u.desk.book = [] ∧ u.clock = s.clock ∧
    (∀ p, s.output.page = some p → s.ClosedFor p u) ∧
    (s.plan.pending = none → u.plan = s.plan) ∧
    (∀ b, b ∈ v.desk.book → u.finished b.cell (some .withdrawn) [3#32]) ∧
    (∀ c, (u.creel c).orderSeq = none) ∧ u.frames = v.frames ∧ u.watch = v.watch ∧ u.disp = v.disp ∧
    u.rogue = s.rogue := by
  have hended := s.beginEnd_ended hpart
  have hworks := s.endSettled_works
  have hboundary := s.boundary_partStop
  have hclock := State.clock_of_fixed s.endSettled_fixed
  have hdrop {β : Type} (P : State → β) (h : ∀ c x t, P (State.setCreel c x t) = P t) :
      P s.endSettled = P (s.boundary .partStop).settle := State.dropCreelOrders_keeps P h _
  have horders := State.dropCreelOrders_orderSeq (State.settle_formed _ (State.boundary_formed .partStop s hs))
  change ∀ c, (s.endSettled.creel c).orderSeq = none at horders
  generalize s.beginEnd = u at hended ⊢
  generalize s.endSettled = e at hended hworks hdrop horders hclock
  generalize (s.boundary .partStop).settle = v at hdrop ⊢
  generalize s.boundary .partStop = b at hworks hboundary
  obtain ⟨hpage, hshift, hpending, hrogue, hplan, hclosed⟩ := hboundary
  have hbook : e.desk.book = v.desk.book := hdrop (fun t => t.desk.book) (by simp)
  refine ⟨hended.part, hended.ending, ?_, ?_, ?_, ?_, hended.book, hended.clock.trans hclock, fun p hp => ?_,
    fun hnone => ?_,
    fun b hb => hended.finished b (hbook ▸ hb), fun c => ?_, ?_, ?_, ?_, ?_⟩
  · rw [hended.output]
    exact hworks.page.trans hpage
  · rw [hended.output]
    exact hworks.shift.trans hshift
  · rw [hended.output]
  · rw [hended.plan, hworks.plan, hpending]
  · exact hended.closed s p ((hclosed p hp).samePages hpage hworks.samePages)
  · rw [hended.plan, hworks.plan, hplan hnone]
  · rw [State.creel, hended.roving]
    exact horders c
  · exact hended.frames.trans (hdrop State.frames (by simp))
  · exact hended.watch.trans (hdrop State.watch (by simp))
  · exact hended.disp.trans (hdrop State.disp (by simp))
  · rw [hended.rogue, hworks.rogue, hrogue]

theorem State.raise_journalled {k : JournalKind} {f n : Nat} {l : List Word} (c : Cause) (h : s.journalled k f n l) :
    (s.raise c).journalled k f n l := h

/-- The page left at PART_STOP has SHIFT_CLOSED journalled. -/
theorem closePage_journalled {p : OpenPage} (hp : s.output.page = some p) :
    (s.closePage .partStop).journalled .shiftClosed 0 0 [w32 p.number, 3#32, p.stamp, s.clock, w32 p.merged] := by
  unfold State.closePage
  rw [hp]
  dsimp only
  generalize ht : State.each allFrames _ _ = t
  have hclock : t.clock = s.clock := by
    rw [← ht, State.each_keeps State.clock _ _ fun f t => State.setRoller_clock ..]
    rfl
  rw [← hclock]
  exact State.raise_journalled _ .tally (State.journal_journalled ..)

/-- The end goes on from the writing, and from the word of the lost entries, to HALTED. -/
theorem endGoesOn_effect :
    (s.regs.ending = some .writing → s.endGoesOn = State.markItem .header { s with
      regs := { s.regs with ending := some .lostWord }
      writer := { s.writer with
        journalLost := w32 (min 4294967295 (s.writer.pending.length + s.writer.drops)) } }) ∧
    (s.regs.ending = some .lostWord → s.endGoesOn = s.halt) := by
  unfold State.endGoesOn
  exact ⟨fun h => by rw [h]; rfl, fun h => by rw [h]⟩

/-- With nothing left to write the end goes on, and without an end nothing is served. -/
theorem serveN_empty (n : Nat) (hpart : s.regs.part = .windingDown) (hcurrent : s.writer.current = none)
    (hqueue : s.writer.queue = []) :
    (s.regs.ending ≠ none → serveN (n + 1) s = serveN n s.endGoesOn) ∧
    (s.regs.ending = none → serveN (n + 1) s = s) := by
  have hserved : (s.served && s.writer.current.isNone) = true := by simp [State.served, hpart, hcurrent]
  refine ⟨fun h => ?_, fun h => ?_⟩
  · rw [serveN, if_pos hserved, hqueue]
    exact if_pos (by simp [hpart, Option.isSome_iff_ne_none.mpr h])
  · rw [serveN, if_pos hserved, hqueue]
    exact if_neg (by simp [h])

/-- RESUME of an end that was cut off goes on from the writing. -/
theorem markReached_resumesEnd (hstart : s.regs.start = none) (hrewriting : s.regs.rewriting = some .journal)
    (hresume : s.regs.resume = some .windingDown) (hending : s.regs.ending ≠ none) :
    let u := s.markReached
    u.regs = { s.regs with part := .windingDown, resume := none, rewriting := none, ending := some .writing } ∧
    u.output = s.output ∧ u.plan = s.plan ∧ u.desk.book = s.desk.book ∧ u.frames = s.frames := by
  intro u
  have hu : u = s.resumeReturn := by
    change s.markReached = _
    unfold State.markReached
    rw [hstart, hrewriting]
  have hreturn : s.resumeReturn = State.endWrites (State.queueHeld { s with
      regs := { s.regs with part := .windingDown, resume := none, rewriting := none }
      desk := { s.desk with scanTimer := Timer.load s.settings.scanInterval } }) := by
    unfold State.resumeReturn
    rw [hresume]
    exact if_pos (Option.isSome_iff_ne_none.mpr hending)
  rw [hu, hreturn]
  obtain ⟨hregs, _, houtput, hplan, hdesk, hframes, _⟩ := (State.endWrites_flushed (State.queueHeld { s with
      regs := { s.regs with part := .windingDown, resume := none, rewriting := none }
      desk := { s.desk with scanTimer := Timer.load s.settings.scanInterval } })).keeps
  rw [hregs, houtput, hplan, hdesk, hframes]
  exact ⟨rfl, rfl, rfl, rfl, rfl⟩

end

/-- Settles O10: the end test, the boundary and the refusals with which the end begins, its steps, and RESUME in it. -/
theorem windingDownEnds : Obligations.WindingDownEnds := by
  unfold Obligations.WindingDownEnds
  refine ⟨fun s => ?_, fun s hs hpart => ?_, fun s p hp => ⟨?_, State.closePage_att .partStop hp,
    closePage_journalled s hp⟩, fun s => ⟨?_, ?_, ?_⟩,
    fun s _ _ hstart hrewriting hresume hending => markReached_resumesEnd s hstart hrewriting hresume hending⟩
  · intro rests parked ends
    have hends : ends ↔ s.regs.part = .windingDown ∧ s.regs.ending = none ∧ s.atRest = true :=
      and_congr_right fun _ => and_congr_right fun _ => s.atRest_iff.symm
    exact ⟨fun h => if_pos (hends.mp h), fun h => if_neg (mt hends.mpr h)⟩
  · exact beginEnd_effect s hs hpart
  · exact (State.closePage_works .partStop hp).page
  · exact (endGoesOn_effect s).1
  · exact (endGoesOn_effect s).2
  · exact fun n hpart hcurrent hqueue => serveN_empty s n hpart hcurrent hqueue

end Sys2Proof.Machine
end

section
/-! PROOFS. A start (R164, R165): the header, the plan and the writes. -/

namespace Sys2Proof.Machine

section
variable {s : State}

/-- A start that has failed. -/
def State.StartFailed (s : State) (c : StartFault) (u : State) : Prop :=
  u.regs.part = .halted ∧ u.regs.startFault = c ∧
    u.regs.run = false ∧ u.regs.start = none ∧ u.regs.att &&& 32#32 = 32#32 ∧ u.link.units = s.link.units

theorem State.failStart_failed (c : StartFault) : s.StartFailed c (s.failStart c) :=
  ⟨rfl, rfl, rfl, rfl, or_and_self_right _ _, rfl⟩

/-- The words of the failure are to be written before the start ends. -/
def State.PlanFails (s : State) (x : PlanFault) (u : State) : Prop :=
  u.regs.start = some .planFault ∧ u.plan.fault = x ∧ u.writer.queue = [.planFault, .mark] ∧ u.link = s.link

/-! ### STARTING is entered -/

theorem tget_foldl_tput (g : Nat → Piecer) {p : Nat} {l : List Nat} {t : List (Nat × Piecer)}
    (ht : tableWf Piecer.reset t = true) (h : p ∈ l ∨ tget Piecer.reset t p = g p) :
    tget Piecer.reset (l.foldl (fun t q => tput Piecer.reset t q (g q)) t) p = g p := by
  induction l generalizing t with
  | nil => exact h.resolve_left List.not_mem_nil
  | cons q l ih =>
    refine ih (tableWf_tput q (g q) ht) ?_
    by_cases hq : p = q
    · exact .inr (hq ▸ tget_tput_same q (g q) ht)
    · rw [tget_tput_other _ hq]
      exact h.imp_left fun hm => (List.mem_cons.mp hm).resolve_left hq

theorem State.enterStarting_piecer {p : Nat} (hp : 1 ≤ p ∧ p ≤ 8) :
    s.enterStarting.piecer p = { Piecer.reset with counter := (s.piecer p).counter, void := (s.piecer p).void } :=
  tget_foldl_tput (fun q => { Piecer.reset with counter := (s.piecer q).counter, void := (s.piecer q).void }) rfl
    (.inl (mem_allPiecers.mpr hp))

/-! ### The header -/

theorem capacityOf_of_le {w : Word} (h : w.toNat ≤ 4) : capacityOf w = some (256 * 2 ^ w.toNat) := by
  unfold capacityOf
  generalize w.toNat = n at h ⊢
  interval_cases n <;> rfl

theorem capacityOf_of_lt {w : Word} (h : 4 < w.toNat) : capacityOf w = none := by
  unfold capacityOf
  generalize w.toNat = n at h ⊢
  split
  case h_6 => rfl
  all_goals omega

theorem planCopy_eq (w : Word) :
    planCopy w = if w = 1#32 then some .p else if w = 2#32 then some .q else none := by
  by_cases h1 : w = 1#32
  · subst h1; rfl
  · by_cases h2 : w = 2#32
    · subst h2; rfl
    · rw [if_neg h1, if_neg h2, planCopy_of_not (not_or.mpr ⟨h1, h2⟩)]

/-- The header's first eight words. -/
theorem headerFirst_effect (s : State) (w : List Word) :
    let word (n : Nat) := w.getD n 0#32
    let capacity := 256 * 2 ^ (word 1).toNat
    let u := s.headerFirst w
    (4 < (word 1).toNat ∨ capacity ≤ (word 2).toNat → s.StartFailed .badHeader u) ∧
    ((word 1).toNat ≤ 4 → (word 2).toNat < capacity →
      u.writer.capacity = capacity ∧ u.desk.readMark = (word 2).toNat ∧ u.regs = s.regs ∧
      u.plan.read = (if word 4 = 1#32 then some ⟨.p, []⟩ else if word 4 = 2#32 then some ⟨.q, []⟩ else none) ∧
      u.port = s.port.request ⟨.orderDesk, false, s.areaAddr 0x20, 5, 0, []⟩) := by
  intro word capacity u
  have hu : u = s.headerFirst w := rfl
  unfold State.headerFirst at hu
  by_cases hcode : (word 1).toNat ≤ 4
  · rw [capacityOf_of_le hcode] at hu
    by_cases hmark : (word 2).toNat < capacity
    · refine ⟨fun h => h.elim (fun h => absurd hcode (Nat.not_le.mpr h))
        fun h => absurd hmark (Nat.not_lt.mpr h), fun _ _ => ?_⟩
      rw [hu.trans (if_pos hmark)]
      refine ⟨rfl, rfl, rfl, ?_, rfl⟩
      change (planCopy (word 4)).map _ = _
      rw [planCopy_eq]
      (repeat' split) <;> rfl
    · rw [hu.trans (if_neg hmark)]
      exact ⟨fun _ => State.failStart_failed _, fun _ h => absurd h hmark⟩
  · rw [capacityOf_of_lt (Nat.lt_of_not_le hcode)] at hu
    rw [hu]
    exact ⟨fun _ => State.failStart_failed _, fun h => absurd h hcode⟩

/-- The header's last words. -/
theorem headerRest_effect (s : State) (w : List Word) :
    let u := s.headerRest w
    u.desk.lastTaken = w.getD 3 0#32 ∧ (s.plan.read = none → s.PlanFails ⟨1, 0, 0⟩ u) ∧
    ∀ r, s.plan.read = some r → u.regs.start = some .plan ∧ u.plan = s.plan ∧
      u.port = s.port.request ⟨.planStore, false, s.areaAddr r.copy.offset, 8, 0, []⟩ := by
  unfold State.headerRest
  dsimp only
  cases hread : s.plan.read with
  | none => exact ⟨rfl, fun _ => ⟨rfl, rfl, rfl, rfl⟩, nofun⟩
  | some r =>
    refine ⟨rfl, nofun, fun r' hr => ?_⟩
    obtain rfl := Option.some.inj hr
    exact ⟨rfl, rfl, rfl⟩

theorem transferEnded_header {t : Transfer} (hblock : t.block = .orderDesk) (hstart : s.regs.start = some .header) :
    s.transferEnded t = State.headerRead (s.transferOffset t) t.words { s with port := s.port.finish } := by
  unfold State.transferEnded State.deskRead
  rw [hblock]
  dsimp only
  rw [hstart]
  rfl

/-- The copy of a start has been read whole. -/
theorem transferEnded_startPlan {t : Transfer} {r : PlanRead} (hblock : t.block = .planStore)
    (hstart : s.regs.start = some .plan) (hread : s.plan.read = some r) (hlen : 2048 ≤ t.words.length + r.words.length) :
    let u := s.transferEnded t
    let l := r.words.reverse ++ t.words
    (∀ x, copyFault s.writer.capacity l = some x → s.PlanFails x u) ∧
    (copyFault s.writer.capacity l = none →
      u.plan.active = some ⟨r.copy, l.headD 0#32, parseSettings l⟩ ∧ u.plan.fault = ⟨0, 0, 0⟩ ∧
      u.regs.start = some .census ∧ u.link = ⟨[], .census ⟨1, 1, [], [], []⟩, 0, 1, none, none⟩) := by
  have hended : s.transferEnded t = State.startPlanRead { r with words := t.words.reverse ++ r.words }
      { s with port := s.port.finish } := by
    unfold State.transferEnded State.planRead
    rw [hblock]
    dsimp only
    rw [hread]
    exact if_pos hstart
  have hlong : ¬(t.words.reverse ++ r.words).length < 2048 := by simp; omega
  have hwords : (t.words.reverse ++ r.words).reverse = r.words.reverse ++ t.words := by simp
  intro u l
  have hu : u = s.transferEnded t := rfl
  rw [hended, State.startPlanRead, if_neg hlong] at hu
  dsimp only at hu
  rw [hwords] at hu
  refine ⟨fun x hx => ?_, fun hx => ?_⟩
  · rw [hx] at hu
    rw [hu]
    exact ⟨rfl, rfl, rfl, rfl⟩
  · rw [hx] at hu
    rw [hu]
    exact ⟨rfl, rfl, rfl, rfl⟩

/-! ### The writes -/

theorem startWrites_effect (s : State) :
    let u := s.startWrites
    u.regs.start = some .writes ∧ u.writer.writeMark = s.desk.readMark ∧ u.desk.startCells = List.range' 1 32 ∧
      (∃ l, u.writer.queue = allMirrors ++ l ∧ ∀ i, i ∈ l → ∃ e, i = .journal e) ∧
      u.port = s.port.request ⟨.orderDesk, false, s.areaAddr 0x100, 1, 0, []⟩ := by
  obtain ⟨d, p, l, hflushed, hl⟩ := State.flushJournal_flushed { s with
    regs := { s.regs with start := some .writes }
    writer := { s.writer with writeMark := s.desk.readMark, queue := allMirrors }
    desk := { s.desk with startCells := oneTo 32 } }
  have hu : s.startWrites = _ := congrArg (State.requestRead .orderDesk (cellOffset 1) 1) hflushed
  rw [hu]
  exact ⟨rfl, rfl, rfl, ⟨l, rfl, hl⟩, rfl⟩

/-- A cell by its stage word at a start (R171, R177). -/
theorem State.startCell_effect (c : Nat) (w : Word) (hs : s.formed = true) (hpart : s.regs.part = .starting) :
    (w.toNat = 2 → (s.startCell c w).cellView c = .refused ∧
      .cellDone ⟨c, some .withdrawn, [Config.openCode .start], s.clock⟩ ∈ (s.startCell c w).writer.queue) ∧
    (w.toNat ≠ 2 → (s.startCell c w).cellView c =
      if w.toNat = 1 then .posted else if w.toNat = 3 then .done else if w.toNat = 4 then .refused else .empty) := by
  have hset (x : CellStage) : (s.setCellView c x).cellView c = x := by
    simp only [State.formed, Bool.and_eq_true] at hs
    obtain ⟨⟨⟨_, hview⟩, _⟩, _⟩ := hs
    exact tget_tput_same c x hview
  have hrun : ¬s.regs.part = .stalled := by simp [hpart]
  obtain ⟨hview, hanswer⟩ := State.finish_answered c (some .withdrawn) [Config.openCode .start] s
  rw [State.finish_regs, if_neg hrun, State.finish_clock] at hanswer
  unfold State.startCell cellStage
  generalize w.toNat = n
  rcases n with _ | _ | _ | _ | _ | n
  · exact ⟨nofun, fun _ => hset .empty⟩
  · exact ⟨nofun, fun _ => hset .posted⟩
  · exact ⟨fun _ => ⟨hview, List.mem_of_getLast? hanswer⟩, fun h => absurd rfl h⟩
  · exact ⟨nofun, fun _ => hset .done⟩
  · exact ⟨nofun, fun _ => hset .refused⟩
  · refine ⟨fun h => by omega, fun _ => ?_⟩
    rw [if_neg (by omega), if_neg (by omega), if_neg (by omega)]
    exact hset .empty

/-- A cell's stage word read at the writes of a start. -/
theorem transferEnded_startCell {t : Transfer} {c : Nat} {r : List Nat} (hs : s.formed = true)
    (hblock : t.block = .orderDesk) (hpart : s.regs.part = .starting) (hstart : s.regs.start = some .writes) (hcells : s.desk.startCells = c :: r) :
    let u := s.transferEnded t
    let stage := (t.words.headD 0#32).toNat
    u.desk.startCells = r ∧
    (stage = 2 → u.cellView c = .refused ∧
      .cellDone ⟨c, some .withdrawn, [Config.openCode .start], s.clock⟩ ∈ u.writer.queue) ∧
    (stage ≠ 2 → u.cellView c =
      if stage = 1 then .posted else if stage = 3 then .done else if stage = 4 then .refused else .empty) := by
  have hended : s.transferEnded t = State.startCellRead (t.words.headD 0#32) { s with port := s.port.finish } := by
    unfold State.transferEnded State.deskRead
    rw [hblock]
    dsimp only
    rw [hstart]
  have hread (v : State) (hv : v.desk.startCells = c :: r) (w : Word) : ∃ x l, v.startCellRead w =
      { v.startCell c w with
        desk := { (v.startCell c w).desk with startCells := r }
        port := x
        writer := { (v.startCell c w).writer with queue := (v.startCell c w).writer.queue ++ l } } := by
    unfold State.startCellRead
    rw [hv]
    cases r with
    | nil => exact ⟨(v.startCell c w).port, [.mark], rfl⟩
    | cons d r' => exact ⟨_, [], by simp [State.requestRead]; rfl⟩
  obtain ⟨x, l, hu⟩ := hread { s with port := s.port.finish } hcells (t.words.headD 0#32)
  obtain ⟨htaken, hother⟩ := State.startCell_effect (s := { s with port := s.port.finish }) c (t.words.headD 0#32) hs hpart
  rw [hended, hu]
  refine ⟨rfl, fun h => ?_, hother⟩
  obtain ⟨hview, hmem⟩ := htaken h
  exact ⟨hview, List.mem_append_left _ hmem⟩

end

end Sys2Proof.Machine
end

section
/-! PROOFS. A start (R146, R165): the pages, and what it ends in. -/

namespace Sys2Proof.Machine

section
variable {s : State}

/-! ### The pages -/

/-- A page found OPEN is closed: its closing is to be written, and TALLY is raised. -/
theorem State.closeFound_works (x : FoundPage) : State.Works
    { s.setPageView x.page .closed with writer := { s.writer with queue := s.writer.queue ++ [.startClose x.page] } }
    (s.closeFound x) := by
  unfold State.closeFound
  exact State.raise_works _ (State.journal_works _ _ _ _ State.Works.refl)

theorem State.closeFound_att (x : FoundPage) : (s.closeFound x).regs.att &&& 4#32 = 4#32 := or_and_self_right _ _

/-- The closing of a page found OPEN is queued, and stays so; what was raised stays raised. -/
theorem State.closeFounds_effect (l : List FoundPage) (s : State) :
    let u := s.each l State.closeFound
    (∀ i, i.ofCell = false → i ∈ s.writer.queue → i ∈ u.writer.queue) ∧
    (∀ x, x ∈ l → .startClose x.page ∈ u.writer.queue) ∧
    (s.regs.att &&& 4#32 = 4#32 ∨ l ≠ [] → u.regs.att &&& 4#32 = 4#32) := by
  induction l generalizing s with
  | nil => exact ⟨fun _ _ h => h, nofun, fun h => h.resolve_right (not_not.mpr rfl)⟩
  | cons x l ih =>
    obtain ⟨hstays, hqueued, hatt⟩ := ih (s.closeFound x)
    have hworks := s.closeFound_works x
    refine ⟨fun i hi hm => hstays i hi (hworks.queue i hi (List.mem_append_left _ hm)), fun y hy => ?_,
      fun _ => hatt (.inl (s.closeFound_att x))⟩
    obtain rfl | hy := List.mem_cons.mp hy
    · exact hstays _ rfl (hworks.queue _ rfl (List.mem_append_right _ (List.mem_singleton_self _)))
    · exact hqueued y hy

theorem State.openNewPage_page (s : State) (n : Nat) (cause : PageCause) :
    (s.openNewPage n cause).output.page = some ⟨n, s.clock, cause, 0⟩ := (s.openNewPage_works n cause).page

theorem State.openNewPage_pageView (s : State) (n : Nat) (cause : PageCause) :
    (s.openNewPage n cause).pageView n = some .opened := by
  rw [(s.openNewPage_works n cause).pageView]
  exact tget_tput_ne _ (by simp)

theorem State.openNewPage_settings (s : State) (n : Nat) (cause : PageCause) :
    (s.openNewPage n cause).settings = s.settings := State.settings_of_plan (s.openNewPage_works n cause).plan

theorem State.openNewPage_queue (n : Nat) (cause : PageCause) {i : WriteItem} (hi : i.ofCell = false)
    (h : i ∈ s.writer.queue) : i ∈ (s.openNewPage n cause).writer.queue := (s.openNewPage_works n cause).queue i hi h

theorem State.openNewPage_att (n : Nat) (cause : PageCause) {m : Word} (h : s.regs.att &&& m = m) :
    (s.openNewPage n cause).regs.att &&& m = m := (s.openNewPage_works n cause).samePages.attBit h

/-- The lowest FREE page opened at a start, with the timer loaded. -/
def State.openLowest (s : State) : State :=
  match s.freePages with
  | n :: _ => (s.openNewPage n .start).loadShift
  | [] => s

theorem State.openLowest_of_none (h : s.freePages = []) : s.openLowest = s := by
  unfold State.openLowest
  rw [h]

theorem State.openLowest_of_free {n : Nat} {r : List Nat} (h : s.freePages = n :: r) :
    s.openLowest = (s.openNewPage n .start).loadShift := by
  unfold State.openLowest
  rw [h]

theorem State.loadShift_eq (s : State) : s.loadShift = { s with output := { s.output with
    shift := if s.settings.shiftLength = 0 then ⟨false, 0⟩ else ⟨true, 60000 * s.settings.shiftLength⟩ } } := rfl

theorem State.openLowest_opened {n : Nat} {r : List Nat} (h : s.freePages = n :: r) :
    s.openLowest.output.page = some ⟨n, s.clock, .start, 0⟩ ∧ s.openLowest.pageView n = some .opened ∧
      s.openLowest.output.shift =
        if s.settings.shiftLength = 0 then ⟨false, 0⟩ else ⟨true, 60000 * s.settings.shiftLength⟩ := by
  have hpage := s.openNewPage_page n .start
  have hview := s.openNewPage_pageView n .start
  have hset := s.openNewPage_settings n .start
  rw [State.openLowest_of_free h]
  generalize s.openNewPage n .start = v at hpage hview hset
  rw [State.loadShift_eq, hset]
  exact ⟨hpage, hview, rfl⟩

theorem State.openLowest_keeps (s : State) :
    (∀ i, i.ofCell = false → i ∈ s.writer.queue → i ∈ s.openLowest.writer.queue) ∧
    (s.regs.att &&& 4#32 = 4#32 → s.openLowest.regs.att &&& 4#32 = 4#32) := by
  cases hfree : s.freePages with
  | nil =>
    rw [State.openLowest_of_none hfree]
    exact ⟨fun _ _ h => h, id⟩
  | cons n r =>
    have hqueue := fun i (hi : WriteItem.ofCell i = false) => State.openNewPage_queue (s := s) n .start hi
    have hatt := State.openNewPage_att (s := s) n .start (m := 4#32)
    rw [State.openLowest_of_free hfree]
    generalize s.openNewPage n .start = v at hqueue hatt
    exact ⟨hqueue, hatt⟩

theorem State.settlePages_eq (s : State) :
    s.settlePages = State.queueMark (s.each s.output.found State.closeFound).openLowest :=
  rfl

/-- Every page's stage is known. -/
theorem settlePages_effect (s : State) :
    (∀ x, x ∈ s.output.found → .startClose x.page ∈ s.settlePages.writer.queue) ∧
    (s.output.found ≠ [] → s.settlePages.regs.att &&& 4#32 = 4#32) ∧
    (s.output.found = [] → s.freePages = [] → s.settlePages.output.page = s.output.page) ∧
    ∀ n r, s.output.found = [] → s.freePages = n :: r →
      s.settlePages.output.page = some ⟨n, s.clock, .start, 0⟩ ∧ s.settlePages.pageView n = some .opened ∧
      s.settlePages.output.shift =
        if s.settings.shiftLength = 0 then ⟨false, 0⟩ else ⟨true, 60000 * s.settings.shiftLength⟩ := by
  have hnone (h : s.output.found = []) : s.each s.output.found State.closeFound = s := by rw [h]; rfl
  obtain ⟨_, hqueued, hatt⟩ := State.closeFounds_effect s.output.found s
  rw [State.settlePages_eq]
  refine ⟨fun x hx => ?_, fun h => ?_, fun hfound hfree => ?_, fun n r hfound hfree => ?_⟩
  · exact List.mem_append_left _ ((State.openLowest_keeps _).1 _ rfl (hqueued x hx))
  · exact (State.openLowest_keeps _).2 (hatt (.inr h))
  · rw [hnone hfound, State.openLowest_of_none hfree]
    rfl
  · rw [hnone hfound]
    exact State.openLowest_opened hfree

/-! ### What a start ends in -/

theorem WriteItem.any_ofJournal (l : List WriteItem) :
    l.any WriteItem.ofJournal = true ↔ .header ∈ l ∨ ∃ e, .journal e ∈ l := by
  rw [List.any_eq_true]
  constructor
  · rintro ⟨i, hi, h⟩
    cases i with
    | header => exact .inl hi
    | journal e => exact .inr ⟨e, hi⟩
    | planFault | frame | unit | creel | block | mapTail | openPage | closedPage | startClose | dump | cellTaken | cellDone
    | mark => cases h
  · rintro (h | ⟨e, h⟩)
    · exact ⟨_, h, rfl⟩
    · exact ⟨_, h, rfl⟩

/-- The sweep timers of the frames in plan are started. -/
theorem startSweeping_sweep (hs : s.formed = true) {f : Nat} (hf : 1 ≤ f ∧ f ≤ 8) :
    (s.each allFrames State.startSweeping).sweep f = if (s.frame f).state = .out then s.sweep f
      else ⟨⟨true, s.settings.sweepPeriod⟩, s.settings.sweepPeriod, []⟩ := by
  obtain ⟨t, ⟨ht, hplan, hframe⟩, hsweep, hpass⟩ := State.each_pass (rec := fun f t => t.sweep f)
    (g := State.startSweeping) (Q := fun t => t.formed = true ∧ t.plan = s.plan ∧ t.frames = s.frames)
    (fun n t ⟨ht, hplan, hframe⟩ => ⟨State.startSweeping_formed n t ht, by
      unfold State.startSweeping
      split <;> exact ⟨hplan, hframe⟩⟩)
    (fun n m t _ hm => by
      unfold State.startSweeping
      split
      · rfl
      · exact State.setSweep_other _ _ _ _ hm)
    (by decide : allFrames.Nodup) (mem_allFrames.mpr hf) (s := s) ⟨hs, rfl, rfl⟩
  rw [hpass, State.startSweeping, State.settings_of_plan hplan, State.frame_of_table hframe]
  split
  · exact hsweep
  · exact State.setSweep_formed_same _ _ _ ht

/-- Winding down leaves the sweep timers alone. -/
theorem State.windDown_sweep (f : Nat) : s.windDown.sweep f = s.sweep f := by
  rw [State.sendAllHome_keeps (fun t => t.sweep f) (fun _ _ => State.sweep_of_table (by simp) f)]
  exact State.checksCut_keeps (fun t => t.sweep f) (fun _ _ _ _ => rfl)
    (fun _ _ _ => State.sweep_of_table (by simp) f) (fun _ _ _ => State.sweep_of_table (by simp) f) (fun _ _ _ _ => State.sweep_of_table (by simp) f)
    (fun _ _ _ _ _ => State.sweep_of_table (by simp) f)
    (fun _ _ _ => State.sweep_of_table (by simp) f) (fun _ _ _ _ => State.sweep_of_table (by simp) f)

/-- The part on entering RUNNING or WINDING_DOWN, before the entry effects. -/
def State.startDone (s : State) : State := { s with
  regs := { s.regs with part := if s.regs.run then .running else .windingDown, start := none }
  output := { s.output with found := [] }
  desk := { s.desk with scanTimer := Timer.load s.settings.scanInterval } }

theorem State.completeStart_eq (s : State) : s.completeStart =
    if (s.startDone.each allFrames State.startSweeping).regs.run = true
      then (s.startDone.each allFrames State.startSweeping).oweArbiter
      else (s.startDone.each allFrames State.startSweeping).windDown := by
  unfold State.completeStart State.startDone
  dsimp only

/-- The start ends with a page open. -/
theorem completeStart_effect (hs : s.formed = true) :
    let u := s.completeStart
    u.regs.start = none ∧ u.regs.part = (if s.regs.run = true then .running else .windingDown) ∧
    (∀ f, 1 ≤ f → f ≤ 8 → u.sweep f = if (s.frame f).state = .out then s.sweep f
      else ⟨⟨true, s.settings.sweepPeriod⟩, s.settings.sweepPeriod, []⟩) ∧
    (s.regs.run = true → u.desk.scanTimer = ⟨true, s.settings.scanInterval⟩ ∧ u.work.arbiter = true) := by
  have hkeeps {β : Type} (P : State → β) (h : ∀ f x t, P (State.setSweep f x t) = P t) :
      P (s.startDone.each allFrames State.startSweeping) = P s.startDone :=
    State.each_keeps_field P (fun f t => by
      unfold State.startSweeping
      split
      · rfl
      · exact h _ _ _) _ _
  have hregs := hkeeps State.regs fun _ _ _ => rfl
  have htimer := hkeeps (fun t => t.desk.scanTimer) fun _ _ _ => rfl
  have hsweep (f : Nat) (hf1 : 1 ≤ f) (hf8 : f ≤ 8) := startSweeping_sweep (s := s.startDone) hs ⟨hf1, hf8⟩
  rw [State.completeStart_eq]
  generalize s.startDone.each allFrames State.startSweeping = v at hregs htimer hsweep
  have hrun : v.regs.run = s.regs.run := (congrArg Regs.run hregs :)
  have hpart : v.regs.part = if s.regs.run = true then .running else .windingDown := (congrArg Regs.part hregs :)
  have hstart : v.regs.start = none := (congrArg Regs.start hregs :)
  rw [hrun]
  by_cases h : s.regs.run = true
  · rw [if_pos h]
    exact ⟨hstart, hpart, hsweep, fun _ => ⟨htimer, rfl⟩⟩
  · rw [if_neg h]
    exact ⟨(State.start_of_fixed v.windDown_fixed).trans hstart, (State.part_of_fixed v.windDown_fixed).trans hpart,
      fun f hf1 hf8 => State.windDown_sweep f |>.trans (hsweep f hf1 hf8), fun hr => absurd hr h⟩

end

end Sys2Proof.Machine
end

section
/-! PROOFS. A start (R164, R165): the statement. -/

namespace Sys2Proof.Machine

section
variable {s : State}

theorem exec_runSet (s : State) : exec .runSet s = execRunSet s := rfl

theorem execRunSet_of_halted (h : s.regs.part = .halted) : execRunSet s = .next s.enterStarting := by
  unfold execRunSet
  rw [h]

theorem State.enterStarting_starts (s : State) :
    let t := s.enterStarting
    t.regs = { s.regs with
      run := true, part := .starting, resume := none, startFault := .none, start := some .header, rewriting := none,
      ending := none } ∧
    t.clock = 0#32 ∧ t.clockMs = 0 ∧ t.mem = s.mem ∧ t.pending = s.pending ∧ t.port.xreq = true ∧
    t.port.current = some ⟨.orderDesk, false, s.areaAddr 0, 8, 0, []⟩ ∧
    t.watch = State.reset.watch ∧ t.frames = [] ∧ t.roving = State.reset.roving ∧ t.output = State.reset.output ∧
    t.link.units = s.link.units ∧ t.link.mode = .off ∧ ∀ d, t.side d = Side.reset :=
  ⟨rfl, rfl, rfl, rfl, rfl, rfl, rfl, rfl, rfl, rfl, rfl, rfl, rfl, fun _ => rfl⟩

theorem State.markReached_of_pages (hstart : s.regs.start = some .pages) : s.markReached = s.pagesWritten := by
  unfold State.markReached
  rw [hstart]

/-- Without a page, the start waits for the closings' journal entries, then fails. -/
theorem markReached_noPage (hstart : s.regs.start = some .pages) (hpage : s.output.page = none) :
    let left := .header ∈ s.writer.queue ∨ ∃ e, .journal e ∈ s.writer.queue
    (left → s.markReached = { s with writer := { s.writer with queue := s.writer.queue ++ [.mark] } }) ∧
    (¬left → s.StartFailed .noTallyPage s.markReached) := by
  rw [State.markReached_of_pages hstart, State.pagesWritten, hpage, ← WriteItem.any_ofJournal]
  refine ⟨fun h => if_pos h, fun h => ?_⟩
  rw [if_neg (by decide : ¬(none : Option OpenPage).isSome = true), if_neg h]
  exact State.failStart_failed _

end

/-- Settles O8: the start from RUN's setting to RUNNING or WINDING_DOWN, step by step. -/
theorem runSetStartsTheGroup : Obligations.RunSetStartsTheGroup := by
  unfold Obligations.RunSetStartsTheGroup
  intro s hs failed planFails
  refine ⟨fun hpart => ⟨s.enterStarting, ?_, ?_⟩, fun hpart => ?_, fun hhalted hstarting => ?_,
    fun t hblock hstart => ?_, fun t r hblock hstart hread hlen => transferEnded_startPlan hblock hstart hread hlen,
    startWrites_effect s, fun t c r hblock hpart hstart hcells => transferEnded_startCell hs hblock hpart hstart hcells,
    settlePages_effect s, fun n r hserved hcurrent hqueue => serveN_mark n hserved hcurrent hqueue, fun hstart => ?_,
    fun hstart => ?_, fun hstart hpage => markReached_noPage hstart hpage, fun hstart hpage => ?_⟩
  · rw [exec_runSet, execRunSet_of_halted hpart]
  · obtain ⟨h1, h2, h3, h4, h5, h6, h7, h8, h9, h10, h11, h12, h13, h14⟩ := s.enterStarting_starts
    exact ⟨h1, h2, h3, h4, h5, h6, h7, h8, h9, h10, h11, h12, h13, h14,
      fun p hp1 hp8 => State.enterStarting_piecer ⟨hp1, hp8⟩⟩
  · rw [exec_runSet, execRunSet, hpart]
  · rw [exec_runSet, execRunSet]
    cases hpart : s.regs.part with
    | halted => exact absurd hpart hhalted
    | starting => exact absurd hpart hstarting
    | running | windingDown | stalled => rfl
  · have hended := transferEnded_header hblock hstart
    refine ⟨fun h0 hbad => ?_, fun h0 hcode hmark => ?_, fun h0 => ?_⟩
    · rw [hended, State.headerRead, if_pos h0]
      exact (headerFirst_effect _ t.words).1 hbad
    · rw [hended, State.headerRead, if_pos h0]
      exact (headerFirst_effect _ t.words).2 hcode hmark
    · rw [hended, State.headerRead, if_neg h0]
      exact headerRest_effect _ t.words
  · have hmark : s.markReached = s.failStart .planInvalid := by
      unfold State.markReached
      rw [hstart]
    rw [hmark]
    exact State.failStart_failed _
  · have hmark : s.markReached = s.startPages := by
      unfold State.markReached
      rw [hstart]
    rw [hmark]
    exact ⟨rfl, rfl⟩
  · rw [State.markReached_of_pages hstart, State.pagesWritten, if_pos (Option.isSome_iff_ne_none.mpr hpage)]
    exact completeStart_effect hs

end Sys2Proof.Machine
end

section
/-! PROOFS. What tending the frames, the spindles and the sections leaves alone: a counter's course, the lengths and
sweeps counted, the delivery rates and the roving left (R81, R93, R94, R108, R109). -/

namespace Sys2Proof.Machine

/-- A roller counter's pulses and captures: the record but the build and the stop mark. -/
def Roller.course (x : Roller) : Roller := { x with build := 0, stopMark := none }

/-- The lengths, the weight and the sweeps of a page. -/
def Counts.yield (x : Counts) : List Nat := [x.frontMm, x.spindleMm, x.weightSum, x.runningSweeps, x.plannedSweeps]

/-- The state `t` comes from `s` by no capture, no delivery and no consumption. -/
structure State.Tended (s t : State) : Prop where
  formed : t.formed = true
  course : ∀ e, (t.roller e).course = (s.roller e).course
  yield : ∀ e, (t.counts e).yield = (s.counts e).yield
  feeds : t.roving.feeds = s.roving.feeds
  remaining : ∀ k, (t.creel k).remaining = (s.creel k).remaining ∧ (t.creel k).state = (s.creel k).state

section
variable {o s t : State}

theorem State.Tended.refl (hs : s.formed = true) : s.Tended s :=
  ⟨hs, fun _ => rfl, fun _ => rfl, rfl, fun _ => ⟨rfl, rfl⟩⟩

theorem State.Tended.trans (h : o.Tended s) (k : s.Tended t) : o.Tended t where
  formed := k.formed
  course e := (k.course e).trans (h.course e)
  yield e := (k.yield e).trans (h.yield e)
  feeds := k.feeds.trans h.feeds
  remaining e := ⟨(k.remaining e).1.trans (h.remaining e).1, (k.remaining e).2.trans (h.remaining e).2⟩

/-- A step that leaves the four tables alone. -/
theorem State.Tended.of_keeps (h : o.Tended s) (ht : t.formed = true) (hrollers : t.output.rollers = s.output.rollers)
    (hcounts : t.output.counts = s.output.counts) (hfeeds : t.roving.feeds = s.roving.feeds)
    (hcreels : t.roving.creels = s.roving.creels) : o.Tended t :=
  h.trans ⟨ht, fun e => by rw [State.roller_of_table hrollers], fun e => by rw [State.counts, hcounts, State.counts],
    hfeeds, fun e => by rw [State.creel_of_table hcreels]; exact ⟨rfl, rfl⟩⟩

/-- A step that leaves the output and the roving alone. -/
theorem State.Tended.of_apart (h : o.Tended s) (ht : t.formed = true) (houtput : t.output = s.output)
    (hroving : t.roving = s.roving) : o.Tended t :=
  h.of_keeps ht (by rw [houtput]) (by rw [houtput]) (by rw [hroving]) (by rw [hroving])

theorem State.each_tended {α : Type} (l : List α) (g : α → State → State) (hg : ∀ x t, o.Tended t → o.Tended (g x t))
    (h : o.Tended s) : o.Tended (s.each l g) := by
  induction l generalizing s with
  | nil => exact h
  | cons x l ih => exact ih (hg x s h)

/-! ### Writes to the tables -/

@[simp] theorem State.setRoller_tended (f : Nat) (x : Roller) (hx : x.course = (s.roller f).course) (h : o.Tended s) :
    o.Tended (s.setRoller f x) := by
  refine h.trans ⟨State.setRoller_formed _ _ _ h.formed, fun e => ?_, fun _ => by simp [State.counts], by simp,
    fun _ => by simp⟩
  obtain rfl | hne := eq_or_ne e f
  · rw [State.setRoller_formed_same _ _ _ h.formed, hx]
  · rw [State.setRoller_other _ _ _ _ hne]

@[simp] theorem State.setCreel_tended (k : Nat) (x : Creel)
    (hx : x.remaining = (s.creel k).remaining ∧ x.state = (s.creel k).state)
    (h : o.Tended s) : o.Tended (s.setCreel k x) := by
  refine h.trans ⟨State.setCreel_formed _ _ _ h.formed, fun _ => by simp, fun _ => by simp [State.counts], by simp,
    fun e => ?_⟩
  obtain rfl | hne := eq_or_ne e k
  · rw [State.setCreel_formed_same _ _ _ h.formed]
    exact hx
  · rw [State.setCreel_other _ _ _ _ hne]
    exact ⟨rfl, rfl⟩

@[simp] theorem State.count_tended (f : Nat) (g : Counts → Counts) (hg : ∀ x, (g x).yield = x.yield) (h : o.Tended s) :
    o.Tended (s.count f g) := by
  refine h.trans ⟨State.count_formed _ _ _ h.formed, fun e => by rw [State.count_roller], fun e => ?_,
    by rw [State.count_roving], fun e => by rw [State.count_creel]; exact ⟨rfl, rfl⟩⟩
  by_cases hp : s.output.page = none
  · rw [State.count_of_no_page hp]
  by_cases he : e = f
  · rw [he, State.count_counts_same h.formed hp, hg]
  · rw [State.count_counts_other he]

@[simp] theorem State.setFrame_tended (f : Nat) (x : Frame) (h : o.Tended s) : o.Tended (s.setFrame f x) :=
  h.of_apart (State.setFrame_formed _ _ _ h.formed) (by simp) (by simp)

@[simp] theorem State.setPiecer_tended (p : Nat) (x : Piecer) (h : o.Tended s) : o.Tended (s.setPiecer p x) :=
  h.of_apart (State.setPiecer_formed _ _ _ h.formed) (by simp) (by simp)

@[simp] theorem State.setSpindle_tended (f n : Nat) (x : Spindle) (h : o.Tended s) : o.Tended (s.setSpindle f n x) :=
  h.of_apart (State.setSpindle_formed _ _ _ _ h.formed) (by simp) (by simp)

@[simp] theorem State.setCarrier_tended (c : Nat) (x : Carrier) (h : o.Tended s) : o.Tended (s.setCarrier c x) :=
  h.of_keeps (State.setCarrier_formed _ _ _ h.formed) (by simp) (by simp) (by simp) (by simp)

@[simp] theorem State.oweArbiter_tended (h : o.Tended s) : o.Tended s.oweArbiter :=
  h.of_apart (State.oweArbiter_formed _ h.formed) rfl rfl

@[simp] theorem State.hand_tended (a : Nat) (c : Cmd) (h : o.Tended s) : o.Tended (s.hand a c) :=
  h.of_apart (State.hand_formed _ _ _ h.formed) (by simp) (by simp)

@[simp] theorem State.journal_tended (j : JournalKind) (e u : Nat) (w : List Word) (h : o.Tended s) :
    o.Tended (s.journal j e u w) :=
  h.of_apart (State.journal_formed _ _ _ _ _ h.formed) (by simp) (by simp)

@[simp] theorem State.alarm_tended (f : Nat) (h : o.Tended s) : o.Tended (s.alarm f) :=
  h.of_apart (State.alarm_formed _ _ h.formed) (by simp [State.alarm]) (by simp [State.alarm])

@[simp] theorem State.finishBook_tended (sel : BookEntry → Bool) (r : Option Reason) (w : List Word) (h : o.Tended s) :
    o.Tended (s.finishBook sel r w) :=
  h.of_apart (State.finishBook_formed _ _ _ _ h.formed) (by simp) (by simp)

@[simp] theorem State.removeEntry_tended (f n : Nat) (h : o.Tended s) : o.Tended (s.removeEntry f n) :=
  h.of_apart (State.removeEntry_formed _ _ _ h.formed) (by simp) (by simp)

/-! ### An attempt abandoned (R54) -/

@[simp] theorem State.carrierTakes_tended (c k : Nat) (w : Holder) (h : o.Tended s) :
    o.Tended (s.carrierTakes c k w) := by
  unfold State.carrierTakes
  exact State.hand_tended _ _ (State.setCarrier_tended _ _ (State.setCreel_tended k { s.creel k with
    lock := .carrier c, waiting := w, holdSent := false } ⟨rfl, rfl⟩ h))

@[simp] theorem State.piecerReleases_tended (p k : Nat) (h : o.Tended s) : o.Tended (s.piecerReleases p k) := by
  unfold State.piecerReleases
  dsimp only
  (repeat' split) <;> simp (maxDischargeDepth := 40) [h]

@[simp] theorem State.claimAbandoned_tended (f n : Nat) (h : o.Tended s) : o.Tended (s.claimAbandoned f n) :=
  h.of_apart (State.claimAbandoned_formed _ _ _ h.formed) (by simp) (by simp)

@[simp] theorem State.voidAttempt_tended (p : Nat) (send : Bool) (h : o.Tended s) :
    o.Tended (s.voidAttempt p send) := by
  unfold State.voidAttempt
  dsimp only
  (repeat' split) <;> simp (maxDischargeDepth := 40) [h]

@[simp] theorem State.attemptOver_tended (p : Nat) (h : o.Tended s) : o.Tended (s.attemptOver p) :=
  h.of_apart (State.attemptOver_formed _ _ h.formed)
    (by unfold State.attemptOver; dsimp only; (repeat' split) <;> simp [State.sendToBay_output]) (by simp)

@[simp] theorem State.abandon_tended (p : Nat) (h : o.Tended s) : o.Tended (s.abandon p) := by
  unfold State.abandon
  split <;> simp (maxDischargeDepth := 40) [h]

@[simp] theorem State.abandonDrain_tended (f : Nat) (h : o.Tended s) : o.Tended (s.abandonDrain f) :=
  State.each_tended _ _ (fun p _ ht => State.abandon_tended p ht) h

/-! ### A frame's state, its call and its slot (R80 to R88) -/

@[simp] theorem State.leaveFrameEnds_tended (f : Nat) (h : o.Tended s) : o.Tended (s.leaveFrameEnds f) :=
  State.each_tended _ _ (fun d t ht => by dsimp only; split <;> simp [ht]) h

@[simp] theorem State.openStop_tended (f : Nat) (h : o.Tended s) : o.Tended (s.openStop f) := by
  unfold State.openStop
  split
  · exact State.setRoller_tended f _ rfl h
  · exact h

@[simp] theorem State.closeStop_tended (f : Nat) (h : o.Tended s) : o.Tended (s.closeStop f) := by
  unfold State.closeStop
  split
  · exact State.setRoller_tended f _ (by rw [State.count_roller]; rfl) (State.count_tended f _ (fun _ => rfl) h)
  · exact h

/-- A frame enters a state other than a stopped one. -/
@[simp] theorem State.enterState_tended (f : Nat) {st : FrameState} (hst : st.stopped = false) (h : o.Tended s) :
    o.Tended (s.enterState f st) := by
  unfold State.enterState
  dsimp only
  (repeat' split) <;> simp_all (maxDischargeDepth := 40)

@[simp] theorem State.grantSlot_tended (f k : Nat) (h : o.Tended s) : o.Tended (s.grantSlot f k) := by
  simp only [State.grantSlot]
  exact State.abandonDrain_tended f (State.journal_tended _ _ _ _ (State.enterState_tended f rfl (State.setFrame_tended _ _ h)))

@[simp] theorem grantN_tended (n : Nat) (h : o.Tended s) : o.Tended (grantN n s) := by
  induction n generalizing s with
  | zero => exact h
  | succ n ih =>
    unfold grantN
    split
    · exact ih (State.grantSlot_tended _ _ h)
    · exact h

@[simp] theorem State.doffArbiter_tended (h : o.Tended s) : o.Tended s.doffArbiter := by
  unfold State.doffArbiter
  split <;> simp (maxDischargeDepth := 40) [h]

@[simp] theorem State.callFrame_tended (f : Nat) (c : CallCause) (h : o.Tended s) : o.Tended (s.callFrame f c) := by
  unfold State.callFrame
  exact State.doffArbiter_tended (State.journal_tended _ _ _ _ (State.setFrame_tended _ _ (State.enterState_tended f rfl h)))

@[simp] theorem State.placeAt_tended (f build : Nat) (c : CallCause) (h : o.Tended s) :
    o.Tended (s.placeAt f build c) := by
  unfold State.placeAt
  dsimp only
  split
  · exact State.callFrame_tended f c h
  · exact State.enterState_tended f (by split <;> rfl) h

@[simp] theorem State.releaseSlot_tended (f : Nat) (h : o.Tended s) : o.Tended (s.releaseSlot f) := by
  unfold State.releaseSlot
  split <;> simp (maxDischargeDepth := 40) [h]

/-! ### A doff's completion and the end of a grace (R94, R95) -/

@[simp] theorem State.completeDoff_tended (f : Nat) (h : o.Tended s) : o.Tended (s.completeDoff f) := by
  unfold State.completeDoff
  exact State.finishBook_tended _ _ _ (State.journal_tended _ _ _ _ (State.count_tended f _ (fun _ => rfl)
    (State.releaseSlot_tended f (State.setFrame_tended _ _ (State.setRoller_tended f _ rfl h)))))

@[simp] theorem State.graceSpindle_tended (f n : Nat) (b : Bool) (h : o.Tended s) :
    o.Tended (s.graceSpindle f n b) := by
  have hpieced {t : State} (ht : o.Tended t) : o.Tended (t.pieced f n) :=
    State.count_tended f _ (fun _ => rfl) (State.journal_tended _ _ _ _ ht)
  unfold State.graceSpindle
  dsimp only
  (repeat' split) <;> simp (maxDischargeDepth := 40) [h, hpieced]

@[simp] theorem State.graceEnd_tended (f : Nat) (h : o.Tended s) : o.Tended (s.graceEnd f) := by
  unfold State.graceEnd State.placeByBuild
  dsimp only
  have hends {t : State} (b : Bool) (ht : o.Tended t) :
      o.Tended (t.each (t.spindlesOfFrame f) fun n u => u.graceSpindle f n b) :=
    State.each_tended _ _ (fun n _ hu => State.graceSpindle_tended f n b hu) ht
  (repeat' split) <;> simp (maxDischargeDepth := 40) [h, hends]

/-- The notice of a sweep's end (R81, R93). -/
@[simp] theorem State.notice_tended (f : Nat) (h : o.Tended s) : o.Tended (s.notice f) := by
  unfold State.notice
  dsimp only
  (repeat' split) <;> simp (maxDischargeDepth := 40) [h]

end

end Sys2Proof.Machine
end

section
/-! PROOFS. The counters, the counts and the spindles that a grant of a doff slot leaves alone; a doff's completion
(R86, R95). -/

namespace Sys2Proof.Machine

section
variable {s : State} {f e : Nat}

/-! ### The counter and the counts of another frame -/

theorem State.openStop_other (he : e ≠ f) :
    (s.openStop f).roller e = s.roller e ∧ (s.openStop f).counts e = s.counts e := by
  unfold State.openStop
  split
  · exact ⟨State.setRoller_other _ _ _ _ he, by simp [State.counts]⟩
  · exact ⟨rfl, rfl⟩

theorem State.closeStop_other (he : e ≠ f) :
    (s.closeStop f).roller e = s.roller e ∧ (s.closeStop f).counts e = s.counts e := by
  unfold State.closeStop
  split
  · refine ⟨(State.setRoller_other _ _ _ _ he).trans (State.count_roller ..), ?_⟩
    rw [State.counts, State.setRoller_output_counts]
    exact State.count_counts_other he
  · exact ⟨rfl, rfl⟩

theorem State.leaveFrameEnds_output (f : Nat) (s : State) : (s.leaveFrameEnds f).output = s.output :=
  State.leaveFrameEnds_keeps f s State.output (by simp)

theorem State.counts_of_table {t : State} (h : t.output.counts = s.output.counts) (e : Nat) :
    t.counts e = s.counts e := by
  rw [State.counts, h, State.counts]

theorem State.enterState_other (st : FrameState) (he : e ≠ f) :
    (s.enterState f st).roller e = s.roller e ∧ (s.enterState f st).counts e = s.counts e := by
  have hends (t : State) : (t.leaveFrameEnds f).roller e = t.roller e ∧ (t.leaveFrameEnds f).counts e = t.counts e :=
    ⟨State.roller_of_table (by rw [State.leaveFrameEnds_output]) e,
      State.counts_of_table (by rw [State.leaveFrameEnds_output]) e⟩
  have hcounts (t u : State) (h : t.output = u.output) : t.counts e = u.counts e := State.counts_of_table (by rw [h]) e
  have howe (t : State) : t.oweArbiter.counts e = t.counts e := rfl
  have hframe (x : Frame) : (s.setFrame f x).counts e = s.counts e := hcounts _ _ (by simp)
  have hfeed (x : Feed) (t : State) : (t.setFeed f x).counts e = t.counts e := hcounts _ _ (by simp)
  unfold State.enterState
  dsimp only
  constructor
  · (repeat' split) <;> simp [hends, State.openStop_other he, State.closeStop_other he]
  · (repeat' split) <;> simp [hends, howe, hframe, hfeed, State.openStop_other he, State.closeStop_other he]

theorem State.grantSlot_other (k : Nat) (he : e ≠ f) :
    (s.grantSlot f k).roller e = s.roller e ∧ (s.grantSlot f k).counts e = s.counts e := by
  simp only [State.grantSlot]
  refine ⟨?_, ?_⟩
  · rw [State.roller_of_table (congrArg Output.rollers (State.abandonDrain_output ..)), State.journal_roller,
      (State.enterState_other _ he).1, State.setFrame_roller]
  · rw [State.counts_of_table (congrArg Output.counts (State.abandonDrain_output ..)),
      State.counts_of_table (congrArg Output.counts (State.journal_output ..)), (State.enterState_other _ he).2,
      State.counts_of_table (congrArg Output.counts (State.setFrame_output ..))]

theorem grantN_of_not_called (n : Nat) (hs : s.formed = true) (h : (s.frame e).state ≠ .called) :
    (grantN n s).roller e = s.roller e ∧ (grantN n s).counts e = s.counts e := by
  induction n generalizing s with
  | zero => exact ⟨rfl, rfl⟩
  | succ n ih =>
    unfold grantN
    split
    · next k g _ hg =>
      have hne : e ≠ g := fun he => h (he ▸ (State.nextCalled_state hg).2)
      obtain ⟨hroller, hcounts⟩ := ih (State.grantSlot_formed g k s hs)
        (by rw [State.grantSlot_frame_other _ _ _ hne]; exact h)
      obtain ⟨hroller', hcounts'⟩ := State.grantSlot_other (s := s) k hne
      exact ⟨hroller.trans hroller', hcounts.trans hcounts'⟩
    · exact ⟨rfl, rfl⟩

theorem State.doffArbiter_of_not_called (hs : s.formed = true) (h : (s.frame e).state ≠ .called) :
    s.doffArbiter.roller e = s.roller e ∧ s.doffArbiter.counts e = s.counts e := by
  unfold State.doffArbiter
  split
  · exact grantN_of_not_called 2 hs h
  · exact ⟨rfl, rfl⟩

theorem State.releaseSlot_of_not_called (hs : s.formed = true) (h : (s.frame f).state ≠ .called) :
    (s.releaseSlot f).roller f = s.roller f ∧ (s.releaseSlot f).counts f = s.counts f := by
  unfold State.releaseSlot
  split
  · have hset := State.setFrame_formed f { s.frame f with slot := none } s hs
    obtain ⟨hroller, hcounts⟩ := State.doffArbiter_of_not_called (e := f) hset
      (by rw [State.setFrame_formed_same _ _ _ hs]; exact h)
    exact ⟨hroller.trans (State.setFrame_roller ..),
      hcounts.trans (State.counts_of_table (congrArg Output.counts (State.setFrame_output ..)) f)⟩
  · exact ⟨rfl, rfl⟩

/-! ### A doff's completion (R95) -/

theorem State.completeDoff_journalled : (s.completeDoff f).journalled .doffDone f 0
    [w32 ((s.frame f).slot.getD 0), w32 (s.frame f).buildM, (s.frame f).doneStamp] := by
  rw [State.completeDoff_eq, State.finishBook]
  exact State.journalled_of_grows (State.Grows.each (fun c t => State.Grows.finish c none _ t) _ _) (by omega)

theorem State.completeDoff_finished {b : BookEntry} (hb : b ∈ s.desk.book) (hk : b.kind = .doffNow)
    (hf : b.p1 = w32 f) :
    (s.completeDoff f).finished b.cell none [1#32, (s.frame f).doneStamp, w32 (s.frame f).drainBuild] := by
  rw [State.completeDoff_eq]
  exact State.finishBook_finished (by rwa [State.desk_of_board State.doffCounted_board]) (by simp [orderOn, hk, hf])

/-- The doff of a frame that is not CALLED: the record, the counter and the counts. -/
theorem State.completeDoff_output (hs : s.formed = true) (h : (s.frame f).state ≠ .called) :
    (s.completeDoff f).roller f = { s.roller f with build := 0 } ∧
    (s.output.page ≠ none →
      (s.completeDoff f).counts f = { s.counts f with doffs := min 4294967295 ((s.counts f).doffs + 1) }) := by
  have hroller := State.setRoller_formed f { s.roller f with build := 0 } s hs
  have hset := State.setFrame_formed f { s.frame f with buildM := 0 } _ hroller
  obtain ⟨hrelroller, hrelcounts⟩ := State.releaseSlot_of_not_called hset (f := f)
    (by rw [State.setFrame_formed_same _ _ _ hroller]; exact h)
  have hr : (s.doffReleased f).roller f = { s.roller f with build := 0 } :=
    hrelroller.trans (by rw [State.setFrame_roller, State.setRoller_formed_same _ _ _ hs])
  have hc : (s.doffReleased f).counts f = s.counts f :=
    hrelcounts.trans (State.counts_of_table (by simp) f)
  refine ⟨?_, fun hp => ?_⟩
  · rw [State.completeDoff_eq, State.finishBook_roller, State.doffCounted, State.journal_roller, State.count_roller, hr]
  · have hpage : (s.doffReleased f).output.page ≠ none := by
      rw [State.doffReleased, State.releaseSlot_page hset]
      simpa using hp
    rw [State.completeDoff_eq, State.counts_of_table (congrArg Output.counts (State.finishBook_output ..)),
      State.doffCounted,
      State.counts_of_table (congrArg Output.counts (State.journal_output ..)),
      State.count_counts_same (State.doffReleased_formed hs) hpage, hc]
    rfl

/-! ### The spindles that are not being pieced -/

/-- A spindle that is not being pieced stands. -/
def State.KeepsIdle (s t : State) : Prop := ∀ g m, (s.spindle g m).state ≠ .piecing → t.spindle g m = s.spindle g m

theorem State.KeepsIdle.refl : s.KeepsIdle s := fun _ _ _ => rfl

theorem State.KeepsIdle.trans {t u : State} (h : s.KeepsIdle t) (k : t.KeepsIdle u) : s.KeepsIdle u := fun g m hm =>
  (k g m (by rw [h g m hm]; exact hm)).trans (h g m hm)

theorem State.KeepsIdle.of_watch {t : State} (h : t.watch = s.watch) : s.KeepsIdle t := fun g m _ =>
  State.spindle_of_table (by rw [h]) g m

theorem State.claimAbandoned_idle (f n : Nat) : s.KeepsIdle (s.claimAbandoned f n) := fun g m hm => by
  by_cases hkey : spindleKey g m = spindleKey f n
  · have hstate : (s.spindle f n).state ≠ .piecing := by rwa [State.spindle, ← hkey]
    rw [State.claimAbandoned, if_neg hstate]
  · exact State.claimAbandoned_spindle_other _ _ _ hkey

theorem State.abandon_idle (p : Nat) : s.KeepsIdle (s.abandon p) := by
  unfold State.abandon
  split
  · refine State.KeepsIdle.trans (t := s.voidAttempt p true) ?_ (State.KeepsIdle.of_watch (by simp))
    unfold State.voidAttempt
    dsimp only
    split
    · refine State.KeepsIdle.trans (State.KeepsIdle.of_watch ?_) (State.claimAbandoned_idle _ _)
      (repeat' split) <;> simp
    · exact State.KeepsIdle.refl
  · exact State.KeepsIdle.refl

theorem State.each_idle {α : Type} {g : α → State → State} (hg : ∀ x t, State.KeepsIdle t (g x t)) (l : List α) :
    s.KeepsIdle (s.each l g) := by
  induction l generalizing s with
  | nil => exact State.KeepsIdle.refl
  | cons x l ih => exact (hg x s).trans ih

theorem State.grantSlot_idle (f k : Nat) : s.KeepsIdle (s.grantSlot f k) := by
  simp only [State.grantSlot]
  exact State.KeepsIdle.trans (State.KeepsIdle.of_watch (by simp)) (State.each_idle (fun p t => State.abandon_idle p) _)

theorem grantN_idle (n : Nat) : s.KeepsIdle (grantN n s) := by
  induction n generalizing s with
  | zero => exact State.KeepsIdle.refl
  | succ n ih =>
    unfold grantN
    split
    · exact (State.grantSlot_idle _ _).trans ih
    · exact State.KeepsIdle.refl

theorem State.doffArbiter_idle : s.KeepsIdle s.doffArbiter := by
  unfold State.doffArbiter
  split
  · exact grantN_idle 2
  · exact State.KeepsIdle.refl

theorem State.callFrame_idle (f : Nat) (c : CallCause) : s.KeepsIdle (s.callFrame f c) := by
  unfold State.callFrame
  exact State.KeepsIdle.trans (State.KeepsIdle.of_watch (by simp)) State.doffArbiter_idle

theorem State.placeAt_idle (f build : Nat) (c : CallCause) : s.KeepsIdle (s.placeAt f build c) := by
  unfold State.placeAt
  dsimp only
  split
  · exact State.callFrame_idle f c
  · exact State.KeepsIdle.of_watch (by simp)

theorem State.completeDoff_idle (f : Nat) : s.KeepsIdle (s.completeDoff f) := by
  have hrelease {t : State} : t.KeepsIdle (t.releaseSlot f) := by
    unfold State.releaseSlot
    split
    · exact State.KeepsIdle.trans (State.KeepsIdle.of_watch (by simp)) State.doffArbiter_idle
    · exact State.KeepsIdle.refl
  have hreleased : s.KeepsIdle (s.doffReleased f) :=
    State.KeepsIdle.trans (t := (s.setRoller f { s.roller f with build := 0 }).setFrame f { s.frame f with buildM := 0 })
      (State.KeepsIdle.of_watch (by simp)) hrelease
  exact hreleased.trans (State.KeepsIdle.of_watch (by simp [State.completeDoff_eq, State.doffCounted]))

end

end Sys2Proof.Machine
end

section
/-! PROOFS. The end of a restart grace (R94). -/

namespace Sys2Proof.Machine

section
variable {s : State} {f : Nat}

/-! ### One spindle at the end of a grace (R13) -/

/-- A spindle's record after the end of its frame's grace. -/
def Spindle.afterGrace (afterDoff : Bool) (x : Spindle) : Spindle :=
  let slip := x.slip && !afterDoff
  if x.state = .running then { x with state := .settling, since := 0, slip := slip }
  else if x.state = .proving then { x with state := .settling, since := 0, attempts := 0, slip := slip }
  else { x with slip := slip }

theorem State.graceSpindle_same (hs : s.formed = true) (n : Nat) (b : Bool) :
    (s.graceSpindle f n b).spindle f n = (s.spindle f n).afterGrace b := by
  have hslip (x : Spindle) : (if b = true then { x with slip := false } else x) = { x with slip := x.slip && !b } := by
    cases b <;> simp
  unfold State.graceSpindle Spindle.afterGrace
  dsimp only
  rw [hslip]
  cases hst : (s.spindle f n).state <;> simp [State.pieced, State.setSpindle_formed_same, hs, Spindle.to, hst]

theorem State.graceSpindle_other {n m : Nat} (b : Bool) (h : spindleKey f m ≠ spindleKey f n) :
    (s.graceSpindle f n b).spindle f m = s.spindle f m := by
  unfold State.graceSpindle
  dsimp only
  split <;> simp [State.pieced, State.setSpindle_other, h]

theorem State.graceSpindle_keeps {β : Type} (P : State → β) (hspindle : ∀ g n x t, P (State.setSpindle g n x t) = P t)
    (hjournal : ∀ j e u w t, P (State.journal j e u w t) = P t)
    (hcount : ∀ g n t, P (State.count g (fun x => { x with pieced := addTo top32 x.pieced n }) t) = P t) (n : Nat) (b : Bool) :
    P (s.graceSpindle f n b) = P s := by
  unfold State.graceSpindle State.pieced
  dsimp only
  split <;> simp [hspindle, hjournal, hcount]

/-- The state with the frame's spindles past their grace. -/
def State.spindlesGraced (f : Nat) (b : Bool) (s : State) : State :=
  s.each (s.spindlesOfFrame f) fun n t => t.graceSpindle f n b

theorem State.spindlesGraced_keeps {β : Type} (P : State → β) (hspindle : ∀ g n x t, P (State.setSpindle g n x t) = P t)
    (hjournal : ∀ j e u w t, P (State.journal j e u w t) = P t)
    (hcount : ∀ g n t, P (State.count g (fun x => { x with pieced := addTo top32 x.pieced n }) t) = P t) (b : Bool) :
    P (s.spindlesGraced f b) = P s :=
  State.each_keeps_field P (fun n _ => State.graceSpindle_keeps P hspindle hjournal hcount n b) _ s

theorem State.spindlesGraced_formed (hs : s.formed = true) (b : Bool) : (s.spindlesGraced f b).formed = true :=
  State.each_keeps_prop (Q := fun t => t.formed = true) (fun n t ht => State.graceSpindle_formed f n b t ht) _ hs

theorem State.spindlesGraced_spindle (hs : s.formed = true) (b : Bool) {n : Nat} (hn : 1 ≤ n ∧ n ≤ 1824) :
    (s.spindlesGraced f b).spindle f n = (s.spindle f n).afterGrace b := by
  have hkey {m k : Nat} (h : m ≠ k) : spindleKey f m ≠ spindleKey f k := by unfold spindleKey; omega
  by_cases hmem : n ∈ s.spindlesOfFrame f
  · obtain ⟨t, ht, hbefore, hafter⟩ := State.each_pass (rec := fun m t => t.spindle f m) (g := fun n t => t.graceSpindle f n b)
      (Q := fun t => t.formed = true) (fun n t ht => State.graceSpindle_formed f n b t ht)
      (fun n m t _ hne => State.graceSpindle_other b (hkey hne)) (State.nodup_spindlesOfFrame hs f) hmem hs
    rw [State.spindlesGraced, hafter, State.graceSpindle_same ht, hbefore]
  · have hout : s.spindle f n = Spindle.reset := by
      by_contra hne
      exact hmem (State.mem_spindlesOfFrame.mpr ⟨hn.1, hn.2, List.mem_map_of_mem (mem_of_tget_ne hne)⟩)
    have hrest : (s.spindlesGraced f b).spindle f n = s.spindle f n :=
      State.each_keeps_mem (fun t => t.spindle f n) (fun m hm t =>
        State.graceSpindle_other b (hkey fun h => hmem (h ▸ hm))) s
    rw [hrest, hout]
    rfl

/-! ### The steps of the end -/

/-- The doff in its grace completed (R95). -/
def State.graceDoffed (f : Nat) (s : State) : State := if (s.frame f).doffFinish = .pending then s.completeDoff f else s

/-- The doff completed, the spindles past their grace and the grace off the record. -/
def State.graceSettled (f : Nat) (s : State) : State :=
  let t := (s.graceDoffed f).spindlesGraced f (decide ((s.frame f).doffFinish ≠ .none))
  t.setFrame f { t.frame f with doffFinish := .none, grace := none }

/-- The frame put in the state its build calls for, or called. -/
def State.gracePlaced (f : Nat) (s : State) : State :=
  if (s.frame f).doffOwed then s.callFrame f .owed else s.placeByBuild f .compare

theorem State.graceEnd_eq : s.graceEnd f =
    let t := s.graceSettled f
    let u := (t.gracePlaced f).finishBook (orderOn .frameStart f) none [w32 (t.graceState f).code]
    if (s.frame f).doffFinish = .none then u.journal .frameRun f 0 [w32 (t.graceState f).code] else u := rfl

section
variable (hs : s.formed = true)
include hs

theorem State.graceDoffed_formed : (s.graceDoffed f).formed = true := by
  unfold State.graceDoffed
  split
  · exact State.completeDoff_formed _ _ hs
  · exact hs

theorem State.graceSettled_formed : (s.graceSettled f).formed = true :=
  State.setFrame_formed _ _ _ (State.spindlesGraced_formed (State.graceDoffed_formed hs) _)

theorem State.graceDoffed_frame :
    let x := (s.graceDoffed f).frame f
    let y := s.frame f
    x.buildM = (if y.doffFinish = .pending then 0 else y.buildM) ∧ x.doffOwed = y.doffOwed ∧
    (y.doffFinish = .pending → y.state ≠ .called → x.slot = none) := by
  unfold State.graceDoffed
  by_cases h : (s.frame f).doffFinish = .pending
  · rw [if_pos h]
    dsimp only
    rw [if_pos h]
    refine ⟨?_, ?_, fun _ hst => ?_⟩
    · obtain hframe | ⟨_, _, k, hframe⟩ := State.completeDoff_frame (f := f) hs <;> rw [hframe] <;> rfl
    · obtain hframe | ⟨_, _, k, hframe⟩ := State.completeDoff_frame (f := f) hs <;> rw [hframe] <;> rfl
    · rw [(State.completeDoff_keeps hs hst).1]
  · rw [if_neg h]
    dsimp only
    rw [if_neg h]
    exact ⟨rfl, rfl, fun hp => absurd hp h⟩

theorem State.graceSettled_frame : (s.graceSettled f).frame f =
    { (s.graceDoffed f).frame f with doffFinish := .none, grace := none } := by
  have hframe : ((s.graceDoffed f).spindlesGraced f (decide ((s.frame f).doffFinish ≠ .none))).frame f =
      (s.graceDoffed f).frame f :=
    State.spindlesGraced_keeps (fun t => t.frame f) (by simp) (by simp) (by simp) _
  rw [State.graceSettled, State.setFrame_formed_same _ _ _ (State.spindlesGraced_formed (State.graceDoffed_formed hs) _), hframe]

theorem State.graceSettled_course (e : Nat) : ((s.graceSettled f).roller e).course = (s.roller e).course := by
  have hdoffed : s.Tended (s.graceDoffed f) := by
    unfold State.graceDoffed
    split
    · exact State.completeDoff_tended f (State.Tended.refl hs)
    · exact State.Tended.refl hs
  have hgraced := State.each_tended ((s.graceDoffed f).spindlesOfFrame f)
    (fun n t => t.graceSpindle f n (decide ((s.frame f).doffFinish ≠ .none)))
    (fun n _ ht => State.graceSpindle_tended f n _ ht) hdoffed
  exact (State.setFrame_tended f _ hgraced).course e

/-- A spindle that is not being pieced, past the grace of its frame. -/
theorem State.graceSettled_spindle {n : Nat} (hn : 1 ≤ n ∧ n ≤ 1824) (h : (s.spindle f n).state ≠ .piecing) :
    (s.graceSettled f).spindle f n = (s.spindle f n).afterGrace (decide ((s.frame f).doffFinish ≠ .none)) := by
  have hdoffed : (s.graceDoffed f).spindle f n = s.spindle f n := by
    unfold State.graceDoffed
    split
    · exact State.completeDoff_idle f f n h
    · rfl
  rw [State.graceSettled, State.setFrame_spindle, State.spindlesGraced_spindle (State.graceDoffed_formed hs) _ hn,
    hdoffed]

omit hs in
theorem Spindle.afterGrace_not_piecing {x : Spindle} (b : Bool) (h : x.state ≠ .piecing) :
    (x.afterGrace b).state ≠ .piecing := by
  unfold Spindle.afterGrace
  dsimp only
  split
  · simp
  · split
    · simp
    · exact h

/-! ### A call, and the placing by the build -/

theorem State.callFrame_called (c : CallCause) : let y := (s.callFrame f c).frame f
    y.doffFinish = (s.frame f).doffFinish ∧ y.grace = (s.frame f).grace ∧ y.buildM = (s.frame f).buildM ∧
    ((y.state = .called ∧ y.callCause = some c) ∨ (y.state = .draining ∧ y.slot ≠ none)) := by
  have hformed := State.journal_formed .doffCalled f 0 [w32 c.code, w32 ((s.called f c).frame f).buildM] _
    (State.called_formed (f := f) (c := c) hs)
  have hframe := State.called_frame_same (f := f) (c := c) hs
  rw [State.callFrame_eq]
  obtain hstands | ⟨_, k, hgrant⟩ := State.doffArbiter_frame hformed f
  · rw [hstands, State.journal_frame, hframe]
    exact ⟨rfl, rfl, rfl, .inl ⟨rfl, rfl⟩⟩
  · rw [hgrant, State.journal_frame, hframe]
    exact ⟨rfl, rfl, rfl, .inr ⟨rfl, nofun⟩⟩

theorem State.callFrame_build (c : CallCause) (e : Nat) : ((s.callFrame f c).roller e).build = (s.roller e).build := by
  have hcalled := State.called_formed (f := f) (c := c) hs
  rw [State.callFrame_eq]
  unfold State.doffArbiter
  split
  · rw [grantN_build (State.journal_formed _ _ _ _ _ hcalled), State.journal_roller, State.called,
      State.setFrame_roller,
      State.enterState_build f .called hs]
  · rw [State.journal_roller, State.called, State.setFrame_roller, State.enterState_build f .called hs]

theorem State.callFrame_doffs (c : CallCause) (e : Nat) : ((s.callFrame f c).counts e).doffs = (s.counts e).doffs := by
  have hcalled := State.called_formed (f := f) (c := c) hs
  have hbefore : (((s.called f c).journal .doffCalled f 0 [w32 c.code,
    w32 ((s.called f c).frame f).buildM]).counts e).doffs =
      (s.counts e).doffs := by
    rw [State.doffs_of_counts (congrArg Output.counts (State.journal_output ..)), State.called,
      State.doffs_of_counts (congrArg Output.counts (State.setFrame_output ..)), State.enterState_doffs hs]
  rw [State.callFrame_eq]
  unfold State.doffArbiter
  split
  · rw [grantN_doffs (State.journal_formed _ _ _ _ _ hcalled), hbefore]
  · exact hbefore

theorem State.placeAt_called {build : Nat} (c : CallCause) (h : (s.roller f).doffValue ≤ build) :
    s.placeAt f build c = s.callFrame f c := if_pos h

theorem State.placeAt_frame {build : Nat} (c : CallCause) (h : ¬(s.roller f).doffValue ≤ build) :
    (s.placeAt f build c).frame f =
      { s.frame f with state := if (s.roller f).nearingValue ≤ build then .nearing else .building } := by
  have hplace : s.placeAt f build c = _ := if_neg h
  rw [hplace, State.enterState_frame_same _ _ hs]

theorem State.placeAt_build (build : Nat) (c : CallCause) (e : Nat) :
    ((s.placeAt f build c).roller e).build = (s.roller e).build := by
  unfold State.placeAt
  dsimp only
  split
  · exact State.callFrame_build hs c e
  · exact State.enterState_build f _ hs e

theorem State.placeAt_doffs (build : Nat) (c : CallCause) (e : Nat) :
    ((s.placeAt f build c).counts e).doffs = (s.counts e).doffs := by
  unfold State.placeAt
  dsimp only
  split
  · exact State.callFrame_doffs hs c e
  · exact State.enterState_doffs hs f e _

end

end

end Sys2Proof.Machine
end

section
/-! PROOFS. The end of a grace, a doff's completion and the notice of a sweep's end (R81, R93 to R95). -/

namespace Sys2Proof.Machine

section
variable {s : State} {f : Nat}

theorem Roller.values_of_course {x y : Roller} (h : x.course = y.course) :
    x.doffValue = y.doffValue ∧ x.nearingValue = y.nearingValue :=
  ⟨(congrArg Roller.doffValue h :), (congrArg Roller.nearingValue h :)⟩

/-- The state that a grace end enters, as it is reported. -/
theorem State.graceState_code : w32 (s.graceState f).code =
    if (s.frame f).doffOwed = true ∨ (s.roller f).doffValue ≤ (s.frame f).buildMm then 6#32
    else if (s.roller f).nearingValue ≤ (s.frame f).buildMm then 5#32 else 4#32 := by
  unfold State.graceState
  simp only [Bool.or_eq_true, decide_eq_true_eq]
  (repeat' split) <;> rfl

section
variable (hs : s.formed = true)
include hs

/-- What decides where the frame goes: the doff owed, and the build against the two values. -/
theorem State.graceSettled_decides :
    ((s.graceSettled f).frame f).doffOwed = (s.frame f).doffOwed ∧
    ((s.graceSettled f).frame f).buildMm = (if (s.frame f).doffFinish = .pending then 0 else 1000 * (s.frame f).buildM) ∧
    ((s.graceSettled f).roller f).doffValue = (s.roller f).doffValue ∧
    ((s.graceSettled f).roller f).nearingValue = (s.roller f).nearingValue := by
  obtain ⟨hbuild, howed, _⟩ := State.graceDoffed_frame (f := f) hs
  have hframe := State.graceSettled_frame (f := f) hs
  refine ⟨by rw [hframe]; exact howed, ?_, Roller.values_of_course (State.graceSettled_course hs f)⟩
  rw [hframe, Frame.buildMm]
  dsimp only
  rw [hbuild]
  split <;> rfl

theorem State.graceEnd_frame : (s.graceEnd f).frame f = ((s.graceSettled f).gracePlaced f).frame f := by
  rw [State.graceEnd_eq]
  dsimp only
  split
  · rw [State.journal_frame, State.finishBook_frame]
  · rw [State.finishBook_frame]

theorem State.graceEnd_output : (s.graceEnd f).output = ((s.graceSettled f).gracePlaced f).output := by
  rw [State.graceEnd_eq]
  dsimp only
  split
  · rw [State.journal_output, State.finishBook_output]
  · rw [State.finishBook_output]

theorem State.graceEnd_watch : (s.graceEnd f).watch = ((s.graceSettled f).gracePlaced f).watch := by
  rw [State.graceEnd_eq]
  dsimp only
  split
  · rw [State.journal_watch, State.finishBook_watch]
  · rw [State.finishBook_watch]

/-- A frame whose doff is owed, or whose build has reached the doff value, is called. -/
theorem State.gracePlaced_called {build : Nat} (hbuild : (s.frame f).buildMm = build)
    (h : (s.frame f).doffOwed = true ∨ (s.roller f).doffValue ≤ build) :
    s.gracePlaced f = s.callFrame f (if (s.frame f).doffOwed = true then .owed else .compare) := by
  unfold State.gracePlaced State.placeByBuild
  by_cases howed : (s.frame f).doffOwed = true
  · rw [if_pos howed, if_pos howed]
  · rw [if_neg howed, if_neg howed, hbuild, State.placeAt_called hs .compare (h.resolve_left howed)]

theorem State.gracePlaced_frame {build : Nat} (hbuild : (s.frame f).buildMm = build)
    (h : ¬((s.frame f).doffOwed = true ∨ (s.roller f).doffValue ≤ build)) : (s.gracePlaced f).frame f =
      { s.frame f with state := if (s.roller f).nearingValue ≤ build then .nearing else .building } := by
  obtain ⟨howed, hvalue⟩ := not_or.mp h
  unfold State.gracePlaced State.placeByBuild
  rw [if_neg howed, hbuild, State.placeAt_frame hs .compare hvalue]

theorem State.gracePlaced_build (e : Nat) : ((s.gracePlaced f).roller e).build = (s.roller e).build := by
  unfold State.gracePlaced
  split
  · exact State.callFrame_build hs .owed e
  · exact State.placeAt_build hs _ .compare e

theorem State.gracePlaced_doffs (e : Nat) : ((s.gracePlaced f).counts e).doffs = (s.counts e).doffs := by
  unfold State.gracePlaced
  split
  · exact State.callFrame_doffs hs .owed e
  · exact State.placeAt_doffs hs _ .compare e

omit hs in
theorem State.gracePlaced_idle : s.KeepsIdle (s.gracePlaced f) := by
  unfold State.gracePlaced
  split
  · exact State.callFrame_idle f .owed
  · exact State.placeAt_idle f _ .compare

omit hs in
theorem State.gracePlaced_board : (s.gracePlaced f).board = s.board := by
  unfold State.gracePlaced State.placeByBuild State.placeAt
  dsimp only
  (repeat' split) <;> simp

/-- The doff counted at the end of its grace. -/
theorem State.graceSettled_doffed (hp : (s.frame f).doffFinish = .pending) :
    ((s.graceSettled f).roller f).build = 0 ∧
    (s.output.page ≠ none → ((s.graceSettled f).counts f).doffs = min 4294967295 ((s.counts f).doffs + 1)) := by
  have hdoffed : s.graceDoffed f = s.completeDoff f := if_pos hp
  have hformed := State.completeDoff_formed f s hs
  have hroller (b : Bool) : ((s.completeDoff f).spindlesGraced f b).roller f = (s.completeDoff f).roller f :=
    State.spindlesGraced_keeps (fun t => t.roller f) (by simp) (by simp) (by simp) b
  have hdoffs {t : State} (ht : t.formed = true) (b : Bool) :
    ((t.spindlesGraced f b).counts f).doffs = (t.counts f).doffs := by
    have hone (n : Nat) (u : State) (hu : u.formed = true) :
        ((u.graceSpindle f n b).counts f).doffs = (u.counts f).doffs := by
      unfold State.graceSpindle State.pieced
      dsimp only
      split
      case h_2 =>
        refine (State.count_doffs (g := fun x => { x with pieced := addTo top32 x.pieced 1 })
          (State.journal_formed _ _ _ _ _ (State.setSpindle_formed _ _ _ _ hu)) (fun _ => rfl)).trans ?_
        exact State.doffs_of_counts (by simp) f
      all_goals exact State.doffs_of_counts (by simp) f
    have hloop := State.each_keeps_prop (g := fun n u => State.graceSpindle f n b u)
      (Q := fun u => u.formed = true ∧ (u.counts f).doffs = (t.counts f).doffs)
      (fun n u hu => ⟨State.graceSpindle_formed f n b u hu.1, (hone n u hu.1).trans hu.2⟩) (t.spindlesOfFrame f) ⟨ht,
        rfl⟩
    exact hloop.2
  rw [State.graceSettled, hdoffed]
  refine ⟨?_, fun hpage => ?_⟩
  · rw [State.setFrame_roller, hroller, State.completeDoff_build hs]
  · rw [State.doffs_of_counts (congrArg Output.counts (State.setFrame_output ..)), hdoffs hformed,
      State.completeDoff_doffs hs hpage]

omit hs in
theorem State.graceSettled_book {b : BookEntry} (hcells : (s.desk.book.map BookEntry.cell).Nodup) (hb : b ∈ s.desk.book)
    (hk : b.kind = .frameStart) : b ∈ (s.graceSettled f).desk.book := by
  have hgraced (t : State) (c : Bool) : (t.spindlesGraced f c).desk = t.desk :=
    State.spindlesGraced_keeps State.desk (by simp) (by simp) (by simp) c
  have hdoffed : b ∈ (s.graceDoffed f).desk.book := by
    unfold State.graceDoffed
    split
    · have hboard := State.desk_of_board (State.doffCounted_board (s := s) (f := f))
      rw [State.completeDoff_eq]
      exact State.mem_finishBook_of_not_picked (by rwa [hboard]) (by rwa [hboard]) (by simp [orderOn, hk])
    · exact hb
  rw [State.graceSettled, State.setFrame_desk, hgraced]
  exact hdoffed

end

/-- The end of a grace (R94). -/
theorem graceEnd_effect (hs : s.formed = true) :
    let x := s.frame f
    let r := s.roller f
    let pending := x.doffFinish = .pending
    let build := if pending then 0 else 1000 * x.buildM
    let u := s.graceEnd f
    let y := u.frame f
    let called := x.doffOwed = true ∨ r.doffValue ≤ build
    let entered := if called then 6#32 else if r.nearingValue ≤ build then 5#32 else 4#32
    y.doffFinish = .none ∧ y.grace = none ∧ y.buildM = (if pending then 0 else x.buildM) ∧
    (pending → x.state ≠ .called → (u.roller f).build = 0 ∧
      (s.output.page ≠ none → (u.counts f).doffs = min 4294967295 ((s.counts f).doffs + 1)) ∧
      (¬called → y.slot = none)) ∧
    (called → (y.state = .called ∧ y.callCause = some (if x.doffOwed = true then .owed else .compare)) ∨
      (y.state = .draining ∧ y.slot ≠ none)) ∧
    (¬called → y.state = if r.nearingValue ≤ build then .nearing else .building) ∧
    ((s.desk.book.map BookEntry.cell).Nodup → ∀ b, b ∈ s.desk.book → b.kind = .frameStart → b.p1 = w32 f →
      u.finished b.cell none [entered]) ∧
    (x.doffFinish = .none → u.journalled .frameRun f 0 [entered]) ∧
    ∀ n, 1 ≤ n → n ≤ 1824 → (s.spindle f n).state ≠ .piecing →
      let z := s.spindle f n
      let slip := z.slip && decide (x.doffFinish = .none)
      u.spindle f n =
        if z.state = .running then { z with state := .settling, since := 0, slip := slip }
        else if z.state = .proving then { z with state := .settling, since := 0, attempts := 0, slip := slip }
        else { z with slip := slip } := by
  intro x r pending build u y called entered
  have ht := State.graceSettled_formed (f := f) hs
  obtain ⟨howed, hbuild, hdoff, hnear⟩ := State.graceSettled_decides (f := f) hs
  obtain ⟨hbuildM, _, hslot⟩ := State.graceDoffed_frame (f := f) hs
  have hrecord := State.graceSettled_frame (f := f) hs
  have hy : y = ((s.graceSettled f).gracePlaced f).frame f := State.graceEnd_frame hs
  have hcalled : called ↔ ((s.graceSettled f).frame f).doffOwed = true ∨
    ((s.graceSettled f).roller f).doffValue ≤ build := by
    rw [howed, hdoff]
  have hcode : w32 ((s.graceSettled f).graceState f).code = entered := by
    rw [State.graceState_code, howed, hbuild, hdoff, hnear]
  have hplaced : y.doffFinish = .none ∧ y.grace = none ∧ y.buildM = (if pending then 0 else x.buildM) := by
    by_cases h : called
    · obtain ⟨h1, h2, h3, _⟩ := State.callFrame_called (f := f) ht
        (if ((s.graceSettled f).frame f).doffOwed = true then .owed else .compare)
      rw [hy, State.gracePlaced_called ht hbuild (hcalled.mp h)]
      refine ⟨h1.trans (by rw [hrecord]), h2.trans (by rw [hrecord]), h3.trans (by rw [hrecord]; exact hbuildM)⟩
    · rw [hy, State.gracePlaced_frame ht hbuild (mt hcalled.mpr h), hrecord]
      exact ⟨rfl, rfl, hbuildM⟩
  refine ⟨hplaced.1, hplaced.2.1, hplaced.2.2, fun hp hst => ⟨?_, fun hpage => ?_, fun h => ?_⟩, fun h => ?_,
    fun h => ?_,
    fun hcells b hb hk hf => ?_, fun hnone => ?_, fun n hn1 hn2 hpiecing => ?_⟩
  · have houtput := State.roller_of_table (congrArg Output.rollers (State.graceEnd_output (f := f) hs)) f
    exact (congrArg Roller.build houtput).trans ((State.gracePlaced_build ht f).trans (State.graceSettled_doffed hs hp).1)
  · exact (State.doffs_of_counts (congrArg Output.counts (State.graceEnd_output (f := f) hs)) f).trans
      ((State.gracePlaced_doffs ht f).trans ((State.graceSettled_doffed hs hp).2 hpage))
  · rw [hy, State.gracePlaced_frame ht hbuild (mt hcalled.mpr h), hrecord]
    exact hslot hp hst
  · obtain ⟨_, _, _, h4⟩ := State.callFrame_called (f := f) ht
      (if ((s.graceSettled f).frame f).doffOwed = true then .owed else .compare)
    rw [hy, State.gracePlaced_called ht hbuild (hcalled.mp h)]
    rw [howed] at h4 ⊢
    exact h4
  · rw [hy, State.gracePlaced_frame ht hbuild (mt hcalled.mpr h), hnear]
  · have hbook : b ∈ ((s.graceSettled f).gracePlaced f).desk.book := by
      rw [State.desk_of_board State.gracePlaced_board]
      exact State.graceSettled_book hcells hb hk
    have hdone := State.finishBook_finished (r := none) (w := [w32 ((s.graceSettled f).graceState f).code]) hbook
      (sel := orderOn .frameStart f) (by simp [orderOn, hk, hf])
    rw [← hcode]
    change (s.graceEnd f).finished _ _ _
    rw [State.graceEnd_eq]
    dsimp only
    split
    · exact State.finished_of_board (State.journal_board ..) hdone
    · exact hdone
  · rw [← hcode]
    change (s.graceEnd f).journalled _ _ _ _
    rw [State.graceEnd_eq]
    dsimp only
    rw [if_pos hnone]
    exact State.journal_journalled ..
  · have hsettled := State.graceSettled_spindle hs ⟨hn1, hn2⟩ hpiecing
    have hidle := State.gracePlaced_idle (s := s.graceSettled f) (f := f) f n
      (by rw [hsettled]; exact Spindle.afterGrace_not_piecing _ hpiecing)
    intro z slip
    have hslip : (z.slip && !decide (x.doffFinish ≠ .none)) = slip := by
      change _ = (z.slip && decide (x.doffFinish = .none))
      by_cases h : x.doffFinish = .none <;> simp [h]
    refine (State.spindle_of_table (congrArg Watch.spindles (State.graceEnd_watch (f := f) hs)) f n).trans
      (hidle.trans (hsettled.trans ?_))
    rw [Spindle.afterGrace]
    rw [hslip]

/-- A doff's completion (R95). -/
theorem completeDoff_effect (hs : s.formed = true) (h : (s.frame f).state ≠ .called) :
    let x := s.frame f
    let u := s.completeDoff f
    u.frame f = { x with buildM := 0, slot := none } ∧ u.roller f = { s.roller f with build := 0 } ∧
    (s.output.page ≠ none →
      u.counts f = { s.counts f with doffs := min 4294967295 ((s.counts f).doffs + 1) }) ∧
    u.journalled .doffDone f 0 [w32 (x.slot.getD 0), w32 x.buildM, x.doneStamp] ∧
    ∀ b, b ∈ s.desk.book → b.kind = .doffNow → b.p1 = w32 f →
      u.finished b.cell none [1#32, x.doneStamp, w32 x.drainBuild] :=
  ⟨(State.completeDoff_keeps hs h).1, (State.completeDoff_output hs h).1, (State.completeDoff_output hs h).2,
    State.completeDoff_journalled, fun _ hb hk hf => State.completeDoff_finished hb hk hf⟩

end

end Sys2Proof.Machine
end

section
/-! PROOFS. The notice of a sweep's end (R81, R93). -/

namespace Sys2Proof.Machine

section
variable {s : State} {f : Nat} (hs : s.formed = true)

/-- The build as the Frame Sequencer takes it from the notice. -/
def State.noticed (f : Nat) (s : State) : State := s.setFrame f { s.frame f with buildM := (s.roller f).build / 1000 }

include hs

theorem State.noticed_formed : (s.noticed f).formed = true := State.setFrame_formed _ _ _ hs

theorem State.noticed_frame : (s.noticed f).frame f = { s.frame f with buildM := (s.roller f).build / 1000 } :=
  State.setFrame_formed_same _ _ _ hs

omit hs in
theorem State.noticed_roller (e : Nat) : (s.noticed f).roller e = s.roller e := State.setFrame_roller ..

theorem State.notice_of_building (hst : (s.frame f).state = .building) : s.notice f =
    if (s.roller f).nearingValue ≤ (s.roller f).build ∨ (s.roller f).doffValue ≤ (s.roller f).build
      then (s.noticed f).placeAt f (s.roller f).build .compare else s.noticed f := by
  have hframe : ((s.noticed f).frame f).state = .building := by rw [State.noticed_frame hs, ← hst]
  unfold State.noticed at hframe ⊢
  unfold State.notice
  dsimp only
  rw [hframe]
  simp only [Bool.or_eq_true, decide_eq_true_eq]

theorem State.notice_of_nearing (hst : (s.frame f).state = .nearing) : s.notice f =
    if (s.roller f).doffValue ≤ (s.roller f).build then (s.noticed f).callFrame f .compare else s.noticed f := by
  have hframe : ((s.noticed f).frame f).state = .nearing := by rw [State.noticed_frame hs, ← hst]
  unfold State.noticed at hframe ⊢
  unfold State.notice
  dsimp only
  rw [hframe]

/-- A frame in its restart grace: one sweep less is left, and none ends it. -/
theorem State.notice_of_restarting (hst : (s.frame f).state = .restarting) :
    ((s.frame f).grace = none → s.notice f = s.noticed f) ∧
    ∀ g, (s.frame f).grace = some g →
      let v := (s.noticed f).setFrame f { s.frame f with buildM := (s.roller f).build / 1000, grace := some (g - 1) }
      s.notice f = if g ≤ 1 then v.graceEnd f else v := by
  have hrecord := State.noticed_frame (f := f) hs
  have hframe : ((s.noticed f).frame f).state = .restarting := by rw [hrecord, ← hst]
  have hnotice : s.notice f = match ((s.noticed f).frame f).grace with
      | some g =>
        let v := (s.noticed f).setFrame f { (s.noticed f).frame f with grace := some (g - 1) }
        if g ≤ 1 then v.graceEnd f else v
      | none => s.noticed f := by
    unfold State.noticed at hframe ⊢
    unfold State.notice
    dsimp only
    simp only [hframe] <;> rfl
  rw [hnotice, hrecord]
  dsimp only
  exact ⟨fun h => by rw [h], fun g h => by rw [h]⟩

theorem State.notice_of_still (h : (s.frame f).state ≠ .building) (h' : (s.frame f).state ≠ .nearing)
    (h'' : (s.frame f).state ≠ .restarting) : s.notice f = s.noticed f := by
  have hframe : ((s.noticed f).frame f).state = (s.frame f).state := by rw [State.noticed_frame hs]
  unfold State.noticed at hframe ⊢
  unfold State.notice
  dsimp only
  rw [hframe]
  cases hst : (s.frame f).state with
  | building => exact absurd hst h
  | nearing => exact absurd hst h'
  | restarting => exact absurd hst h''
  | out | halted | called | draining | stopping | doffing => rfl

/-- A frame that builds and has reached its doff value is called. -/
theorem State.notice_of_calls (hst : (s.frame f).state = .building ∨ (s.frame f).state = .nearing)
    (h : (s.roller f).doffValue ≤ (s.roller f).build) : s.notice f = (s.noticed f).callFrame f .compare := by
  obtain hst | hst := hst
  · rw [State.notice_of_building hs hst, if_pos (.inr h)]
    exact State.placeAt_called (State.noticed_formed hs) .compare (by rw [State.noticed_roller]; exact h)
  · rw [State.notice_of_nearing hs hst, if_pos h]

theorem State.noticed_freeSlot : (s.noticed f).freeSlot = s.freeSlot := by
  refine State.freeSlot_congr (fun g => ?_) (State.settings_of_plan (State.setFrame_plan ..))
  obtain rfl | hne := eq_or_ne g f
  · rw [State.noticed_frame hs]
  · rw [State.noticed, State.setFrame_other _ _ _ _ hne]

/-- With no slot free a frame called stays CALLED. -/
theorem State.callFrame_of_no_slot (c : CallCause) (h : s.freeSlot = none) :
    (s.callFrame f c).frame f = { s.frame f with state := .called, callStamp := some s.clock, callCause := some c } ∧
      (s.callFrame f c).journalled .doffCalled f 0 [w32 c.code, w32 (s.frame f).buildM] := by
  have hframe := State.called_frame_same (f := f) (c := c) hs
  have hfree : ((s.called f c).journal .doffCalled f 0 [w32 c.code,
    w32 ((s.called f c).frame f).buildM]).freeSlot = none :=
    (State.freeSlot_congr (fun g => by rw [State.journal_frame]) (State.settings_of_plan (by simp))).trans
      ((State.called_freeSlot hs).trans h)
  have hjournal := State.journal_journalled .doffCalled f 0 [w32 c.code,
    w32 ((s.called f c).frame f).buildM] (s.called f c)
  rw [State.callFrame_eq, State.doffArbiter_of_none (.inr hfree)]
  refine ⟨by rw [State.journal_frame, hframe], ?_⟩
  rw [hframe] at hjournal ⊢
  exact hjournal

/-- The notice of a sweep's end (R81, R93). -/
theorem notice_effect (f : Nat) :
    let x := s.frame f
    let r := s.roller f
    let u := s.notice f
    let t := s.setFrame f { x with buildM := r.build / 1000 }
    let calls := (x.state = .building ∨ x.state = .nearing) ∧ r.doffValue ≤ r.build
    let nears := x.state = .building ∧ r.nearingValue ≤ r.build ∧ r.build < r.doffValue
    (calls → s.freeSlot = none →
      u.frame f = { x with
        buildM := r.build / 1000, state := .called, callStamp := some s.clock, callCause := some .compare } ∧
      u.journalled .doffCalled f 0 [1#32, w32 (r.build / 1000)]) ∧
    (calls → (u.frame f).state = .called ∨ ((u.frame f).state = .draining ∧ (u.frame f).slot ≠ none)) ∧
    (nears → u.frame f = { x with buildM := r.build / 1000, state := .nearing }) ∧
    (¬calls → ¬nears → x.state ≠ .restarting ∨ x.grace = none → u = t) ∧
    (x.state = .restarting → ∀ g, x.grace = some g →
      let v := t.setFrame f { x with buildM := r.build / 1000, grace := some (g - 1) }
      (1 < g → u = v) ∧ (g ≤ 1 → u = v.graceEnd f)) := by
  intro x r u t calls nears
  have hframe := State.noticed_frame (f := f) hs
  have hformed := State.noticed_formed (f := f) hs
  refine ⟨fun hc hfree => ?_, fun hc => ?_, fun hn => ?_, fun hc hn hrest => ?_,
    fun hst g hg => ⟨fun h => ?_, fun h => ?_⟩⟩
  · obtain ⟨hrecord, hjournal⟩ := State.callFrame_of_no_slot (f := f) hformed .compare ((State.noticed_freeSlot hs).trans hfree)
    have hu : u = _ := State.notice_of_calls hs hc.1 hc.2
    have hclock : (s.noticed f).clock = s.clock := State.setFrame_clock ..
    rw [hframe, hclock] at hrecord
    rw [hframe] at hjournal
    rw [hu]
    exact ⟨hrecord, hjournal⟩
  · obtain ⟨_, _, _, hcalled⟩ := State.callFrame_called (f := f) hformed .compare
    have hu : u = _ := State.notice_of_calls hs hc.1 hc.2
    rw [hu]
    exact hcalled.imp_left And.left
  · obtain ⟨hst, hnear, hdoff⟩ := hn
    have hu : u = _ := State.notice_of_building hs hst
    rw [hu, if_pos (.inl hnear)]
    refine (State.placeAt_frame hformed .compare (by rw [State.noticed_roller]; exact Nat.not_le.mpr hdoff)).trans ?_
    rw [State.noticed_roller, if_pos hnear, hframe]
  · by_cases hbuilding : x.state = .building
    · have hu : u = _ := State.notice_of_building hs hbuilding
      have hdoff : ¬r.doffValue ≤ r.build := fun h => hc ⟨.inl hbuilding, h⟩
      have hnear : ¬r.nearingValue ≤ r.build := fun h => hn ⟨hbuilding, h, Nat.lt_of_not_le hdoff⟩
      exact hu.trans (if_neg (not_or.mpr ⟨hnear, hdoff⟩))
    by_cases hnearing : x.state = .nearing
    · have hu : u = _ := State.notice_of_nearing hs hnearing
      exact hu.trans (if_neg fun h => hc ⟨.inr hnearing, h⟩)
    by_cases hrestarting : x.state = .restarting
    · exact (State.notice_of_restarting hs hrestarting).1 (hrest.resolve_left (not_not.mpr hrestarting))
    · exact State.notice_of_still hs hbuilding hnearing hrestarting
  · exact ((State.notice_of_restarting hs hst).2 g hg).trans (if_neg (Nat.not_le.mpr h))
  · exact ((State.notice_of_restarting hs hst).2 g hg).trans (if_pos h)

end

end Sys2Proof.Machine
end

section
/-! PROOFS. The low test and the run-out test of a section (R12, R108, R109). -/

namespace Sys2Proof.Machine

section
variable {s : State}

/-! ### The low test (R108) -/

theorem State.queueByStamp_queue (k : Nat) (w : Word) :
    (s.queueByStamp k w).roving.queue = placeByStamp s.queueStampOf k w.toNat s.roving.queue := rfl

theorem State.mem_queueByStamp (k : Nat) (w : Word) : k ∈ (s.queueByStamp k w).roving.queue := by
  obtain ⟨l, r, _, hplace, _⟩ := placeByStamp_split s.queueStampOf k w.toNat s.roving.queue
  rw [State.queueByStamp_queue, hplace]
  simp

theorem State.Grows.queueByStamp (k : Nat) (w : Word) (s : State) : State.Grows 0 s (s.queueByStamp k w) :=
  (State.Grows.setCreel k { s.creel k with state := .queued, queueStamp := some w } s).trans (State.Grows.of_writer (t := s.queueByStamp k w) rfl rfl)

theorem lowTest_effect (hs : s.formed = true) (k : Nat) :
    let f := (k - 1) / 76 + 1
    let x := s.creel k
    let g := s.feed f
    let low := x.state = .fed ∧ x.remaining / 1000 ≤ (s.frameSettings f).lowThreshold
    let u := s.lowTest k
    let due := s.clock.toNat + x.remaining * (s.frameSettings f).draft * g.period / (g.rate * 1000)
    (¬low → u = s) ∧
    (low → u.journalled .sectionLow f 0 [w32 ((k - 1) % 76 + 1), w32 (x.remaining / 1000)] ∧
      (32 ≤ s.roving.queue.length → u.creel k = { x with state := .low } ∧ u.roving.queue = s.roving.queue) ∧
      (s.roving.queue.length < 32 → k ∈ u.roving.queue ∧ u.creel k = { x with
        state := .queued
        queueStamp := some (if g.rate = 0 ∨ 4294967295 < due then 4294967295#32 else w32 due) }) ∧
      (∀ e, e ≠ k → u.creel e = s.creel e) ∧ u.watch = s.watch ∧ u.disp = s.disp ∧ u.frames = s.frames) := by
  intro f x g low u due
  refine ⟨fun h => if_neg h, fun h => ?_⟩
  let t := (s.setCreel k { x with state := .low }).journal .sectionLow f 0 [w32 (creelIndex k), w32 x.remainingM]
  have hu : u = if t.queueRoom then t.queueByStamp k (t.predictedStamp k) else t := if_pos h
  have hcreel : t.creel k = { x with state := .low } :=
    (State.journal_creel ..).trans (State.setCreel_formed_same _ _ _ hs)
  have hother (e : Nat) (he : e ≠ k) : t.creel e = s.creel e :=
    (State.journal_creel ..).trans (State.setCreel_other _ _ _ _ he)
  have ht : t.formed = true := State.journal_formed _ _ _ _ _ (State.setCreel_formed _ _ _ hs)
  have hqueue : t.roving.queue = s.roving.queue := by simp [t]
  have hjournal : t.journalled .sectionLow f 0 [w32 ((k - 1) % 76 + 1), w32 (x.remaining / 1000)] :=
    State.journal_journalled ..
  have hwatch : t.watch = s.watch := by simp [t]
  have hdisp : t.disp = s.disp := by simp [t]
  have hframes : t.frames = s.frames := by simp [t]
  by_cases hroom : s.roving.queue.length < 32
  · have hroom' : t.queueRoom = true := decide_eq_true (by rw [hqueue]; exact hroom)
    have hstamp : t.predictedStamp k = if g.rate = 0 ∨ 4294967295 < due then 4294967295#32 else w32 due := by
      have hfeed : t.feed (creelFrame k) = g := (State.journal_feed ..).trans (State.setCreel_feed ..)
      have hsettings : t.frameSettings (creelFrame k) = s.frameSettings f := by
        rw [State.frameSettings, State.settings_of_plan (s := s) (by simp [t]), State.frameSettings]
        rfl
      have hclock : t.clock = s.clock := by simp [t]
      unfold State.predictedStamp
      dsimp only
      rw [hfeed, hsettings, hclock, hcreel]
      simp only [Bool.or_eq_true, decide_eq_true_eq]
      rfl
    rw [if_pos hroom', hstamp] at hu
    rw [hu]
    refine ⟨State.journalled_of_grows (State.Grows.queueByStamp k _ t) (by omega),
      fun hlong => absurd hroom (Nat.not_lt.mpr hlong), fun _ => ⟨?_, ?_⟩, fun e he => ?_, ?_, ?_, ?_⟩
    · exact State.mem_queueByStamp k _
    · rw [State.queueByStamp_creel_same ht, hcreel]
    · rw [State.queueByStamp_creel_other he, hother e he]
    · exact (State.setCreel_watch ..).trans hwatch
    · exact (State.setCreel_disp ..).trans hdisp
    · exact (State.setCreel_frames ..).trans hframes
  · have hroom' : ¬t.queueRoom = true := by
      unfold State.queueRoom
      rw [hqueue, decide_eq_true_eq]
      exact hroom
    rw [if_neg hroom'] at hu
    rw [hu]
    exact ⟨hjournal, fun _ => ⟨hcreel, hqueue⟩, fun h => absurd h hroom, hother, hwatch, hdisp, hframes⟩

/-! ### The run-out claim on one spindle (R12) -/

section
variable {f n : Nat}

theorem State.runOutSpindle_of_down (h : (s.spindle f n).state = .down) : s.runOutSpindle f n =
    if (s.spindle f n).listed then (s.setSpindle f n ((s.spindle f n).to .starved)).removeEntry f n
    else s.setSpindle f n ((s.spindle f n).to .starved) := by
  simp only [State.runOutSpindle, h]

theorem State.runOutSpindle_of_piecing (h : (s.spindle f n).state = .piecing) : s.runOutSpindle f n =
    match s.attemptAt f n with
    | some p => s.abandon p
    | none => s := by
  simp only [State.runOutSpindle, h] <;> rfl

theorem State.runOutSpindle_of_checking (h : (s.spindle f n).state = .checking) : s.runOutSpindle f n =
    if (s.spindle f n).saved = some .down then s.setSpindle f n { s.spindle f n with saved := some .starved } else s := by
  simp only [State.runOutSpindle, h]

theorem State.runOutSpindle_of_else (h : (s.spindle f n).state ≠ .down) (h' : (s.spindle f n).state ≠ .piecing)
    (h'' : ¬((s.spindle f n).state = .checking ∧ (s.spindle f n).saved = some .down)) : s.runOutSpindle f n = s := by
  by_cases hc : (s.spindle f n).state = .checking
  · rw [State.runOutSpindle_of_checking hc, if_neg fun hs => h'' ⟨hc, hs⟩]
  unfold State.runOutSpindle
  cases hst : (s.spindle f n).state <;> simp_all

/-- The claim is a write of the spindle, its leaving of the list, or the abandonment of the attempt on it. -/
theorem State.runOutSpindle_cases (f n : Nat) (s : State) :
    (∃ x, s.runOutSpindle f n = s.setSpindle f n x ∨ s.runOutSpindle f n = (s.setSpindle f n x).removeEntry f n) ∨
    (∃ p, s.attemptAt f n = some p ∧ s.runOutSpindle f n = s.abandon p) ∨ s.runOutSpindle f n = s := by
  by_cases hd : (s.spindle f n).state = .down
  · rw [State.runOutSpindle_of_down hd]
    split
    · exact .inl ⟨_, .inr rfl⟩
    · exact .inl ⟨_, .inl rfl⟩
  by_cases hp : (s.spindle f n).state = .piecing
  · rw [State.runOutSpindle_of_piecing hp]
    cases hat : s.attemptAt f n with
    | none => exact .inr (.inr rfl)
    | some p => exact .inr (.inl ⟨p, rfl, rfl⟩)
  by_cases hc : (s.spindle f n).state = .checking ∧ (s.spindle f n).saved = some .down
  · rw [State.runOutSpindle_of_checking hc.1, if_pos hc.2]
    exact .inl ⟨_, .inl rfl⟩
  · exact .inr (.inr (State.runOutSpindle_of_else hd hp hc))

/-- What neither the spindles, the lists nor an abandoned attempt hold. -/
theorem State.runOutSpindle_keeps {β : Type} (P : State → β) (hspindle : ∀ f n x t, P (State.setSpindle f n x t) = P t)
    (hremove : ∀ f n t, P (State.removeEntry f n t) = P t) (habandon : ∀ p t, P (State.abandon p t) = P t) :
    P (s.runOutSpindle f n) = P s := by
  obtain ⟨x, h | h⟩ | ⟨p, _, h⟩ | h := State.runOutSpindle_cases f n s
  · rw [h, hspindle]
  · rw [h, hremove, hspindle]
  · rw [h, habandon]
  · rw [h]

@[simp] theorem State.runOutSpindle_tended {o : State} (h : o.Tended s) : o.Tended (s.runOutSpindle f n) := by
  obtain ⟨x, hc | hc⟩ | ⟨p, _, hc⟩ | hc := State.runOutSpindle_cases f n s
  · rw [hc]
    exact State.setSpindle_tended _ _ _ h
  · rw [hc]
    exact State.removeEntry_tended _ _ (State.setSpindle_tended _ _ _ h)
  · rw [hc]
    exact State.abandon_tended p h
  · rwa [hc]

/-- The attempt on a spindle is a piecer's on its side, that is at it. -/
theorem State.attemptAt_of (f n : Nat) {p : Nat} (hside : (s.side (sideOf f n)).piecer = some p)
    (hcur : (s.piecer p).current ≠ none) (hn : (s.piecer p).spindle = some n) : s.attemptAt f n = some p := by
  unfold State.attemptAt
  rw [hside]
  dsimp only
  rw [if_pos (by simp [Option.isSome_iff_ne_none, hcur, hn])]

theorem State.attemptAt_of_none {p : Nat} (hside : (s.side (sideOf f n)).piecer = some p)
    (h : (s.piecer p).current = none ∨ (s.piecer p).spindle ≠ some n) : s.attemptAt f n = none := by
  unfold State.attemptAt
  rw [hside]
  dsimp only
  rw [if_neg]
  simp only [Bool.and_eq_true, beq_iff_eq, Option.isSome_iff_ne_none]
  exact fun hc => h.elim hc.1 fun hn => hn hc.2

theorem spindleKey_ne {f g n m : Nat} (hn : n ≤ 1824) (hm : m ≤ 1824) (h : n ≠ m) :
    spindleKey f n ≠ spindleKey g m := by
  unfold spindleKey
  omega

/-- Another spindle stands. -/
theorem State.runOutSpindle_other {m : Nat} (hn : n ≤ 1824) (hm : m ≤ 1824) (hne : m ≠ n) :
    (s.runOutSpindle f n).spindle f m = s.spindle f m := by
  have hkey := spindleKey_ne (f := f) (g := f) hm hn hne
  obtain ⟨x, h | h⟩ | ⟨p, hp, h⟩ | h := State.runOutSpindle_cases f n s
  · rw [h, State.setSpindle_other _ _ _ _ _ _ hkey]
  · rw [h, State.removeEntry_spindle, State.setSpindle_other _ _ _ _ _ _ hkey]
  · obtain ⟨_, hat⟩ := State.attemptAt_eq_some hp
    rw [h]
    cases hd : (s.piecer p).side with
    | some d => exact State.abandon_spindle_other hd hat (spindleKey_ne hm hn hne)
    | none =>
      unfold State.abandon
      rw [State.voidAttempt_of_none s (.inr (.inr hd))]
      split
      · exact State.spindle_of_table (by simp) f m
      · rfl
  · rw [h]

end

end

end Sys2Proof.Machine
end

section
/-! PROOFS. The sides and the piecers at a run-out (R12, R54). -/

namespace Sys2Proof.Machine

section
variable {s t u : State}

/-- The lists lose entries at most, and the sides their piecers. -/
def State.SidesShrink (s t : State) : Prop := ∀ d, ((t.side d).piecer = (s.side d).piecer ∨ (t.side d).piecer = none) ∧
  ∀ e ∈ (t.side d).entries, e ∈ (s.side d).entries

theorem State.SidesShrink.trans (h : s.SidesShrink t) (k : t.SidesShrink u) : s.SidesShrink u := fun d =>
  ⟨(k d).1.elim (fun hk => (h d).1.imp hk.trans hk.trans) .inr, fun e he => (h d).2 e ((k d).2 e he)⟩

theorem State.SidesShrink.of_table (h : t.disp.sides = s.disp.sides) : s.SidesShrink t := fun d => by
  rw [State.side_of_table h]
  exact ⟨.inl rfl, fun _ he => he⟩

theorem State.removeEntry_piecer (hs : s.formed = true) (f n d : Nat) :
    ((s.removeEntry f n).side d).piecer = (s.side d).piecer := by
  unfold State.removeEntry
  dsimp only
  split
  · obtain rfl | hne := eq_or_ne d (sideOf f n)
    · rw [(State.oweRelist_side ..).trans (State.setSide_formed_same _ _ _ hs)]
    · exact congrArg Side.piecer ((State.oweRelist_side ..).trans (State.setSide_other _ _ _ _ hne))
  · rfl

theorem State.removeEntry_shrinks (hs : s.formed = true) (f n : Nat) : s.SidesShrink (s.removeEntry f n) := fun d => by
  refine ⟨.inl (State.removeEntry_piecer hs f n d), ?_⟩
  unfold State.removeEntry
  dsimp only
  split
  · obtain rfl | hne := eq_or_ne d (sideOf f n)
    · rw [(State.oweRelist_side ..).trans (State.setSide_formed_same _ _ _ hs)]
      exact fun _ he => List.mem_of_mem_filter he
    · rw [(State.oweRelist_side ..).trans (State.setSide_other _ _ _ _ hne)]
      exact fun _ he => he
  · exact fun _ he => he

theorem State.unserve_shrinks (hs : s.formed = true) (p : Nat) : s.SidesShrink (s.unserve p) := fun d => by
  refine ⟨?_, fun e he => by rwa [State.unserve_entries hs] at he⟩
  cases hd : (s.piecer p).side with
  | none =>
    rw [State.unserve_eq, hd]
    exact .inl rfl
  | some e =>
    obtain rfl | hne := eq_or_ne d e
    · exact .inr (State.unserve_side_same p hs hd)
    · have hu : s.unserve p = (s.setSide e { s.side e with piecer := none }).oweArbiter := by rw [State.unserve_eq, hd]
      rw [hu]
      exact .inl (congrArg Side.piecer (State.setSide_other _ _ _ _ hne))

theorem State.sendToBay_shrinks (hs : s.formed = true) (p : Nat) (pl : Placement) (r : Option MoveReason) :
    s.SidesShrink (s.sendToBay p pl r) :=
  (State.unserve_shrinks hs p).trans (State.SidesShrink.of_table (by simp [State.sendToBay, State.journalMove]))

theorem State.attemptOver_shrinks (hs : s.formed = true) (p : Nat) : s.SidesShrink (s.attemptOver p) := by
  have hset := fun x => State.setPiecer_formed p x s hs
  have hsame := fun x => State.SidesShrink.of_table (s := s) (t := s.setPiecer p x) (by simp)
  unfold State.attemptOver
  dsimp only
  split
  · exact (hsame _).trans (State.sendToBay_shrinks (hset _) p _ _)
  split
  · exact (hsame _).trans (State.sendToBay_shrinks (hset _) p _ _)
  · exact (hsame _).trans (State.SidesShrink.of_table rfl)

theorem State.claimAbandoned_shrinks (hs : s.formed = true) (f n : Nat) : s.SidesShrink (s.claimAbandoned f n) := by
  unfold State.claimAbandoned
  dsimp only
  split
  · split
    · exact (State.SidesShrink.of_table (by simp)).trans (State.removeEntry_shrinks (State.setSpindle_formed _ _ _ _ hs) f n)
    · exact State.SidesShrink.of_table (by simp)
  · exact State.SidesShrink.of_table rfl

theorem State.voidAttempt_shrinks (hs : s.formed = true) (p : Nat) (send : Bool) :
    s.SidesShrink (s.voidAttempt p send) := by
  by_cases hno : (s.piecer p).current = none ∨ (s.piecer p).spindle = none ∨ (s.piecer p).side = none
  · rw [State.voidAttempt_of_none s hno]
    exact State.SidesShrink.of_table rfl
  simp only [not_or, Option.ne_none_iff_exists'] at hno
  obtain ⟨⟨t, ht⟩, ⟨n, hn⟩, d, hd⟩ := hno
  rw [State.voidAttempt_of_attempt s ht hn hd]
  refine State.SidesShrink.trans (State.SidesShrink.of_table ?_) (State.claimAbandoned_shrinks ?_ _ _)
  · unfold State.leaveLock
    (repeat' split) <;> simp
  · exact State.leaveLock_formed _ _ _ (State.setPiecer_formed _ _ _ (by split <;> simp [hs]))

theorem State.abandon_shrinks (hs : s.formed = true) (p : Nat) : s.SidesShrink (s.abandon p) := by
  unfold State.abandon
  split
  · exact (State.voidAttempt_shrinks hs p true).trans (State.attemptOver_shrinks (State.voidAttempt_formed p true s hs) p)
  · exact State.SidesShrink.of_table rfl

/-- An attempt abandoned is off its piecer's record, whose void token it becomes. -/
theorem State.abandon_piecer_same (hs : s.formed = true) (p : Nat) : ((s.abandon p).piecer p).current = none ∧
    ((s.piecer p).current ≠ none → (s.piecer p).spindle ≠ none → (s.piecer p).side ≠ none →
      ((s.abandon p).piecer p).void = (s.piecer p).current) := by
  unfold State.abandon
  split
  · obtain ⟨hcur, hvoid, _⟩ := State.attemptOver_piecer_same p (State.voidAttempt_formed p true s hs)
    exact ⟨hcur, fun h1 h2 h3 => hvoid.trans (State.voidAttempt_void p hs true h1 h2 h3)⟩
  · next hnone =>
    have hcur : (s.piecer p).current = none := by simpa using hnone
    exact ⟨hcur, fun h => absurd hcur h⟩

/-! ### The run-out claims on a side -/

/-- The side's piecer, if any, makes no attempt. -/
def State.Quiet (d : Nat) (s : State) : Prop := ∀ p, (s.side d).piecer = some p → (s.piecer p).current = none

section
variable {f n d : Nat}

theorem State.Quiet.attemptAt (h : s.Quiet (sideOf f n)) : s.attemptAt f n = none := by
  cases hside : (s.side (sideOf f n)).piecer with
  | some p => exact State.attemptAt_of_none hside (.inl (h p hside))
  | none =>
    unfold State.attemptAt
    rw [hside]

/-- A side whose piecer's attempt is abandoned is quiet. -/
theorem State.abandon_quiet (hs : s.formed = true) {p : Nat} (hp : (s.side d).piecer = some p) :
    (s.abandon p).Quiet d :=
  fun q hq => by
    obtain hside | hside := (State.abandon_shrinks hs p d).1
    · rw [hside, hp] at hq
      obtain rfl := Option.some.inj hq
      exact (State.abandon_piecer_same hs p).1
    · rw [hside] at hq
      cases hq

/-- Without an attempt on the spindle the claim changes no piecer and journals nothing. -/
theorem State.runOutSpindle_apart (hs : s.formed = true) (h : s.attemptAt f n = none) :
    (s.runOutSpindle f n).disp.piecers = s.disp.piecers ∧ State.Grows 0 s (s.runOutSpindle f n) ∧
      ∀ e, ((s.runOutSpindle f n).side e).piecer = (s.side e).piecer := by
  obtain ⟨x, hx | hx⟩ | ⟨p, hp, _⟩ | hx := State.runOutSpindle_cases f n s
  · rw [hx]
    exact ⟨by simp, State.Grows.setSpindle .., fun e => by rw [State.setSpindle_side]⟩
  · rw [hx]
    refine ⟨by simp, (State.Grows.setSpindle ..).trans (State.Grows.removeEntry ..), fun e => ?_⟩
    rw [State.removeEntry_piecer (State.setSpindle_formed _ _ _ _ hs), State.setSpindle_side]
  · rw [hp] at h
    cases h
  · rw [hx]
    exact ⟨rfl, State.Grows.refl s, fun _ => rfl⟩

theorem State.runOutSpindle_shrinks (hs : s.formed = true) : s.SidesShrink (s.runOutSpindle f n) := by
  obtain ⟨x, hx | hx⟩ | ⟨p, _, hx⟩ | hx := State.runOutSpindle_cases f n s <;> rw [hx]
  · exact State.SidesShrink.of_table (by simp)
  · exact (State.SidesShrink.of_table (by simp)).trans (State.removeEntry_shrinks (State.setSpindle_formed _ _ _ _ hs) f n)
  · exact State.abandon_shrinks hs p
  · exact State.SidesShrink.of_table rfl

theorem State.Quiet.runOutSpindle (hs : s.formed = true) (h : s.Quiet d) (hd : sideOf f n = d) :
    (s.runOutSpindle f n).Quiet d := by
  subst hd
  obtain ⟨hpiecers, _, hsides⟩ := State.runOutSpindle_apart hs h.attemptAt
  intro p hp
  rw [hsides] at hp
  rw [State.piecer_of_table hpiecers]
  exact h p hp

/-- On a quiet side the claims change no piecer and journal nothing. -/
theorem State.runOutAll_quiet {l : List Nat} (hl : ∀ n ∈ l, sideOf f n = d) (hs : s.formed = true) (h : s.Quiet d) :
    (s.each l fun n t => t.runOutSpindle f n).disp.piecers = s.disp.piecers ∧
      State.Grows 0 s (s.each l fun n t => t.runOutSpindle f n) := by
  induction l generalizing s with
  | nil => exact ⟨rfl, State.Grows.refl s⟩
  | cons n l ih =>
    have hn := hl n List.mem_cons_self
    obtain ⟨hpiecers, hgrows, _⟩ := State.runOutSpindle_apart (f := f) (n := n) hs (by rw [← hn] at h; exact h.attemptAt)
    obtain ⟨hpiecers', hgrows'⟩ := ih (fun m hm => hl m (List.mem_cons_of_mem n hm)) (State.runOutSpindle_formed f n s hs)
      (h.runOutSpindle hs hn)
    exact ⟨hpiecers'.trans hpiecers, hgrows.trans hgrows'⟩

/-- One attempt at most is abandoned by the claims on a side. -/
theorem State.runOutAll_grows {l : List Nat} (hl : ∀ n ∈ l, sideOf f n = d) (hs : s.formed = true) :
    State.Grows 4 s (s.each l fun n t => t.runOutSpindle f n) := by
  induction l generalizing s with
  | nil => exact (State.Grows.refl s).mono (Nat.zero_le 4)
  | cons n l ih =>
    have hn := hl n List.mem_cons_self
    have hrest := fun m (hm : m ∈ l) => hl m (List.mem_cons_of_mem n hm)
    have hformed := State.runOutSpindle_formed f n s hs
    cases hat : s.attemptAt f n with
    | none =>
      obtain ⟨_, hgrows, _⟩ := State.runOutSpindle_apart hs hat
      exact (hgrows.trans (ih hrest hformed)).mono (by omega)
    | some p =>
      obtain ⟨x, hx | hx⟩ | ⟨q, hq, hx⟩ | hx := State.runOutSpindle_cases f n s
      · have hgrows : State.Grows 0 s (s.runOutSpindle f n) := hx ▸ State.Grows.setSpindle ..
        exact (hgrows.trans (ih hrest hformed)).mono (by omega)
      · have hgrows : State.Grows 0 s (s.runOutSpindle f n) :=
          hx ▸ (State.Grows.setSpindle f n x s).trans (State.Grows.removeEntry _ f n)
        exact (hgrows.trans (ih hrest hformed)).mono (by omega)
      · have hgrows : State.Grows 4 s (s.runOutSpindle f n) := hx ▸ State.Grows.abandon s q
        have hquiet : (s.runOutSpindle f n).Quiet d := by
          rw [hx]
          exact State.abandon_quiet hs (hn ▸ (State.attemptAt_eq_some hq).1)
        exact (hgrows.trans (State.runOutAll_quiet hrest hformed hquiet).2).mono (by omega)
      · have hgrows : State.Grows 0 s (s.runOutSpindle f n) := hx.symm ▸ State.Grows.refl s
        exact (hgrows.trans (ih hrest hformed)).mono (by omega)

end

end

end Sys2Proof.Machine
end

section
/-! PROOFS. The run-out test of a section (R109). -/

namespace Sys2Proof.Machine

/-- A loop of distinct numbers around one of them. -/
theorem State.each_around {l : List Nat} (hl : l.Nodup) {n : Nat} (hn : n ∈ l) : ∃ a b, n ∉ a ∧ n ∉ b ∧ a ⊆ l ∧ b ⊆ l ∧
    ∀ (g : Nat → State → State) (s : State), s.each l g = (g n (s.each a g)).each b g := by
  obtain ⟨a, b, rfl⟩ := List.append_of_mem hn
  obtain ⟨_, hb, hdisjoint⟩ := List.nodup_append'.mp hl
  refine ⟨a, b, fun h => hdisjoint h List.mem_cons_self, (List.nodup_cons.mp hb).1, by simp, by
    intro m hm
    simp [hm], fun g s => ?_⟩
  rw [State.each, State.each, State.each, List.foldl_append]
  rfl

section
variable {s : State} {f k : Nat}

/-- The spindles of one section are on one side. -/
theorem sideOf_section {j n m : Nat} (hn : n ∈ spindlesOfSection j) (hm : m ∈ spindlesOfSection j) :
    sideOf f n = sideOf f m := by
  rw [mem_spindlesOfSection] at hn hm
  unfold sideOf
  split <;> split <;> omega

theorem creelOfSpindle_section {n : Nat} (hk : 1 ≤ k) (hn : n ∈ spindlesOfSection (creelIndex k)) :
    creelOfSpindle (creelFrame k) n = k := by
  rw [mem_spindlesOfSection] at hn
  unfold creelIndex at hn
  unfold creelOfSpindle creelNo sectionOf creelFrame
  omega

theorem le_of_mem_section {n : Nat} (hn : n ∈ spindlesOfSection (creelIndex k)) : n ≤ 1824 := by
  rw [mem_spindlesOfSection] at hn
  unfold creelIndex at hn
  omega

/-- The section reported empty, its frame's alarm set. -/
def State.emptied (k : Nat) (s : State) : State :=
  (s.journal .sectionEmpty (creelFrame k) 0 [w32 (creelIndex k), w32 (s.creel k).state.code]).alarm (creelFrame k)

/-- The claims on the spindles of an empty section. -/
def State.runOutAll (f : Nat) (l : List Nat) (s : State) : State := s.each l fun n t => t.runOutSpindle f n

theorem State.runOutTest_of_empty (h : (s.creel k).remaining = 0) :
    s.runOutTest k = (s.emptied k).runOutAll (creelFrame k) (spindlesOfSection (creelIndex k)) := if_pos h

theorem State.runOutTest_of_some (h : (s.creel k).remaining ≠ 0) : s.runOutTest k = s := if_neg h

section
variable (hs : s.formed = true)
include hs

theorem State.emptied_formed : (s.emptied k).formed = true := State.alarm_formed _ _ (State.journal_formed _ _ _ _ _ hs)

theorem State.runOutAll_tended (l : List Nat) : s.Tended (s.runOutAll f l) :=
  State.each_tended _ _ (fun _ _ ht => State.runOutSpindle_tended ht) (State.Tended.refl hs)

theorem State.runOutAll_shrinks (l : List Nat) : s.SidesShrink (s.runOutAll f l) := by
  have hloop := State.each_keeps_prop (g := fun n t => State.runOutSpindle f n t) (Q := fun t => t.formed = true ∧
    s.SidesShrink t)
    (fun n t ht => ⟨State.runOutSpindle_formed f n t ht.1, ht.2.trans (State.runOutSpindle_shrinks ht.1)⟩) l
    ⟨hs, State.SidesShrink.of_table rfl⟩
  exact hloop.2

omit hs in
theorem State.runOutAll_spindle {l : List Nat} {n : Nat} (hl : ∀ m ∈ l, m ≤ 1824) (hn : n ≤ 1824) (h : n ∉ l) :
    (s.runOutAll f l).spindle f n = s.spindle f n :=
  State.each_keeps_mem (fun t => t.spindle f n) (fun m hm _ =>
    State.runOutSpindle_other (hl m hm) hn fun he => h (he ▸ hm)) s

/-- Before the claim on the spindle its piecer works on, the attempt stands. -/
theorem State.runOutAll_before {l : List Nat} {n p : Nat} (hl : ∀ m ∈ l, m ≤ 1824 ∧ sideOf f m = sideOf f n)
    (hn : n ≤ 1824)
    (h : n ∉ l) (hside : (s.side (sideOf f n)).piecer = some p) (hat : (s.piecer p).spindle = some n) :
    ((s.runOutAll f l).side (sideOf f n)).piecer = some p ∧ (s.runOutAll f l).piecer p = s.piecer p := by
  unfold State.runOutAll
  induction l generalizing s with
  | nil => exact ⟨hside, rfl⟩
  | cons m l ih =>
    obtain ⟨hm, hmside⟩ := hl m List.mem_cons_self
    have hne : m ≠ n := fun he => h (he ▸ List.mem_cons_self)
    have hnone : s.attemptAt f m = none := by
      refine State.attemptAt_of_none (by rw [hmside]; exact hside) (.inr ?_)
      rw [hat]
      exact fun he => hne (Option.some.inj he).symm
    obtain ⟨hpiecers, _, hsides⟩ := State.runOutSpindle_apart hs hnone
    have hpiecer := State.piecer_of_table hpiecers p
    obtain ⟨hside', hpiecer'⟩ := ih (State.runOutSpindle_formed f m s hs) (fun i hi => hl i (List.mem_cons_of_mem m hi))
      (fun hi => h (List.mem_cons_of_mem m hi)) (by rw [hsides]; exact hside) (by rw [hpiecer]; exact hat)
    exact ⟨hside', hpiecer'.trans hpiecer⟩

/-- The claim on a spindle that is being pieced, its section empty: STARVED, the attempt void. -/
theorem State.abandon_starves {n p : Nat} (hk : 1 ≤ k) (hn : n ∈ spindlesOfSection (creelIndex k))
    (hempty : (s.creel k).remaining = 0) (hst : (s.spindle (creelFrame k) n).state = .piecing)
    (hcur : (s.piecer p).current ≠ none) (hat : (s.piecer p).spindle = some n)
    (hd : (s.piecer p).side = some (sideOf (creelFrame k) n)) : ((s.abandon p).spindle (creelFrame k) n).state = .starved := by
  obtain ⟨t, ht⟩ := Option.ne_none_iff_exists'.mp hcur
  have hframe : sideFrame (sideOf (creelFrame k) n) = creelFrame k := sideFrame_sideOf (by unfold creelFrame; omega)
  have habandon : s.abandon p = (s.voidAttempt p true).attemptOver p := by
    unfold State.abandon
    rw [if_pos (by rw [ht]; rfl)]
  rw [habandon, State.spindle_of_table (t := (s.voidAttempt p true).attemptOver p) (s := s.voidAttempt p true) (by simp),
    State.voidAttempt_of_attempt s ht hat hd, hframe, creelOfSpindle_section hk hn, if_pos rfl]
  have hset := State.setPiecer_formed p ((s.piecer p).voided t) _ (State.hand_formed (piecerAddr p) (.abandon t) s hs)
  have hleft : s.Tended (((s.hand (piecerAddr p) (.abandon t)).setPiecer p ((s.piecer p).voided t)).leaveLock p k) := by
    have hset := State.setPiecer_tended p ((s.piecer p).voided t)
      (State.hand_tended (piecerAddr p) (.abandon t) (State.Tended.refl hs))
    unfold State.leaveLock
    split
    · exact State.setCreel_tended k _ ⟨rfl, rfl⟩ hset
    · exact State.piecerReleases_tended p k hset
  have hspindle : (((s.hand (piecerAddr p) (.abandon t)).setPiecer p ((s.piecer p).voided t)).leaveLock p k).spindle
      (creelFrame k) n = s.spindle (creelFrame k) n := State.spindle_of_table (by simp) _ n
  rw [State.claimAbandoned_spindle _ _ (State.leaveLock_formed _ _ _ hset) (by rw [hspindle]; exact hst),
    creelOfSpindle_section hk hn, (hleft.remaining k).1, if_pos hempty]
  rfl

/-- What the run-out claims on a section's spindles come to, one spindle at a time. -/
theorem State.runOutAll_spindles {n : Nat} (hk : 1 ≤ k) (hempty : (s.creel k).remaining = 0)
    (hn : n ∈ spindlesOfSection (creelIndex k)) :
    let f := creelFrame k
    let u := s.runOutAll f (spindlesOfSection (creelIndex k))
    let z := s.spindle f n
    let y := u.spindle f n
    (z.state = .down → y.state = .starved ∧
      (z.listed = true → ∀ e, e ∈ (u.side (sideOf f n)).entries → e.spindle ≠ n)) ∧
    (z.state = .piecing →
      (∀ p, (s.side (sideOf f n)).piecer = some p → (s.piecer p).side = some (sideOf f n) →
        (s.piecer p).current ≠ none → (s.piecer p).spindle = some n → y.state = .starved ∧
        (u.piecer p).current = none ∧ (u.piecer p).void = (s.piecer p).current)) ∧
    (z.state = .checking → z.saved = some .down → y = { z with saved := some .starved }) ∧
    (z.state ≠ .down → z.state ≠ .piecing → ¬(z.state = .checking ∧ z.saved = some .down) → y = z) := by
  intro f u z y
  obtain ⟨a, b, hna, hnb, ha, hb, hloop⟩ := State.each_around (nodup_spindlesOfSection (creelIndex k)) hn
  have hle := le_of_mem_section hn
  have hlea (m : Nat) (hm : m ∈ a) := le_of_mem_section (ha hm)
  have hleb (m : Nat) (hm : m ∈ b) := le_of_mem_section (hb hm)
  have hsidea (m : Nat) (hm : m ∈ a) : sideOf f m = sideOf f n := sideOf_section (ha hm) hn
  have hsideb (m : Nat) (hm : m ∈ b) : sideOf f m = sideOf f n := sideOf_section (hb hm) hn
  have hu : u = ((s.runOutAll f a).runOutSpindle f n).runOutAll f b := hloop _ s
  have htended := State.runOutAll_tended (f := f) hs a
  have hformed := htended.formed
  have hz : (s.runOutAll f a).spindle f n = z := State.runOutAll_spindle hlea hle hna
  have hformed' := State.runOutSpindle_formed f n _ hformed
  have hy : y = ((s.runOutAll f a).runOutSpindle f n).spindle f n :=
    (congrArg (fun t => State.spindle t f n) hu).trans (State.runOutAll_spindle hleb hle hnb)
  refine ⟨fun hst => ?_, fun hst p hside hback hcur hat => ?_, fun hst hsaved => ?_, fun hd hp hc => ?_⟩
  · have hclaim := State.runOutSpindle_of_down (s := s.runOutAll f a) (f := f) (n := n) (by rw [hz]; exact hst)
    rw [hz] at hclaim
    refine ⟨?_, fun hlisted e he => ?_⟩
    · rw [hy, hclaim]
      split
      · rw [State.removeEntry_spindle, State.setSpindle_formed_same _ _ _ _ hformed]
        rfl
      · rw [State.setSpindle_formed_same _ _ _ _ hformed]
        rfl
    · rw [if_pos hlisted] at hclaim
      rw [hu] at he
      have hmem := (State.runOutAll_shrinks hformed' b (sideOf f n)).2 e he
      rw [hclaim] at hmem
      exact State.removeEntry_entries f n (State.setSpindle_formed _ _ _ _ hformed) e hmem
  · obtain ⟨hside', hpiecer⟩ := State.runOutAll_before hs (fun m hm => ⟨hlea m hm, hsidea m hm⟩) hle hna hside hat
    have hempty' : ((s.runOutAll f a).creel k).remaining = 0 := (htended.remaining k).1.trans hempty
    have hclaim : (s.runOutAll f a).runOutSpindle f n = (s.runOutAll f a).abandon p := by
      rw [State.runOutSpindle_of_piecing (by rw [hz]; exact hst),
        State.attemptAt_of f n hside' (by rw [hpiecer]; exact hcur) (by rw [hpiecer]; exact hat)]
    have hquiet : ((s.runOutAll f a).runOutSpindle f n).Quiet (sideOf f n) := by
      rw [hclaim]
      exact State.abandon_quiet hformed hside'
    have hafter : u.piecer p = ((s.runOutAll f a).abandon p).piecer p := by
      rw [hu, ← hclaim]
      exact State.piecer_of_table (State.runOutAll_quiet hsideb hformed' hquiet).1 p
    obtain ⟨hnone, hvoid⟩ := State.abandon_piecer_same hformed p
    rw [hpiecer] at hvoid
    refine ⟨?_, by rw [hafter]; exact hnone, by
      rw [hafter]
      exact hvoid hcur (by rw [hat]; nofun) (by rw [hback]; nofun)⟩
    rw [hy, hclaim]
    exact State.abandon_starves hformed hk hn hempty' (by rw [hz]; exact hst) (by rw [hpiecer]; exact hcur)
      (by rw [hpiecer]; exact hat) (by rw [hpiecer]; exact hback)
  · have hclaim := State.runOutSpindle_of_checking (s := s.runOutAll f a) (f := f) (n := n) (by rw [hz]; exact hst)
    rw [hz, if_pos hsaved] at hclaim
    rw [hy, hclaim]
    exact State.setSpindle_formed_same _ _ _ _ hformed
  · rw [hy, State.runOutSpindle_of_else (by rw [hz]; exact hd) (by rw [hz]; exact hp) (by rw [hz]; exact hc)]
    exact hz

end

/-- The run-out test of a section (R109). -/
theorem runOutTest_effect (hs : s.formed = true) (hk : 1 ≤ k) :
    let f := (k - 1) / 76 + 1
    let x := s.creel k
    let u := s.runOutTest k
    (x.remaining ≠ 0 → u = s) ∧
    (x.remaining = 0 → u.journalled .sectionEmpty f 0 [w32 ((k - 1) % 76 + 1), w32 x.state.code] ∧
      (u.frame f).alarm = true ∧ u.regs.att &&& 8#32 = 8#32 ∧ u.regs.att &&& 2#32 = 2#32 ∧
      (u.creel k).remaining = 0 ∧ (u.creel k).state = x.state ∧
      ∀ n, 24 * ((k - 1) % 76) < n → n ≤ 24 * ((k - 1) % 76) + 24 →
        let z := s.spindle f n
        let y := u.spindle f n
        (z.state = .down → y.state = .starved ∧
          (z.listed = true → ∀ e, e ∈ (u.side (sideOf f n)).entries → e.spindle ≠ n)) ∧
        (z.state = .piecing →
          (∀ p, (s.side (sideOf f n)).piecer = some p → (s.piecer p).side = some (sideOf f n) →
            (s.piecer p).current ≠ none → (s.piecer p).spindle = some n → y.state = .starved ∧
            (u.piecer p).current = none ∧ (u.piecer p).void = (s.piecer p).current)) ∧
        (z.state = .checking → z.saved = some .down → y = { z with saved := some .starved }) ∧
        (z.state ≠ .down → z.state ≠ .piecing → ¬(z.state = .checking ∧ z.saved = some .down) → y = z)) := by
  intro f x u
  refine ⟨State.runOutTest_of_some, fun hempty => ?_⟩
  have hu : u = (s.emptied k).runOutAll f (spindlesOfSection (creelIndex k)) := State.runOutTest_of_empty hempty
  have hformed := State.emptied_formed (k := k) hs
  have hcreel : (s.emptied k).creel k = x := (State.alarm_creel ..).trans (State.journal_creel ..)
  have hside (d : Nat) : (s.emptied k).side d = s.side d := (State.alarm_side ..).trans (State.journal_side ..)
  have hpiecer (p : Nat) : (s.emptied k).piecer p = s.piecer p :=
    (State.alarm_piecer ..).trans (State.journal_piecer ..)
  have hspindle (n : Nat) : (s.emptied k).spindle f n = s.spindle f n :=
    (State.alarm_spindle ..).trans (State.journal_spindle ..)
  have htended := State.runOutAll_tended (f := f) hformed (spindlesOfSection (creelIndex k))
  have hworks : (s.emptied k).Works ((s.emptied k).runOutAll f (spindlesOfSection (creelIndex k))) :=
    State.each_works _ _ (fun n _ ht => State.runOutSpindle_works f n ht) State.Works.refl
  have hatt : (s.emptied k).regs.att = (s.regs.att ||| 2#32) ||| 8#32 :=
    (State.alarm_att ..).trans (congrArg (· ||| 8#32) (State.journal_att ..))
  have hframes : ((s.emptied k).runOutAll f (spindlesOfSection (creelIndex k))).frames = (s.emptied k).frames :=
    State.each_keeps_field State.frames (fun n _ => State.runOutSpindle_keeps State.frames (by simp) (by simp)
      fun p t => State.abandon_frames p t) _ _
  rw [hu]
  refine ⟨?_, ?_, ?_, ?_, ?_, ?_, fun n hlo hhi => ?_⟩
  · have halarm := State.Grows.alarm f (s.journal .sectionEmpty f 0 [w32 (creelIndex k), w32 x.state.code])
    exact State.journalled_of_grows (halarm.trans
      (State.runOutAll_grows (d := sideOf f (24 * (creelIndex k - 1) + 1)) (fun n hn => sideOf_section hn
        (mem_spindlesOfSection.mpr ⟨by omega, by omega⟩)) hformed)) (by omega)
  · rw [State.frame_of_table hframes]
    exact congrArg Frame.alarm (State.alarm_frame_same f _ (State.journal_formed _ _ _ _ _ hs))
  · exact hworks.samePages.attBit (by rw [hatt]; exact or_and_self_right _ _)
  · exact hworks.samePages.attBit (by rw [hatt]; exact or_and_of_and_eq _ (or_and_self_right _ _))
  · rw [(htended.remaining k).1, hcreel]
    exact hempty
  · rw [(htended.remaining k).2, hcreel]
  · have hn : n ∈ spindlesOfSection (creelIndex k) := mem_spindlesOfSection.mpr ⟨by unfold creelIndex; omega, by
      unfold creelIndex; omega⟩
    have hall := State.runOutAll_spindles hformed hk (by rw [hcreel]; exact hempty) hn
    dsimp only at hall
    simp only [hside, hpiecer] at hall
    have hspindle' : (s.emptied k).spindle (creelFrame k) n = s.spindle f n := hspindle n
    rw [hspindle'] at hall
    exact hall

end

end Sys2Proof.Machine
end

section
/-! PROOFS. Consumption (R106). -/

namespace Sys2Proof.Machine

section
variable {s : State} {f advance : Nat}

theorem nodup_sectionsInPlan {n : Nat} (h : n ≤ 912) : (sectionsInPlan n).Nodup := by
  have hrange : n / 24 ≤ 38 := by omega
  have hone (m : Nat) : (oneTo m).Nodup := by rw [oneTo_eq_range']; exact List.nodup_range'
  refine List.nodup_append'.mpr ⟨hone _, (hone _).map (fun a b hab => by simpa using hab), ?_⟩
  intro k hk hk'
  obtain ⟨m, hm, rfl⟩ := List.mem_map.mp hk'
  rw [mem_oneTo] at hk hm
  omega

/-- The sections of a frame in plan, by section number. -/
def State.plannedCreels (s : State) (f : Nat) : List Nat := (sectionsInPlan (s.frameSettings f).perSide).map (creelNo f)

theorem State.nodup_plannedCreels (h : (s.frameSettings f).perSide ≤ 912) : (s.plannedCreels f).Nodup :=
  (nodup_sectionsInPlan h).map fun a b hab => by unfold creelNo at hab; omega

/-- The roving of the sections less what was used. -/
def State.used (l : List Nat) (n : Nat) (s : State) : State :=
  s.each l fun c u => u.setCreel c { u.creel c with remaining := (u.creel c).remaining - n }

theorem State.used_keeps {β : Type} (P : State → β) (h : ∀ c x t, P (State.setCreel c x t) = P t) (l : List Nat)
    (n : Nat) :
    P (s.used l n) = P s := State.each_keeps_field P (fun c t => h c _ t) l s

theorem State.used_formed (hs : s.formed = true) (l : List Nat) (n : Nat) : (s.used l n).formed = true :=
  State.each_keeps_prop (Q := fun t => t.formed = true) (fun c t ht => State.setCreel_formed c _ t ht) l hs

theorem State.used_creel (hs : s.formed = true) {l : List Nat} (hl : l.Nodup) (n k : Nat) : (s.used l n).creel k =
    { s.creel k with remaining := (s.creel k).remaining - if k ∈ l then n else 0 } := by
  by_cases hk : k ∈ l
  · obtain ⟨t, ht, hbefore, hafter⟩ := State.each_pass (rec := fun k t => t.creel k)
      (g := fun c u => u.setCreel c { u.creel c with remaining := (u.creel c).remaining - n }) (Q := fun t => t.formed = true)
      (fun c t ht => State.setCreel_formed c _ t ht) (fun c m t _ hne => State.setCreel_other _ _ _ _ hne) hl hk hs
    rw [State.used, hafter, State.setCreel_formed_same _ _ _ ht, hbefore, if_pos hk]
  · rw [State.used, State.each_keeps_mem (fun t => t.creel k)
      (fun m hm t => State.setCreel_other _ _ _ _ fun h => hk (h ▸ hm)) s, if_neg hk]
    rfl

/-- The state with the roving used taken off, before the tests. -/
def State.drawn (f advance : Nat) (s : State) : State :=
  State.used (s.plannedCreels f) ((advance * 10 + (s.feed f).carry) / (s.frameSettings f).draft)
    (s.setFeed f { s.feed f with carry := (advance * 10 + (s.feed f).carry) % (s.frameSettings f).draft })

/-- The tests of one section, the run-out test if it had roving before. -/
def State.testSection (had : Nat → Bool) (k : Nat) (s : State) : State :=
  if had k then (s.lowTest k).runOutTest k else s.lowTest k

theorem State.consume_eq : s.consume f advance =
    (s.drawn f advance).each (s.plannedCreels f) (State.testSection fun k => decide ((s.creel k).remaining ≠ 0)) := by
  unfold State.consume
  dsimp only
  have hmem {k : Nat} (hk : k ∈ s.plannedCreels f) : (k ∈ (s.plannedCreels f).filter fun c =>
      decide (0 < ((s.setFeed f { s.feed f with
        carry := (advance * 10 + (s.feed f).carry) % (s.frameSettings f).draft }).creel c).remaining)) ↔
      decide ((s.creel k).remaining ≠ 0) = true := by
    rw [List.mem_filter, decide_eq_true_eq, decide_eq_true_eq, State.setFeed_creel, and_iff_right hk]
    exact Nat.pos_iff_ne_zero
  have hloop (l : List Nat) (t : State) (hl : l ⊆ s.plannedCreels f) :
      (t.each l fun c u => if c ∈ (s.plannedCreels f).filter fun c =>
        decide (0 < ((s.setFeed f { s.feed f with
          carry := (advance * 10 + (s.feed f).carry) % (s.frameSettings f).draft }).creel c).remaining)
        then (u.lowTest c).runOutTest c else u.lowTest c) =
      t.each l (State.testSection fun k => decide ((s.creel k).remaining ≠ 0)) := by
    induction l generalizing t with
    | nil => rfl
    | cons c l ih =>
      obtain ⟨hc, hl⟩ := List.cons_subset.mp hl
      refine (ih _ hl).trans (congrArg (State.each l _) ?_)
      dsimp only
      unfold State.testSection
      by_cases h : decide ((s.creel c).remaining ≠ 0) = true
      · rw [if_pos h, if_pos ((hmem hc).mpr h)]
      · rw [if_neg h, if_neg (mt (hmem hc).mp h)]
  exact hloop _ _ (List.Subset.refl _)

/-! ### What the tests leave alone -/

theorem State.runOutTest_output (k : Nat) : (s.runOutTest k).output = s.output := by
  by_cases h : (s.creel k).remaining = 0
  · rw [State.runOutTest_of_empty h]
    refine (State.each_keeps_field State.output (fun n _ => State.runOutSpindle_keeps State.output (by simp) (by simp)
      fun p t => State.abandon_output p t) _ _).trans ?_
    simp [State.emptied, State.alarm]
  · rw [State.runOutTest_of_some h]

theorem State.runOutTest_tended (hs : s.formed = true) (k : Nat) : s.Tended (s.runOutTest k) := by
  by_cases h : (s.creel k).remaining = 0
  · rw [State.runOutTest_of_empty h]
    have hemptied : s.Tended (s.emptied k) := State.alarm_tended _ (State.journal_tended _ _ _ _ (State.Tended.refl hs))
    exact hemptied.trans (State.runOutAll_tended hemptied.formed _)
  · rw [State.runOutTest_of_some h]
    exact State.Tended.refl hs

/-- A frame's record is as before, or its alarm is set. -/
theorem State.runOutTest_frame (hs : s.formed = true) (k e : Nat) : (s.runOutTest k).frame e = s.frame e ∨
    (s.runOutTest k).frame e = { s.frame e with alarm := true } := by
  by_cases h : (s.creel k).remaining = 0
  · have hframes : (s.runOutTest k).frame e = (s.emptied k).frame e := by
      rw [State.runOutTest_of_empty h]
      exact State.frame_of_table (State.each_keeps_field State.frames (fun n _ =>
        State.runOutSpindle_keeps State.frames (by simp) (by simp) fun p t => State.abandon_frames p t) _ _) e
    rw [hframes]
    obtain rfl | hne := eq_or_ne e (creelFrame k)
    · refine .inr ((State.alarm_frame_same _ _ (State.journal_formed _ _ _ _ _ hs)).trans ?_)
      rw [State.journal_frame]
    · exact .inl ((State.alarm_frame_other _ _ _ hne).trans (State.journal_frame ..))
  · rw [State.runOutTest_of_some h]
    exact .inl rfl

theorem State.lowTest_keeps (hs : s.formed = true) (k : Nat) : (s.lowTest k).output = s.output ∧
    (s.lowTest k).roving.feeds = s.roving.feeds ∧ (s.lowTest k).frames = s.frames ∧
    ∀ e, ((s.lowTest k).creel e).remaining = (s.creel e).remaining := by
  have hremaining (t : State) (ht : t.formed = true) (x : Creel) (hx : x.remaining = (t.creel k).remaining) (e : Nat) :
      ((t.setCreel k x).creel e).remaining = (t.creel e).remaining := by
    obtain rfl | hne := eq_or_ne e k
    · rw [State.setCreel_formed_same _ _ _ ht, hx]
    · rw [State.setCreel_other _ _ _ _ hne]
  unfold State.lowTest
  dsimp only
  split
  · have hlow := State.setCreel_formed k { s.creel k with state := .low } s hs
    have hleft (e : Nat) : ((s.setCreel k { s.creel k with state := .low }).creel e).remaining = (s.creel e).remaining :=
      hremaining s hs { s.creel k with state := .low } rfl e
    have hqueue (t : State) (w : Word) : (t.queueByStamp k w).output = t.output ∧
        (t.queueByStamp k w).roving.feeds = t.roving.feeds :=
      ⟨State.setCreel_output .., State.setCreel_roving_feeds ..⟩
    have hcreel (t : State) (ht : t.formed = true) (w : Word) (e : Nat) :
        ((t.queueByStamp k w).creel e).remaining = (t.creel e).remaining :=
      hremaining t ht { t.creel k with state := .queued, queueStamp := some w } rfl e
    split
    · refine ⟨by rw [(hqueue _ _).1]; simp, by rw [(hqueue _ _).2]; simp, by simp, fun e => ?_⟩
      rw [hcreel _ (State.journal_formed _ _ _ _ _ hlow), State.journal_creel]
      exact hleft e
    · exact ⟨by simp, by simp, by simp, fun e => by rw [State.journal_creel]; exact hleft e⟩
  · exact ⟨rfl, rfl, rfl, fun _ => rfl⟩

/-- The tests of the sections leave the output, the delivery rates and the roving left alone. -/
structure State.TestsDone (s t : State) : Prop where
  formed : t.formed = true
  output : t.output = s.output
  feeds : t.roving.feeds = s.roving.feeds
  remaining : ∀ k, (t.creel k).remaining = (s.creel k).remaining
  frame : ∀ e, t.frame e = s.frame e ∨ t.frame e = { s.frame e with alarm := true }

theorem State.testSection_done {t : State} (had : Nat → Bool) (k : Nat) (h : s.TestsDone t) :
    s.TestsDone (t.testSection had k) := by
  obtain ⟨houtput, hfeeds, hframes, hremaining⟩ := State.lowTest_keeps h.formed k
  have hlow : s.TestsDone (t.lowTest k) := ⟨State.lowTest_formed _ _ h.formed, houtput.trans h.output,
    hfeeds.trans h.feeds, fun e => (hremaining e).trans (h.remaining e),
    fun e => by rw [State.frame_of_table hframes]; exact h.frame e⟩
  unfold State.testSection
  split
  · have hout := State.runOutTest_tended hlow.formed k
    refine ⟨hout.formed, (State.runOutTest_output k).trans hlow.output, hout.feeds.trans hlow.feeds,
      fun e => (hout.remaining e).1.trans (hlow.remaining e), fun e => ?_⟩
    obtain hframe | hframe := State.runOutTest_frame hlow.formed k e
    · rw [hframe]
      exact hlow.frame e
    · rw [hframe]
      refine .inr ?_
      obtain hbefore | hbefore := hlow.frame e <;> rw [hbefore]
  · exact hlow

theorem State.consume_tests (hs : s.formed = true) : (s.drawn f advance).TestsDone (s.consume f advance) := by
  have hdrawn : (s.drawn f advance).formed = true := State.used_formed (State.setFeed_formed _ _ _ hs) _ _
  rw [State.consume_eq]
  exact State.each_keeps_prop (Q := fun t => (s.drawn f advance).TestsDone t)
    (fun k _ ht => State.testSection_done _ k ht) _ ⟨hdrawn, rfl, rfl, fun _ => rfl, fun _ => .inl rfl⟩

theorem State.drawn_keeps {β : Type} (P : State → β) (hfeed : ∀ f x t, P (State.setFeed f x t) = P t)
    (hcreel : ∀ c x t, P (State.setCreel c x t) = P t) : P (s.drawn f advance) = P s := by
  rw [State.drawn, State.used_keeps P hcreel, hfeed]

theorem State.drawn_feed (hs : s.formed = true) : (s.drawn f advance).feed f =
    { s.feed f with carry := (advance * 10 + (s.feed f).carry) % (s.frameSettings f).draft } := by
  rw [State.drawn, State.used_keeps (fun t => t.feed f) (by simp), State.setFeed_formed_same _ _ _ hs]

theorem State.drawn_creel (hs : s.formed = true) (h : (s.frameSettings f).perSide ≤ 912) (k : Nat) :
    (s.drawn f advance).creel k = { s.creel k with
      remaining := (s.creel k).remaining - if k ∈ s.plannedCreels f
        then (advance * 10 + (s.feed f).carry) / (s.frameSettings f).draft else 0 } := by
  rw [State.drawn, State.used_creel (State.setFeed_formed _ _ _ hs) (State.nodup_plannedCreels h), State.setFeed_creel]

/-- Consumption (R106). -/
theorem consume_effect (hs : s.formed = true) (h : (s.frameSettings f).perSide ≤ 912) :
    let t := s.frameSettings f
    let sections := (sectionsInPlan t.perSide).map (creelNo f)
    let total := advance * 10 + (s.feed f).carry
    ∃ v : State, s.consume f advance = sections.foldl
        (fun w k => if (s.creel k).remaining = 0 then w.lowTest k else (w.lowTest k).runOutTest k) v ∧
      v.feed f = { s.feed f with carry := total % t.draft } ∧ v.watch = s.watch ∧ v.disp = s.disp ∧
      v.frames = s.frames ∧ v.roving.queue = s.roving.queue ∧ v.roving.carriers = s.roving.carriers ∧
      ∀ k, v.creel k = { s.creel k with
        remaining := (s.creel k).remaining - if k ∈ sections then total / t.draft else 0 } := by
  refine ⟨s.drawn f advance, ?_, State.drawn_feed hs, State.drawn_keeps State.watch (by simp) (by simp),
    State.drawn_keeps State.disp (by simp) (by simp), State.drawn_keeps State.frames (by simp) (by simp),
    State.drawn_keeps (fun t => t.roving.queue) (by simp) (by simp),
    State.drawn_keeps (fun t => t.roving.carriers) (by simp) (by simp), State.drawn_creel hs h⟩
  have htest : (fun (w : State) k => if (s.creel k).remaining = 0 then w.lowTest k else (w.lowTest k).runOutTest k) =
      fun w k => State.testSection (fun k => decide ((s.creel k).remaining ≠ 0)) k w := by
    funext w k
    unfold State.testSection
    by_cases hk : (s.creel k).remaining = 0 <;> simp [hk]
  rw [State.consume_eq, htest]
  rfl

end

end Sys2Proof.Machine
end

section
/-! PROOFS. The capture at a sweep's end (R2, R131, R132). -/

namespace Sys2Proof.Machine

section
variable {s : State} {f : Nat}

/-! ### Stop time (R134) -/

theorem State.closeStop_of_none (h : (s.roller f).stopMark = none) : s.closeStop f = s := by
  unfold State.closeStop
  rw [h]

/-- Stop time counted, its mark taken away. -/
def State.stopCounted (f : Nat) (m : Word) (s : State) : State :=
  s.count f fun x => { x with stopDs := addTo top32 x.stopDs (s.since m) }

theorem State.stopCounted_formed (hs : s.formed = true) (m : Word) : (s.stopCounted f m).formed = true :=
  State.count_formed _ _ _ hs

theorem State.closeStop_of_some {m : Word} (h : (s.roller f).stopMark = some m) :
    s.closeStop f = (s.stopCounted f m).setRoller f { (s.stopCounted f m).roller f with stopMark := none } := by
  unfold State.closeStop
  rw [h]
  unfold State.stopCounted
  dsimp only
  rw [State.count_roller]

theorem State.closeStop_roller (hs : s.formed = true) :
    (s.closeStop f).roller f = { s.roller f with stopMark := none } := by
  cases h : (s.roller f).stopMark with
  | none => rw [State.closeStop_of_none h, ← h]
  | some m =>
    rw [State.closeStop_of_some h, State.setRoller_formed_same _ _ _ (State.stopCounted_formed hs m), State.stopCounted,
      State.count_roller]

theorem State.openStop_roller (hs : s.formed = true) : (s.openStop f).roller f =
    { s.roller f with stopMark := if s.output.page = none then (s.roller f).stopMark else some s.clock } := by
  unfold State.openStop
  cases h : s.output.page with
  | none => rfl
  | some p => exact State.setRoller_formed_same _ _ _ hs

theorem State.closeStop_clock : (s.closeStop f).clock = s.clock := by
  unfold State.closeStop
  split <;> simp

theorem State.updateStop_roller (hs : s.formed = true) :
    ∃ m, (s.updateStop f).roller f = { s.roller f with stopMark := m } := by
  unfold State.updateStop
  split
  · rw [State.openStop_roller (State.closeStop_formed _ _ hs), State.closeStop_roller hs]
    exact ⟨_, rfl⟩
  · exact ⟨(s.roller f).stopMark, rfl⟩

theorem State.openStop_counts (e : Nat) : (s.openStop f).counts e = s.counts e := by
  unfold State.openStop
  split
  · exact State.counts_of_table (State.setRoller_output_counts ..) e
  · rfl

/-- A stopped frame's stop time is counted, and its mark set anew. -/
theorem State.updateStop_stopped (hs : s.formed = true) (hst : (s.frame f).state.stopped = true)
    (hp : s.output.page ≠ none)
    {m : Word} (hm : (s.roller f).stopMark = some m) :
    ((s.updateStop f).counts f).stopDs = addTo top32 (s.counts f).stopDs (s.since m) ∧
      ((s.updateStop f).roller f).stopMark = some s.clock := by
  have hpage : (s.closeStop f).output.page ≠ none := by
    rw [(State.closeStop_works f State.Works.refl).page]
    exact hp
  have hclosed := State.closeStop_formed f s hs
  unfold State.updateStop
  rw [if_pos hst]
  refine ⟨?_, ?_⟩
  · rw [State.openStop_counts, State.closeStop_of_some hm, State.counts_of_table (State.setRoller_output_counts ..),
      State.stopCounted, State.count_counts_same hs hp]
  · rw [State.openStop_roller hclosed, if_neg hpage, State.closeStop_clock]

theorem State.updateStop_tended {o : State} (h : o.Tended s) : o.Tended (s.updateStop f) := by
  unfold State.updateStop
  split
  · exact State.openStop_tended f (State.closeStop_tended f h)
  · exact h

/-! ### The capture before consumption and notice -/

/-- The sweeps of a running frame counted. -/
def State.sweepsCounted (f running planned : Nat) (s : State) : State :=
  if (s.frame f).state.runs then s.count f (Counts.addSweeps running planned) else s

/-- The lengths and the weight counted, and a stopped frame's stop time. -/
def State.lengthsCounted (f running : Nat) (s : State) : State :=
  (s.count f (Counts.addLength ((s.roller f).advance (s.frameSettings f).circumference) running (s.frameSettings f).tex)).updateStop f

/-- The counters and the counts after a capture at a sweep's end. -/
def State.sweepCaptured (f running planned : Nat) (s : State) : State :=
  let t := (s.sweepsCounted f running planned).captureLengths f running
  t.setRoller f { t.roller f with lastRunning := running }

theorem State.captureLengths_eq (running : Nat) : s.captureLengths f running =
    (s.lengthsCounted f running).setRoller f
      { ((s.lengthsCounted f running).roller f).captured (s.frameSettings f).circumference with
        stopMark := ((s.lengthsCounted f running).roller f).stopMark } := by
  unfold State.captureLengths State.lengthsCounted
  rfl

/-- The advance handed on as consumption, with the delivery rate and the period. -/
def State.delivered (f advance period : Nat) (s : State) : State :=
  (s.setFeed f { s.feed f with rate := advance, period := period }).consume f advance

theorem State.sweepCapture_eq (running planned period : Nat) : s.sweepCapture f running planned period =
    (if (s.frame f).state.runs then (s.sweepCaptured f running planned).delivered f
        ((s.roller f).advance (s.frameSettings f).circumference) period
      else s.sweepCaptured f running planned).notice f := by
  unfold State.sweepCapture State.sweepCaptured State.delivered State.sweepsCounted
  rfl

section
variable (hs : s.formed = true) (running planned : Nat)
include hs

theorem State.sweepsCounted_formed : (s.sweepsCounted f running planned).formed = true := by
  unfold State.sweepsCounted
  split
  · exact State.count_formed _ _ _ hs
  · exact hs

theorem State.lengthsCounted_formed : (s.lengthsCounted f running).formed = true :=
  (State.updateStop_tended (State.Tended.refl (State.count_formed _ _ _ hs))).formed

theorem State.sweepCaptured_formed : (s.sweepCaptured f running planned).formed = true :=
  State.setRoller_formed _ _ _ (State.captureLengths_formed _ _ _ (State.sweepsCounted_formed hs running planned))

omit hs in
/-- What neither counts nor counters hold. -/
theorem State.sweepCaptured_keeps {β : Type} (P : State → β) (hcount : ∀ f g t, P (State.count f g t) = P t)
    (hroller : ∀ f x t, P (State.setRoller f x t) = P t) : P (s.sweepCaptured f running planned) = P s := by
  have hstop (t : State) : P (t.updateStop f) = P t := by
    unfold State.updateStop State.openStop State.closeStop
    (repeat' split) <;> simp [hcount, hroller]
  have hsweeps : P (s.sweepsCounted f running planned) = P s := by
    unfold State.sweepsCounted
    split
    · exact hcount ..
    · rfl
  rw [State.sweepCaptured, hroller, State.captureLengths_eq, hroller, State.lengthsCounted, hstop, hcount, hsweeps]

omit hs in
theorem State.sweepCaptured_frame (e : Nat) : (s.sweepCaptured f running planned).frame e = s.frame e :=
  State.sweepCaptured_keeps running planned (fun t => t.frame e) (by simp) (by simp)

omit hs in
theorem State.sweepCaptured_roving : (s.sweepCaptured f running planned).roving = s.roving :=
  State.sweepCaptured_keeps running planned State.roving (by simp) (by simp)

omit hs in
theorem State.sweepsCounted_roller (e : Nat) : (s.sweepsCounted f running planned).roller e = s.roller e := by
  unfold State.sweepsCounted
  split
  · exact State.count_roller ..
  · rfl

omit hs in
theorem State.sweepsCounted_settings : (s.sweepsCounted f running planned).frameSettings f = s.frameSettings f := by
  have hplan : (s.sweepsCounted f running planned).plan = s.plan := by
    unfold State.sweepsCounted
    split <;> simp
  rw [State.frameSettings, State.frameSettings, State.settings_of_plan hplan]

theorem State.sweepCaptured_roller : ∃ m, (s.sweepCaptured f running planned).roller f =
    { (s.roller f).captured (s.frameSettings f).circumference with lastRunning := running, stopMark := m } := by
  have hsweeps := State.sweepsCounted_formed (f := f) hs running planned
  obtain ⟨m, hm⟩ := State.updateStop_roller (f := f) (State.count_formed f (Counts.addLength
    (((s.sweepsCounted f running planned).roller f).advance ((s.sweepsCounted f running planned).frameSettings f).circumference)
    running ((s.sweepsCounted f running planned).frameSettings f).tex) _ hsweeps)
  rw [State.count_roller, State.sweepsCounted_roller] at hm
  have hcapture := State.captureLengths_formed f running _ hsweeps
  have hlengths := State.lengthsCounted_formed (f := f) hsweeps running
  refine ⟨m, ?_⟩
  rw [State.sweepCaptured, State.setRoller_formed_same _ _ _ hcapture, State.captureLengths_eq,
    State.setRoller_formed_same _ _ _ hlengths, State.sweepsCounted_settings]
  have hroller : ((s.sweepsCounted f running planned).lengthsCounted f running).roller f = { s.roller f with stopMark := m } := by
    rw [State.lengthsCounted, State.sweepsCounted_roller]
    exact hm
  rw [hroller]
  rfl

/-- The lengths, the weight and the sweeps of the capture. -/
theorem State.sweepCaptured_yield (hp : s.output.page ≠ none) : ((s.sweepCaptured f running planned).counts f).yield =
    (((if (s.frame f).state.runs then (s.counts f).addSweeps running planned else s.counts f)).addLength
      ((s.roller f).advance (s.frameSettings f).circumference) running (s.frameSettings f).tex).yield := by
  have hsweeps := State.sweepsCounted_formed (f := f) hs running planned
  have hpage : (s.sweepsCounted f running planned).output.page ≠ none := by
    unfold State.sweepsCounted
    split
    · rw [(State.count_works f _ State.Works.refl).page]
      exact hp
    · exact hp
  have hcounts : (s.sweepsCounted f running planned).counts f =
      if (s.frame f).state.runs then (s.counts f).addSweeps running planned else s.counts f := by
    unfold State.sweepsCounted
    split
    · exact State.count_counts_same hs hp
    · rfl
  have hstop := (State.updateStop_tended (f := f) (State.Tended.refl (State.count_formed f (Counts.addLength
    (((s.sweepsCounted f running planned).roller f).advance ((s.sweepsCounted f running planned).frameSettings f).circumference)
    running ((s.sweepsCounted f running planned).frameSettings f).tex) _ hsweeps))).yield f
  rw [State.count_counts_same hsweeps hpage, hcounts, State.sweepsCounted_roller, State.sweepsCounted_settings] at hstop
  rw [State.sweepCaptured, State.counts_of_table (State.setRoller_output_counts ..), State.captureLengths_eq,
    State.counts_of_table (State.setRoller_output_counts ..), State.lengthsCounted, State.sweepsCounted_roller,
    State.sweepsCounted_settings]
  exact hstop

/-- A stopped frame's stop time at the capture. -/
theorem State.sweepCaptured_stopped (hst : (s.frame f).state.stopped = true) (hp : s.output.page ≠ none)
    {m : Word} (hm : (s.roller f).stopMark = some m) :
    ((s.sweepCaptured f running planned).counts f).stopDs = addTo top32 (s.counts f).stopDs (s.since m) ∧
      ((s.sweepCaptured f running planned).roller f).stopMark = some s.clock := by
  have hruns : ¬(s.frame f).state.runs = true := by
    cases hstate : (s.frame f).state <;> simp_all [FrameState.stopped, FrameState.runs]
  have hsweeps : s.sweepsCounted f running planned = s := if_neg hruns
  have hcount := State.count_formed f (Counts.addLength ((s.roller f).advance (s.frameSettings f).circumference) running
    (s.frameSettings f).tex) s hs
  obtain ⟨hds, hmark⟩ := State.updateStop_stopped (f := f) (m := m) hcount (by rw [State.count_frame]; exact hst)
    (by rw [(State.count_works f _ State.Works.refl).page]; exact hp) (by rw [State.count_roller]; exact hm)
  rw [State.count_counts_same hs hp, State.since, State.count_clock] at hds
  rw [State.count_clock] at hmark
  have hlengths := State.lengthsCounted_formed (f := f) hs running
  have hcapture := State.captureLengths_formed f running s hs
  unfold State.sweepCaptured
  dsimp only
  rw [hsweeps]
  refine ⟨?_, ?_⟩
  · rw [State.counts_of_table (State.setRoller_output_counts ..), State.captureLengths_eq,
      State.counts_of_table (State.setRoller_output_counts ..)]
    exact hds
  · rw [State.setRoller_formed_same _ _ _ hcapture, State.captureLengths_eq, State.setRoller_formed_same _ _ _ hlengths]
    exact hmark

omit hs in
/-- The open page is to be written again. -/
theorem State.sweepCaptured_openPage (hp : s.output.page ≠ none) :
    .openPage ∈ (s.sweepCaptured f running planned).writer.queue := by
  have hpage : (s.sweepsCounted f running planned).output.page ≠ none := by
    unfold State.sweepsCounted
    split
    · rw [(State.count_works f _ State.Works.refl).page]
      exact hp
    · exact hp
  have hcounted (g : Counts → Counts) (t : State) (h : t.output.page ≠ none) :
    .openPage ∈ (t.count f g).writer.queue := by
    obtain ⟨p, h⟩ := Option.ne_none_iff_exists'.mp h
    unfold State.count
    rw [h]
    exact State.mem_markItem.mpr (.inr rfl)
  have hworks : State.Works ((s.sweepsCounted f running planned).count f (Counts.addLength
      (((s.sweepsCounted f running planned).roller f).advance ((s.sweepsCounted f running planned).frameSettings f).circumference)
      running ((s.sweepsCounted f running planned).frameSettings f).tex)) (s.sweepCaptured f running planned) := by
    rw [State.sweepCaptured, State.captureLengths_eq]
    exact State.setRoller_works _ _ (State.setRoller_works _ _ (State.updateStop_works f State.Works.refl))
  exact hworks.queue _ rfl (hcounted _ _ hpage)

end

end

end Sys2Proof.Machine
end

section
/-! PROOFS. The end of a sweep: the statement. -/

namespace Sys2Proof.Machine

section
variable {s : State} {f : Nat}

/-! ### The build through the notice -/

theorem State.graceEnd_build (hs : s.formed = true) (h : (s.frame f).doffFinish ≠ .pending) :
    ((s.graceEnd f).roller f).build = (s.roller f).build ∧ ((s.graceEnd f).frame f).buildM = (s.frame f).buildM := by
  obtain ⟨_, _, hbuildM, _⟩ := graceEnd_effect (f := f) hs
  refine ⟨?_, hbuildM.trans (if_neg h)⟩
  have hdoffed : s.graceDoffed f = s := if_neg h
  have hgraced (b : Bool) : (s.spindlesGraced f b).roller f = s.roller f :=
    State.spindlesGraced_keeps (fun t => t.roller f) (by simp) (by simp) (by simp) b
  rw [State.roller_of_table (congrArg Output.rollers (State.graceEnd_output hs)), State.gracePlaced_build
    (State.graceSettled_formed hs), State.graceSettled, hdoffed, State.setFrame_roller, hgraced]

/-- The notice leaves the build, unless it completes a doff, and the Frame Sequencer takes it. -/
theorem State.notice_build (hs : s.formed = true)
    (h : (s.frame f).state ≠ .restarting ∨ (s.frame f).doffFinish ≠ .pending) :
    ((s.notice f).roller f).build = (s.roller f).build ∧ ((s.notice f).frame f).buildM = (s.roller f).build / 1000 := by
  have hformed := State.noticed_formed (f := f) hs
  have hframe := State.noticed_frame (f := f) hs
  have hnoticed : ((s.noticed f).roller f).build = (s.roller f).build ∧
      ((s.noticed f).frame f).buildM = (s.roller f).build / 1000 := by
    rw [State.noticed_roller, hframe]
    exact ⟨rfl, rfl⟩
  obtain ⟨hbuild, hbuildM⟩ := hnoticed
  have hcall : (((s.noticed f).callFrame f .compare).roller f).build = (s.roller f).build ∧
      (((s.noticed f).callFrame f .compare).frame f).buildM = (s.roller f).build / 1000 := by
    obtain ⟨_, _, hcalledM, _⟩ := State.callFrame_called (f := f) hformed .compare
    exact ⟨(State.callFrame_build hformed .compare f).trans hbuild, hcalledM.trans hbuildM⟩
  have hplace (b : Nat) : (((s.noticed f).placeAt f b .compare).roller f).build = (s.roller f).build ∧
      (((s.noticed f).placeAt f b .compare).frame f).buildM = (s.roller f).build / 1000 := by
    by_cases hvalue : ((s.noticed f).roller f).doffValue ≤ b
    · rw [State.placeAt_called hformed .compare hvalue]
      exact hcall
    · refine ⟨(State.placeAt_build hformed b .compare f).trans hbuild, ?_⟩
      rw [State.placeAt_frame hformed .compare hvalue]
      exact hbuildM
  by_cases hbuilding : (s.frame f).state = .building
  · rw [State.notice_of_building hs hbuilding]
    split
    · exact hplace _
    · exact ⟨hbuild, hbuildM⟩
  by_cases hnearing : (s.frame f).state = .nearing
  · rw [State.notice_of_nearing hs hnearing]
    split
    · exact hcall
    · exact ⟨hbuild, hbuildM⟩
  by_cases hrestarting : (s.frame f).state = .restarting
  · have hpending := h.resolve_left (not_not.mpr hrestarting)
    obtain ⟨hnone, hsome⟩ := State.notice_of_restarting hs hrestarting
    cases hgrace : (s.frame f).grace with
    | none =>
      rw [hnone hgrace]
      exact ⟨hbuild, hbuildM⟩
    | some g =>
      have hset := State.setFrame_formed f { s.frame f with buildM := (s.roller f).build / 1000, grace := some (g - 1) } _ hformed
      have hsame := State.setFrame_formed_same f
        { s.frame f with buildM := (s.roller f).build / 1000, grace := some (g - 1) } _ hformed
      have hkeeps := (State.setFrame_roller f
        { s.frame f with buildM := (s.roller f).build / 1000, grace := some (g - 1) } (s.noticed f) f).trans
        (State.noticed_roller f)
      have hnotice := hsome g hgrace
      dsimp only at hnotice
      rw [hnotice]
      split
      · obtain ⟨hend, hendM⟩ := State.graceEnd_build (f := f) hset (by rw [hsame]; exact hpending)
        rw [hkeeps] at hend
        rw [hsame] at hendM
        exact ⟨hend, hendM⟩
      · rw [hkeeps, hsame]
        exact ⟨rfl, rfl⟩
  · rw [State.notice_of_still hs hbuilding hnearing hrestarting]
    exact ⟨hbuild, hbuildM⟩

/-! ### The delivery -/

section
variable (hs : s.formed = true) (advance period : Nat)
include hs

theorem State.delivered_output : (s.delivered f advance period).output = s.output :=
  (State.consume_tests (State.setFeed_formed _ _ _ hs)).output.trans
    ((State.drawn_keeps State.output (by simp) (by simp)).trans (State.setFeed_output ..))

theorem State.delivered_frame (e : Nat) : (s.delivered f advance period).frame e = s.frame e ∨
    (s.delivered f advance period).frame e = { s.frame e with alarm := true } := by
  have hdone := (State.consume_tests (f := f) (advance := advance)
    (State.setFeed_formed f { s.feed f with rate := advance, period := period } s hs)).frame e
  have hdrawn : (State.drawn f advance (s.setFeed f { s.feed f with rate := advance, period := period })).frame e = s.frame e :=
    (State.drawn_keeps (fun t => t.frame e) (by simp) (by simp)).trans (State.setFeed_frame ..)
  rw [hdrawn] at hdone
  exact hdone

theorem State.delivered_formed : (s.delivered f advance period).formed = true :=
  (State.consume_tests (State.setFeed_formed _ _ _ hs)).formed

theorem State.delivered_roving (h : (s.frameSettings f).perSide ≤ 912) :
    (s.delivered f advance period).feed f =
      ⟨(advance * 10 + (s.feed f).carry) % (s.frameSettings f).draft, advance, period⟩ ∧
    ∀ k, ((s.delivered f advance period).creel k).remaining = (s.creel k).remaining -
      if k ∈ s.plannedCreels f then (advance * 10 + (s.feed f).carry) / (s.frameSettings f).draft else 0 := by
  have hset := State.setFeed_formed f { s.feed f with rate := advance, period := period } s hs
  have hfeed := State.setFeed_formed_same f { s.feed f with rate := advance, period := period } s hs
  have hsettings : (s.setFeed f { s.feed f with rate := advance, period := period }).frameSettings f = s.frameSettings f := by
    rw [State.frameSettings, State.settings_of_plan (State.setFeed_plan ..), State.frameSettings]
  have hdone := State.consume_tests (f := f) (advance := advance) hset
  have hplanned : (s.setFeed f { s.feed f with rate := advance, period := period }).plannedCreels f = s.plannedCreels f := by
    rw [State.plannedCreels, hsettings, State.plannedCreels]
  refine ⟨?_, fun k => ?_⟩
  · refine (State.feed_of_table hdone.feeds f).trans ((State.drawn_feed hset).trans ?_)
    rw [hfeed, hsettings]
  · refine (hdone.remaining k).trans ?_
    rw [State.drawn_creel hset (by rw [hsettings]; exact h), hfeed, hsettings, hplanned, State.setFeed_creel]

end

/-! ### The counts of a sweep -/

theorem State.filter_spindlesOfFrame (hs : s.formed = true) (p : SpindleState → Bool) (h : p .absent = false) :
    ((s.spindlesOfFrame f).filter fun n => p (s.spindle f n).state).length =
      ((List.range' 1 1824).filter fun n => p (s.spindle f n).state).length := by
  refine List.Perm.length_eq ((List.perm_ext_iff_of_nodup ((State.nodup_spindlesOfFrame hs f).filter _)
    ((List.nodup_range' (step := 1)).filter _)).mpr fun n => ?_)
  simp only [List.mem_filter, State.mem_spindlesOfFrame, List.mem_range'_1]
  refine ⟨fun ⟨⟨h1, h2, _⟩, hp⟩ => ⟨⟨h1, by omega⟩, hp⟩, fun ⟨⟨h1, h2⟩, hp⟩ => ⟨⟨h1, by omega, ?_⟩, hp⟩⟩
  refine List.mem_map_of_mem (mem_of_tget_ne (d := Spindle.reset) fun hreset => ?_)
  have habsent : (s.spindle f n).state = .absent := congrArg Spindle.state hreset
  rw [habsent, h] at hp
  cases hp

theorem FrameState.runs_iff_listed {x : FrameState} :
    x.runs = true ↔ x = .restarting ∨ x = .building ∨ x = .nearing ∨ x = .called ∨ x = .draining := by
  cases x <;> simp [FrameState.runs]

theorem FrameState.stopped_iff {x : FrameState} : x.stopped = true ↔ x = .halted ∨ x = .stopping ∨ x = .doffing := by
  cases x <;> simp [FrameState.stopped]

/-- The state whose frame takes the notice of a sweep's end. -/
def State.sweepDelivered (f running planned period : Nat) (s : State) : State :=
  if (s.frame f).state.runs then (s.sweepCaptured f running planned).delivered f
    ((s.roller f).advance (s.frameSettings f).circumference) period
  else s.sweepCaptured f running planned

section
variable (hs : s.formed = true) (running planned period : Nat)
include hs

theorem State.sweepDelivered_formed : (s.sweepDelivered f running planned period).formed = true := by
  have hcaptured := State.sweepCaptured_formed (f := f) hs running planned
  unfold State.sweepDelivered
  split
  · exact State.delivered_formed hcaptured _ _
  · exact hcaptured

theorem State.sweepDelivered_output :
    (s.sweepDelivered f running planned period).output = (s.sweepCaptured f running planned).output := by
  unfold State.sweepDelivered
  split
  · exact State.delivered_output (State.sweepCaptured_formed hs running planned) _ _
  · rfl

theorem State.sweepDelivered_frame : ((s.sweepDelivered f running planned period).frame f).state = (s.frame f).state ∧
    ((s.sweepDelivered f running planned period).frame f).doffFinish = (s.frame f).doffFinish := by
  have hcaptured := State.sweepCaptured_frame (s := s) (f := f) running planned f
  unfold State.sweepDelivered
  split
  · obtain h | h := State.delivered_frame (f := f) (State.sweepCaptured_formed (f := f) hs running planned)
      ((s.roller f).advance (s.frameSettings f).circumference) period f <;> rw [h, hcaptured] <;> exact ⟨rfl, rfl⟩
  · rw [hcaptured]
    exact ⟨rfl, rfl⟩

/-- The end of a sweep (R2, R131, R132). -/
theorem sweepCapture_effect :
    let runs (st : FrameState) : Prop :=
      st = .restarting ∨ st = .building ∨ st = .nearing ∨ st = .called ∨ st = .draining
    let x := s.frame f
    let r := s.roller f
    let t := s.frameSettings f
    let length := (r.revolutions - r.lastCapture).toNat * t.circumference + r.lengthCarry
    let advance := length / 100
    let build := min 4294967295 (r.build + advance)
    let a := s.counts f
    let u := s.sweepCapture f running planned period
    let b := u.counts f
    (u.roller f).lastCapture = r.revolutions ∧ (u.roller f).revolutions = r.revolutions ∧
    (u.roller f).prescaler = r.prescaler ∧ (u.roller f).lengthCarry = length % 100 ∧
    (u.roller f).lastRunning = running ∧
    (x.state ≠ .restarting ∨ x.doffFinish ≠ .pending →
      (u.roller f).build = build ∧ (u.frame f).buildM = build / 1000) ∧
    (s.output.page = none → b = a) ∧
    (s.output.page ≠ none →
      b.frontMm = min 4294967295 (a.frontMm + advance) ∧
      b.spindleMm = min 18446744073709551615 (a.spindleMm + advance * running) ∧
      b.weightSum = a.weightSum + advance * running * t.tex ∧
      b.runningSweeps = (if runs x.state then min 18446744073709551615 (a.runningSweeps + running)
        else a.runningSweeps) ∧
      b.plannedSweeps = (if runs x.state then min 18446744073709551615 (a.plannedSweeps + planned)
        else a.plannedSweeps) ∧
      (∀ m, x.state = .halted ∨ x.state = .stopping ∨ x.state = .doffing → r.stopMark = some m →
        b.stopDs = min 4294967295 (a.stopDs + (s.clock - m).toNat) ∧ (u.roller f).stopMark = some s.clock) ∧
      .openPage ∈ u.writer.queue) ∧
    (runs x.state → t.perSide ≤ 912 →
      let total := advance * 10 + (s.feed f).carry
      u.feed f = ⟨total % t.draft, advance, period⟩ ∧
      ∀ k, (u.creel k).remaining = (s.creel k).remaining -
        if k ∈ (sectionsInPlan t.perSide).map (creelNo f) then total / t.draft else 0) ∧
    (¬runs x.state → u.feed f = s.feed f ∧ u.roving = s.roving) := by
  intro runs x r t length advance build a u b
  have hruns : x.state.runs = true ↔ runs x.state := FrameState.runs_iff_listed
  have hu : u = (s.sweepDelivered f running planned period).notice f := State.sweepCapture_eq running planned period
  have hformed := State.sweepDelivered_formed (f := f) hs running planned period
  have houtput := State.sweepDelivered_output (f := f) hs running planned period
  have hnotice : (s.sweepDelivered f running planned period).Tended u :=
    hu ▸ State.notice_tended f (State.Tended.refl hformed)
  obtain ⟨m, hroller⟩ := State.sweepCaptured_roller (f := f) hs running planned
  have hbefore : (s.sweepDelivered f running planned period).roller f = (s.sweepCaptured f running planned).roller f :=
    State.roller_of_table (congrArg Output.rollers houtput) f
  have hcourse : (u.roller f).course = Roller.course
      { r.captured t.circumference with lastRunning := running, stopMark := m } :=
    (hnotice.course f).trans (congrArg Roller.course (hbefore.trans hroller))
  have hstill (h : ¬runs x.state) : u = (s.sweepCaptured f running planned).noticed f := by
    have hdelivered : s.sweepDelivered f running planned period = s.sweepCaptured f running planned :=
      if_neg (mt hruns.mp h)
    have hstate : ((s.sweepCaptured f running planned).frame f).state = x.state := by rw [State.sweepCaptured_frame]
    rw [hu, hdelivered]
    refine State.notice_of_still (State.sweepCaptured_formed hs running planned) ?_ ?_ ?_ <;> rw [hstate] <;>
      exact fun he => h (by simp [runs, he])
  refine ⟨(congrArg Roller.lastCapture hcourse :), (congrArg Roller.revolutions hcourse :),
    (congrArg Roller.prescaler hcourse :), (congrArg Roller.lengthCarry hcourse :),
      (congrArg Roller.lastRunning hcourse :),
    fun h => ?_, fun hp => ?_, fun hp => ?_, fun h hside => ?_, fun h => ⟨?_, ?_⟩⟩
  · obtain ⟨hstate, hfinish⟩ := State.sweepDelivered_frame (f := f) hs running planned period
    obtain ⟨hbuild, hbuildM⟩ := State.notice_build (f := f) hformed (by rw [hstate, hfinish]; exact h)
    rw [hbefore, hroller] at hbuild hbuildM
    rw [hu]
    exact ⟨hbuild, hbuildM⟩
  · exact State.counts_of_table ((State.sweepCapture_works f running planned period State.Works.refl).counts hp) f
  · have hyield : b.yield = _ := (hnotice.yield f).trans
      ((congrArg Counts.yield (State.counts_of_table (congrArg Output.counts houtput) f)).trans
        (State.sweepCaptured_yield hs running planned hp))
    have hsum (y : Counts) (hy : b.yield = (y.addLength advance running t.tex).yield) :
        b.frontMm = min 4294967295 (y.frontMm + advance) ∧
        b.spindleMm = min 18446744073709551615 (y.spindleMm + advance * running) ∧
        b.weightSum = y.weightSum + advance * running * t.tex ∧ b.runningSweeps = y.runningSweeps ∧
        b.plannedSweeps = y.plannedSweeps := by
      simp only [Counts.yield, List.cons.injEq, and_true] at hy
      exact hy
    obtain ⟨hfront, hspindle, hweight, hrunning, hplanned⟩ := hsum _ hyield
    refine ⟨?_, ?_, ?_, ?_, ?_, fun m hst hm => ?_, ?_⟩
    · rw [hfront]
      split <;> rfl
    · rw [hspindle]
      split <;> rfl
    · rw [hweight]
      split <;> rfl
    · rw [hrunning]
      by_cases h : runs x.state
      · rw [if_pos h, if_pos (hruns.mpr h)]
        rfl
      · rw [if_neg h, if_neg (mt hruns.mp h)]
    · rw [hplanned]
      by_cases h : runs x.state
      · rw [if_pos h, if_pos (hruns.mpr h)]
        rfl
      · rw [if_neg h, if_neg (mt hruns.mp h)]
    · obtain ⟨hds, hmark⟩ := State.sweepCaptured_stopped hs running planned (FrameState.stopped_iff.mpr hst) hp hm
      have hnot : ¬runs x.state := by
        obtain hst | hst | hst := hst <;> simp [runs, x, hst]
      have hsame := hstill hnot
      refine ⟨?_, ?_⟩
      · refine (congrArg (fun v => Counts.stopDs (State.counts v f)) hsame).trans ?_
        refine (congrArg Counts.stopDs (State.counts_of_table (congrArg Output.counts (State.setFrame_output ..)) f)).trans hds
      · refine (congrArg (fun v => Roller.stopMark (State.roller v f)) hsame).trans ?_
        exact (congrArg Roller.stopMark (State.noticed_roller f)).trans hmark
    · have hworks : (s.sweepCaptured f running planned).Works u := by
        rw [hu]
        refine State.notice_works f ?_
        unfold State.sweepDelivered State.delivered
        split
        · exact State.consume_works f _ (State.setFeed_works f _ State.Works.refl)
        · exact State.Works.refl
      exact hworks.queue _ rfl (State.sweepCaptured_openPage running planned hp)
  · have hcaptured := State.sweepCaptured_formed (f := f) hs running planned
    have hsettings : (s.sweepCaptured f running planned).frameSettings f = t := by
      have hplan : (s.sweepCaptured f running planned).plan = s.plan :=
        State.sweepCaptured_keeps running planned State.plan (by simp) (by simp)
      rw [State.frameSettings, State.settings_of_plan hplan]
      rfl
    have hroving := State.sweepCaptured_roving (s := s) (f := f) running planned
    have hfeed : (s.sweepCaptured f running planned).feed f = s.feed f := State.feed_of_table (by rw [hroving]) f
    have hdelivered : s.sweepDelivered f running planned period = _ := if_pos (hruns.mpr h)
    obtain ⟨hfeed', hcreel⟩ := State.delivered_roving hcaptured advance period (by rw [hsettings]; exact hside)
    rw [State.plannedCreels, hsettings, hfeed] at hcreel
    rw [hfeed, hsettings] at hfeed'
    refine ⟨(State.feed_of_table hnotice.feeds f).trans ((congrArg (fun v => State.feed v f) hdelivered).trans hfeed'),
      fun k => (hnotice.remaining k).1.trans ((congrArg (fun v => (State.creel v k).remaining) hdelivered).trans
        ((hcreel k).trans ?_))⟩
    rw [State.creel_of_table (congrArg Roving.creels hroving)]
  · rw [hstill h, State.noticed, State.setFrame_feed,
      State.feed_of_table (congrArg Roving.feeds (State.sweepCaptured_roving running planned))]
  · rw [hstill h, State.noticed, State.setFrame_roving, State.sweepCaptured_roving]

end

end

/-- Settles O25: the end of a sweep, from the capture to the notice it gives. -/
theorem sweepsEnd : Obligations.SweepsEnd := by
  unfold Obligations.SweepsEnd
  refine ⟨fun s f hs => ?_, fun s f running planned period hs => sweepCapture_effect hs running planned period,
    fun s f advance hs h => consume_effect hs h, fun s k hs => lowTest_effect hs k,
      fun s k hs hk => runOutTest_effect hs hk,
    fun s f hs => notice_effect hs f, fun s f hs => graceEnd_effect hs, fun s f hs h => completeDoff_effect hs h⟩
  have hrunning := State.filter_spindlesOfFrame (f := f) hs (· == .running) rfl
  have hplanned := State.filter_spindlesOfFrame (f := f) hs (· != .absent) rfl
  have hend : s.sweepEnd f = s.sweepCapture f
      ((s.spindlesOfFrame f).filter fun n => (s.spindle f n).state == .running).length
      ((s.spindlesOfFrame f).filter fun n => (s.spindle f n).state != .absent).length (s.sweep f).period := rfl
  rw [hend, hrunning, hplanned]
  have heq (x : SpindleState) : (x == .running) = decide (x = .running) := by cases x <;> rfl
  have hne (x : SpindleState) : (x != .absent) = decide (x ≠ .absent) := by cases x <;> rfl
  simp only [heq, hne]

end Sys2Proof.Machine
end

section
/-! PROOFS. The work of an event: its order, the losses told, the draining test, the sending to a side (R70, R89, R90,
R192). -/

namespace Sys2Proof.Machine

theorem allFrames_eq : allFrames = List.range' 1 8 := rfl

theorem allPiecers_eq : allPiecers = List.range' 1 8 := rfl

theorem allSides_eq : allSides = List.range' 1 16 := rfl

/-! ### The order of an event's work -/

theorem settleN_succ (n : Nat) (s : State) : settleN (n + 1) s =
    if s.settleRound.work = ⟨false, false, [], []⟩ then s.settleRound else settleN n s.settleRound := rfl

/-- What an event brings about, in its order. -/
theorem settleRound_effect (s : State) :
    s.conclude = serveN 16 s.settle.windTest ∧
    (s.regs.part = .halted → s.settle = { s with work := ⟨false, false, [], []⟩ }) ∧
    (s.regs.part ≠ .halted → s.settleRound.work = ⟨false, false, [], []⟩ → s.settle = s.settleRound) ∧
    s.settleRound =
      ((((List.range' 1 8).foldl (fun t f => t.drainTest f)
        s.tellLosses.relistOwed).recountAll.chooseAll.recountAll.arbiterOwed).dispatch.refillOwed.dispatch) ∧
    s.relistOwed = s.work.relist.foldl (fun t d => t.relist d) { s with work := { s.work with relist := [] } } ∧
    s.recountAll = (List.range' 1 16).foldl (fun t d => t.recount d) s ∧
    s.chooseAll = (List.range' 1 16).foldl (fun t d => t.choose d) s ∧
    s.arbitrate = (List.range' 1 8).foldl (fun t p => t.lendPass p)
      ((List.range' 1 8).foldl (fun t p => t.homePass p) s) ∧
    (s.working = true → s.work.arbiter = true →
      s.arbiterOwed = (List.range' 1 8).foldl (fun t p => t.frameEnd p)
        (State.arbitrate { s with work := { s.work with arbiter := false } })) ∧
    (s.working = false → s.arbiterOwed = { s with work := { s.work with arbiter := false } } ∧ s.dispatch = s) ∧
    (s.work.refill = true → s.refillOwed = State.refill { s with work := { s.work with refill := false } }) ∧
    (s.work.refill = false → s.refillOwed = s) := by
  have hworking (w : Work) : ({ s with work := w } : State).working = s.working := rfl
  refine ⟨rfl, fun h => if_pos h, fun h hdone => ?_, ?_, rfl, ?_, ?_, ?_, fun hwork howed => ?_, fun hwork => ⟨?_, ?_⟩,
    fun h => if_pos h, fun h => if_neg (by rw [h]; exact Bool.false_ne_true)⟩
  · rw [State.settle, if_neg h]
    exact (settleN_succ 31 s).trans (if_pos hdone)
  · unfold State.settleRound State.each
    rw [allFrames_eq]
  · unfold State.recountAll State.each
    rw [allSides_eq]
  · unfold State.chooseAll State.each
    rw [allSides_eq]
  · unfold State.arbitrate State.each
    rw [allPiecers_eq]
  · unfold State.arbiterOwed State.each
    dsimp only
    rw [hworking, if_pos hwork, if_pos howed, allPiecers_eq]
  · unfold State.arbiterOwed
    dsimp only
    rw [hworking, if_neg (by rw [hwork]; exact Bool.false_ne_true)]
  · exact if_neg (by rw [hwork]; exact Bool.false_ne_true)

section
variable {s : State}

/-! ### A loss told (R77, R101, R122) -/

theorem State.tellLoss_of_drive {a : Nat} (h : a ≤ 8) :
    s.tellLoss a = s.setFrame a { s.frame a with unit := true } := by
  have hkind : unitKind a = .drive := if_pos h
  unfold State.tellLoss
  rw [hkind]
  rfl

theorem State.tellLoss_of_piecer {p : Nat} (h : 1 ≤ p) (h' : p ≤ 8) :
    s.tellLoss (8 + p) = if (s.piecer p).state = .absent ∨
      (s.piecer p).state = .lost then s else s.piecerLost p true := by
  have hnumber : unitNumber (8 + p) = p := unitNumber_piecerAddr h h'
  have hkind : unitKind (8 + p) = .piecer := unitKind_piecerAddr h h'
  unfold State.tellLoss
  rw [hkind, hnumber]
  dsimp only
  by_cases hlost : (s.piecer p).state = .absent ∨ (s.piecer p).state = .lost
  · rw [if_pos hlost, if_neg]
    rw [Piecer.losable_iff]
    exact fun ⟨ha, hl⟩ => hlost.elim ha hl
  · rw [if_neg hlost, if_pos (Piecer.losable_iff.mpr (not_or.mp hlost))]

theorem State.tellLoss_of_carrier {c : Nat} (h : 1 ≤ c) : s.tellLoss (16 + c) = s.carrierLost c := by
  have hkind : unitKind (16 + c) = .carrier := unitKind_carrierAddr h
  have hnumber : unitNumber (16 + c) = c := (unitNumber_of_carrier hkind).trans (Nat.add_sub_cancel_left ..)
  unfold State.tellLoss
  rw [hkind, hnumber]

/-- The section of a change under way goes back to the head of the queue. -/
def State.changeLeft (c : Nat) (s : State) : State := if (s.carrier c).state.serving then s.failChange c else s

/-- The record of a carrier that is lost. -/
def Carrier.lost (x : Carrier) : Carrier :=
  { x with state := .lost, creel := none, lotSent := none, lotLoaded := none, change := Timer.off, back := Timer.off }

theorem State.carrierLost_of_present {c : Nat} (h : (s.carrier c).state ≠ .absent) : s.carrierLost c =
    match (s.carrier c).creel with
    | some k => ((s.changeLeft c).setCarrier c ((s.changeLeft c).carrier c).lost).unitAlarm (creelFrame k)
    | none => (s.changeLeft c).setCarrier c ((s.changeLeft c).carrier c).lost := by
  unfold State.carrierLost
  exact if_neg h

/-- A carrier that is lost (R122). -/
theorem carrierLost_effect (hs : s.formed = true) (c : Nat) :
    let x := s.carrier c
    let u := s.carrierLost c
    let y := u.carrier c
    (x.state = .absent → u = s) ∧
    (x.state ≠ .absent → y.state = .lost ∧ y.creel = none ∧ y.lotSent = none ∧ y.lotLoaded = none ∧
      y.change = ⟨false, 0⟩ ∧ y.back = ⟨false, 0⟩ ∧
      ∀ k, x.creel = some k → (u.frame ((k - 1) / 76 + 1)).unit = true ∧
        (u.creel k).remaining = (s.creel k).remaining ∧
        (x.state.serving = true → (u.creel k).state = .queued ∧ u.roving.queue.head? = some k)) := by
  intro x u y
  refine ⟨fun h => if_pos h, fun h => ?_⟩
  have hleft : (s.changeLeft c).formed = true := by
    unfold State.changeLeft
    split
    · exact State.failChange_formed _ _ hs
    · exact hs
  have hcarrier : ((s.changeLeft c).setCarrier c ((s.changeLeft c).carrier c).lost).carrier c = { ((s.changeLeft c).carrier c).lost with
      shownLeft := (((s.changeLeft c).setCarrier c ((s.changeLeft c).carrier c).lost).carrier c).shownLeft } :=
    State.setCarrier_formed_fields _ _ _ hleft
  have hu : u = _ := State.carrierLost_of_present h
  have hy : y = ((s.changeLeft c).setCarrier c ((s.changeLeft c).carrier c).lost).carrier c := by
    change u.carrier c = _
    rw [hu]
    split
    · simp [State.unitAlarm]
    · rfl
  rw [hy, hcarrier]
  refine ⟨rfl, rfl, rfl, rfl, rfl, rfl, fun k hk => ?_⟩
  rw [hk] at hu
  dsimp only at hu
  have hroving (t : State) (f : Nat) : (t.unitAlarm f).roving = t.roving := by simp [State.unitAlarm]
  have hcreel (e : Nat) : u.creel e = (s.changeLeft c).creel e := by
    rw [hu, State.creel_of_table (congrArg Roving.creels (hroving ..)), State.setCarrier_creel]
  have hqueue : u.roving.queue = (s.changeLeft c).roving.queue := by
    rw [hu, hroving, State.setCarrier_roving_queue]
  have hframe : (u.frame (creelFrame k)).unit = true := by
    rw [hu]
    exact congrArg Frame.unit (State.unitAlarm_frame_same _ _ (State.setCarrier_formed _ _ _ hleft))
  rw [hcreel, hqueue]
  refine ⟨hframe, ?_⟩
  by_cases hserving : x.state.serving = true
  · have hchange : s.changeLeft c = s.failChange c := if_pos hserving
    have hback := State.failChange_creel c hs hk
    rw [hchange]
    generalize s.failChange c = v at hback
    obtain ⟨hstate, hremaining, _, _, _, hhead⟩ := hback
    exact ⟨hremaining, fun _ => ⟨hstate, hhead⟩⟩
  · have hchange : s.changeLeft c = s := if_neg hserving
    rw [hchange]
    exact ⟨rfl, fun h => absurd h hserving⟩

/-! ### To a side (R70) -/

/-- A piecer sent to an unserved side that is not its own. -/
theorem sendToSide_effect (hs : s.formed = true) {p d : Nat} (reason : MoveReason) (hd : (s.side d).piecer = none)
    (hp : (s.piecer p).side ≠ some d) :
    let x := s.piecer p
    let u := s.sendToSide p d reason
    let place := match x.side with
      | some e => e
      | none => if x.state = .parked then 17 else 0
    u.piecer p = { x with
      state := .moving, side := some d, atBay := false, atFrameEnd := false, returned := false
      travel := ⟨true, 1000 * s.settings.travelTimeout⟩ } ∧
    (u.side d).piecer = some p ∧ (∀ e, x.side = some e → (u.side e).piecer = none) ∧
    u.unit (8 + p) = (s.hand (8 + p) (.goto d)).unit (8 + p) ∧
    u.journalled .piecerMoved 0 p [w32 place, w32 d, w32 reason.code] ∧
    ∀ q, q ≠ p → u.piecer q = s.piecer q := by
  intro x u place
  have hplace : x.place = place := rfl
  refine ⟨State.sendToSide_piecer_same p d reason hs, State.sendToSide_side p d reason hs, fun e he => ?_, ?_, ?_,
    fun q hq => State.sendToSide_piecer_other p d reason s hq⟩
  · have hne : e ≠ d := fun h => hp (h ▸ he)
    have hside : u.side e = (s.unserve p).side e := by
      simp [u, State.sendToSide, State.journalMove, State.setSide_other, hne]
    rw [hside]
    exact State.unserve_side_same p hs he
  · have hbefore := State.setPiecer_formed p { ((s.unserve p).setSide d { (s.unserve p).side d with piecer := some p }).piecer p with
        state := .moving, side := some d, atBay := false, atFrameEnd := false, returned := false
        travel := Timer.load (1000 * ((s.unserve p).setSide d { (s.unserve p).side d with piecer := some p }).settings.travelTimeout) }
      _ (State.unserve_formed_side p hs p d)
    refine Eq.trans ?_ (State.hand_unit_congr (.goto d) hs hbefore (by simp) (by simp))
    simp only [u, State.sendToSide, State.journalMove, State.journal_unit]
    rfl
  · exact State.journal_journalled ..

/-! ### The draining test (R89, R90) -/

theorem drainTest_effect (hs : s.formed = true) (f : Nat) :
    let u := s.drainTest f
    ((s.frame f).state = .draining → s.attemptsOn f = [] →
      u.frame f = { s.frame f with state := .stopping, stopTimer := ⟨true, 1000 * s.settings.stopTimeout⟩ } ∧
      u.unit f = (s.hand f .stopAtDoff).unit f) ∧
    (¬((s.frame f).state = .draining ∧ s.attemptsOn f = []) → u = s) := by
  intro u
  refine ⟨fun hst hnone => ?_, fun h => if_neg h⟩
  have henter := State.enterState_formed f .stopping s hs
  have hu : u = ((s.enterState f .stopping).setFrame f { (s.enterState f .stopping).frame f with
      stopTimer := Timer.load (1000 * (s.enterState f .stopping).settings.stopTimeout) }).hand f .stopAtDoff :=
    if_pos ⟨hst, hnone⟩
  have hsettings : (s.enterState f .stopping).settings = s.settings := State.settings_of_plan (State.enterState_plan ..)
  rw [hu]
  refine ⟨?_, State.hand_unit_congr _ hs (State.setFrame_formed _ _ _ henter) (by simp) (by simp)⟩
  rw [State.hand_frame, State.setFrame_formed_same _ _ _ henter, State.enterState_frame_same _ _ hs, hsettings]
  rfl

end

end Sys2Proof.Machine
end

section
/-! PROOFS. The lists of the sides: relisting and backlog (R38 to R41). -/

namespace Sys2Proof.Machine

/-- The numbers of a canonical table rise. -/
theorem pairwise_keys {α : Type} [DecidableEq α] {d : α} {t : List (Nat × α)} (hw : tableWf d t = true) :
    (t.map Prod.fst).Pairwise (· < ·) := by
  induction t with
  | nil => exact List.Pairwise.nil
  | cons e r ih =>
    obtain ⟨k, v⟩ := e
    obtain ⟨_, habove, hr⟩ := tableWf_cons.mp hw
    exact List.pairwise_cons.mpr ⟨fun n hn => lt_of_mem_keys_above hr habove hn, ih hr⟩

section
variable {s : State} {f d : Nat}

/-- The spindles of a frame, listed rising. -/
theorem State.pairwise_spindlesOfFrame (hs : s.formed = true) (f : Nat) : (s.spindlesOfFrame f).Pairwise (· < ·) := by
  have hkeys : (keysIn s.watch.spindles (spindleKey f 1) (spindleKey f 1824)).Pairwise (· < ·) :=
    (pairwise_keys (State.spindles_wf hs)).sublist (List.filter_sublist.map _)
  refine List.pairwise_map.mpr (hkeys.imp_of_mem fun {a b} ha hb hab => ?_)
  obtain ⟨_, hloA, _⟩ := mem_keysIn.mp ha
  obtain ⟨_, hloB, _⟩ := mem_keysIn.mp hb
  unfold spindleKey at hloA hloB
  omega

/-- The spindles of a frame that answer to a test no absent one answers to: in ascending order. -/
theorem State.filter_spindlesOfFrame_eq (hs : s.formed = true) {first len : Nat} (hfirst : 1 ≤ first)
    (hlen : first + len ≤ 1825)
    {p : Nat → Bool} (hp : ∀ n, p n = true → s.spindle f n ≠ Spindle.reset ∧ first ≤ n ∧ n < first + len ∨
      ¬(1 ≤ n ∧ n ≤ 1824)) :
    (s.spindlesOfFrame f).filter p = (List.range' first len).filter p := by
  refine List.Perm.eq_of_pairwise (fun a b _ _ h h' => absurd h' (Nat.lt_asymm h))
    ((State.pairwise_spindlesOfFrame hs f).filter _) ((List.pairwise_lt_range' (step := 1) (by omega)).filter _) ?_
  refine (List.perm_ext_iff_of_nodup ((State.nodup_spindlesOfFrame hs f).filter _)
    ((List.nodup_range' (step := 1)).filter _)).mpr fun n => ?_
  simp only [List.mem_filter, State.mem_spindlesOfFrame, List.mem_range'_1]
  constructor
  · rintro ⟨⟨h1, h2, _⟩, h⟩
    obtain ⟨_, hlo, hhi⟩ := (hp n h).resolve_right (not_not.mpr ⟨h1, h2⟩)
    exact ⟨⟨hlo, hhi⟩, h⟩
  · rintro ⟨⟨h1, h2⟩, h⟩
    obtain ⟨hne, _⟩ := (hp n h).resolve_right (not_not.mpr ⟨by omega, by omega⟩)
    exact ⟨⟨by omega, by omega, List.mem_map_of_mem (mem_of_tget_ne hne)⟩, h⟩

theorem sideOf_eq_iff {n : Nat} (hd : 1 ≤ d) (hn : 1 ≤ n ∧ n ≤ 1824) : sideOf (sideFrame d) n = d ↔
    (if d % 2 = 0 then 913 else 1) ≤ n ∧ n < (if d % 2 = 0 then 913 else 1) + 912 := by
  unfold sideOf sideFrame
  split <;> split <;> omega

/-- The unlisted DOWN spindles of a side, in ascending order. -/
theorem State.unlisted_eq (hs : s.formed = true) (hd : 1 ≤ d) : s.unlisted d =
    (List.range' (if d % 2 = 0 then 913 else 1) 912).filter fun n =>
      decide ((s.spindle (sideFrame d) n).state = .down ∧ (s.spindle (sideFrame d) n).listed = false) := by
  have hdown (n : Nat) : (s.spindle (sideFrame d) n).unlistedDown =
      decide ((s.spindle (sideFrame d) n).state = .down ∧ (s.spindle (sideFrame d) n).listed = false) := by
    unfold Spindle.unlistedDown
    cases (s.spindle (sideFrame d) n).listed <;> simp
  have hrange : s.unlisted d = (List.range' (if d % 2 = 0 then 913 else 1) 912).filter fun n =>
      sideOf (sideFrame d) n == d && (s.spindle (sideFrame d) n).unlistedDown := by
    refine State.filter_spindlesOfFrame_eq hs (by split <;> omega) (by split <;> omega) fun n hn => ?_
    by_cases hbounds : 1 ≤ n ∧ n ≤ 1824
    · simp only [Bool.and_eq_true, beq_iff_eq, hdown, decide_eq_true_eq] at hn
      obtain ⟨hside, hstate, _⟩ := hn
      refine .inl ⟨fun hreset => ?_, (sideOf_eq_iff hd hbounds).mp hside⟩
      rw [hreset] at hstate
      cases hstate
    · exact .inr hbounds
  rw [hrange]
  refine List.filter_congr fun n hn => ?_
  rw [List.mem_range'_1] at hn
  have hbounds : 1 ≤ n ∧ n ≤ 1824 := by
    split at hn <;> omega
  rw [(sideOf_eq_iff hd hbounds).mpr hn, beq_self_eq_true, Bool.true_and, hdown]

/-! ### Relisting (R39) -/

/-- The entry of a spindle listed now. -/
def State.entryOf (f : Nat) (s : State) (n : Nat) : EndEntry := ⟨n, s.clock, (s.spindle f n).lastClass⟩

theorem State.listSpindle_of_room {n : Nat} (h : (s.side (sideOf f n)).entries.length < 64) : s.listSpindle f n =
    (s.setSide (sideOf f n) { s.side (sideOf f n) with entries := (s.side (sideOf f n)).entries ++ [s.entryOf f n] }).setSpindle
      f n { s.spindle f n with listed := true } := if_pos h

theorem State.listSpindle_of_full {n : Nat} (h : ¬(s.side (sideOf f n)).entries.length < 64) : s.listSpindle f n = s :=
  if_neg h

/-- The spindles of one side listed one after another, while there is room. -/
theorem State.listAll_effect {l : List Nat} (hl : l.Nodup) (hside : ∀ n ∈ l, sideOf f n = d) (hs : s.formed = true) :
    let room := 64 - (s.side d).entries.length
    let u := s.each l fun n t => t.listSpindle f n
    u.side d = { s.side d with entries := (s.side d).entries ++ (l.take room).map (s.entryOf f) } ∧
    (∀ n, n ∈ l.take room → u.spindle f n = { s.spindle f n with listed := true }) ∧
    ∀ n, n ∉ l → u.spindle f n = s.spindle f n := by
  induction l generalizing s with
  | nil => exact ⟨by simp [State.each], fun n hn => by simp at hn, fun _ _ => rfl⟩
  | cons n l ih =>
    obtain ⟨hn, hl⟩ := List.nodup_cons.mp hl
    have hnside := hside n List.mem_cons_self
    have hrest := fun m (hm : m ∈ l) => hside m (List.mem_cons_of_mem n hm)
    have hother (m : Nat) (hm : m ≠ n) : (s.listSpindle f n).spindle f m = s.spindle f m :=
      State.listSpindle_spindle_other _ _ _ fun he => hm (spindleKey_inj_frame he)
    have hsame := State.listSpindle_spindle_same f n hs
    obtain ⟨hsideIH, hlistedIH, hkeptIH⟩ := ih hl hrest (State.listSpindle_formed f n s hs)
    by_cases hroom : (s.side d).entries.length < 64
    · have hlist := State.listSpindle_of_room (s := s) (f := f) (n := n) (by rw [hnside]; exact hroom)
      rw [hnside] at hlist
      have hrecord : (s.listSpindle f n).side d =
          { s.side d with entries := (s.side d).entries ++ [s.entryOf f n] } := by
        rw [hlist, State.setSpindle_side, State.setSide_formed_same _ _ _ hs]
      have hclock : (s.listSpindle f n).clock = s.clock := by rw [hlist]; simp
      have hentries : ∀ m ∈ l, (s.listSpindle f n).entryOf f m = s.entryOf f m := fun m hm => by
        rw [State.entryOf, hclock, hother m fun h => hn (h ▸ hm), State.entryOf]
      obtain ⟨k, hk⟩ : ∃ k, 64 - (s.side d).entries.length = k + 1 := ⟨63 - (s.side d).entries.length, by omega⟩
      have hk' : 64 - ((s.listSpindle f n).side d).entries.length = k := by
        rw [hrecord]
        simp
        omega
      rw [hk'] at hsideIH hlistedIH
      rw [hk]
      refine ⟨?_, fun m hm => ?_, fun m hm => ?_⟩
      · refine hsideIH.trans ?_
        rw [hrecord, List.map_congr_left fun m hm => hentries m (List.mem_of_mem_take hm)]
        simp
      · rw [List.take_succ_cons] at hm
        obtain rfl | hm := List.mem_cons.mp hm
        · refine (hkeptIH m hn).trans (hsame.trans ?_)
          have hfits : decide ((s.side (sideOf f m)).entries.length < Config.endListRoom) = true :=
            decide_eq_true (by rw [hnside]; exact hroom)
          rw [hfits, Bool.true_or]
        · have hne : m ≠ n := fun h => hn (h ▸ List.mem_of_mem_take hm)
          exact (hlistedIH m hm).trans (by rw [hother m hne])
      · have hne : m ≠ n := fun h => hm (h ▸ List.mem_cons_self)
        exact (hkeptIH m fun h => hm (List.mem_cons_of_mem n h)).trans (hother m hne)
    · have hlist := State.listSpindle_of_full (s := s) (f := f) (n := n) (by rw [hnside]; exact hroom)
      have hzero : 64 - (s.side d).entries.length = 0 := by omega
      rw [hlist, hzero] at hsideIH
      rw [hzero]
      refine ⟨?_, nofun, fun m hm => ?_⟩
      · refine Eq.trans ?_ (hsideIH.trans (by simp))
        rw [State.each, State.each, List.foldl_cons, hlist]
      · have hkept := hkeptIH m fun h => hm (List.mem_cons_of_mem n h)
        rw [hlist] at hkept
        refine Eq.trans ?_ hkept
        rw [State.each, State.each, List.foldl_cons, hlist]

/-- Relisting of a side (R39). -/
theorem relist_effect (hs : s.formed = true) (hd : 1 ≤ d) :
    let f := (d + 1) / 2
    let first := if d % 2 = 0 then 913 else 1
    let unlisted := (List.range' first 912).filter fun n =>
      decide ((s.spindle f n).state = .down ∧ (s.spindle f n).listed = false)
    let room := 64 - (s.side d).entries.length
    let u := s.relist d
    u.side d = { s.side d with
      entries := (s.side d).entries ++
        ((unlisted.take room).map fun n => (⟨n, s.clock, (s.spindle f n).lastClass⟩ : EndEntry)) } ∧
    ∀ n, n ∈ unlisted.take room → u.spindle f n = { s.spindle f n with listed := true } := by
  intro f first unlisted room u
  have hunlisted : s.unlisted d = unlisted := State.unlisted_eq hs hd
  have hnodup : (s.unlisted d).Nodup := (State.nodup_spindlesOfFrame hs _).filter _
  have hside (n : Nat) (hn : n ∈ s.unlisted d) : sideOf (sideFrame d) n = d := by
    have hp := (List.mem_filter.mp hn).2
    simp only [Bool.and_eq_true, beq_iff_eq] at hp
    exact hp.1
  obtain ⟨hlist, hlisted, _⟩ := State.listAll_effect hnodup hside hs
  rw [hunlisted] at hlist hlisted
  have hu : u = s.each unlisted fun n t => t.listSpindle (sideFrame d) n := by rw [← hunlisted]; rfl
  rw [hu]
  exact ⟨hlist, hlisted⟩

/-! ### The backlog (R40, R41) -/

theorem recount_effect (hs : s.formed = true) (d : Nat) :
    let piecing (st : FrameState) : Prop := st = .building ∨ st = .nearing ∨ st = .called
    let f := (d + 1) / 2
    let l := s.eligible d
    let u := s.recount d
    l = ((s.side d).entries.filter fun e =>
      let k := creelNo f ((e.spindle - 1) / 24 + 1)
      decide (piecing (s.frame f).state ∧ (s.strip k).blind = false ∧ (s.spindle f e.spindle).state = .down) &&
        (match (s.creel k).lock with
          | .carrier _ => false
          | .none | .piecer _ => true)) ∧
    u.side d = { s.side d with backlog := l.length, oldest := l.head?.map EndEntry.stamp } ∧
    (u.work.arbiter = true ↔ s.work.arbiter = true ∨ (s.side d).backlog ≠ l.length) ∧
    (∀ e, e ≠ d → u.side e = s.side e) ∧ u.watch = s.watch ∧ u.roving = s.roving ∧ u.frames = s.frames := by
  intro piecing f l u
  have hset := State.setSide_formed_same d { s.side d with backlog := l.length, oldest := l.head?.map EndEntry.stamp } s hs
  have hpiecing (x : FrameState) : x.piecing = decide (piecing x) := by cases x <;> simp [FrameState.piecing, piecing]
  let t := s.setSide d { s.side d with backlog := l.length, oldest := l.head?.map EndEntry.stamp }
  have hkeeps {β : Type} (P : State → β) (howe : ∀ v, P (State.oweArbiter v) = P v) : P u = P t := by
    by_cases hsame : (s.side d).backlog = l.length
    · exact congrArg P (if_pos hsame)
    · exact (congrArg P (if_neg hsame)).trans (howe t)
  have hsides := hkeeps (fun v => v.disp.sides) fun _ => rfl
  have hwatch := hkeeps State.watch fun _ => rfl
  have hroving := hkeeps State.roving fun _ => rfl
  have hframes := hkeeps State.frames fun _ => rfl
  refine ⟨List.filter_congr fun e _ => ?_, ?_, ?_, fun e he => ?_, ?_, ?_, ?_⟩
  · unfold State.eligibleEntry
    dsimp only
    rw [hpiecing]
    change _ = (decide (piecing (s.frame f).state ∧ (s.strip (creelOfSpindle f e.spindle)).blind = false ∧
      (s.spindle f e.spindle).state = .down) && _)
    have hframe : sideFrame d = f := rfl
    have hdown (x : SpindleState) : (x == .down) = decide (x = .down) := by cases x <;> rfl
    rw [hframe, hdown]
    cases hblind : (s.strip (creelOfSpindle f e.spindle)).blind <;> by_cases hp : piecing (s.frame f).state <;>
      by_cases hst : (s.spindle f e.spindle).state = .down <;> simp [hp, hst] <;> rfl
  · exact (State.side_of_table hsides d).trans hset
  · by_cases hsame : (s.side d).backlog = l.length
    · have hu : u = t := if_pos hsame
      rw [hu]
      simp [t, hsame]
    · have hu : u = t.oweArbiter := if_neg hsame
      rw [hu]
      simp [hsame, State.oweArbiter]
  · exact (State.side_of_table hsides e).trans (State.setSide_other _ _ _ _ he)
  · exact hwatch.trans (State.setSide_watch ..)
  · exact hroving.trans (State.setSide_roving ..)
  · exact hframes.trans (State.setSide_frames ..)

end

end Sys2Proof.Machine
end

section
/-! PROOFS. The choice of an end and the start of an attempt (R43 to R46). -/

namespace Sys2Proof.Machine

/-! ### The nearest end -/

theorem distance_eq (n pos : Nat) : distance n pos = (n - pos) + (pos - n) := rfl

theorem nearest_eq_none {pos : Nat} {l : List Nat} : nearest pos l = none ↔ l = [] := by
  cases l with
  | nil => simp [nearest]
  | cons n r =>
    unfold nearest
    cases nearest pos r with
    | none => simp
    | some m =>
      dsimp only
      split <;> simp

theorem nearest_spec {pos n : Nat} {l : List Nat} (h : nearest pos l = some n) :
    n ∈ l ∧ ∀ m ∈ l, distance n pos ≤ distance m pos := by
  induction l generalizing n with
  | nil => cases h
  | cons k r ih =>
    unfold nearest at h
    cases hr : nearest pos r with
    | none =>
      rw [hr] at h
      obtain rfl := Option.some.inj h
      rw [nearest_eq_none.mp hr]
      simp
    | some m =>
      rw [hr] at h
      obtain ⟨hm, hleast⟩ := ih hr
      dsimp only at h
      split at h
      · next hlt =>
        obtain rfl := Option.some.inj h
        exact ⟨List.mem_cons_of_mem _ hm, List.forall_mem_cons.mpr ⟨Nat.le_of_lt hlt, hleast⟩⟩
      · next hge =>
        obtain rfl := Option.some.inj h
        exact ⟨List.mem_cons_self, List.forall_mem_cons.mpr ⟨Nat.le_refl _, fun j hj =>
          (Nat.le_of_not_lt hge).trans (hleast j hj)⟩⟩

theorem ahead_iff (descending : Bool) (pos n : Nat) :
    ahead descending pos n = true ↔ if descending = true then n ≤ pos else pos ≤ n := by
  unfold ahead
  split <;> simp

/-- The end nearest ahead is found: two ends ahead at one distance are one. -/
theorem nearest_ahead {descending : Bool} {pos n : Nat} {l : List Nat} (hn : n ∈ l) (ha : ahead descending pos n = true)
    (hleast : ∀ m ∈ l, ahead descending pos m = true → distance n pos ≤ distance m pos) :
    nearest pos (l.filter (ahead descending pos)) = some n := by
  cases hfound : nearest pos (l.filter (ahead descending pos)) with
  | none =>
    have hmem : n ∈ l.filter (ahead descending pos) := List.mem_filter.mpr ⟨hn, ha⟩
    rw [nearest_eq_none.mp hfound] at hmem
    cases hmem
  | some m =>
    obtain ⟨hm, hmleast⟩ := nearest_spec hfound
    obtain ⟨hml, hma⟩ := List.mem_filter.mp hm
    have hle := hleast m hml hma
    have hge := hmleast n (List.mem_filter.mpr ⟨hn, ha⟩)
    rw [distance_eq, distance_eq] at hle hge
    rw [ahead_iff] at ha hma
    have heq : m = n := by
      split at ha
      · next hd =>
        rw [if_pos hd] at hma
        omega
      · next hd =>
        rw [if_neg hd] at hma
        omega
    rw [heq]

/-- The choice of an end (R43). -/
theorem chooseEnd_effect (descending : Bool) (pos : Nat) (l : List Nat) :
    let ahead (n : Nat) : Prop := if descending = true then n ≤ pos else pos ≤ n
    let behind (n : Nat) : Prop := if descending = true then pos ≤ n else n ≤ pos
    let apart (n : Nat) := (n - pos) + (pos - n)
    (l = [] → chooseEnd descending pos l = none) ∧
    (∀ n, n ∈ l → ahead n → (∀ m, m ∈ l → ahead m → apart n ≤ apart m) →
      chooseEnd descending pos l = some (n, descending)) ∧
    ∀ n, n ∈ l → (∀ m, m ∈ l → ¬ahead m) → (∀ m, m ∈ l → behind m → apart n ≤ apart m) →
      chooseEnd descending pos l = some (n, !descending) := by
  intro front behind apart
  have hbehind (n : Nat) : Machine.ahead (!descending) pos n = true ↔ behind n := by
    rw [ahead_iff]
    cases descending <;> rfl
  refine ⟨fun h => by rw [h]; rfl, fun n hn ha hleast => ?_, fun n hn hnone hleast => ?_⟩
  · have hfound := nearest_ahead (descending := descending) (pos := pos) hn ((ahead_iff ..).mpr ha) fun m hm hma => by
      rw [distance_eq, distance_eq]
      exact hleast m hm ((ahead_iff ..).mp hma)
    unfold chooseEnd
    rw [hfound]
  · have hempty : nearest pos (l.filter (Machine.ahead descending pos)) = none :=
      nearest_eq_none.mpr (List.filter_eq_nil_iff.mpr fun m hm h => hnone m hm ((ahead_iff ..).mp h))
    have hback : behind n := by
      have hno := hnone n hn
      unfold front at hno
      unfold behind
      split at hno
      · next hd =>
        rw [if_pos hd]
        omega
      · next hd =>
        rw [if_neg hd]
        omega
    have hfound := nearest_ahead (descending := !descending) (pos := pos) hn ((hbehind n).mpr hback) fun m hm hma => by
      rw [distance_eq, distance_eq]
      exact hleast m hm ((hbehind m).mp hma)
    unfold chooseEnd
    rw [hempty]
    dsimp only
    rw [hfound]

/-! ### The attempt -/

section
variable {s : State} {p d n : Nat}

/-- The record of a piecer whose attempt starts. -/
def Piecer.starting (token : Token) (timeout n : Nat) (x : Piecer) : Piecer :=
  { x with
    state := .attempting, counter := token, current := some token
    void := if x.void = some token then none else x.void
    spindle := some n, stage := none, atFrameEnd := false, attempt := ⟨true, 1000 * timeout⟩ }

theorem startAttempt_effect (hs : s.formed = true) :
    let f := (d + 1) / 2
    let x := s.piecer p
    let token := if x.counter = 65535#16 then 1#16 else x.counter + 1#16
    let k := creelNo f ((n - 1) / 24 + 1)
    let u := s.startAttempt p d n
    u.piecer p = x.starting token s.settings.attemptTimeout n ∧
      u.creel k = { s.creel k with lock := .piecer p } ∧
      u.spindle f n = { s.spindle f n with state := .piecing, since := 0 } ∧
      u.unit (8 + p) = (s.hand (8 + p) (.attempt n token)).unit (8 + p) ∧ u.disp.sides = s.disp.sides ∧
      u.frames = s.frames := by
  intro f x token k u
  let a := s.setCreel k { s.creel k with lock := .piecer p }
  let b := a.setSpindle f n ((a.spindle f n).to .piecing)
  have ha : a.formed = true := State.setCreel_formed _ _ _ hs
  have hb : b.formed = true := State.setSpindle_formed _ _ _ _ ha
  have hsettings : b.settings = s.settings := State.settings_of_plan (by simp [a, b])
  let c := b.setPiecer p (x.starting token b.settings.attemptTimeout n)
  have hc : c.formed = true := State.setPiecer_formed _ _ _ hb
  have hu : u = c.hand (8 + p) (.attempt n token) := rfl
  rw [hu]
  refine ⟨?_, ?_, ?_, State.hand_unit_congr _ hs hc (by simp [a, b, c]) (by simp [a, b, c]), by simp [a, b, c],
    by simp [a, b, c]⟩
  · rw [State.hand_piecer, State.setPiecer_formed_same _ _ _ hb, hsettings]
  · rw [State.hand_creel, State.setPiecer_creel, State.setSpindle_creel, State.setCreel_formed_same _ _ _ hs]
  · rw [State.hand_spindle, State.setPiecer_spindle, State.setSpindle_formed_same _ _ _ _ ha, State.setCreel_spindle]
    rfl

/-- The choice for a side, and the attempt it starts. -/
theorem choose_effect (hs : s.formed = true) :
    let f := (d + 1) / 2
    let u := s.choose d
    (∀ p, (s.side d).piecer = some p →
      let x := s.piecer p
      let l := ((s.eligible d).map EndEntry.spindle).filter fun n => (s.spindle f n).listed
      let chosen := chooseEnd x.descending (x.position.getD (if d % 2 = 0 then 913 else 1)) l
      let token := if x.counter = 65535#16 then 1#16 else x.counter + 1#16
      (x.state ≠ .onSide ∨ s.working = false ∨ chosen = none → u = s) ∧
      ∀ n dir, x.state = .onSide → s.working = true → chosen = some (n, dir) →
        let k := creelNo f ((n - 1) / 24 + 1)
        u.piecer p = { x with
          state := .attempting, descending := dir, counter := token, current := some token
          void := if x.void = some token then none else x.void
          spindle := some n, stage := none, atFrameEnd := false
          attempt := ⟨true, 1000 * s.settings.attemptTimeout⟩ } ∧
        u.creel k = { s.creel k with lock := .piecer p } ∧
        u.spindle f n = { s.spindle f n with state := .piecing, since := 0 } ∧
        u.unit (8 + p) = (s.hand (8 + p) (.attempt n token)).unit (8 + p) ∧ u.disp.sides = s.disp.sides ∧
        u.frames = s.frames) ∧
    ((s.side d).piecer = none → u = s) := by
  intro f u
  refine ⟨fun p hp => ?_, fun hnone => ?_⟩
  · intro x l chosen token
    have hfirst : sideFirst d = if d % 2 = 0 then 913 else 1 := by
      unfold sideFirst sideIsB
      simp
    have hu : u = if x.state = .onSide ∧ s.working = true then
        match chosen with
        | some (n, dir) => (s.setPiecer p { x with descending := dir }).startAttempt p d n
        | none => s
      else s := by
      change s.choose d = _
      unfold State.choose
      rw [hp, hfirst] <;> rfl
    refine ⟨fun h => ?_, fun n dir hst hwork hchosen => ?_⟩
    · rw [hu]
      split
      · next hboth =>
        obtain hst | hwork | hchosen := h
        · exact absurd hboth.1 hst
        · rw [hboth.2] at hwork
          cases hwork
        · rw [hchosen]
      · rfl
    · intro k
      rw [if_pos ⟨hst, hwork⟩, hchosen] at hu
      dsimp only at hu
      have hset := State.setPiecer_formed p { x with descending := dir } s hs
      have hstart := startAttempt_effect (p := p) (d := d) (n := n) hset
      dsimp only at hstart
      rw [State.setPiecer_formed_same _ _ _ hs] at hstart
      have hunit := State.hand_unit_congr (a := 8 + p) (.attempt n token) hs hset (by simp) (by simp)
      have hsettings : (s.setPiecer p { x with descending := dir }).settings = s.settings :=
        State.settings_of_plan (State.setPiecer_plan ..)
      rw [hsettings] at hstart
      obtain ⟨h1, h2, h3, h4, h5, h6⟩ := hstart
      rw [hu]
      exact ⟨h1, h2.trans (by rw [State.setPiecer_creel]), h3.trans (by rw [State.setPiecer_spindle]), h4.trans hunit,
        h5.trans (by simp), h6.trans (by simp)⟩
  · change s.choose d = s
    unfold State.choose
    rw [hnone]

end

end Sys2Proof.Machine
end

section
/-! PROOFS. The piecer arbiter: the home rule and the lending rule (R66 to R68). -/

namespace Sys2Proof.Machine

theorem Piecer.free_iff {x : Piecer} : x.free = true ↔ x.placement = .pool ∧
    (x.state = .onSide ∨ x.state = .parked) := by
  unfold Piecer.free
  simp

theorem FrameState.piecing_iff {x : FrameState} : x.piecing = true ↔ x = .building ∨ x = .nearing ∨ x = .called := by
  cases x <;> simp [FrameState.piecing]

section
variable (s : State)

/-! ### The home rule (R67) -/

/-- A free piecer is to be sent to its home side (R67). -/
def State.goesHome (x : Piecer) (h : Nat) : Prop :=
  x.home = some h ∧ (s.side h).piecer = none ∧
    ((x.state = .parked ∧ (s.frame ((h + 1) / 2)).state.piecing = true) ∨
      (x.state = .onSide ∧ ∃ d, x.side = some d ∧ d ≠ h ∧ (s.side d).backlog = 0 ∧ 1 ≤ (s.side h).backlog))

theorem State.homeRule_eq_some_iff {x : Piecer} (hx : x.state = .onSide ∨ x.state = .parked) {h : Nat} :
    s.homeRule x (x.state == .parked) = some h ↔ s.goesHome x h := by
  unfold State.homeRule State.goesHome
  cases hhome : x.home with
  | none => simp
  | some e =>
    dsimp only
    by_cases hserved : (s.side e).piecer = none
    · rw [if_neg (by simp [hserved] : ¬(s.side e).piecer.isSome = true)]
      obtain hst | hst := hx
      · have hparked : ¬(x.state == .parked) = true := by rw [hst]; decide
        rw [if_neg hparked]
        cases hside : x.side with
        | none => simp [hst]
        | some d =>
          dsimp only
          rw [Option.ite_none_right_eq_some, Option.some.injEq]
          constructor
          · rintro ⟨⟨h1, h2, h3⟩, rfl⟩
            exact ⟨rfl, hserved, .inr ⟨hst, d, rfl, h1, h2, h3⟩⟩
          · rintro ⟨rfl, _, ⟨hst', _⟩ | ⟨_, d', hd', h1, h2, h3⟩⟩
            · rw [hst] at hst'
              cases hst'
            · obtain rfl := Option.some.inj hd'
              exact ⟨⟨h1, h2, h3⟩, rfl⟩
      · have hparked : (x.state == .parked) = true := by rw [hst]; rfl
        rw [if_pos hparked, Option.ite_none_right_eq_some, Option.some.injEq]
        constructor
        · rintro ⟨hp, rfl⟩
          exact ⟨rfl, hserved, .inl ⟨hst, hp⟩⟩
        · rintro ⟨rfl, _, ⟨_, hp⟩ | ⟨hst', _⟩⟩
          · exact ⟨hp, rfl⟩
          · rw [hst] at hst'
            cases hst'
    · rw [if_pos (Option.isSome_iff_ne_none.mpr hserved)]
      refine ⟨nofun, fun ⟨heq, hnone, _⟩ => ?_⟩
      obtain rfl := Option.some.inj heq
      exact absurd hnone hserved

theorem State.homePass_of_goes {p h : Nat} (hfree : (s.piecer p).free = true) (hgo : s.goesHome (s.piecer p) h) :
    s.homePass p = s.sendToSide p h .home := by
  unfold State.homePass
  rw [if_pos hfree, (s.homeRule_eq_some_iff (Piecer.free_iff.mp hfree).2).mpr hgo]

theorem State.homePass_of_not {p : Nat} (h : ¬((s.piecer p).free = true ∧ ∃ e, s.goesHome (s.piecer p) e)) :
    s.homePass p = s := by
  unfold State.homePass
  dsimp only
  split
  · next hfree =>
    have hnone : s.homeRule (s.piecer p) ((s.piecer p).state == .parked) = none :=
      Option.eq_none_iff_forall_ne_some.mpr fun e he =>
        h ⟨hfree, e, (s.homeRule_eq_some_iff (Piecer.free_iff.mp hfree).2).mp he⟩
    rw [hnone]
  · rfl

/-! ### The lending rule (R68) -/

/-- An unserved side whose backlog has reached the threshold. -/
def State.asks (d : Nat) : Prop := (s.side d).piecer = none ∧ s.settings.lendThreshold ≤ (s.side d).backlog

/-- One side before another: the larger backlog, then the older stamp, then the lower code. -/
def State.outranks (d e : Nat) : Prop := (s.side e).backlog < (s.side d).backlog ∨
  ((s.side e).backlog = (s.side d).backlog ∧ (s.oldestOf d < s.oldestOf e ∨ (s.oldestOf d = s.oldestOf e ∧ d ≤ e)))

theorem State.oldestOf_eq (d : Nat) : s.oldestOf d = ((s.side d).oldest.getD 0#32).toNat := by
  unfold State.oldestOf
  cases (s.side d).oldest <;> rfl

theorem State.outranks_antisymm {d e : Nat} (h : s.outranks d e) (h' : s.outranks e d) : d = e := by
  unfold State.outranks at h h'
  omega

theorem State.outranks_trans {a b c : Nat} (h : s.outranks a b) (h' : s.outranks b c) : s.outranks a c := by
  unfold State.outranks at h h' ⊢
  omega

theorem State.lendTarget_eq_none {l : List Nat} : s.lendTarget l = none ↔ ∀ d ∈ l, ¬s.asks d := by
  induction l with
  | nil => simp [State.lendTarget]
  | cons d r ih =>
    have hask : ((s.side d).piecer.isNone && decide (s.settings.lendThreshold ≤ (s.side d).backlog)) = true ↔ s.asks d := by
      simp [State.asks]
    unfold State.lendTarget
    dsimp only
    rw [List.forall_mem_cons, ← ih, ← hask]
    cases hr : s.lendTarget r with
    | none => simp
    | some e =>
      dsimp only
      split <;> simp

/-- The side lent to: of those that ask, the one that comes before the others. -/
theorem State.lendTarget_spec {l : List Nat} (hl : l.Pairwise (· < ·)) {d : Nat} (h : s.lendTarget l = some d) :
    d ∈ l ∧ s.asks d ∧ ∀ e ∈ l, s.asks e → s.outranks d e := by
  induction l generalizing d with
  | nil => cases h
  | cons a r ih =>
    obtain ⟨ha, hr⟩ := List.pairwise_cons.mp hl
    have hask : ((s.side a).piecer.isNone && decide (s.settings.lendThreshold ≤ (s.side a).backlog)) = true ↔ s.asks a := by
      simp [State.asks]
    have hself (x : Nat) : s.outranks x x := .inr ⟨rfl, .inr ⟨rfl, Nat.le_refl _⟩⟩
    unfold State.lendTarget at h
    dsimp only at h
    cases hrest : s.lendTarget r with
    | none =>
      rw [hrest] at h
      simp only [Option.ite_none_right_eq_some, Option.some.injEq] at h
      obtain ⟨hcond, rfl⟩ := h
      have hnone := s.lendTarget_eq_none.mp hrest
      refine ⟨List.mem_cons_self, hask.mp hcond, List.forall_mem_cons.mpr ⟨fun _ => hself a, fun e he hasks => ?_⟩⟩
      exact absurd hasks (hnone e he)
    | some b =>
      obtain ⟨hb, hbasks, hbest⟩ := ih hr hrest
      have hlt := ha b hb
      rw [hrest] at h
      dsimp only at h
      split at h
      · next hcond =>
        obtain rfl := Option.some.inj h
        rw [Bool.and_eq_true, hask] at hcond
        obtain ⟨haasks, hwins⟩ := hcond
        have hab : s.outranks a b := by
          simp only [Bool.or_eq_true, Bool.and_eq_true, decide_eq_true_eq, beq_iff_eq] at hwins
          unfold State.outranks
          omega
        exact ⟨List.mem_cons_self, haasks, List.forall_mem_cons.mpr ⟨fun _ => hself a, fun e he hasks =>
          s.outranks_trans hab (hbest e he hasks)⟩⟩
      · next hcond =>
        obtain rfl := Option.some.inj h
        refine ⟨List.mem_cons_of_mem _ hb, hbasks, List.forall_mem_cons.mpr ⟨fun haasks => ?_, hbest⟩⟩
        rw [Bool.and_eq_true, hask] at hcond
        have hloses := not_and.mp hcond haasks
        simp only [Bool.or_eq_true, Bool.and_eq_true, decide_eq_true_eq, beq_iff_eq] at hloses
        unfold State.outranks
        omega

theorem State.lendTarget_eq_some_iff {l : List Nat} (hl : l.Pairwise (· < ·)) {d : Nat} :
    s.lendTarget l = some d ↔ (d ∈ l ∧ s.asks d) ∧ ∀ e ∈ l, s.asks e → s.outranks d e := by
  refine ⟨fun h => ?_, fun ⟨⟨hd, hasks⟩, hbest⟩ => ?_⟩
  · obtain ⟨hd, hasks, hbest⟩ := s.lendTarget_spec hl h
    exact ⟨⟨hd, hasks⟩, hbest⟩
  · cases hfound : s.lendTarget l with
    | none => exact absurd hasks (s.lendTarget_eq_none.mp hfound d hd)
    | some e =>
      obtain ⟨he, heasks, hebest⟩ := s.lendTarget_spec hl hfound
      rw [s.outranks_antisymm (hebest d hd hasks) (hbest e he heasks)]

theorem State.lendable_iff {x : Piecer} : s.lendable x = true ↔ x.state = .parked ∨
    ∃ d, x.side = some d ∧ ((s.side d).backlog = 0 ∨ ¬(s.frame ((d + 1) / 2)).state.piecing = true) := by
  unfold State.lendable
  cases hside : x.side with
  | none => simp
  | some d => simp [sideFrame]

theorem State.lendPass_of_lent {p d : Nat} (hfree : (s.piecer p).free = true) (hidle : s.lendable (s.piecer p) = true)
    (h : s.lendTarget allSides = some d) :
    s.lendPass p = s.sendToSide p d (if (s.piecer p).home = some d then .home else .lend) := by
  unfold State.lendPass
  dsimp only
  rw [hfree, hidle, h]
  rfl

theorem State.lendPass_of_not {p : Nat} (h : ¬((s.piecer p).free = true ∧ s.lendable (s.piecer p) = true ∧
    s.lendTarget allSides ≠ none)) : s.lendPass p = s := by
  unfold State.lendPass
  dsimp only
  split
  · next hboth =>
    rw [Bool.and_eq_true] at hboth
    cases htarget : s.lendTarget allSides with
    | none => rfl
    | some d => exact absurd ⟨hboth.1, hboth.2, by rw [htarget]; nofun⟩ h
  · rfl

/-- The two passes of the arbiter for one piecer. -/
theorem arbiterPass_effect (p : Nat) :
    let piecing (st : FrameState) : Prop := st = .building ∨ st = .nearing ∨ st = .called
    let x := s.piecer p
    let free := x.placement = .pool ∧ (x.state = .onSide ∨ x.state = .parked)
    let home (h : Nat) : Prop := x.home = some h ∧ (s.side h).piecer = none ∧
      ((x.state = .parked ∧ piecing (s.frame ((h + 1) / 2)).state) ∨
        (x.state = .onSide ∧ ∃ d, x.side = some d ∧ d ≠ h ∧ (s.side d).backlog = 0 ∧ 1 ≤ (s.side h).backlog))
    let idle := x.state = .parked ∨
      ∃ d, x.side = some d ∧ ((s.side d).backlog = 0 ∨ ¬piecing (s.frame ((d + 1) / 2)).state)
    let offer (d : Nat) : Prop := 1 ≤ d ∧ d ≤ 16 ∧ (s.side d).piecer = none ∧
      s.settings.lendThreshold ≤ (s.side d).backlog
    let stamp (d : Nat) := ((s.side d).oldest.getD 0#32).toNat
    let best (d : Nat) : Prop := offer d ∧ ∀ e, offer e → (s.side e).backlog < (s.side d).backlog ∨
      ((s.side e).backlog = (s.side d).backlog ∧ (stamp d < stamp e ∨ (stamp d = stamp e ∧ d ≤ e)))
    (¬(free ∧ ∃ h, home h) → s.homePass p = s) ∧
    (∀ h, free → home h → s.homePass p = s.sendToSide p h .home) ∧
    (∀ d, s.lendTarget allSides = some d ↔ best d) ∧
    (¬(free ∧ idle ∧ ∃ d, offer d) → s.lendPass p = s) ∧
    (∀ d, free → idle → best d →
      s.lendPass p = s.sendToSide p d (if x.home = some d then .home else .lend)) := by
  intro piecing x free home idle offer stamp best
  have hfree : x.free = true ↔ free := Piecer.free_iff
  have hhome (h : Nat) : s.goesHome x h ↔ home h := by
    unfold State.goesHome
    rw [FrameState.piecing_iff]
  have hidle : s.lendable x = true ↔ idle := by
    rw [State.lendable_iff]
    simp only [FrameState.piecing_iff]
    rfl
  have hoffer (d : Nat) : offer d ↔ d ∈ allSides ∧ s.asks d := by
    rw [show d ∈ allSides ↔ 1 ≤ d ∧ d ≤ 16 from mem_oneTo, and_assoc]
    rfl
  have hbest (d : Nat) : s.lendTarget allSides = some d ↔ best d := by
    rw [s.lendTarget_eq_some_iff (by decide : allSides.Pairwise (· < ·)), ← hoffer]
    refine and_congr_right fun _ => ?_
    constructor
    · intro h e he
      obtain ⟨hmem, hasks⟩ := (hoffer e).mp he
      have hrank := h e hmem hasks
      unfold State.outranks at hrank
      rw [s.oldestOf_eq, s.oldestOf_eq] at hrank
      exact hrank
    · intro h e hmem hasks
      unfold State.outranks
      rw [s.oldestOf_eq, s.oldestOf_eq]
      exact h e ((hoffer e).mpr ⟨hmem, hasks⟩)
  refine ⟨fun h => s.homePass_of_not fun ⟨hf, e, he⟩ => h ⟨hfree.mp hf, e, (hhome e).mp he⟩,
    fun h hf hh => s.homePass_of_goes (hfree.mpr hf) ((hhome h).mpr hh), hbest,
    fun h => s.lendPass_of_not fun ⟨hf, hi, htarget⟩ => h ⟨hfree.mp hf, hidle.mp hi, ?_⟩,
    fun d hf hi hb => s.lendPass_of_lent (hfree.mpr hf) (hidle.mpr hi) ((hbest d).mpr hb)⟩
  obtain ⟨d, hd⟩ := Option.ne_none_iff_exists'.mp htarget
  exact ⟨d, ((hbest d).mp hd).1⟩

end

end Sys2Proof.Machine
end

section
/-! PROOFS. The carrier dispatcher and the refill of the change queue (R111, R113). -/

namespace Sys2Proof.Machine

section
variable {s : State}

/-! ### The dispatcher (R113) -/

/-- A carrier of the group that is IDLE. -/
def State.carrierIdle (s : State) (c : Nat) : Prop := 1 ≤ c ∧ c ≤ 4 ∧ (s.carrier c).state = .idle

theorem State.idleCarrier_eq_none : s.idleCarrier = none ↔ ∀ c, ¬s.carrierIdle c := by
  unfold State.idleCarrier State.carrierIdle
  rw [List.find?_eq_none]
  simp only [mem_carrierNumbers, beq_iff_eq]
  exact ⟨fun h c ⟨h1, h4, hst⟩ => h c ⟨h1, h4⟩ hst, fun h c hc hst => h c ⟨hc.1, hc.2, hst⟩⟩

theorem State.idleCarrier_eq_some {c : Nat} (hc : s.carrierIdle c) (hfirst : ∀ e, e < c → ¬s.carrierIdle e) :
    s.idleCarrier = some c := by
  have hnumbers : ([1, 2, 3, 4] : List Nat) = oneTo 4 := rfl
  unfold State.idleCarrier
  rw [hnumbers]
  obtain ⟨h1, h4, hst⟩ := hc
  refine find_oneTo_eq_some.mpr ⟨h1, h4, by rw [hst]; rfl, fun e he1 he hidle => ?_⟩
  exact hfirst e he ⟨he1, by omega, by simpa using hidle⟩

theorem State.idle_of_idleCarrier {c : Nat} (h : s.idleCarrier = some c) : s.carrierIdle c := by
  unfold State.idleCarrier at h
  have hmem := mem_carrierNumbers.mp (List.mem_of_find?_eq_some h)
  have hst := List.find?_some h
  exact ⟨hmem.1, hmem.2, by simpa using hst⟩

/-- The state with the queue's head handed to a carrier. -/
def State.dispatched (c k : Nat) (s : State) : State :=
  let t := s.leaveQueue k
  let t := t.setCreel k { t.creel k with state := .changing, queueStamp := none, carrier := some c }
  let lot : Token := BitVec.ofNat 16 (s.frameSettings (creelFrame k)).lot
  let t := t.setCarrier c { t.carrier c with
    state := .loading, creel := some k, lotSent := some lot, dispatched := t.clock
    change := Timer.load (1000 * t.settings.changeTimeout) }
  t.hand (carrierAddr c) (.load lot)

theorem dispatchN_of_some {c k : Nat} {r : List Nat} (hc : s.idleCarrier = some c) (hk : s.roving.queue = k :: r)
    (n : Nat) :
    dispatchN (n + 1) s = dispatchN n (s.dispatched c k) := by
  simp only [dispatchN, hc, hk] <;> rfl

theorem dispatchN_of_none (h : s.idleCarrier = none ∨ s.roving.queue = []) (n : Nat) : dispatchN n s = s := by
  cases n with
  | zero => rfl
  | succ n =>
    unfold dispatchN
    split
    · next hc hk =>
      rw [hc, hk] at h
      exact absurd h (by simp)
    · rfl

theorem dispatched_effect (hs : s.formed = true) {c k : Nat} (hc : (s.carrier c).state ≠ .loading) :
    let u := s.dispatched c k
    let lot : Token := BitVec.ofNat 16 (s.frameSettings ((k - 1) / 76 + 1)).lot
    u.roving.queue = (s.roving.queue.filter fun x => x != k) ∧
    u.creel k = { s.creel k with state := .changing, queueStamp := none, carrier := some c } ∧
    u.carrier c = { s.carrier c with
      state := .loading, creel := some k, lotSent := some lot, dispatched := s.clock
      change := ⟨true, 1000 * s.settings.changeTimeout⟩
      shownLeft := s.settings.changeTimeout } ∧
    u.unit (16 + c) = (s.hand (16 + c) (.load lot)).unit (16 + c) ∧
    (∀ e, e ≠ c → u.carrier e = s.carrier e) ∧ (∀ e, e ≠ k → u.creel e = s.creel e) ∧ u.formed = true := by
  intro u lot
  let a := s.leaveQueue k
  let b := a.setCreel k { a.creel k with state := .changing, queueStamp := none, carrier := some c }
  let d := b.setCarrier c { b.carrier c with
    state := .loading, creel := some k, lotSent := some lot, dispatched := b.clock
    change := Timer.load (1000 * b.settings.changeTimeout) }
  have ha : a.formed = true := State.leaveQueue_formed k s hs
  have hb : b.formed = true := State.setCreel_formed _ _ _ ha
  have hd : d.formed = true := State.setCarrier_formed _ _ _ hb
  have hu : u = d.hand (16 + c) (.load lot) := rfl
  have hcreel (e : Nat) : a.creel e = s.creel e :=
    State.leaveQueue_creel e
  have hcarrier (e : Nat) : b.carrier e = s.carrier e := (State.setCreel_carrier ..).trans
    (State.leaveQueue_keeps (fun t => t.carrier e) (fun _ _ => rfl) (fun _ => rfl))
  have hclock : b.clock = s.clock := (State.setCreel_clock ..).trans
    (State.leaveQueue_keeps State.clock (fun _ _ => rfl) (fun _ => rfl))
  have hsettings : b.settings = s.settings := State.settings_of_plan ((State.setCreel_plan ..).trans
    (State.leaveQueue_keeps State.plan (fun _ _ => rfl) (fun _ => rfl)))
  have hunit (e : Nat) : d.unit e = s.unit e := (State.setCarrier_unit ..).trans ((State.setCreel_unit ..).trans
    (State.leaveQueue_keeps (fun t => t.unit e) (fun _ _ => rfl) (fun _ => rfl)))
  have hchange : ¬CarrierState.loading = (b.carrier c).state := by
    rw [hcarrier]
    exact fun h => hc h.symm
  rw [hu]
  refine ⟨?_, ?_, ?_, State.hand_unit_congr _ hs hd (hunit _) ((State.setCarrier_clock ..).trans hclock),
    fun e he => ?_,
    fun e he => ?_, State.hand_formed _ _ _ hd⟩
  · rw [State.hand_roving, State.setCarrier_roving_queue, State.setCreel_roving_queue, State.leaveQueue_queue]
  · rw [State.hand_creel, State.setCarrier_creel, State.setCreel_formed_same _ _ _ ha, hcreel]
  · rw [State.hand_carrier, State.setCarrier_formed_same _ _ _ hb, if_neg hchange, hsettings, hclock, hcarrier]
    simp [Carrier.secondsLeft, Timer.load]
  · rw [State.hand_carrier, State.setCarrier_other _ _ _ _ he, hcarrier]
  · rw [State.hand_creel, State.setCarrier_creel, State.setCreel_other _ _ _ _ he, hcreel]

/-- The numbers of the IDLE carriers. -/
def State.idleCarriers (s : State) : List Nat := [1, 2, 3, 4].filter fun c => (s.carrier c).state == .idle

theorem State.idleCarriers_dispatched (hs : s.formed = true) {c : Nat} (k : Nat) (hc : s.carrierIdle c) :
    (s.dispatched c k).idleCarriers.length < s.idleCarriers.length := by
  obtain ⟨h1, h4, hst⟩ := hc
  obtain ⟨_, _, hsame, _, hother, _⟩ := dispatched_effect hs (c := c) (k := k) (by rw [hst]; nofun)
  have hsub : (s.dispatched c k).idleCarriers.Sublist s.idleCarriers := by
    refine List.monotone_filter_right _ fun e he => ?_
    by_cases hec : e = c
    · rw [hec, hsame] at he
      cases he
    · rwa [hother e hec] at he
  refine lt_of_le_of_ne hsub.length_le fun hlen => ?_
  have hmem : c ∈ s.idleCarriers := List.mem_filter.mpr ⟨mem_carrierNumbers.mpr ⟨h1, h4⟩, by rw [hst]; rfl⟩
  rw [← hsub.eq_of_length hlen] at hmem
  have hidle := (List.mem_filter.mp hmem).2
  rw [hsame] at hidle
  cases hidle

/-- With as many rounds as carriers IDLE, the dispatcher ends with none IDLE or nothing queued. -/
theorem dispatchN_done (n : Nat) (hs : s.formed = true) (hn : s.idleCarriers.length ≤ n) :
    (dispatchN n s).idleCarrier = none ∨ (dispatchN n s).roving.queue = [] := by
  induction n generalizing s with
  | zero =>
    refine .inl (State.idleCarrier_eq_none.mpr fun c ⟨h1, h4, hst⟩ => ?_)
    have hmem : c ∈ s.idleCarriers := List.mem_filter.mpr ⟨mem_carrierNumbers.mpr ⟨h1, h4⟩,
      by rw [show s.carrier c = (dispatchN 0 s).carrier c from rfl, hst]; rfl⟩
    rw [List.length_eq_zero_iff.mp (Nat.le_zero.mp hn)] at hmem
    cases hmem
  | succ n ih =>
    by_cases hnone : s.idleCarrier = none ∨ s.roving.queue = []
    · rwa [dispatchN_of_none hnone]
    · obtain ⟨hc, hq⟩ := not_or.mp hnone
      obtain ⟨c, hc⟩ := Option.ne_none_iff_exists'.mp hc
      obtain ⟨k, r, hk⟩ := List.exists_cons_of_ne_nil hq
      have hidle := State.idle_of_idleCarrier hc
      have hless := State.idleCarriers_dispatched hs k hidle
      obtain ⟨_, _, _, _, _, _, hformed⟩ := dispatched_effect hs (c := c) (k := k) (by rw [hidle.2.2]; nofun)
      rw [dispatchN_of_some hc hk]
      exact ih hformed (by omega)

theorem dispatch_effect (hs : s.formed = true) (hwork : s.working = true) :
    let idle (t : State) (c : Nat) : Prop := 1 ≤ c ∧ c ≤ 4 ∧ (t.carrier c).state = .idle
    ((∀ c, ¬idle s c) ∨ s.roving.queue = [] → s.dispatch = s) ∧
    ((∀ c, ¬idle s.dispatch c) ∨ s.dispatch.roving.queue = []) ∧
    ∀ c k r, idle s c → (∀ e, e < c → ¬idle s e) → s.roving.queue = k :: r → k ∉ r →
      (∀ n, dispatchN (n + 1) s = dispatchN n (dispatchN 1 s)) ∧
      (let u := dispatchN 1 s;
      let lot : Token := BitVec.ofNat 16 (s.frameSettings ((k - 1) / 76 + 1)).lot
      u.roving.queue = r ∧
      u.creel k = { s.creel k with state := .changing, queueStamp := none, carrier := some c } ∧
      u.carrier c = { s.carrier c with
        state := .loading, creel := some k, lotSent := some lot, dispatched := s.clock
        change := ⟨true, 1000 * s.settings.changeTimeout⟩
        shownLeft := s.settings.changeTimeout } ∧
      u.unit (16 + c) = (s.hand (16 + c) (.load lot)).unit (16 + c) ∧
      (∀ e, e ≠ c → u.carrier e = s.carrier e) ∧ ∀ e, e ≠ k → u.creel e = s.creel e) := by
  intro idle
  have hdispatch : s.dispatch = dispatchN 4 s := if_pos hwork
  refine ⟨fun h => ?_, ?_, fun c k r hc hfirst hq hk => ?_⟩
  · rw [hdispatch]
    exact dispatchN_of_none (h.imp_left State.idleCarrier_eq_none.mpr) 4
  · rw [hdispatch]
    exact (dispatchN_done 4 hs (List.length_filter_le ..)).imp_left State.idleCarrier_eq_none.mp
  · have hsome := State.idleCarrier_eq_some hc hfirst
    have hone : dispatchN 1 s = s.dispatched c k := dispatchN_of_some hsome hq 0
    obtain ⟨h1, h2, h3, h4, h5, h6, _⟩ := dispatched_effect hs (c := c) (k := k) (by rw [hc.2.2]; nofun)
    rw [hone]
    refine ⟨fun n => dispatchN_of_some hsome hq n, h1.trans ?_, h2, h3, h4, h5, h6⟩
    rw [hq, List.filter_cons_of_neg (by simp), List.filter_eq_self.mpr]
    intro x hx
    simp only [bne_iff_ne, ne_eq]
    exact fun he => hk (he ▸ hx)

end

end Sys2Proof.Machine
end

section
/-! PROOFS. The refill of the change queue (R111), and the work of an event. -/

namespace Sys2Proof.Machine

/-- A record of a canonical table is read by its number. -/
theorem tget_of_mem {α : Type} [DecidableEq α] {d v : α} {t : List (Nat × α)} {n : Nat} (hw : tableWf d t = true)
    (h : (n, v) ∈ t) : tget d t n = v := by
  induction t with
  | nil => cases h
  | cons e r ih =>
    obtain ⟨k, x⟩ := e
    obtain ⟨_, habove, hr⟩ := tableWf_cons.mp hw
    obtain heq | hmem := List.mem_cons.mp h
    · obtain ⟨rfl, rfl⟩ := Prod.mk.inj heq
      rw [tget, if_pos rfl]
    · have hlt := lt_of_mem_keys_above hr habove (List.mem_map_of_mem (f := Prod.fst) hmem)
      rw [tget, if_neg (by dsimp only at hlt; omega)]
      exact ih hr hmem

section
variable {s : State}

theorem State.creels_wf (hs : s.formed = true) : tableWf Creel.reset s.roving.creels = true := by
  simp only [State.formed, Roving.formed, Bool.and_eq_true] at hs
  simp [hs]

/-- The LOW sections, listed rising. -/
theorem State.mem_lowSections (hs : s.formed = true) {k : Nat} : k ∈ s.lowSections ↔ (s.creel k).state = .low := by
  unfold State.lowSections
  simp only [List.mem_map, List.mem_filter, decide_eq_true_eq]
  constructor
  · rintro ⟨⟨e, x⟩, ⟨hmem, hlow⟩, rfl⟩
    rw [State.creel, tget_of_mem (State.creels_wf hs) hmem]
    exact hlow
  · intro hlow
    have hne : s.creel k ≠ Creel.reset := fun hreset => by
      rw [hreset] at hlow
      cases hlow
    exact ⟨(k, s.creel k), ⟨mem_of_tget_ne hne, hlow⟩, rfl⟩

theorem State.pairwise_lowSections (hs : s.formed = true) : s.lowSections.Pairwise (· < ·) :=
  (pairwise_keys (State.creels_wf hs)).sublist (List.filter_sublist.map _)

theorem State.leastOf_eq_none {l : List Nat} : s.leastOf l = none ↔ l = [] := by
  cases l with
  | nil => simp [State.leastOf]
  | cons c r =>
    unfold State.leastOf
    cases s.leastOf r with
    | none => simp
    | some d =>
      dsimp only
      split <;> simp

/-- The section of least roving, the lower number at a tie. -/
theorem State.leastOf_spec {l : List Nat} (hl : l.Pairwise (· < ·)) {c : Nat} (h : s.leastOf l = some c) :
    c ∈ l ∧ ∀ e ∈ l, (s.creel c).remaining < (s.creel e).remaining ∨
      ((s.creel c).remaining = (s.creel e).remaining ∧ c ≤ e) := by
  induction l generalizing c with
  | nil => cases h
  | cons a r ih =>
    obtain ⟨ha, hr⟩ := List.pairwise_cons.mp hl
    unfold State.leastOf at h
    cases hrest : s.leastOf r with
    | none =>
      rw [hrest] at h
      obtain rfl := Option.some.inj h
      rw [State.leastOf_eq_none.mp hrest]
      simp
    | some d =>
      obtain ⟨hd, hleast⟩ := ih hr hrest
      rw [hrest] at h
      dsimp only at h
      split at h
      · next hlt =>
        obtain rfl := Option.some.inj h
        exact ⟨List.mem_cons_of_mem _ hd, List.forall_mem_cons.mpr ⟨.inl hlt, hleast⟩⟩
      · next hge =>
        obtain rfl := Option.some.inj h
        refine ⟨List.mem_cons_self, List.forall_mem_cons.mpr ⟨.inr ⟨rfl, Nat.le_refl _⟩, fun e he => ?_⟩⟩
        have hlt := ha e he
        have hde := hleast e he
        omega

/-- What a refill comes to: sections LOW before, those of least roving first, are in the queue by their stamps. -/
structure State.Refilled (s u : State) : Prop where
  sections : ∀ k, (u.creel k = s.creel k ∧ (k ∈ u.roving.queue ↔ k ∈ s.roving.queue)) ∨
    ((s.creel k).state = .low ∧ k ∈ u.roving.queue ∧ u.creel k = { s.creel k with
      state := .queued, queueStamp := some (s.predictedStamp k) })
  order : ∀ k e, (s.creel k).state = .low → (u.creel k).state = .queued → (u.creel e).state = .low →
    (s.creel k).remaining < (s.creel e).remaining ∨ ((s.creel k).remaining = (s.creel e).remaining ∧ k ≤ e)
  watch : u.watch = s.watch
  disp : u.disp = s.disp
  frames : u.frames = s.frames
  carriers : u.roving.carriers = s.roving.carriers

theorem State.Refilled.refl : s.Refilled s where
  sections _ := .inl ⟨rfl, Iff.rfl⟩
  order k e hlow hqueued := by
    rw [hlow] at hqueued
    cases hqueued
  watch := rfl
  disp := rfl
  frames := rfl
  carriers := rfl

/-- A section LOW afterwards was LOW before, as it was. -/
theorem State.Refilled.low {u : State} (h : s.Refilled u) {e : Nat} (he : (u.creel e).state = .low) :
    u.creel e = s.creel e := by
  obtain ⟨hsame, _⟩ | ⟨_, _, hqueued⟩ := h.sections e
  · exact hsame
  · rw [hqueued] at he
    cases he

theorem State.predictedStamp_congr {t : State} (k : Nat) (hclock : t.clock = s.clock) (hplan : t.plan = s.plan)
    (hfeeds : t.roving.feeds = s.roving.feeds) (hcreel : t.creel k = s.creel k) : t.predictedStamp k = s.predictedStamp k := by
  have hsettings : t.frameSettings (creelFrame k) = s.frameSettings (creelFrame k) := by
    rw [State.frameSettings, State.settings_of_plan hplan, State.frameSettings]
  unfold State.predictedStamp
  dsimp only
  rw [hclock, State.feed_of_table hfeeds, hcreel, hsettings]

/-- The least LOW section queued, and a refill after it. -/
theorem State.Refilled.step {u : State} (hs : s.formed = true) {c : Nat} (hc : s.leastOf s.lowSections = some c)
    (h : (s.queueByStamp c (s.predictedStamp c)).Refilled u) : s.Refilled u := by
  obtain ⟨hmem, hleast⟩ := State.leastOf_spec (State.pairwise_lowSections hs) hc
  have hlow := (State.mem_lowSections hs).mp hmem
  have hsame := State.queueByStamp_creel_same (k := c) hs (s.predictedStamp c)
  have hother {e : Nat} (he : e ≠ c) := State.queueByStamp_creel_other (s := s) he (s.predictedStamp c)
  have hqueue (k : Nat) (hk : k ≠ c) : k ∈ (s.queueByStamp c (s.predictedStamp c)).roving.queue ↔ k ∈ s.roving.queue := by
    obtain ⟨l, r, hq, hplace, _⟩ := placeByStamp_split s.queueStampOf c (s.predictedStamp c).toNat s.roving.queue
    rw [State.queueByStamp_queue, hplace, hq]
    simp [hk]
  have hfirst : u.creel c = (s.queueByStamp c (s.predictedStamp c)).creel c ∧ c ∈ u.roving.queue := by
    obtain ⟨heq, hq⟩ | ⟨hstill, _⟩ := h.sections c
    · exact ⟨heq, hq.mpr (State.mem_queueByStamp c _)⟩
    · rw [hsame] at hstill
      cases hstill
  have hne {e : Nat} (he : (u.creel e).state = .low) : e ≠ c := fun heq => by
    rw [heq, hfirst.1, hsame] at he
    cases he
  refine ⟨fun k => ?_, fun k e hk hqueued he => ?_, h.watch.trans (State.setCreel_watch ..),
    h.disp.trans (State.setCreel_disp ..), h.frames.trans (State.setCreel_frames ..),
    h.carriers.trans (State.setCreel_roving_carriers ..)⟩
  · by_cases hkc : k = c
    · rw [hkc]
      exact .inr ⟨hlow, hfirst.2, hfirst.1.trans hsame⟩
    · obtain ⟨heq, hq⟩ | ⟨hk, hq, heq⟩ := h.sections k
      · exact .inl ⟨heq.trans (hother hkc), hq.trans (hqueue k hkc)⟩
      · have hstamp := State.predictedStamp_congr (s := s) (t := s.queueByStamp c (s.predictedStamp c)) k
          (State.queueByStamp_clock ..) (State.queueByStamp_plan ..) (State.setCreel_roving_feeds ..) (hother hkc)
        rw [hother hkc] at hk heq
        exact .inr ⟨hk, hq, by rw [heq, hstamp]⟩
  · have hece := hne he
    have heq := (h.low he).trans (hother hece)
    by_cases hkc : k = c
    · rw [hkc]
      exact hleast e ((State.mem_lowSections hs).mpr (by rw [← heq]; exact he))
    · have hrank := h.order k e (by rw [hother hkc]; exact hk) hqueued he
      rwa [hother hkc, hother hece] at hrank

theorem refillN_refilled (n : Nat) (hs : s.formed = true) : s.Refilled (refillN n s) := by
  induction n generalizing s with
  | zero => exact State.Refilled.refl
  | succ n ih =>
    unfold refillN
    split
    · next hroom =>
      split
      · next c hc => exact State.Refilled.step hs hc (ih (State.queueByStamp_formed _ _ _ hs hroom))
      · exact State.Refilled.refl
    · exact State.Refilled.refl

/-- With as many rounds as places, the queue is full or no section is LOW. -/
theorem refillN_done (n : Nat) (hs : s.formed = true) (hn : 32 ≤ s.roving.queue.length + n) :
    32 ≤ (refillN n s).roving.queue.length ∨ ∀ k, ((refillN n s).creel k).state ≠ .low := by
  induction n generalizing s with
  | zero => exact .inl hn
  | succ n ih =>
    unfold refillN
    split
    · next hroom =>
      split
      · next c hc =>
        refine ih (State.queueByStamp_formed _ _ _ hs hroom) ?_
        rw [State.queueByStamp_queue, placeByStamp_length]
        omega
      · next hnone =>
        refine .inr fun k hlow => ?_
        have hmem := (State.mem_lowSections hs).mpr hlow
        rw [State.leastOf_eq_none.mp hnone] at hmem
        cases hmem
    · next hroom =>
      refine .inl (Nat.le_of_not_lt fun h => hroom ?_)
      exact decide_eq_true h

end

/-- Settles O32: what an event brings about before it ends, rule by rule. -/
theorem eventsSettle : Obligations.EventsSettle := by
  unfold Obligations.EventsSettle
  refine ⟨settleRound_effect, fun s a hs => ?_, fun s d hs hd _ => relist_effect hs hd,
    fun s d hs => recount_effect hs d,
    chooseEnd_effect, fun s d hs _ _ => choose_effect hs, fun s p _ => arbiterPass_effect s p,
    fun s p d reason hs hd hp => sendToSide_effect hs reason hd hp, fun s f hs => drainTest_effect hs f,
    fun s hs hwork => dispatch_effect hs hwork, fun s hs => ?_⟩
  · refine ⟨rfl, fun ha => State.tellLoss_of_drive ha, fun p ha h1 h8 => ?_, fun c ha h1 => ?_⟩
    · rw [ha]
      exact State.tellLoss_of_piecer h1 h8
    · rw [ha, State.tellLoss_of_carrier h1]
      exact carrierLost_effect hs c
  · have hrefilled : s.Refilled s.refill := refillN_refilled 32 hs
    exact ⟨refillN_done 32 hs (Nat.le_add_left ..), hrefilled.sections, hrefilled.order, hrefilled.watch,
      hrefilled.disp,
      hrefilled.frames, hrefilled.carriers⟩

end Sys2Proof.Machine
end

section
/-! PROOFS. A plan switch at a boundary, and the free slot (R86, R156, R160). -/

namespace Sys2Proof.Machine

section
variable {s t u : State}

/-- Only the order desk and the write queue go on, and no journal entry is made. -/
structure State.Answers (s t : State) : Prop where
  eq : t = { s with desk := t.desk, writer := t.writer }
  pending : t.writer.pending = s.writer.pending
  journal : ∀ e, .journal e ∈ t.writer.queue → .journal e ∈ s.writer.queue

theorem State.Answers.refl (s : State) : s.Answers s := ⟨rfl, rfl, fun _ h => h⟩

theorem State.Answers.trans (h : s.Answers t) (k : t.Answers u) : s.Answers u where
  eq := k.eq.trans (by rw [h.eq])
  pending := k.pending.trans h.pending
  journal e he := h.journal e (k.journal e he)

theorem State.markItem_answers {i : WriteItem} (hi : ∀ e, i ≠ .journal e) (s : State) : s.Answers (s.markItem i) where
  eq := by unfold State.markItem; split <;> rfl
  pending := by simp
  journal e he := (State.mem_markItem.mp he).resolve_right (hi e).symm

theorem State.finish_answers (c : Nat) (r : Option Reason) (l : List Word) (s : State) :
    s.Answers (s.finish c r l) where
  eq := by
    unfold State.finish State.setCellView
    dsimp only
    split <;> rfl
  pending := by simp
  journal _ he := State.mem_of_mem_finish nofun he

theorem State.finishBook_answers (sel : BookEntry → Bool) (r : Option Reason) (l : List Word) (s : State) :
    s.Answers (s.finishBook sel r l) :=
  State.each_keeps_prop (Q := s.Answers) (fun c t ht => ht.trans (State.finish_answers c r l t)) _ (State.Answers.refl s)

/-! ### A pending switch at a boundary (R156) -/

theorem State.planBoundary_of_fault {cause : PageCause} {q : PendingPlan} {x : PlanFault} (hq : s.plan.pending = some q)
    (hx : s.momentFault q.plan.settings = some x) : s.planBoundary cause =
      (State.markItem .header { s with plan := { s.plan with pending := none } }).finishBook isSwitch (some .invalid)
        x.toWords := by
  unfold State.planBoundary
  rw [hq]
  dsimp only
  rw [hx]

theorem State.planBoundary_of_valid {cause : PageCause} {q : PendingPlan} (hq : s.plan.pending = some q)
    (hx : s.momentFault q.plan.settings = none) : s.planBoundary cause =
      (s.applySwitch q.plan (some cause)).finishBook isSwitch none (switchWords q.plan s.clock (some cause)) := by
  unfold State.planBoundary
  rw [hq]
  dsimp only
  rw [hx]

theorem isSwitch_of_kind {b : BookEntry} (h : b.kind = .planSwitch) : isSwitch b = true := by
  unfold isSwitch
  rw [h]
  rfl

/-- A pending switch that fails its tests. -/
theorem planBoundary_refused {cause : PageCause} {q : PendingPlan} {x : PlanFault} (hq : s.plan.pending = some q)
    (hx : s.momentFault q.plan.settings = some x) :
    let u := s.planBoundary cause
    u.plan = { s.plan with pending := none } ∧ .header ∈ u.writer.queue ∧
    u = { s with plan := u.plan, desk := u.desk, writer := u.writer } ∧ u.writer.pending = s.writer.pending ∧
    (∀ e, .journal e ∈ u.writer.queue → .journal e ∈ s.writer.queue) ∧
    ∀ b, b ∈ s.desk.book → b.kind = .planSwitch → u.finished b.cell (some .invalid) x.toWords := by
  have hmark := State.markItem_answers (i := .header) nofun { s with plan := { s.plan with pending := none } }
  have hends := hmark.trans (State.finishBook_answers isSwitch (some .invalid) x.toWords _)
  have hplan := congrArg State.plan hends.eq
  rw [← State.planBoundary_of_fault (cause := cause) hq hx] at hends hplan
  refine ⟨hplan, ?_, ?_, hends.pending, hends.journal, fun b hb hk => ?_⟩
  · rw [State.planBoundary_of_fault hq hx]
    exact State.finishBook_queue rfl (State.mem_markItem.mpr (.inr rfl))
  · refine hends.eq.trans ?_
    rw [hplan]
  · rw [State.planBoundary_of_fault hq hx]
    exact State.finishBook_finished (by simpa using hb) (isSwitch_of_kind hk)

/-- The order of a pending switch is in the book still when the switch has taken effect. -/
theorem State.applySwitch_book (p : Plan) (cause : Option PageCause) (hn : (s.desk.book.map BookEntry.cell).Nodup)
    {b : BookEntry} (hb : b ∈ s.desk.book) (hk : b.kind = .planSwitch) : b ∈ (s.applySwitch p cause).desk.book := by
  have hrecords := (s.switchRecords_works p).switch hn b hb hk
  rw [State.applySwitch_eq, State.switchShift_eq]
  have hreport := State.switchReport_works s.plan.active s.settings cause (State.Works.refl (s := { s.switchRecords p with
    output := { (s.switchRecords p).output with
      shift := ((s.switchRecords p).switchShift s.settings cause).output.shift } }))
  refine hreport.switch ?_ b hrecords hk
  exact hn.sublist (s.switchRecords_works p).cells

theorem switchWords_boundary (p : Plan) (w : Word) (cause : PageCause) : switchWords p w (some cause) =
    [if p.copy = .p then 1#32 else 2#32, p.id, w, w32 (match some cause with
      | none => 0
      | some x => x.closeCode)] := by
  unfold switchWords
  cases p.copy <;> rfl

/-- A pending switch that takes effect. -/
theorem planBoundary_takes {cause : PageCause} {q : PendingPlan} (hn : (s.desk.book.map BookEntry.cell).Nodup)
    (hq : s.plan.pending = some q) (hx : s.momentFault q.plan.settings = none) :
    let u := s.planBoundary cause
    u.plan = { s.plan with active := some q.plan, pending := none } ∧ ∀ b, b ∈ s.desk.book → b.kind = .planSwitch →
      u.finished b.cell none (switchWords q.plan s.clock (some cause)) := by
  dsimp only
  rw [State.planBoundary_of_valid hq hx]
  refine ⟨(State.finishBook_plan ..).trans (State.applySwitch_plan ..), fun b hb hk => ?_⟩
  exact State.finishBook_finished (State.applySwitch_book _ _ hn hb hk) (isSwitch_of_kind hk)

/-! ### The free slot (R86) -/

theorem State.freeSlot_eq_some (s : State) (k : Nat) : s.freeSlot = some k ↔
    s.slotHolders.length < s.settings.doffSlots ∧ 1 ≤ k ∧ k ≤ s.settings.doffSlots ∧
      ¬((List.range' 1 8).any fun f => (s.frame f).slot == some k) = true ∧
      ∀ j, 1 ≤ j → j < k → ((List.range' 1 8).any fun f => (s.frame f).slot == some j) = true := by
  have hheld (j : Nat) : (allFrames.all fun f => (s.frame f).slot != some j) =
      !((List.range' 1 8).any fun f => (s.frame f).slot == some j) := by
    rw [allFrames_eq, List.not_any_eq_all_not]
    rfl
  unfold State.freeSlot
  split
  · next hlt =>
    rw [find_oneTo_eq_some]
    simp only [hheld, hlt, true_and, Bool.not_eq_true', Bool.not_eq_false, Bool.not_eq_true]
  · next hge => simp [hge]

end

end Sys2Proof.Machine
end

section
/-! PROOFS. The stages of a plan switch (R64, R86, R102, R125, R133, R139, R158). -/

namespace Sys2Proof.Machine

section
variable {s t : State}

theorem State.markItem_eq (i : WriteItem) (s : State) : s.markItem i = { s with writer := (s.markItem i).writer } := by
  unfold State.markItem
  split <;> rfl

theorem State.markIf_eq (b : Bool) (i : WriteItem) (s : State) :
    s.markIf b i = { s with writer := (s.markIf b i).writer } := by
  unfold State.markIf
  split
  · exact State.markItem_eq i s
  · rfl

/-! ### Home sides (R64) -/

/-- Only the piecers' records are written, and what waits to be written of them. -/
def State.PiecersOnly (s t : State) : Prop :=
  t = { s with disp := { s.disp with piecers := t.disp.piecers }, writer := t.writer }

theorem State.PiecersOnly.trans {u : State} (h : s.PiecersOnly t) (k : t.PiecersOnly u) : s.PiecersOnly u :=
  Eq.trans k (by rw [State.PiecersOnly] at h; rw [h])

theorem State.markIf_piecersOnly (b : Bool) (i : WriteItem) (s : State) : s.PiecersOnly (s.markIf b i) := by
  have hdisp : (s.markIf b i).disp = s.disp := by rw [State.markIf_eq]
  unfold State.PiecersOnly
  rw [hdisp]
  exact State.markIf_eq b i s

theorem State.setPiecer_piecersOnly (p : Nat) (x : Piecer) (s : State) : s.PiecersOnly (s.setPiecer p x) :=
  State.PiecersOnly.trans (t := { s with disp := { s.disp with piecers := tput Piecer.reset s.disp.piecers p x } }) rfl
    (State.markIf_piecersOnly ..)

theorem State.takeHomes_piecersOnly (s : State) : s.PiecersOnly s.takeHomes :=
  State.each_keeps_prop (Q := s.PiecersOnly) (fun p t ht => ht.trans (State.setPiecer_piecersOnly p _ t)) _ rfl

theorem State.takeHomes_piecer (hs : s.formed = true) {p : Nat} (hp : 1 ≤ p ∧ p ≤ 8) :
    s.takeHomes.piecer p = { s.piecer p with home := s.settings.home p } := by
  obtain ⟨t, ⟨hformed, hsettings⟩, hbefore, hafter⟩ := State.each_pass (rec := fun n t => t.piecer n)
    (g := fun n t => t.setPiecer n { t.piecer n with home := t.settings.home n })
    (Q := fun t => t.formed = true ∧ t.settings = s.settings)
    (fun n t ht => ⟨State.setPiecer_formed _ _ _ ht.1, (State.settings_of_plan (by simp)).trans ht.2⟩)
    (fun n m t _ hne => State.setPiecer_other _ _ _ _ hne) (l := allPiecers) (m := p)
    (by rw [allPiecers_eq]; exact List.nodup_range' (step := 1)) (mem_allPiecers.mpr hp) ⟨hs, rfl⟩
  rw [State.takeHomes, hafter, State.setPiecer_formed_same _ _ _ hformed, hbefore, hsettings]

/-! ### The loops of the stages -/

theorem State.switchFrames_eq (s : State) (old : Settings) : s.switchFrames old = (List.range' 1 8).foldl
    (fun t f =>
      let n := (old.frame f).perSide
      let m := (s.settings.frame f).perSide
      if n = 0 ∧ 0 < m then t.frameIn f else if 0 < n ∧ 0 < m ∧ n ≠ m then t.frameResized f n m else t)
    (((List.range' 1 8).filter fun f => (old.frame f).inPlan && !(s.settings.frame f).inPlan).foldl
      (fun t f => t.frameOut f (old.frame f).perSide) s) := by
  rw [← allFrames_eq]
  rfl

theorem State.switchCompare_eq (s : State) :
    s.switchCompare = ((List.range' 1 8).filter fun f => (s.settings.frame f).inPlan).foldl
      (fun t f =>
        let v := t.setRoller f { t.roller f with
          nearingValue := ((t.frameSettings f).doffLength - (t.frameSettings f).nearingMargin) * 1000
          doffValue := (t.frameSettings f).doffLength * 1000 }
        if (t.frame f).state = .building ∨ (t.frame f).state = .nearing then v.placeByBuild f .plan else v) s := by
  have hstep (t : State) (f : Nat) :
      (match ((t.loadCompare f).frame f).state with
        | .building | .nearing => (t.loadCompare f).placeByBuild f .plan
        | .out | .halted | .restarting | .called | .draining | .stopping | .doffing => t.loadCompare f) =
      if (t.frame f).state = .building ∨ (t.frame f).state = .nearing then (t.loadCompare f).placeByBuild f .plan
        else t.loadCompare f := by
    have hframe : (t.loadCompare f).frame f = t.frame f := State.setRoller_frame ..
    rw [hframe]
    cases (t.frame f).state <;> rfl
  rw [← allFrames_eq]
  exact congrFun (congrFun (congrArg List.foldl (funext fun t => funext fun f => hstep t f)) s) _

theorem State.switchRoving_eq (s : State) (old : Settings) : s.switchRoving old =
    ((List.range' 1 8).filter fun f => (old.frame f).inPlan && (s.settings.frame f).inPlan).foldl
      (fun t f =>
        let b := t.frameSettings f
        let v := if (old.frame f).lot = b.lot then t
          else ((sectionsInPlan b.perSide).map (creelNo f)).foldl (fun w k => w.lotRequeue k) t
        if (old.frame f).draft = b.draft then v else v.setFeed f { v.feed f with carry := 0 }) s := by
  rw [← allFrames_eq]
  rfl

theorem State.switchShift_cases (s : State) (old : Settings) (cause : Option PageCause) : s.switchShift old cause =
    (if old.shiftLength = 0 ∧ s.settings.shiftLength ≠ 0 ∧ cause ≠ some .partStop then
      { s with output := { s.output with shift := ⟨true, 60000 * s.settings.shiftLength⟩ } }
    else if old.shiftLength ≠ 0 ∧ s.settings.shiftLength = 0 then
      { s with output := { s.output with shift := ⟨false, 0⟩ } } else s) := by
  unfold State.switchShift
  split
  · next h =>
    unfold State.loadShift
    dsimp only
    rw [if_neg h.2.1]
    rfl
  · rfl

/-! ### The report (R158, 11.2.3) -/

end

end Sys2Proof.Machine
end

section
/-! PROOFS. A plan switch takes effect (R86, R102, R125, R133, R158, 11.2.3). -/

namespace Sys2Proof.Machine

/-! ### What an arbiter may journal (R86, R88) -/

namespace State.Grows

variable (s : State)

theorem leaveFrameEnds (f : Nat) : Grows 0 s (s.leaveFrameEnds f) :=
  each (fun d t => by split; exacts [setPiecer .., refl t]) _ s

theorem openStop (f : Nat) : Grows 0 s (s.openStop f) := by
  unfold State.openStop
  split
  · exact setRoller ..
  · exact refl s

theorem closeStop (f : Nat) : Grows 0 s (s.closeStop f) := by
  unfold State.closeStop
  split
  · exact (count ..).trans (setRoller ..)
  · exact refl s

/-- The stop time follows the groups of states left and entered. -/
theorem stopsFollow (f : Nat) (b c : Bool) : Grows 0 s (if b then (s.openStop f).setFeed f
    { s.feed f with rate := 0 } else if c then s.closeStop f else s) := by
  split
  · exact (openStop ..).trans (setFeed ..)
  · split
    · exact closeStop ..
    · exact refl s

/-- The frame ends and the arbiter follow them. -/
theorem endsFollow (f : Nat) (b c : Bool) :
    Grows 0 s (if b then (if c then s.leaveFrameEnds f else s).oweArbiter else s) := by
  split
  · split
    · exact (leaveFrameEnds ..).trans (oweArbiter _)
    · exact oweArbiter s
  · exact refl s

theorem enterState (f : Nat) (st : FrameState) : Grows 0 s (s.enterState f st) := by
  have hstops := stopsFollow (s.setFrame f { s.frame f with state := st }) f ((s.frame f).state.runs && st.stopped)
    ((s.frame f).state.stopped && st.runs)
  unfold State.enterState
  dsimp only at hstops ⊢
  exact ((setFrame ..).trans hstops).trans (endsFollow ..)

theorem grantSlot (f k : Nat) : Grows 9 s (s.grantSlot f k) := by
  unfold State.grantSlot
  dsimp only
  exact (((setFrame ..).trans (enterState ..)).trans (journal ..)).trans (abandonDrain ..)

theorem grantN (n : Nat) : Grows (n * 9) s (Machine.grantN n s) := by
  induction n generalizing s with
  | zero => exact refl s
  | succ n ih =>
    unfold Machine.grantN
    split
    · exact ((grantSlot ..).trans (ih _)).mono (by omega)
    · exact (refl s).mono (Nat.zero_le _)

theorem doffArbiter : Grows 18 s s.doffArbiter := by
  unfold State.doffArbiter
  split
  · exact grantN s 2
  · exact (refl s).mono (Nat.zero_le _)

end State.Grows

section
variable {s : State} {f : Nat}

/-- A call is journalled, and stays so behind the grants of its event. -/
theorem State.callFrame_journalled (hs : s.formed = true) (c : CallCause) :
    (s.callFrame f c).journalled .doffCalled f 0 [w32 c.code, w32 (s.frame f).buildM] := by
  have hbuild : ((s.called f c).frame f).buildM = (s.frame f).buildM := by rw [State.called_frame_same hs]
  rw [State.callFrame_eq, hbuild]
  exact State.journalled_of_grows (State.Grows.doffArbiter _) (by omega)

/-- A frame placed by its build and the compare values in force. -/
theorem placeByBuild_effect (hs : s.formed = true) :
    let x := s.frame f
    let r := s.roller f
    let u := s.placeByBuild f .plan
    (r.doffValue ≤ 1000 * x.buildM → u.journalled .doffCalled f 0 [4#32, w32 x.buildM] ∧
      (((u.frame f).state = .called ∧ (u.frame f).callCause = some .plan) ∨
        ((u.frame f).state = .draining ∧ (u.frame f).slot ≠ none))) ∧
    (1000 * x.buildM < r.doffValue →
      u.frame f = { x with state := if r.nearingValue ≤ 1000 * x.buildM then .nearing else .building } ∧
      ∀ g, g ≠ f → u.frame g = s.frame g) := by
  intro x r u
  have hu : u = s.placeAt f (1000 * x.buildM) .plan := rfl
  refine ⟨fun hle => ?_, fun hlt => ?_⟩
  · rw [hu, State.placeAt_called hs _ hle]
    obtain ⟨_, _, _, hstate⟩ := State.callFrame_called (f := f) hs .plan
    exact ⟨State.callFrame_journalled hs .plan, hstate⟩
  · have hnot : ¬r.doffValue ≤ 1000 * x.buildM := by omega
    rw [hu]
    refine ⟨State.placeAt_frame hs _ hnot, fun g hg => ?_⟩
    have hplace : s.placeAt f (1000 * x.buildM) .plan = _ := if_neg hnot
    rw [hplace, State.enterState_frame_other _ _ _ hg]

/-- A LOT_HOLD section of a frame whose lot changes. -/
theorem lotRequeue_effect (hs : s.formed = true) (k : Nat) :
    let x := s.creel k
    let u := s.lotRequeue k
    (x.state ≠ .lotHold → u = s) ∧
    (x.state = .lotHold →
      (s.roving.queue.length < 32 → u.creel k = { x with state := .queued, queueStamp := some s.clock } ∧
        k ∈ u.roving.queue) ∧
      (32 ≤ s.roving.queue.length → u.creel k = { x with state := .low } ∧ u.roving.queue = s.roving.queue) ∧
      ∀ e, e ≠ k → u.creel e = s.creel e) := by
  intro x u
  refine ⟨fun h => if_neg h, fun h => ?_⟩
  have hu : u = if s.queueRoom then s.queueByStamp k s.clock else s.setCreel k { x with state := .low } := if_pos h
  by_cases hroom : s.roving.queue.length < 32
  · have hqueued : u = s.queueByStamp k s.clock := hu.trans (if_pos (decide_eq_true hroom))
    rw [hqueued]
    refine ⟨fun _ => ⟨State.queueByStamp_creel_same hs _, State.mem_queueByStamp k _⟩, fun hfull => ?_,
      fun e he => State.queueByStamp_creel_other he _⟩
    exact absurd hroom (by omega)
  · have hlow : u = s.setCreel k { x with state := .low } :=
      hu.trans (if_neg fun h => hroom (of_decide_eq_true h))
    rw [hlow]
    exact ⟨fun h => absurd h hroom, fun _ => ⟨State.setCreel_formed_same _ _ _ hs, State.setCreel_roving_queue ..⟩,
      fun e he => State.setCreel_other _ _ _ _ he⟩

/-! ### The report and the header (R158) -/

/-- Only what waits to be written goes on. -/
def State.WriterOnly (s t : State) : Prop := t = { s with writer := t.writer }

theorem State.WriterOnly.trans {t u : State} (h : s.WriterOnly t) (k : t.WriterOnly u) : s.WriterOnly u :=
  Eq.trans k (by rw [State.WriterOnly] at h; rw [h])

theorem State.enterJournal_writerOnly (e : JournalEntry) (s : State) : s.WriterOnly (s.enterJournal e) := by
  unfold State.WriterOnly State.enterJournal State.pend
  split <;> rfl

theorem State.switchReport_writerOnly (s : State) (left : Option Plan) (old : Settings) (cause : Option PageCause) :
    s.WriterOnly (s.switchReport left old cause) :=
  State.WriterOnly.trans (t := s.markItem .header) (State.markItem_eq _ s) (State.enterJournal_writerOnly ..)

end

end Sys2Proof.Machine
end

section
/-! PROOFS. A plan switch takes effect (R155, R156, R158). -/

namespace Sys2Proof.Machine

section
variable {s : State}

theorem planWords_heads (p : Option Plan) :
    (planWords p).headD 0#32 = (match p with
      | some x => if x.copy = .p then 1#32 else 2#32
      | none => 0#32) ∧
    (planWords p).getD 1 0#32 = match p with
      | some x => x.id
      | none => 0#32 := by
  cases p with
  | none => exact ⟨rfl, rfl⟩
  | some x => exact ⟨by cases hcopy : x.copy <;> simp [planWords, hcopy, PlanCopy.code, w32], rfl⟩

theorem frameBits_framesOnlyIn (t r : Settings) : frameBits (framesOnlyIn t r) =
    ((List.range' 1 8).filter fun f => (t.frame f).inPlan && !(r.frame f).inPlan).foldl (fun a f => a + 2 ^ (f - 1)) 0 := by
  rw [framesOnlyIn, allFrames_eq]
  rfl

/-- The boundary of any cause: the captures, the page, and then the pending switch. -/
theorem planBoundary_effect (cause : PageCause) (hn : (s.desk.book.map BookEntry.cell).Nodup) {q : PendingPlan}
    (hq : s.plan.pending = some q) :
    let u := s.planBoundary cause
    let t := q.plan.settings
    let fits := ((List.range' 1 8).filter fun f => (s.frame f).slot.isSome).length ≤ t.doffSlots
    let refused (l : List Word) : Prop :=
      u.plan = { s.plan with pending := none } ∧ .header ∈ u.writer.queue ∧
      u = { s with plan := u.plan, desk := u.desk, writer := u.writer } ∧ u.writer.pending = s.writer.pending ∧
      (∀ e, .journal e ∈ u.writer.queue → .journal e ∈ s.writer.queue) ∧
      ∀ b, b ∈ s.desk.book → b.kind = .planSwitch → u.finished b.cell (some .invalid) l
    (∀ f, 1 ≤ f → f ≤ 8 → ¬s.Stays t f → (∀ g, 1 ≤ g → g < f → s.Stays t g) →
      refused [6#32, w32 f, if (t.frame f).inPlan = (s.frameSettings f).inPlan then 2#32 else 1#32]) ∧
    ((∀ f, 1 ≤ f → f ≤ 8 → s.Stays t f) → ¬fits → refused [7#32, 0#32, 13#32]) ∧
    ((∀ f, 1 ≤ f → f ≤ 8 → s.Stays t f) → fits →
      let words := switchWords q.plan s.clock (some cause)
      u = (s.applySwitch q.plan (some cause)).finishBook isSwitch none words ∧
      u.plan = { s.plan with active := some q.plan, pending := none } ∧
      ∀ b, b ∈ s.desk.book → b.kind = .planSwitch → u.finished b.cell none words) := by
  intro u t fits refused
  obtain ⟨hfirst, hslots⟩ := s.momentFault_cases t
  refine ⟨fun f hlo hhi hno hbefore => ?_, fun hall hfits => ?_, fun hall hfits => ?_⟩
  · have hrefused := planBoundary_refused (cause := cause) hq (hfirst f ⟨hlo, hhi⟩ hno hbefore)
    have hwords : PlanFault.toWords ⟨6, f, if (t.frame f).inPlan = (s.frameSettings f).inPlan then 2 else 1⟩ =
        [6#32, w32 f, if (t.frame f).inPlan = (s.frameSettings f).inPlan then 2#32 else 1#32] := by
      split <;> rfl
    rw [hwords] at hrefused
    exact hrefused
  · have hfault := (hslots hall).trans (if_pos (Nat.lt_of_not_le hfits))
    exact planBoundary_refused hq hfault
  · have hvalid := (hslots hall).trans (if_neg (Nat.not_lt.mpr hfits))
    exact ⟨State.planBoundary_of_valid hq hvalid, planBoundary_takes hn hq hvalid⟩

/-- The stages of a switch in their order, and what they leave alone. -/
theorem applySwitch_effect (s : State) (p : Plan) (cause : Option PageCause) :
    let old := s.settings
    let v := (State.takeHomes { s with plan := { s.plan with active := some p, pending := none } }).switchFrames old
    let w := v.switchCompare
    let x := if old.doffSlots < w.settings.doffSlots then w.doffArbiter else w
    let u := s.applySwitch p cause
    u = ((x.switchRoving old).switchShift old cause).switchReport s.plan.active old cause ∧
    u.plan = { s.plan with active := some p, pending := none } ∧ w.settings = p.settings ∧ u.clock = s.clock ∧
    u.rogue = s.rogue := by
  intro old v w x u
  have hcompare : (s.underPlan p).Works w := State.switchCompare_works (State.switchFrames_works s.settings
    (State.takeHomes_works State.Works.refl))
  refine ⟨rfl, State.applySwitch_plan s p cause, hcompare.settings, ?_, (s.applySwitch_samePages p cause).rogue⟩
  exact State.clock_of_fixed (State.applySwitch_fixed p cause s)

/-- The header and the entry of a switch (11.2.3). -/
theorem switchReport_effect (s : State) (left : Option Plan) (old : Settings) (cause : Option PageCause) :
    let u := s.switchReport left old cause
    .header ∈ u.writer.queue ∧
    u.journalled .planSwitched 0 0 [(planWords left).headD 0#32, (planWords s.plan.active).headD 0#32,
      (planWords left).getD 1 0#32, (planWords s.plan.active).getD 1 0#32, switchedHalves cause,
      w32 (frameBits (framesOnlyIn s.settings old) + 256 * frameBits (framesOnlyIn old s.settings))] ∧
    u = { s with writer := u.writer } := by
  refine ⟨?_, State.journal_journalled .planSwitched 0 0 _ _, State.switchReport_writerOnly s left old cause⟩
  exact (State.journal_works .planSwitched 0 0 _ State.Works.refl).queue _ rfl (State.mem_markItem.mpr (.inr rfl))

end

/-- Settles O46: the boundary, the stages of a switch in order, and each stage. -/
theorem switchesTakeEffect : Obligations.SwitchesTakeEffect := by
  unfold Obligations.SwitchesTakeEffect
  refine ⟨fun s cause _ hn => ⟨rfl, State.planBoundary_of_none cause, fun q hq => ?_⟩, applySwitch_effect,
    fun s hs => ⟨fun p hlo hhi => State.takeHomes_piecer hs ⟨hlo, hhi⟩, s.takeHomes_piecersOnly⟩, fun s old => ?_,
    fun s f hs _ _ _ => placeByBuild_effect hs, fun s k hs => lotRequeue_effect hs k, fun s left old cause _ => ?_,
    fun s => ⟨fun h => if_neg (Nat.not_lt.mpr h), s.freeSlot_eq_some⟩⟩
  · have heffect := planBoundary_effect cause hn hq
    rw [switchWords_boundary] at heffect
    exact heffect
  · exact ⟨s.switchFrames_eq old, s.switchCompare_eq, s.switchRoving_eq old, s.switchShift_cases old⟩
  · intro new bits copy id mode halves u
    have hbits (t r : Settings) : bits t r = frameBits (framesOnlyIn t r) := (frameBits_framesOnlyIn t r).symm
    have hcopy (p : Option Plan) : copy p = (planWords p).headD 0#32 := (planWords_heads p).1.symm
    have hid (p : Option Plan) : id p = (planWords p).getD 1 0#32 := (planWords_heads p).2.symm
    have hhalves : halves = switchedHalves cause := by cases cause <;> rfl
    rw [hbits, hbits, hcopy, hcopy, hid, hid, hhalves]
    exact switchReport_effect s left old cause

end Sys2Proof.Machine
end

section
/-! PROOFS. A section leaves the plan (R22, R125, R159). -/

namespace Sys2Proof.Machine

/-! ### Commands handed and commands kept (R191) -/

section
variable {u : Unit} {c d : Cmd} {w : Word}

/-- A unit that is there, or has been lost. -/
def Unit.Known (u : Unit) : Prop := u.presence = .present ∨ u.presence = .lost

/-- A unit that has the command, or has been lost. -/
def Unit.Holds (u : Unit) (d : Cmd) : Prop := d ∈ u.queue ∨ u.presence = .lost

theorem Unit.queue_split (u : Unit) : u.inFlight ++ u.unsent = u.queue := by
  unfold Unit.inFlight Unit.unsent
  split
  · exact List.take_append_drop 1 u.queue
  · rfl

/-- What a hand-over comes to: nothing, a loss, or the command at the tail of what it does not make pointless. -/
theorem Unit.handed_cases (u : Unit) (c : Cmd) (w : Word) : (u.handed c w = u ∧ (u.presence = .present → c = .status)) ∨
    (u.handed c w).presence = .lost ∨ ((u.handed c w).presence = u.presence ∧
      (u.handed c w).queue = (u.inFlight ++ u.unsent.filter fun o => !c.supersedes o) ++ [c]) := by
  unfold Unit.handed
  dsimp only
  split
  · next h => exact .inl ⟨rfl, fun hp => (h.resolve_left (not_not.mpr hp)).1⟩
  · split
    · exact .inr (.inl rfl)
    · exact .inr (.inr ⟨rfl, rfl⟩)

theorem Unit.handed_known (h : u.Known) : (u.handed c w).Known := by
  obtain ⟨hsame, _⟩ | hlost | ⟨hpresence, _⟩ := u.handed_cases c w
  · rwa [hsame]
  · exact .inr hlost
  · unfold Unit.Known
    rwa [hpresence]

theorem Unit.handed_holds (hc : c ≠ .status) (h : u.Known) : (u.handed c w).Holds c := by
  obtain ⟨hsame, hstatus⟩ | hlost | ⟨_, hqueue⟩ := u.handed_cases c w
  · rw [hsame]
    exact .inr (h.resolve_left fun hp => hc (hstatus hp))
  · exact .inr hlost
  · refine .inl ?_
    rw [hqueue]
    exact List.mem_append_right _ (List.mem_singleton_self c)

theorem Unit.handed_keeps_holds (hc : c.supersedes d = false) (h : u.Holds d) : (u.handed c w).Holds d := by
  have hlostStays (hl : u.presence = .lost) : (u.handed c w).presence = .lost := by
    unfold Unit.handed
    dsimp only
    rw [if_pos (.inl (by rw [hl]; nofun)), hl]
  obtain ⟨hsame, _⟩ | hlost | ⟨_, hqueue⟩ := u.handed_cases c w
  · rwa [hsame]
  · exact .inr hlost
  · obtain hmem | hl := h
    · refine .inl ?_
      rw [← u.queue_split, List.mem_append] at hmem
      rw [hqueue]
      refine List.mem_append_left _ (List.mem_append.mpr (hmem.imp_right fun hm => ?_))
      exact List.mem_filter.mpr ⟨hm, by simp [hc]⟩
    · exact .inr (hlostStays hl)

end

/-! ### Orders that end, and orders that wait -/

section
variable {s t : State} {b : BookEntry} {r : Option Reason} {w : List Word}

/-- An order in a book of distinct cells. -/
def State.Booked (b : BookEntry) (s : State) : Prop := (s.desk.book.map BookEntry.cell).Nodup ∧ b ∈ s.desk.book

/-- An order that has been answered, and has left the book. -/
def State.OrderEnded (b : BookEntry) (r : Option Reason) (w : List Word) (s : State) : Prop :=
  s.finished b.cell r w ∧ ∀ e ∈ s.desk.book, e.cell ≠ b.cell

theorem State.Booked.of_board (h : s.Booked b) (hboard : t.board = s.board) : t.Booked b := by
  unfold State.Booked
  rw [State.desk_of_board hboard]
  exact h

theorem State.OrderEnded.of_board (h : s.OrderEnded b r w) (hboard : t.board = s.board) : t.OrderEnded b r w := by
  refine ⟨State.finished_of_board hboard h.1, ?_⟩
  rw [State.desk_of_board hboard]
  exact h.2

theorem State.Booked.finishBook_other {sel : BookEntry → Bool} (h : s.Booked b) (hsel : sel b = false)
    (r : Option Reason)
    (w : List Word) : (s.finishBook sel r w).Booked b :=
  ⟨h.1.sublist ((State.finishBook_book_sublist sel r w).map _), State.mem_finishBook_of_not_picked h.1 h.2 hsel⟩

theorem State.Booked.finishBook_ends {sel : BookEntry → Bool} (h : s.Booked b) (hsel : sel b = true) :
    (s.finishBook sel r w).OrderEnded b r w :=
  ⟨State.finishBook_finished h.2 hsel, fun _ he => (State.mem_finishBook_book.mp he).2 b h.2 hsel⟩

theorem State.OrderEnded.finish_other (h : s.OrderEnded b r w) {c : Nat} (hc : b.cell ≠ c) (r' : Option Reason)
    (w' : List Word) :
    (s.finish c r' w').OrderEnded b r w := by
  refine ⟨State.finish_finished_other h.1 hc r' w', fun e he => ?_⟩
  rw [State.finish_book] at he
  exact h.2 e (List.mem_filter.mp he).1

theorem State.OrderEnded.finishBook (h : s.OrderEnded b r w) (sel : BookEntry → Bool) (r' : Option Reason)
    (w' : List Word) :
    (s.finishBook sel r' w').OrderEnded b r w := by
  have hcells : ∀ c ∈ (s.desk.book.filter sel).map BookEntry.cell, b.cell ≠ c := by
    intro c hc
    obtain ⟨e, he, rfl⟩ := List.mem_map.mp hc
    exact fun heq => h.2 e (List.mem_filter.mp he).1 heq.symm
  unfold State.finishBook
  generalize (s.desk.book.filter sel).map BookEntry.cell = cells at hcells
  induction cells generalizing s with
  | nil => exact h
  | cons c cells ih =>
    exact ih (h.finish_other (hcells c List.mem_cons_self) r' w') fun e he => hcells e (List.mem_cons_of_mem c he)

end

/-! ### What the leaving of a section keeps -/

section
variable {s : State} {f k c : Nat}

theorem State.carrierReleases_keeps {β : Type} (P : State → β) (hcreel : ∀ e x t, P (State.setCreel e x t) = P t)
    (hpiecer : ∀ p y (t : State), P (State.setPiecer p { t.piecer p with state := .attempting, attempt := y } t) = P t)
    (hhand : ∀ p x t, P (State.hand (piecerAddr p) (.resume x) t) = P t) : P (s.carrierReleases c k) = P s := by
  unfold State.carrierReleases
  dsimp only
  split
  · split
    · next p _ =>
      have hset := hpiecer p ((s.piecer p).attempt.runOn)
        (s.setCreel k { s.creel k with lock := .piecer p, waiting := .none })
      rw [State.setCreel_piecer] at hset
      split
      · rw [hhand, hset, hcreel]
      · rw [hset, hcreel]
    all_goals exact hcreel ..
  · rfl

theorem State.sendBack_keeps {β : Type} (P : State → β) (hcarrier : ∀ e x t, P (State.setCarrier e x t) = P t)
    (hhand : ∀ t, P (State.hand (carrierAddr c) .ret t) = P t) : P (s.sendBack c) = P s := by
  unfold State.sendBack
  rw [hhand, hcarrier]

/-- The carrier that served a section on its way back, the lock let go (R115, R120). -/
def State.sentHome (o : Option Nat) (k : Nat) (s : State) : State :=
  match o with
  | some c => (s.carrierReleases c k).sendBack c
  | none => s

/-- A section's record before it is cleared. -/
def State.creelLeft (k : Nat) (s : State) : State :=
  ((s.leaveQueue k).sentHome (s.creel k).carrier k).finishBook
    (orderOnSection .creelChange (creelFrame k) (creelIndex k)) (some .notPresent) []

theorem State.creelOut_eq : s.creelOut k = (s.creelLeft k).setCreel k Creel.reset := rfl

theorem State.sectionOut_eq : s.sectionOut f k =
    ((s.dropCheck f k).setStrip (creelNo f k) Strip.reset).creelOut (creelNo f k) := rfl

theorem State.dropCheck_of_none (h : (s.strip (creelNo f k)).check = none) : s.dropCheck f k = s := by
  unfold State.dropCheck
  rw [h]

/-- What neither strips, the journal nor the book hold. -/
theorem State.dropCheck_keeps {β : Type} (P : State → β) (hstrip : ∀ e x t, P (State.setStrip e x t) = P t)
    (hjournal : ∀ j f n l t, P (State.journal j f n l t) = P t)
    (hbook : ∀ f n w t, P (State.finishBook (orderOnSection .selfCheck f n) none w t) = P t) :
    P (s.dropCheck f k) = P s := by
  by_cases h : (s.strip (creelNo f k)).check = none
  · rw [State.dropCheck_of_none h]
  · rw [State.dropCheck_eq h, State.checkReport, hbook, hjournal, hstrip]

/-- The operations on the records that a leaving section uses leave it alone. -/
structure KeptOut {β : Type} (P : State → β) : Prop where
  queue : ∀ q t, P { t with roving.queue := q } = P t
  owe : ∀ t, P (State.oweRefill t) = P t
  piecer : ∀ p y (t : State), P (State.setPiecer p { t.piecer p with state := .attempting, attempt := y } t) = P t
  resume : ∀ p x t, P (State.hand (piecerAddr p) (.resume x) t) = P t
  carrier : ∀ e x t, P (State.setCarrier e x t) = P t
  ret : ∀ e t, P (State.hand (carrierAddr e) .ret t) = P t
  book : ∀ k f n r w t, P (State.finishBook (orderOnSection k f n) r w t) = P t
  journal : ∀ j f n l t, P (State.journal j f n l t) = P t

theorem State.creelLeft_keeps {β : Type} {P : State → β} (h : KeptOut P)
    (hcreel : ∀ e x t, P (State.setCreel e x t) = P t) :
    P (s.creelLeft k) = P s := by
  rw [State.creelLeft, h.book]
  refine Eq.trans ?_ (State.leaveQueue_keeps (k := k) P h.queue h.owe)
  unfold State.sentHome
  split
  · rw [State.sendBack_keeps P h.carrier (h.ret _), State.carrierReleases_keeps P hcreel h.piecer h.resume]
  · rfl

theorem State.sectionOut_keeps {β : Type} {P : State → β} (h : KeptOut P)
    (hcreel : ∀ e x t, P (State.setCreel e x t) = P t)
    (hstrip : ∀ e x t, P (State.setStrip e x t) = P t) : P (s.sectionOut f k) = P s := by
  rw [State.sectionOut_eq, State.creelOut_eq, hcreel, State.creelLeft_keeps h hcreel, hstrip,
    State.dropCheck_keeps P hstrip h.journal fun f n w t => h.book .selfCheck f n none w t]

end

end Sys2Proof.Machine
end

section
/-! PROOFS. The records of a section that leaves the plan (R22, R120, R125, R159). -/

namespace Sys2Proof.Machine

/-- The tables that a leaving section does not touch. -/
def State.beside (s : State) := (s.frames, s.output, s.watch.spindles, s.watch.sweeps, s.disp.sides, s.roving.feeds,
    s.rogue,
  s.plan, s.clock)

theorem State.fields_of_beside {s t : State} (h : t.beside = s.beside) : t.frames = s.frames ∧ t.output = s.output ∧
    t.watch.spindles = s.watch.spindles ∧ t.watch.sweeps = s.watch.sweeps ∧ t.disp.sides = s.disp.sides ∧
    t.roving.feeds = s.roving.feeds ∧ t.rogue = s.rogue ∧ t.plan = s.plan ∧ t.clock = s.clock := by
  simpa only [State.beside, Prod.mk.injEq] using h

theorem KeptOut.beside : KeptOut State.beside :=
  ⟨fun _ _ => rfl, fun _ => rfl, by simp [State.beside], by simp [State.beside], by simp [State.beside],
    by simp [State.beside], by simp [State.beside], by simp [State.beside]⟩

section
variable {s t : State} {f k c e : Nat}

theorem State.sectionOut_beside : (s.sectionOut f k).beside = s.beside :=
  State.sectionOut_keeps KeptOut.beside (by simp [State.beside]) (by simp [State.beside])

/-- A carrier's record once it is sent back, and what it has loaded. -/
structure Carrier.SentBack (timeout : Nat) (x y : Carrier) : Prop where
  state : y.state = .returning
  creel : y.creel = none
  lotSent : y.lotSent = none
  change : y.change = ⟨false, 0⟩
  back : y.back = ⟨true, 1000 * timeout⟩
  lotLoaded : y.lotLoaded = x.lotLoaded

/-! ### The carrier that served the section -/

theorem State.sentHome_formed (hs : s.formed = true) (o : Option Nat) : (s.sentHome o k).formed = true := by
  unfold State.sentHome
  split
  · exact State.sendBack_formed _ _ (State.carrierReleases_formed _ _ _ hs)
  · exact hs

/-- What the piecers, the carriers and the units do not hold. -/
theorem State.sentHome_keeps {β : Type} (P : State → β) (hcreel : ∀ e x t, P (State.setCreel e x t) = P t)
    (hpiecer : ∀ p x t, P (State.setPiecer p x t) = P t) (hcarrier : ∀ e x t, P (State.setCarrier e x t) = P t)
    (hhand : ∀ a x t, P (State.hand a x t) = P t) (o : Option Nat) : P (s.sentHome o k) = P s := by
  unfold State.sentHome
  split
  · rw [State.sendBack_keeps P hcarrier fun _ => hhand .., State.carrierReleases_keeps P hcreel
      (fun _ _ _ => hpiecer ..) fun _ _ _ => hhand ..]
  · rfl

theorem State.sentHome_creel_other (o : Option Nat) (h : e ≠ k) : (s.sentHome o k).creel e = s.creel e := by
  unfold State.sentHome
  split
  · rw [State.sendBack_keeps (fun t => t.creel e) (by simp) (by simp), State.carrierReleases_creel_other _ _ _ h]
  · rfl

theorem State.sentHome_carrier_other {o : Option Nat} (h : o ≠ some c) : (s.sentHome o k).carrier c = s.carrier c := by
  unfold State.sentHome
  split
  · next d =>
    have hne : c ≠ d := fun he => h (by rw [he])
    rw [State.sendBack, State.hand_carrier, State.setCarrier_other _ _ _ _ hne, State.carrierReleases_carrier]
  · rfl

theorem State.sentHome_carrier_same (hs : s.formed = true) (c : Nat) :
    Carrier.SentBack s.settings.changeTimeout (s.carrier c) ((s.sentHome (some c) k).carrier c) := by
  have hreleased := State.carrierReleases_formed c k s hs
  have hsettings : (s.carrierReleases c k).settings = s.settings :=
    State.settings_of_plan (State.carrierReleases_plan c k s)
  have hcarrier := State.setCarrier_formed_fields c { (s.carrierReleases c k).carrier c with
    state := .returning, creel := none, lotSent := none, change := Timer.off
    back := Timer.load (1000 * (s.carrierReleases c k).settings.changeTimeout) } (s.carrierReleases c k) hreleased
  unfold State.sentHome State.sendBack
  dsimp only
  rw [State.hand_carrier, hcarrier, State.carrierReleases_carrier, hsettings]
  exact ⟨rfl, rfl, rfl, rfl, rfl, rfl⟩

/-- A carrier lets a lock go: the waiting piecer's unit may be handed RESUME, no other unit is handed anything. -/
theorem State.carrierReleases_unit (hs : s.formed = true) (a : Nat) : (s.carrierReleases c k).unit a = s.unit a ∨
    ∃ x, (s.carrierReleases c k).unit a = (s.unit a).handed (.resume x) s.clock := by
  unfold State.carrierReleases
  dsimp only
  split
  · split
    · next p _ =>
      have hset : (((s.setCreel k { s.creel k with lock := .piecer p, waiting := .none }).setPiecer p
          { s.piecer p with state := .attempting, attempt := (s.piecer p).attempt.runOn }).unit a) = s.unit a := by simp
      split
      · next x _ =>
        obtain rfl | hne := eq_or_ne a (piecerAddr p)
        · refine .inr ⟨x, ?_⟩
          rw [State.hand_unit_same (State.setPiecer_formed _ _ _ (State.setCreel_formed _ _ _ hs)), hset]
          simp
        · rw [State.hand_unit_other hne, hset]
          exact .inl rfl
      · exact .inl hset
    all_goals exact .inl (by simp)
  · exact .inl rfl

/-- What holds of a unit through the hand-overs RESUME and RETURN holds of it still. -/
theorem State.sentHome_unit {Q : Unit → Prop} (hresume : ∀ u x w, Q u → Q (u.handed (.resume x) w))
    (hret : ∀ u w, Q u → Q (u.handed .ret w)) (hs : s.formed = true) {a : Nat} (h : Q (s.unit a)) (o : Option Nat) :
    Q ((s.sentHome o k).unit a) := by
  unfold State.sentHome
  split
  · next d =>
    have hreleased : Q ((s.carrierReleases d k).unit a) := by
      obtain hsame | ⟨x, hhanded⟩ := State.carrierReleases_unit (c := d) (k := k) hs a
      · rwa [hsame]
      · rw [hhanded]
        exact hresume _ x _ h
    have hset := State.setCarrier_unit d { (s.carrierReleases d k).carrier d with
      state := .returning, creel := none, lotSent := none, change := Timer.off
      back := Timer.load (1000 * (s.carrierReleases d k).settings.changeTimeout) } (s.carrierReleases d k) a
    unfold State.sendBack
    obtain rfl | hne := eq_or_ne a (carrierAddr d)
    · rw [State.hand_unit_same (State.setCarrier_formed _ _ _ (State.carrierReleases_formed _ _ _ hs)), hset]
      exact hret _ _ hreleased
    · rw [State.hand_unit_other hne, hset]
      exact hreleased
  · exact h

/-- The carrier's unit has RETURN, or has been lost. -/
theorem State.sentHome_ret (hs : s.formed = true) (h : (s.unit (carrierAddr c)).Known) :
    ((s.sentHome (some c) k).unit (carrierAddr c)).Holds .ret := by
  have hreleased := State.carrierReleases_formed c k s hs
  have hknown : ((s.carrierReleases c k).unit (carrierAddr c)).Known := by
    obtain hsame | ⟨x, hhanded⟩ := State.carrierReleases_unit (c := c) (k := k) hs (carrierAddr c)
    · rwa [hsame]
    · rw [hhanded]
      exact Unit.handed_known h
  unfold State.sentHome State.sendBack
  dsimp only
  rw [State.hand_unit_same (State.setCarrier_formed _ _ _ hreleased), State.setCarrier_unit]
  exact Unit.handed_holds nofun hknown

theorem State.carrierReleases_placement (hs : s.formed = true) (p : Nat) :
    ((s.carrierReleases c k).piecer p).placement = (s.piecer p).placement := by
  unfold State.carrierReleases
  dsimp only
  split
  · split
    · next q _ =>
      have hset : (((s.setCreel k { s.creel k with lock := .piecer q, waiting := .none }).setPiecer q
          { s.piecer q with state := .attempting, attempt := (s.piecer q).attempt.runOn }).piecer p).placement =
          (s.piecer p).placement := by
        obtain rfl | hne := eq_or_ne p q
        · rw [State.setPiecer_formed_same _ _ _ (State.setCreel_formed _ _ _ hs)]
        · rw [State.setPiecer_other _ _ _ _ hne, State.setCreel_piecer]
      split
      · rw [State.hand_piecer, hset]
      · exact hset
    all_goals simp
  · rfl

theorem State.sentHome_placement (hs : s.formed = true) (o : Option Nat) (p : Nat) :
    ((s.sentHome o k).piecer p).placement = (s.piecer p).placement := by
  unfold State.sentHome
  split
  · rw [State.sendBack_keeps (fun t => (t.piecer p).placement) (by simp) (by simp), State.carrierReleases_placement hs]
  · rfl

theorem State.hand_refill (a : Nat) (x : Cmd) (s : State) : (s.hand a x).work.refill = s.work.refill := by
  unfold State.hand State.loseUnit State.journalLost
  dsimp only
  (repeat' split) <;> simp

theorem State.sentHome_refill (o : Option Nat) : (s.sentHome o k).work.refill = s.work.refill :=
  State.sentHome_keeps (fun t => t.work.refill) (by simp) (by simp) (by simp) State.hand_refill o

theorem State.sentHome_board (o : Option Nat) : (s.sentHome o k).board = s.board :=
  State.sentHome_keeps State.board (by simp) (by simp) (by simp) (by simp) o

end

end Sys2Proof.Machine
end

section
/-! PROOFS. One section leaves the plan (R22, R125, R159). -/

namespace Sys2Proof.Machine

section
variable {s t : State} {f k c e : Nat}

/-- A section and its strip before the section's record is cleared. -/
def State.stripLeft (f k : Nat) (s : State) : State := (s.dropCheck f k).setStrip (creelNo f k) Strip.reset

theorem State.sectionOut_left : s.sectionOut f k =
    ((s.stripLeft f k).creelLeft (creelNo f k)).setCreel (creelNo f k) Creel.reset := rfl

theorem State.stripLeft_keeps {β : Type} (P : State → β) (hstrip : ∀ e x t, P (State.setStrip e x t) = P t)
    (hjournal : ∀ j f n l t, P (State.journal j f n l t) = P t)
    (hbook : ∀ f n w t, P (State.finishBook (orderOnSection .selfCheck f n) none w t) = P t) :
    P (s.stripLeft f k) = P s := by
  rw [State.stripLeft, hstrip, State.dropCheck_keeps P hstrip hjournal hbook]

/-- The queue, the notes of work owed, the creels and the units stand while a section's strip is cleared. -/
theorem State.stripLeft_stands : (s.stripLeft f k).roving = s.roving ∧ (s.stripLeft f k).work = s.work ∧
    (s.stripLeft f k).link = s.link ∧ (s.stripLeft f k).disp = s.disp ∧ (s.stripLeft f k).plan = s.plan :=
  ⟨State.stripLeft_keeps State.roving (by simp) (by simp) (by simp),
    State.stripLeft_keeps State.work (by simp) (by simp) (by simp),
    State.stripLeft_keeps State.link (by simp) (by simp) (by simp),
      State.stripLeft_keeps State.disp (by simp) (by simp) (by simp),
    State.stripLeft_keeps State.plan (by simp) (by simp) (by simp)⟩

theorem State.stripLeft_creel (e : Nat) : (s.stripLeft f k).creel e = s.creel e :=
  State.stripLeft_keeps (fun t => t.creel e) (by simp) (by simp) (by simp)

/-! ### Creels and strips -/

theorem State.creelLeft_creel_other (h : e ≠ k) : (s.creelLeft k).creel e = s.creel e := by
  rw [State.creelLeft, State.finishBook_creel, State.sentHome_creel_other _ h, State.leaveQueue_creel]

theorem State.sectionOut_creel_other (h : e ≠ creelNo f k) : (s.sectionOut f k).creel e = s.creel e := by
  rw [State.sectionOut_left, State.setCreel_other _ _ _ _ h, State.creelLeft_creel_other h, State.stripLeft_creel]

theorem State.creelLeft_strip (e : Nat) : (s.creelLeft k).strip e = s.strip e := by
  rw [State.creelLeft, State.finishBook_strip,
    State.sentHome_keeps (fun t => t.strip e) (by simp) (by simp) (by simp) (by simp)]
  exact State.leaveQueue_keeps (fun t => t.strip e) (fun _ _ => rfl) fun _ => rfl

theorem State.sectionOut_strip_eq (e : Nat) : (s.sectionOut f k).strip e = (s.stripLeft f k).strip e := by
  rw [State.sectionOut_left, State.setCreel_strip, State.creelLeft_strip]

theorem State.dropCheck_strip_other (h : e ≠ creelNo f k) : (s.dropCheck f k).strip e = s.strip e := by
  by_cases hcheck : (s.strip (creelNo f k)).check = none
  · rw [State.dropCheck_of_none hcheck]
  · rw [State.dropCheck_eq hcheck, State.checkReport, State.finishBook_strip, State.journal_strip,
      State.setStrip_other _ _ _ _ h]

theorem State.sectionOut_strip_other (h : e ≠ creelNo f k) : (s.sectionOut f k).strip e = s.strip e := by
  rw [State.sectionOut_strip_eq, State.stripLeft, State.setStrip_other _ _ _ _ h, State.dropCheck_strip_other h]

/-! ### The queue -/

theorem State.creelLeft_queue : (s.creelLeft k).roving.queue = s.roving.queue.filter fun x => x != k := by
  rw [State.creelLeft, State.finishBook_roving,
    State.sentHome_keeps (fun t => t.roving.queue) (by simp) (by simp) (by simp) (by simp), State.leaveQueue_queue]

theorem State.sectionOut_queue : (s.sectionOut f k).roving.queue = s.roving.queue.filter fun x => x != creelNo f k := by
  obtain ⟨hroving, _⟩ := State.stripLeft_stands (s := s) (f := f) (k := k)
  rw [State.sectionOut_left, State.setCreel_roving_queue, State.creelLeft_queue, hroving]

/-- A refill is owed when the section waited, and stays owed. -/
theorem State.sectionOut_refill (h : s.work.refill = true ∨ creelNo f k ∈ s.roving.queue) :
    (s.sectionOut f k).work.refill = true := by
  obtain ⟨hroving, hwork, _⟩ := State.stripLeft_stands (s := s) (f := f) (k := k)
  rw [State.sectionOut_left, State.setCreel_work, State.creelLeft, State.finishBook_work, State.sentHome_refill,
    State.leaveQueue, hroving]
  split
  · rfl
  · next hout => exact hwork ▸ h.resolve_right hout

section
variable (hs : s.formed = true)
include hs

theorem State.stripLeft_formed : (s.stripLeft f k).formed = true :=
  State.setStrip_formed _ _ _ (State.dropCheck_formed _ _ _ hs)

theorem State.creelLeft_formed : (s.creelLeft k).formed = true :=
  State.finishBook_formed _ _ _ _ (State.sentHome_formed (State.leaveQueue_formed _ _ hs) _)

theorem State.sectionOut_creel_same : (s.sectionOut f k).creel (creelNo f k) = ⟨0, .fed, none, none, .none, .none,
    false, none⟩ := by
  rw [State.sectionOut_left, State.setCreel_formed_same _ _ _ (State.creelLeft_formed (State.stripLeft_formed hs))]
  rfl

theorem State.sectionOut_strip_same : (s.sectionOut f k).strip (creelNo f k) = ⟨false, 0, 0, none⟩ := by
  rw [State.sectionOut_strip_eq, State.stripLeft, State.setStrip_formed_same _ _ _ (State.dropCheck_formed _ _ _ hs)]
  rfl

/-! ### Carriers, units and piecers -/

/-- The state in which the section's carrier is sent home. -/
theorem State.creelLeft_carrier (c : Nat) :
    ((s.creel k).carrier = some c → Carrier.SentBack s.settings.changeTimeout (s.carrier c) ((s.creelLeft k).carrier c)) ∧
    ((s.creel k).carrier ≠ some c → (s.creelLeft k).carrier c = s.carrier c) := by
  have hqueue := State.leaveQueue_formed k s hs
  have hcarrier : (s.leaveQueue k).carrier c = s.carrier c :=
    State.leaveQueue_keeps (fun t => t.carrier c) (fun _ _ => rfl) fun _ => rfl
  have hsettings : (s.leaveQueue k).settings = s.settings :=
    State.leaveQueue_keeps State.settings (fun _ _ => rfl) fun _ => rfl
  rw [State.creelLeft, State.finishBook_carrier, ← hcarrier, ← hsettings]
  refine ⟨fun h => ?_, fun h => State.sentHome_carrier_other h⟩
  rw [h]
  exact State.sentHome_carrier_same hqueue c

theorem State.sectionOut_carrier (c : Nat) :
    ((s.creel (creelNo f k)).carrier = some c →
      Carrier.SentBack s.settings.changeTimeout (s.carrier c) ((s.sectionOut f k).carrier c)) ∧
    ((s.creel (creelNo f k)).carrier ≠ some c → (s.sectionOut f k).carrier c = s.carrier c) := by
  obtain ⟨hroving, _, _, _, hplan⟩ := State.stripLeft_stands (s := s) (f := f) (k := k)
  have hleft := State.creelLeft_carrier (k := creelNo f k) (State.stripLeft_formed (f := f) (k := k) hs) c
  rw [State.stripLeft_creel, State.settings_of_plan hplan,
    State.carrier_of_table (congrArg Roving.carriers hroving) c] at hleft
  rw [State.sectionOut_left, State.setCreel_carrier]
  exact hleft

theorem State.sectionOut_unit_eq (a : Nat) : (s.sectionOut f k).unit a =
    (((s.stripLeft f k).leaveQueue (creelNo f k)).sentHome (s.creel (creelNo f k)).carrier (creelNo f k)).unit a := by
  rw [State.sectionOut_left, State.setCreel_unit, State.creelLeft, State.finishBook_unit, State.stripLeft_creel]

theorem State.stripLeft_leaveQueue_unit (a : Nat) : ((s.stripLeft f k).leaveQueue (creelNo f k)).unit a = s.unit a := by
  obtain ⟨_, _, hlink, _⟩ := State.stripLeft_stands (s := s) (f := f) (k := k)
  rw [State.leaveQueue_keeps (fun t => t.unit a) (fun _ _ => rfl) fun _ => rfl,
    State.unit_of_table (congrArg Link.units hlink)]

theorem State.sectionOut_unit {Q : Unit → Prop} (hresume : ∀ u x w, Q u → Q (u.handed (.resume x) w))
    (hret : ∀ u w, Q u → Q (u.handed .ret w)) {a : Nat} (h : Q (s.unit a)) : Q ((s.sectionOut f k).unit a) := by
  rw [State.sectionOut_unit_eq hs]
  refine State.sentHome_unit hresume hret (State.leaveQueue_formed _ _ (State.stripLeft_formed hs)) ?_ _
  rw [State.stripLeft_leaveQueue_unit hs]
  exact h

theorem State.sectionOut_ret (hc : (s.creel (creelNo f k)).carrier = some c) (h : (s.unit (carrierAddr c)).Known) :
    ((s.sectionOut f k).unit (carrierAddr c)).Holds .ret := by
  rw [State.sectionOut_unit_eq hs, hc]
  refine State.sentHome_ret (State.leaveQueue_formed _ _ (State.stripLeft_formed hs)) ?_
  rw [State.stripLeft_leaveQueue_unit hs]
  exact h

theorem State.sectionOut_placement (p : Nat) : ((s.sectionOut f k).piecer p).placement = (s.piecer p).placement := by
  obtain ⟨_, _, _, hdisp, _⟩ := State.stripLeft_stands (s := s) (f := f) (k := k)
  rw [State.sectionOut_left, State.setCreel_piecer, State.creelLeft, State.finishBook_piecer,
    State.sentHome_placement (State.leaveQueue_formed _ _ (State.stripLeft_formed hs)),
    State.leaveQueue_keeps (fun t => (t.piecer p).placement) (fun _ _ => rfl) fun _ => rfl,
    State.piecer_of_table (congrArg Dispatcher.piecers hdisp)]

end

/-! ### Orders -/

variable {b : BookEntry} {r : Option Reason} {w : List Word}

/-- An order that does not name the section. -/
def BookEntry.Elsewhere (f k : Nat) (b : BookEntry) : Prop :=
  orderOnSection .selfCheck f k b = false ∧
    orderOnSection .creelChange (creelFrame (creelNo f k)) (creelIndex (creelNo f k)) b = false

theorem State.creelLeft_board : ((s.leaveQueue k).sentHome (s.creel k).carrier k).board = s.board := by
  rw [State.sentHome_board, State.leaveQueue_board]

theorem State.stripLeft_board : (s.stripLeft f k).board = (s.dropCheck f k).board := State.setStrip_board ..

theorem State.sectionOut_board : (s.sectionOut f k).board = ((s.stripLeft f k).creelLeft (creelNo f k)).board :=
  State.setCreel_board ..

theorem State.creelLeft_ended (h : s.OrderEnded b r w) : (s.creelLeft k).OrderEnded b r w :=
  (h.of_board State.creelLeft_board).finishBook _ _ _

theorem State.sectionOut_ended (h : s.OrderEnded b r w) : (s.sectionOut f k).OrderEnded b r w := by
  have hdrop : (s.dropCheck f k).OrderEnded b r w := by
    by_cases hcheck : (s.strip (creelNo f k)).check = none
    · rwa [State.dropCheck_of_none hcheck]
    · rw [State.dropCheck_eq hcheck, State.checkReport]
      exact (h.of_board (by simp)).finishBook _ _ _
  have hstrip := hdrop.of_board (State.stripLeft_board (f := f) (k := k))
  exact (State.creelLeft_ended hstrip).of_board State.sectionOut_board

theorem State.dropCheck_booked (hsel : orderOnSection .selfCheck f k b = false) (h : s.Booked b) :
    (s.dropCheck f k).Booked b := by
  by_cases hcheck : (s.strip (creelNo f k)).check = none
  · rwa [State.dropCheck_of_none hcheck]
  · rw [State.dropCheck_eq hcheck, State.checkReport]
    exact (h.of_board (by simp)).finishBook_other hsel _ _

theorem State.sectionOut_booked (hb : b.Elsewhere f k) (h : s.Booked b) : (s.sectionOut f k).Booked b := by
  obtain ⟨hself, hchange⟩ := hb
  have hstrip := (State.dropCheck_booked hself h).of_board (State.stripLeft_board (f := f) (k := k))
  have hleft : ((s.stripLeft f k).creelLeft (creelNo f k)).Booked b :=
    (hstrip.of_board State.creelLeft_board).finishBook_other hchange (some .notPresent) []
  exact hleft.of_board State.sectionOut_board

/-- A CREEL_CHANGE of the section is refused. -/
theorem State.sectionOut_change (h : s.Booked b) (hself : orderOnSection .selfCheck f k b = false)
    (hchange : orderOnSection .creelChange (creelFrame (creelNo f k)) (creelIndex (creelNo f k)) b = true) :
    (s.sectionOut f k).OrderEnded b (some .notPresent) [] := by
  have hstrip := (State.dropCheck_booked hself h).of_board (State.stripLeft_board (f := f) (k := k))
  have hleft : ((s.stripLeft f k).creelLeft (creelNo f k)).OrderEnded b (some .notPresent) [] :=
    (hstrip.of_board State.creelLeft_board).finishBook_ends hchange
  exact hleft.of_board State.sectionOut_board

/-- The self-check under way ends, cut short with none passed. -/
theorem State.sectionOut_check (h : s.Booked b) (hcheck : (s.strip (creelNo f k)).check ≠ none)
    (hself : orderOnSection .selfCheck f k b = true) : (s.sectionOut f k).OrderEnded b none [0#32, 0#32, 2#32] := by
  have hdrop : (s.dropCheck f k).OrderEnded b none [0#32, 0#32, 2#32] := by
    rw [State.dropCheck_eq hcheck, State.checkReport]
    exact State.Booked.finishBook_ends (h.of_board (by simp)) hself
  have hstrip := hdrop.of_board (State.stripLeft_board (f := f) (k := k))
  exact (State.creelLeft_ended hstrip).of_board State.sectionOut_board

end

end Sys2Proof.Machine
end

section
/-! PROOFS. Sections leave the plan (R22, R125, R159). -/

namespace Sys2Proof.Machine

/-- What each pass of a loop over these numbers keeps, the loop keeps. -/
theorem State.each_keeps_of_mem {α : Type} {Q : State → Prop} {g : α → State → State} {l : List α}
    (h : ∀ x ∈ l, ∀ t, Q t → Q (g x t)) {s : State} (hs : Q s) : Q (s.each l g) := by
  induction l generalizing s with
  | nil => exact hs
  | cons x l ih => exact ih (fun y hy => h y (List.mem_cons_of_mem x hy)) (h x List.mem_cons_self s hs)

/-- The sections of a frame leave the plan. -/
def State.sectionsOut (f : Nat) (l : List Nat) (s : State) : State := s.each l fun k t => t.sectionOut f k

/-- Sections have left the plan: the queue, their records and strips, the carriers that served them and their orders. -/
structure State.SectionsGone (s u : State) (f : Nat) (l : List Nat) : Prop where
  queue : u.roving.queue = s.roving.queue.filter fun e => !(l.map (creelNo f)).contains e
  refill : s.roving.queue.any (fun e => (l.map (creelNo f)).contains e) = true → u.work.refill = true
  creel : ∀ k, k ∈ l → u.creel (creelNo f k) = ⟨0, .fed, none, none, .none, .none, false, none⟩
  strip : ∀ k, k ∈ l → u.strip (creelNo f k) = ⟨false, 0, 0, none⟩
  carrier : ∀ k, k ∈ l → ∀ c, (s.creel (creelNo f k)).carrier = some c →
    Carrier.SentBack s.settings.changeTimeout (s.carrier c) (u.carrier c)
  unit : ∀ k, k ∈ l → ∀ c, (s.creel (creelNo f k)).carrier = some c → (s.unit (carrierAddr c)).presence = .present →
    (u.unit (carrierAddr c)).Holds .ret
  change : ∀ k, k ∈ l → ∀ b, b ∈ s.desk.book → b.p1 = w32 f → b.p2 = w32 k → b.kind = .creelChange →
    u.OrderEnded b (some .notPresent) []
  check : ∀ k, k ∈ l → ∀ b, b ∈ s.desk.book → b.p1 = w32 f → b.p2 = w32 k → b.kind = .selfCheck →
    (s.strip (creelNo f k)).check ≠ none → u.OrderEnded b none [0#32, 0#32, 2#32]

/-- Numbers of sections of one frame. -/
def SectionList (l : List Nat) : Prop := l.Nodup ∧ ∀ k ∈ l, 1 ≤ k ∧ k ≤ 76

theorem creelNo_ne {f k j : Nat} (h : k ≠ j) : creelNo f k ≠ creelNo f j := fun he => h (Nat.add_left_cancel he)

theorem creelFrame_creelNo {f k : Nat} (hf : 1 ≤ f) (hk : 1 ≤ k ∧ k ≤ 76) : creelFrame (creelNo f k) = f := by
  unfold creelFrame creelNo
  omega

theorem creelIndex_creelNo {f k : Nat} (hk : 1 ≤ k ∧ k ≤ 76) : creelIndex (creelNo f k) = k := by
  unfold creelIndex creelNo
  omega

theorem orderOnSection_iff {K : OrderKind} {f k : Nat} {b : BookEntry} :
    orderOnSection K f k b = true ↔ b.kind = K ∧ b.p1 = w32 f ∧ b.p2 = w32 k := by
  simp [orderOnSection, and_assoc]

/-- An order on another section of the frame. -/
theorem BookEntry.elsewhere_of_ne {f k j : Nat} {b : BookEntry} (hk : k ≤ 76) (hj : 1 ≤ j ∧ j ≤ 76) (h : k ≠ j)
    (hb : b.p2 = w32 k) : b.Elsewhere f j := by
  have hne : w32 k ≠ w32 j := fun he => h (by
    have hnat := congrArg BitVec.toNat he
    simp only [w32, BitVec.toNat_ofNat] at hnat
    omega)
  have hsel (K : OrderKind) (g : Nat) : orderOnSection K g j b = false :=
    Bool.eq_false_iff.mpr fun he => hne (hb.symm.trans (orderOnSection_iff.mp he).2.2)
  refine ⟨hsel .selfCheck f, ?_⟩
  rw [creelIndex_creelNo hj]
  exact hsel .creelChange _

section
variable {s : State} {f : Nat} {l : List Nat}

theorem State.sectionsOut_beside : (s.sectionsOut f l).beside = s.beside :=
  State.each_keeps State.beside _ _ (fun _ _ => State.sectionOut_beside) s

theorem State.sectionsOut_creel_other {e : Nat} (h : ∀ k ∈ l, e ≠ creelNo f k) :
    (s.sectionsOut f l).creel e = s.creel e ∧ (s.sectionsOut f l).strip e = s.strip e :=
  ⟨State.each_keeps_mem (fun t => t.creel e) (fun k hk _ => State.sectionOut_creel_other (h k hk)) s,
    State.each_keeps_mem (fun t => t.strip e) (fun k hk _ => State.sectionOut_strip_other (h k hk)) s⟩

theorem State.sectionsOut_queue (s : State) : (s.sectionsOut f l).roving.queue =
    s.roving.queue.filter fun e => !(l.map (creelNo f)).contains e := by
  induction l generalizing s with
  | nil =>
    symm
    exact List.filter_eq_self.mpr fun _ _ => rfl
  | cons k l ih =>
    have hstep : (s.sectionsOut f (k :: l)).roving.queue = _ := ih (s.sectionOut f k)
    rw [hstep, State.sectionOut_queue, List.filter_filter]
    refine List.filter_congr fun e _ => ?_
    rw [List.map_cons, List.contains_cons, Bool.not_or, Bool.and_comm, bne]

section
variable (hs : s.formed = true)
include hs

theorem State.sectionsOut_formed : (s.sectionsOut f l).formed = true :=
  State.each_keeps_prop (Q := fun t => t.formed = true) (fun k t ht => State.sectionOut_formed f k t ht) _ hs

theorem State.sectionsOut_unit {Q : Unit → Prop} (hresume : ∀ u x w, Q u → Q (u.handed (.resume x) w))
    (hret : ∀ u w, Q u → Q (u.handed .ret w)) {a : Nat} (h : Q (s.unit a)) : Q ((s.sectionsOut f l).unit a) := by
  have hloop := State.each_keeps_prop (g := fun k t => State.sectionOut f k t)
    (Q := fun t => t.formed = true ∧ Q (t.unit a))
    (fun k t ht => ⟨State.sectionOut_formed f k t ht.1, State.sectionOut_unit ht.1 hresume hret ht.2⟩) l ⟨hs, h⟩
  exact hloop.2

theorem State.sectionsOut_placement (p : Nat) : ((s.sectionsOut f l).piecer p).placement = (s.piecer p).placement := by
  have hloop := State.each_keeps_prop (g := fun k t => State.sectionOut f k t)
    (Q := fun t => t.formed = true ∧ (t.piecer p).placement = (s.piecer p).placement)
    (fun k t ht => ⟨State.sectionOut_formed f k t ht.1, (State.sectionOut_placement ht.1 p).trans ht.2⟩) l ⟨hs, rfl⟩
  exact hloop.2

omit hs in
theorem State.sectionsOut_settings : (s.sectionsOut f l).settings = s.settings := by
  obtain ⟨_, _, _, _, _, _, _, hplan, _⟩ := State.fields_of_beside (State.sectionsOut_beside (s := s) (f := f) (l := l))
  exact State.settings_of_plan hplan

/-- A carrier keeps what it has loaded. -/
theorem State.sectionsOut_lotLoaded (c : Nat) :
    ((s.sectionsOut f l).carrier c).lotLoaded = (s.carrier c).lotLoaded := by
  have hstep (k : Nat) (t : State) (ht : t.formed = true) :
      ((t.sectionOut f k).carrier c).lotLoaded = (t.carrier c).lotLoaded := by
    obtain ⟨hback, hstands⟩ := State.sectionOut_carrier (f := f) (k := k) ht c
    by_cases h : (t.creel (creelNo f k)).carrier = some c
    · exact (hback h).lotLoaded
    · rw [hstands h]
  have hloop := State.each_keeps_prop (g := fun k t => State.sectionOut f k t)
    (Q := fun t => t.formed = true ∧ (t.carrier c).lotLoaded = (s.carrier c).lotLoaded)
    (fun k t ht => ⟨State.sectionOut_formed f k t ht.1, (hstep k t ht.1).trans ht.2⟩) l ⟨hs, rfl⟩
  exact hloop.2

/-- A carrier on its way back stays so. -/
theorem State.sectionsOut_sentBack {c : Nat} {x : Carrier}
    (h : Carrier.SentBack s.settings.changeTimeout x (s.carrier c)) :
    Carrier.SentBack s.settings.changeTimeout x ((s.sectionsOut f l).carrier c) := by
  have hstep (k : Nat) (t : State) (ht : t.formed = true) (hset : t.settings = s.settings)
      (hx : Carrier.SentBack s.settings.changeTimeout x (t.carrier c)) :
      Carrier.SentBack s.settings.changeTimeout x ((t.sectionOut f k).carrier c) := by
    obtain ⟨hback, hstands⟩ := State.sectionOut_carrier (f := f) (k := k) ht c
    by_cases hc : (t.creel (creelNo f k)).carrier = some c
    · obtain ⟨hstate, hcreel, hsent, hchange, hback, hloaded⟩ := hset ▸ hback hc
      exact ⟨hstate, hcreel, hsent, hchange, hback, hloaded.trans hx.lotLoaded⟩
    · rwa [hstands hc]
  have hloop := State.each_keeps_prop (g := fun k t => State.sectionOut f k t)
    (Q := fun t => (t.formed = true ∧ t.settings = s.settings) ∧
      Carrier.SentBack s.settings.changeTimeout x (t.carrier c))
    (fun k t ht => ⟨⟨State.sectionOut_formed f k t ht.1.1,
      (State.sectionsOut_settings (l := [k])).trans ht.1.2⟩, hstep k t ht.1.1 ht.1.2 ht.2⟩) l ⟨⟨hs, rfl⟩, h⟩
  exact hloop.2

end

/-- Before and after its own pass a section is left alone by the others. -/
theorem State.sectionsOut_around (hl : SectionList l) {k : Nat} (hk : k ∈ l) : ∃ a b,
    (∀ j ∈ a, 1 ≤ j ∧ j ≤ 76 ∧ k ≠ j) ∧ (∀ j ∈ b, 1 ≤ j ∧ j ≤ 76 ∧ k ≠ j) ∧
    s.sectionsOut f l = ((s.sectionsOut f a).sectionOut f k).sectionsOut f b := by
  obtain ⟨hnodup, hrange⟩ := hl
  obtain ⟨a, b, hka, hkb, ha, hb, hloop⟩ := State.each_around hnodup hk
  refine ⟨a, b, fun j hj => ?_, fun j hj => ?_, hloop _ s⟩
  · exact ⟨(hrange j (ha hj)).1, (hrange j (ha hj)).2, fun he => hka (he ▸ hj)⟩
  · exact ⟨(hrange j (hb hj)).1, (hrange j (hb hj)).2, fun he => hkb (he ▸ hj)⟩

theorem State.sectionsOut_ended {b : BookEntry} {r : Option Reason} {w : List Word} (h : s.OrderEnded b r w) :
    (s.sectionsOut f l).OrderEnded b r w :=
  State.each_keeps_prop (Q := fun t => t.OrderEnded b r w) (fun _ _ ht => State.sectionOut_ended ht) _ h

theorem State.sectionsOut_booked {b : BookEntry} {k : Nat} (hk : k ≤ 76) (hb : b.p2 = w32 k)
    (hl : ∀ j ∈ l, 1 ≤ j ∧ j ≤ 76 ∧ k ≠ j) (h : s.Booked b) : (s.sectionsOut f l).Booked b :=
  State.each_keeps_of_mem (Q := fun t => t.Booked b) (fun j hj _ ht => State.sectionOut_booked
    (BookEntry.elsewhere_of_ne hk ⟨(hl j hj).1, (hl j hj).2.1⟩ (hl j hj).2.2 hb) ht) h

/-- The sections of a list leave the plan. -/
theorem State.sectionsOut_gone (hs : s.formed = true) (hn : (s.desk.book.map BookEntry.cell).Nodup) (hf : 1 ≤ f)
    (hl : SectionList l) : s.SectionsGone (s.sectionsOut f l) f l := by
  have hno {k : Nat} {a : List Nat} (ha : ∀ j ∈ a, 1 ≤ j ∧ j ≤ 76 ∧ k ≠ j) : ∀ j ∈ a, creelNo f k ≠ creelNo f j :=
    fun j hj => creelNo_ne (ha j hj).2.2
  refine ⟨State.sectionsOut_queue s, fun hany => ?_, fun k hk => ?_, fun k hk => ?_, fun k hk c hc => ?_,
    fun k hk c hc hpresent => ?_, fun k hk b hb hp1 hp2 hkind => ?_, fun k hk b hb hp1 hp2 hkind hcheck => ?_⟩
  · obtain ⟨e, he, hin⟩ := List.any_eq_true.mp hany
    obtain ⟨k, hk, rfl⟩ := List.mem_map.mp (List.contains_iff_mem.mp hin)
    obtain ⟨a, b, ha, _, hloop⟩ := State.sectionsOut_around (s := s) (f := f) hl hk
    have hwaits : creelNo f k ∈ (s.sectionsOut f a).roving.queue := by
      rw [State.sectionsOut_queue]
      refine List.mem_filter.mpr ⟨he, ?_⟩
      rw [Bool.not_eq_true', ← Bool.not_eq_true, List.contains_iff_mem]
      rintro hmem
      obtain ⟨j, hj, heq⟩ := List.mem_map.mp hmem
      exact hno ha j hj heq.symm
    rw [hloop]
    exact State.each_keeps_prop (Q := fun t => t.work.refill = true) (fun _ _ ht => State.sectionOut_refill (.inl ht)) _
      (State.sectionOut_refill (.inr hwaits))
  all_goals
    obtain ⟨a, d, ha, hd, hloop⟩ := State.sectionsOut_around (s := s) (f := f) hl hk
    obtain ⟨hcreel, hstrip⟩ := State.sectionsOut_creel_other (s := s) (hno ha)
    have hformed : (s.sectionsOut f a).formed = true := State.sectionsOut_formed hs
    have hout := State.sectionOut_formed f k _ hformed
    rw [hloop]
  · rw [(State.sectionsOut_creel_other (hno hd)).1, State.sectionOut_creel_same hformed]
  · rw [(State.sectionsOut_creel_other (hno hd)).2, State.sectionOut_strip_same hformed]
  · have hback := (State.sectionOut_carrier (f := f) (k := k) hformed c).1 (by rw [hcreel, hc])
    have hsettings : ((s.sectionsOut f a).sectionOut f k).settings = s.settings :=
      (State.sectionsOut_settings (l := [k])).trans State.sectionsOut_settings
    rw [State.sectionsOut_settings] at hback
    have hrest := State.sectionsOut_sentBack (f := f) (l := d) hout (x := (s.sectionsOut f a).carrier c) (hsettings ▸ hback)
    rw [hsettings] at hrest
    obtain ⟨hstate, hcreel, hsent, hchange, hback, hloaded⟩ := hrest
    exact ⟨hstate, hcreel, hsent, hchange, hback, hloaded.trans (State.sectionsOut_lotLoaded hs c)⟩
  · have hknown : ((s.sectionsOut f a).unit (carrierAddr c)).Known :=
      State.sectionsOut_unit hs (fun _ _ _ => Unit.handed_known) (fun _ _ => Unit.handed_known) (.inl hpresent)
    have hret := State.sectionOut_ret hformed (by rw [hcreel, hc]) hknown
    exact State.sectionsOut_unit (Q := fun x => x.Holds .ret) hout (fun _ _ _ => Unit.handed_keeps_holds rfl)
      (fun _ _ => Unit.handed_keeps_holds rfl) hret
  all_goals
    have hrange := hl.2 k hk
    have hbooked : (s.sectionsOut f a).Booked b := State.sectionsOut_booked hrange.2 hp2 ha ⟨hn, hb⟩
    refine State.sectionsOut_ended ?_
  · refine State.sectionOut_change hbooked (Bool.eq_false_iff.mpr fun he => ?_) ?_
    · exact absurd (hkind.symm.trans (orderOnSection_iff.mp he).1) nofun
    · rw [creelFrame_creelNo hf hrange, creelIndex_creelNo hrange]
      exact orderOnSection_iff.mpr ⟨hkind, hp1, hp2⟩
  · exact State.sectionOut_check hbooked (by rwa [hstrip]) (orderOnSection_iff.mpr ⟨hkind, hp1, hp2⟩)

end

end Sys2Proof.Machine
end

section
/-! PROOFS. Spindles that leave the plan and come into it (R13, R159). -/

namespace Sys2Proof.Machine

/-- Spindles of two frames have different keys. -/
theorem spindleKey_ne_frame {f g n m : Nat} (hf : 1 ≤ f) (hg : 1 ≤ g) (h : g ≠ f) (hn : n ≤ 1824) (hm : m ≤ 1824) :
    spindleKey g m ≠ spindleKey f n := by
  unfold spindleKey
  omega

section
variable {s : State} {f : Nat} {l : List Nat}

theorem State.spindlesOut_keeps {β : Type} (P : State → β) (h : ∀ f n x t, P (State.setSpindle f n x t) = P t) :
    P (s.spindlesOut f l) = P s := State.each_keeps P _ _ (fun _ _ => h ..) s

theorem State.spindlesIn_keeps {β : Type} (P : State → β) (h : ∀ f n x t, P (State.setSpindle f n x t) = P t) :
    P (s.spindlesIn f l) = P s := State.each_keeps P _ _ (fun _ _ => h ..) s

theorem State.spindlesOut_other {g m : Nat} (h : ∀ n ∈ l, spindleKey g m ≠ spindleKey f n) :
    (s.spindlesOut f l).spindle g m = s.spindle g m :=
  State.each_keeps_mem (fun t => t.spindle g m) (fun n hn _ => State.setSpindle_other _ _ _ _ _ _ (h n hn)) s

theorem State.spindlesIn_other {g m : Nat} (h : ∀ n ∈ l, spindleKey g m ≠ spindleKey f n) :
    (s.spindlesIn f l).spindle g m = s.spindle g m :=
  State.each_keeps_mem (fun t => t.spindle g m) (fun n hn _ => State.setSpindle_other _ _ _ _ _ _ (h n hn)) s

theorem spindleKey_ne_of_ne {n m : Nat} (h : m ≠ n) : spindleKey f m ≠ spindleKey f n :=
  fun he => h (spindleKey_inj_frame he)

variable (hs : s.formed = true) (hl : l.Nodup)
include hs hl

theorem State.spindlesOut_same {n : Nat} (hn : n ∈ l) :
    (s.spindlesOut f l).spindle f n = ⟨.absent, false, false, 0, none, none, 0#32, 0, none⟩ := by
  obtain ⟨t, ht, _, hafter⟩ := State.each_pass (rec := fun m t => t.spindle f m)
    (g := fun m t => t.setSpindle f m Spindle.reset) (Q := fun t => t.formed = true)
    (fun _ _ ht => State.setSpindle_formed _ _ _ _ ht)
    (fun _ _ _ _ hne => State.setSpindle_other _ _ _ _ _ _ (spindleKey_ne_of_ne hne)) hl hn hs
  rw [State.spindlesOut, hafter, State.setSpindle_formed_same _ _ _ _ ht]
  rfl

theorem State.spindlesIn_same {n : Nat} (hn : n ∈ l) :
    (s.spindlesIn f l).spindle f n = Spindle.start (s.creel (creelOfSpindle f n)).remaining := by
  obtain ⟨t, ⟨ht, hcreel⟩, _, hafter⟩ := State.each_pass (rec := fun m t => t.spindle f m)
    (g := fun m t => t.setSpindle f m (Spindle.start (t.creel (creelOfSpindle f m)).remaining))
    (Q := fun t => t.formed = true ∧ ∀ e, t.creel e = s.creel e)
    (fun m t ht => ⟨State.setSpindle_formed _ _ _ _ ht.1, fun e => (State.setSpindle_creel ..).trans (ht.2 e)⟩)
    (fun _ _ _ _ hne => State.setSpindle_other _ _ _ _ _ _ (spindleKey_ne_of_ne hne)) hl hn ⟨hs, fun _ => rfl⟩
  rw [State.spindlesIn, hafter, State.setSpindle_formed_same _ _ _ _ ht, hcreel]

end

/-! ### The positions of a frame (5.1) -/

theorem mem_positions {n k : Nat} : k ∈ positions n ↔ (1 ≤ k ∧ k ≤ n) ∨ (913 ≤ k ∧ k ≤ 912 + n) := by
  simp only [positions, List.mem_append, List.mem_map, mem_oneTo]
  constructor
  · rintro (h | ⟨m, hm, rfl⟩)
    · exact .inl h
    · exact .inr (by omega)
  · rintro (h | h)
    · exact .inl h
    · exact .inr ⟨k - 912, by omega, by omega⟩

theorem nodup_positions {n : Nat} (h : n ≤ 912) : (positions n).Nodup := by
  have hone (m : Nat) : (oneTo m).Nodup := by rw [oneTo_eq_range']; exact List.nodup_range'
  refine List.nodup_append'.mpr ⟨hone _, (hone _).map (fun a b hab => by simpa using hab), ?_⟩
  intro k hk hk'
  obtain ⟨m, hm, rfl⟩ := List.mem_map.mp hk'
  rw [mem_oneTo] at hk hm
  omega

theorem mem_positionsOnlyIn {n m k : Nat} (hn : n ≤ 912) (hm : m ≤ 912) :
    k ∈ positionsOnlyIn n m ↔ (m < k ∧ k ≤ n) ∨ (912 + m < k ∧ k ≤ 912 + n) := by
  simp only [positionsOnlyIn, List.mem_filter, mem_positions, Bool.and_eq_true, Bool.or_eq_true, decide_eq_true_eq]
  omega

theorem range_of_mem_positionsOnlyIn {n m k : Nat} (hn : n ≤ 912) (h : k ∈ positionsOnlyIn n m) : 1 ≤ k ∧ k ≤ 1824 := by
  have hmem := mem_positions.mp (List.mem_of_mem_filter h)
  omega

theorem positionsOnlyIn_eq_nil {n m : Nat} (hn : n ≤ 912) (hm : m ≤ 912) (h : n ≤ m) : positionsOnlyIn n m = [] := by
  rw [List.eq_nil_iff_forall_not_mem]
  intro k hk
  have hrange := range_of_mem_positionsOnlyIn hn hk
  rw [mem_positionsOnlyIn hn hm] at hk
  omega

/-! ### The sections of a frame (R2) -/

theorem sectionList_sectionsInPlan {n : Nat} (h : n ≤ 912) : SectionList (sectionsInPlan n) := by
  refine ⟨nodup_sectionsInPlan h, fun k hk => ?_⟩
  have hpos : 1 ≤ k := by
    simp only [sectionsInPlan, List.mem_append, List.mem_map, mem_oneTo] at hk
    omega
  rw [mem_sectionsInPlan hpos] at hk
  omega

theorem SectionList.filter {l : List Nat} (h : SectionList l) (p : Nat → Bool) : SectionList (l.filter p) :=
  ⟨h.1.filter p, fun k hk => h.2 k (List.mem_of_mem_filter hk)⟩

theorem sectionsOnlyIn_eq_nil {n m : Nat} (hn : n ≤ 912) (h : n ≤ m) : sectionsOnlyIn n m = [] := by
  rw [List.eq_nil_iff_forall_not_mem]
  intro k hk
  obtain ⟨hmem, hout⟩ := List.mem_filter.mp hk
  have hpos := ((sectionList_sectionsInPlan hn).2 k hmem).1
  refine absurd ?_ (by simpa using hout : k ∉ sectionsInPlan m)
  rw [mem_sectionsInPlan hpos] at hmem ⊢
  have hle : n / 24 ≤ m / 24 := Nat.div_le_div_right h
  omega

/-- The section of a position in plan is in plan. -/
theorem sectionOf_mem_sectionsInPlan {n k : Nat} (h24 : n % 24 = 0) (hk : k ∈ positions n) :
    sectionOf k ∈ sectionsInPlan n := by
  rw [mem_sectionsInPlan (by unfold sectionOf; omega)]
  rw [mem_positions] at hk
  unfold sectionOf
  omega

/-- The section of a position that comes into plan comes into plan. -/
theorem sectionOf_mem_sectionsOnlyIn {n m k : Nat} (hn : n ≤ 912) (hm : m ≤ 912) (hn24 : n % 24 = 0) (hm24 : m % 24 = 0)
    (hk : k ∈ positionsOnlyIn n m) : sectionOf k ∈ sectionsOnlyIn n m := by
  have hrange := range_of_mem_positionsOnlyIn hn hk
  have hcomes := (mem_positionsOnlyIn hn hm).mp hk
  have hpos : 1 ≤ sectionOf k := by unfold sectionOf; omega
  refine List.mem_filter.mpr ⟨sectionOf_mem_sectionsInPlan hn24 (List.mem_of_mem_filter hk), ?_⟩
  rw [Bool.not_eq_true', ← Bool.not_eq_true, List.contains_iff_mem, mem_sectionsInPlan hpos]
  unfold sectionOf
  omega

end Sys2Proof.Machine
end

section
/-! PROOFS. A frame leaves the plan (R13, R75, R83, R102, R125, R147). -/

namespace Sys2Proof.Machine

/-! ### Sections gone, seen before and after -/

/-- What is read of sections, of the carriers and their units, and of the refill owed. -/
def State.sectionView (s : State) := (s.roving.queue, s.roving.creels, s.roving.carriers, s.watch.strips, s.link.units,
  s.work.refill)

section
variable {s t v u : State} {f : Nat} {l : List Nat}

theorem State.fields_of_sectionView (h : t.sectionView = s.sectionView) : t.roving.queue = s.roving.queue ∧
    (∀ e, t.creel e = s.creel e) ∧ (∀ c, t.carrier c = s.carrier c) ∧ (∀ e, t.strip e = s.strip e) ∧
    (∀ a, t.unit a = s.unit a) ∧ t.work.refill = s.work.refill := by
  simp only [State.sectionView, Prod.mk.injEq] at h
  obtain ⟨hqueue, hcreels, hcarriers, hstrips, hunits, hrefill⟩ := h
  exact ⟨hqueue, State.creel_of_table hcreels, State.carrier_of_table hcarriers, State.strip_of_table hstrips,
    State.unit_of_table hunits, hrefill⟩

/-- What goes on before and after leaves the sections gone. -/
theorem State.SectionsGone.of_views (h : t.SectionsGone v f l) (hbefore : t.sectionView = s.sectionView)
    (hsettings : t.settings = s.settings) (hbook : t.desk.book = s.desk.book) (hafter : u.sectionView = v.sectionView)
    (hended : ∀ b r w, v.OrderEnded b r w → u.OrderEnded b r w) : s.SectionsGone u f l := by
  obtain ⟨hqueue, hcreel, hcarrier, hstrip, hunit, _⟩ := State.fields_of_sectionView hbefore
  obtain ⟨hqueue', hcreel', hcarrier', hstrip', hunit', hrefill'⟩ := State.fields_of_sectionView hafter
  refine ⟨?_, fun hany => ?_, fun k hk => ?_, fun k hk => ?_, fun k hk c hc => ?_, fun k hk c hc hp => ?_,
    fun k hk b hb hp1 hp2 hkind => ?_, fun k hk b hb hp1 hp2 hkind hcheck => ?_⟩
  · rw [hqueue', h.queue, hqueue]
  · rw [hrefill']
    exact h.refill (by rw [hqueue]; exact hany)
  · rw [hcreel', h.creel k hk]
  · rw [hstrip', h.strip k hk]
  · rw [hcarrier', ← hcarrier, ← hsettings]
    exact h.carrier k hk c (by rw [hcreel]; exact hc)
  · rw [hunit']
    exact h.unit k hk c (by rw [hcreel]; exact hc) (by rw [hunit]; exact hp)
  · exact hended _ _ _ (h.change k hk b (hbook ▸ hb) hp1 hp2 hkind)
  · exact hended _ _ _ (h.check k hk b (hbook ▸ hb) hp1 hp2 hkind (by rw [hstrip]; exact hcheck))

end

/-! ### The stages of a frame that leaves -/

/-- The frame's stop time is closed, its sweep and its sections are gone. -/
def State.frameLeft (f n : Nat) (s : State) : State :=
  ((s.closeStop f).setSweep f Sweep.reset).sectionsOut f (sectionsInPlan n)

/-- The frame's end lists are empty. -/
def State.sidesEmptied (f : Nat) (s : State) : State :=
  s.each (frameSides f) fun d t => t.setSide d { t.side d with entries := [] }

/-- The frame's spindles, end lists, feed and counter are cleared. -/
def State.frameStripped (f : Nat) (s : State) : State :=
  (((s.spindlesOut f (s.spindlesOfFrame f)).sidesEmptied f).setFeed f Feed.reset).setRoller f Roller.reset

/-- The frame is OUT. -/
def State.frameOuted (f : Nat) (s : State) : State :=
  (s.enterState f .out).setFrame f { (s.enterState f .out).frame f with
    doffOwed := false, doffFinish := .none, haltCause := none, buildM := 0 }

theorem State.frameOut_eq (s : State) (f n : Nat) : s.frameOut f n =
    ((((s.frameLeft f n).frameStripped f).frameOuted f).poolPiecers f).finishBook (orderOn .doffNow f) (some .notPresent) [] :=
  rfl

section
variable {s : State} {f n : Nat}

theorem State.closeStop_keeps {β : Type} (P : State → β) (hcount : ∀ f g t, P (State.count f g t) = P t)
    (hroller : ∀ f x t, P (State.setRoller f x t) = P t) : P (s.closeStop f) = P s := by
  unfold State.closeStop
  split
  · rw [hroller, hcount]
  · rfl

theorem State.frameStripped_keeps {β : Type} (P : State → β) (hspindle : ∀ f n x t, P (State.setSpindle f n x t) = P t)
    (hside : ∀ d x t, P (State.setSide d x t) = P t) (hfeed : ∀ f x t, P (State.setFeed f x t) = P t)
    (hroller : ∀ f x t, P (State.setRoller f x t) = P t) : P (s.frameStripped f) = P s := by
  rw [State.frameStripped, hroller, hfeed, State.sidesEmptied, State.each_keeps P _ _ (fun _ _ => hside ..),
    State.spindlesOut_keeps P hspindle]

theorem State.poolPiecers_keeps {β : Type} (P : State → β) (hpiecer : ∀ p x t, P (State.setPiecer p x t) = P t)
    (howe : ∀ t, P (State.oweArbiter t) = P t) : P (s.poolPiecers f) = P s := by
  refine State.each_keeps P _ _ (fun d t => ?_) s
  split
  · split
    · rw [howe, hpiecer]
    · rfl
  · rfl

/-- A frame at rest that is OUT enters no other group of states. -/
theorem State.enterState_out (h : (s.frame f).state = .halted ∨ (s.frame f).state = .out) :
    s.enterState f .out = s.setFrame f { s.frame f with state := .out } := by
  unfold State.enterState
  obtain h | h := h <;> rw [h] <;> rfl

theorem State.frameOuted_keeps {β : Type} (P : State → β) (hframe : ∀ f x t, P (State.setFrame f x t) = P t)
    (h : (s.frame f).state = .halted ∨ (s.frame f).state = .out) : P (s.frameOuted f) = P s := by
  rw [State.frameOuted, hframe, State.enterState_out h, hframe]

theorem State.frameOuted_frame_other {g : Nat} (hg : g ≠ f) : (s.frameOuted f).frame g = s.frame g := by
  rw [State.frameOuted, State.setFrame_other _ _ _ _ hg, State.enterState_frame_other _ _ _ hg]

section
variable (hs : s.formed = true)
include hs

theorem State.frameLeft_formed : (s.frameLeft f n).formed = true :=
  State.sectionsOut_formed (State.setSweep_formed _ _ _ (State.closeStop_formed _ _ hs))

theorem State.sidesEmptied_formed : (s.sidesEmptied f).formed = true :=
  State.each_keeps_prop (Q := fun t => t.formed = true) (fun _ _ ht => State.setSide_formed _ _ _ ht (Nat.zero_le _)) _ hs

theorem State.frameStripped_formed : (s.frameStripped f).formed = true :=
  State.setRoller_formed _ _ _ (State.setFeed_formed _ _ _ (State.sidesEmptied_formed (State.spindlesOut_formed _ _ _ hs)))

theorem State.frameOuted_frame_same : (s.frameOuted f).frame f =
    { s.frame f with state := .out, doffOwed := false, doffFinish := .none, haltCause := none, buildM := 0 } := by
  rw [State.frameOuted, State.setFrame_formed_same _ _ _ (State.enterState_formed _ _ _ hs),
    State.enterState_frame_same _ _ hs]

theorem State.frameOuted_formed : (s.frameOuted f).formed = true :=
  State.setFrame_formed _ _ _ (State.enterState_formed _ _ _ hs)

end

/-! ### Sides and their piecers (R75) -/

theorem mem_frameSides {d : Nat} : d ∈ frameSides f ↔ d = 2 * f - 1 ∨ d = 2 * f := by
  simp [frameSides]

theorem nodup_frameSides (hf : 1 ≤ f) : (frameSides f).Nodup := by
  simp only [frameSides, List.nodup_cons, List.mem_singleton, List.not_mem_nil, not_false_eq_true, List.nodup_nil,
    and_true]
  omega

theorem State.sidesEmptied_side (hs : s.formed = true) (hf : 1 ≤ f) {d : Nat} (hd : d ∈ frameSides f) :
    (s.sidesEmptied f).side d = { s.side d with entries := [] } := by
  obtain ⟨t, ht, hbefore, hafter⟩ := State.each_pass (rec := fun m t => t.side m)
    (g := fun m t => t.setSide m { t.side m with entries := [] }) (Q := fun t => t.formed = true)
    (fun _ _ ht => State.setSide_formed _ _ _ ht (Nat.zero_le _))
    (fun _ _ _ _ hne => State.setSide_other _ _ _ _ hne) (nodup_frameSides hf) hd hs
  rw [State.sidesEmptied, hafter, State.setSide_formed_same _ _ _ ht, hbefore]

/-- One side's piecer taken to the pool. -/
def State.sidePooled (d : Nat) (s : State) : State :=
  match (s.side d).piecer with
  | some p => if (s.piecer p).placement = .side then (s.setPiecer p { s.piecer p with placement := .pool }).oweArbiter else s
  | none => s

theorem State.sidePooled_keeps {β : Type} (P : State → β) (hpiecer : ∀ p x t, P (State.setPiecer p x t) = P t)
    (howe : ∀ t, P (State.oweArbiter t) = P t) (d : Nat) : P (s.sidePooled d) = P s := by
  unfold State.sidePooled
  split
  · split
    · rw [howe, hpiecer]
    · rfl
  · rfl

theorem State.sidePooled_formed (hs : s.formed = true) (d : Nat) : (s.sidePooled d).formed = true := by
  unfold State.sidePooled
  split
  · split
    · exact State.oweArbiter_formed _ (State.setPiecer_formed _ _ _ hs)
    · exact hs
  · exact hs

/-- A piecer on its way to the pool, the arbiter told. -/
def State.Pooled (p : Nat) (s : State) : Prop := (s.piecer p).placement = .pool ∧ s.work.arbiter = true

theorem State.sidePooled_pooled (hs : s.formed = true) (d : Nat) {p : Nat} (h : s.Pooled p) :
    (s.sidePooled d).Pooled p := by
  unfold State.sidePooled State.Pooled
  split
  · next q _ =>
    split
    · next hq =>
      refine ⟨?_, rfl⟩
      rw [State.oweArbiter_piecer]
      obtain rfl | hne := eq_or_ne p q
      · rw [State.setPiecer_formed_same _ _ _ hs]
      · rw [State.setPiecer_other _ _ _ _ hne]
        exact h.1
    · exact h
  · exact h

theorem State.sidePooled_own (hs : s.formed = true) {d p : Nat} (hp : (s.side d).piecer = some p)
    (h : (s.piecer p).placement = .side) : (s.sidePooled d).Pooled p := by
  unfold State.sidePooled State.Pooled
  rw [hp]
  dsimp only
  rw [if_pos h]
  refine ⟨?_, rfl⟩
  rw [State.oweArbiter_piecer, State.setPiecer_formed_same _ _ _ hs]

/-- Another side's pass leaves a SIDE-placed piecer, or has taken it to the pool already. -/
theorem State.sidePooled_or (hs : s.formed = true) (d : Nat) {p : Nat}
    (h : (s.piecer p).placement = .side ∨ s.Pooled p) :
    ((s.sidePooled d).piecer p).placement = .side ∨ (s.sidePooled d).Pooled p := by
  obtain h | h := h
  · by_cases hp : (s.side d).piecer = some p
    · exact .inr (State.sidePooled_own hs hp h)
    · refine .inl ?_
      unfold State.sidePooled
      split
      · next q hq =>
        have hne : p ≠ q := fun he => hp (by rw [hq, he])
        split
        · rw [State.oweArbiter_piecer, State.setPiecer_other _ _ _ _ hne, h]
        · exact h
      · exact h
  · exact .inr (State.sidePooled_pooled hs d h)

/-- The SIDE-placed piecer of a side of the frame goes to the pool. -/
theorem State.poolPiecers_pooled (hs : s.formed = true) (hf : 1 ≤ f) {d p : Nat} (hd : d ∈ frameSides f)
    (hp : (s.side d).piecer = some p) (h : (s.piecer p).placement = .side) : (s.poolPiecers f).Pooled p := by
  refine State.each_establishes (rec := fun m t => (t.side m).piecer) (g := fun m t => State.sidePooled m t)
    (Q := fun t => t.formed = true ∧ ((t.piecer p).placement = .side ∨ t.Pooled p)) (G := State.Pooled p) (x := some p)
    (fun m t ht => ⟨State.sidePooled_formed ht.1 m, State.sidePooled_or ht.1 m ht.2⟩)
    (fun m e t _ _ => State.sidePooled_keeps (fun t => (t.side e).piecer) (by simp) (by simp) m) (nodup_frameSides hf) hd
    (fun t ht hx => ht.2.elim (State.sidePooled_own ht.1 hx) (State.sidePooled_pooled ht.1 d))
    (fun m t ht hg => State.sidePooled_pooled ht.1 m hg) ⟨hs, .inl h⟩ hp

end

end Sys2Proof.Machine
end

section
/-! PROOFS. The records of a frame that has left the plan (R13, R75, R83, R102, R125, R134, R147). -/

namespace Sys2Proof.Machine

section
variable {s : State} {f n : Nat}

/-- The frame's sweep, and the stop time counted. -/
def State.frameStopped (f : Nat) (s : State) : State := (s.closeStop f).setSweep f Sweep.reset

theorem State.frameLeft_eq : s.frameLeft f n = (s.frameStopped f).sectionsOut f (sectionsInPlan n) := rfl

/-- What neither the counts, the counters nor the sweeps hold. -/
theorem State.frameStopped_keeps {β : Type} (P : State → β) (hcount : ∀ f g t, P (State.count f g t) = P t)
    (hroller : ∀ f x t, P (State.setRoller f x t) = P t) (hsweep : ∀ f x t, P (State.setSweep f x t) = P t) :
    P (s.frameStopped f) = P s := by
  rw [State.frameStopped, hsweep, State.closeStop_keeps P hcount hroller]

theorem State.frameStopped_output : (s.frameStopped f).output = (s.closeStop f).output := State.setSweep_output ..

/-- The stop time counted with the open page. -/
theorem State.closeStop_counts_same (hs : s.formed = true) : (s.closeStop f).counts f =
    match (s.roller f).stopMark, s.output.page with
    | some m, some _ => { s.counts f with stopDs := min 4294967295 ((s.counts f).stopDs + (s.clock - m).toNat) }
    | _, _ => s.counts f := by
  cases hmark : (s.roller f).stopMark with
  | none => rw [State.closeStop_of_none hmark]
  | some m =>
    rw [State.closeStop_of_some hmark, State.counts_of_table (State.setRoller_output_counts ..), State.stopCounted]
    cases hpage : s.output.page with
    | none => rw [State.count_of_no_page hpage]
    | some p =>
      rw [State.count_counts_same hs (by rw [hpage]; nofun)]
      rfl

/-! ### What the whole of the leaving keeps -/

theorem State.frameOut_frame_state (h : (s.frame f).state = .halted ∨ (s.frame f).state = .out) :
    (((s.frameLeft f n).frameStripped f).frame f) = s.frame f := by
  rw [State.frameStripped_keeps (fun t => t.frame f) (by simp) (by simp) (by simp) (by simp)]
  obtain ⟨hframes, _⟩ := State.fields_of_beside (State.sectionsOut_beside (s := s.frameStopped f) (f := f)
    (l := sectionsInPlan n))
  rw [State.frameLeft_eq, State.frame_of_table hframes,
    State.frameStopped_keeps (fun t => t.frame f) (by simp) (by simp) (by simp)]

/-- What the last stages of the leaving do not touch. -/
theorem State.frameOut_keeps {β : Type} (P : State → β) (h : (s.frame f).state = .halted ∨ (s.frame f).state = .out)
    (hframe : ∀ f x t, P (State.setFrame f x t) = P t) (hpiecer : ∀ p x t, P (State.setPiecer p x t) = P t)
    (howe : ∀ t, P (State.oweArbiter t) = P t)
    (hbook : ∀ t, P (State.finishBook (orderOn .doffNow f) (some .notPresent) [] t) = P t) :
    P (s.frameOut f n) = P ((s.frameLeft f n).frameStripped f) := by
  rw [State.frameOut_eq, hbook, State.poolPiecers_keeps P hpiecer howe, State.frameOuted_keeps P hframe]
  rwa [State.frameOut_frame_state h]

/-- What no part of the leaving touches but the sections, the counts and the counters. -/
theorem State.frameOut_keeps_all {β : Type} (P : State → β) (h : (s.frame f).state = .halted ∨ (s.frame f).state = .out)
    (hframe : ∀ f x t, P (State.setFrame f x t) = P t) (hpiecer : ∀ p x t, P (State.setPiecer p x t) = P t)
    (howe : ∀ t, P (State.oweArbiter t) = P t)
    (hbook : ∀ t, P (State.finishBook (orderOn .doffNow f) (some .notPresent) [] t) = P t)
    (hspindle : ∀ f n x t, P (State.setSpindle f n x t) = P t) (hside : ∀ d x t, P (State.setSide d x t) = P t)
    (hfeed : ∀ f x t, P (State.setFeed f x t) = P t) (hroller : ∀ f x t, P (State.setRoller f x t) = P t) :
    P (s.frameOut f n) = P (s.frameLeft f n) := by
  rw [State.frameOut_keeps P h hframe hpiecer howe hbook, State.frameStripped_keeps P hspindle hside hfeed hroller]

/-! ### The records -/

section
variable (hs : s.formed = true) (h : (s.frame f).state = .halted ∨ (s.frame f).state = .out)
include hs h

theorem State.frameOut_frame_same : (s.frameOut f n).frame f =
    { s.frame f with state := .out, doffOwed := false, doffFinish := .none, haltCause := none, buildM := 0 } := by
  rw [State.frameOut_eq, State.finishBook_frame, State.poolPiecers_keeps (fun t => t.frame f) (by simp) (by simp),
    State.frameOuted_frame_same (State.frameStripped_formed (State.frameLeft_formed hs)), State.frameOut_frame_state h]

theorem State.frameOut_roller_same : (s.frameOut f n).roller f = ⟨0, 0#32, 0#32, 0, 0, 0, 0, 0, none⟩ := by
  rw [State.frameOut_keeps (fun t => t.roller f) h (by simp) (by simp) (by simp) (by simp), State.frameStripped,
    State.setRoller_formed_same _ _ _ (State.setFeed_formed _ _ _ (State.sidesEmptied_formed
      (State.spindlesOut_formed _ _ _ (State.frameLeft_formed hs))))]
  rfl

theorem State.frameOut_feed_same : (s.frameOut f n).feed f = ⟨0, 0, 0⟩ := by
  rw [State.frameOut_keeps (fun t => t.feed f) h (by simp) (by simp) (by simp) (by simp), State.frameStripped,
    State.setRoller_feed, State.setFeed_formed_same _ _ _ (State.sidesEmptied_formed
      (State.spindlesOut_formed _ _ _ (State.frameLeft_formed hs)))]
  rfl

theorem State.frameOut_sweep (g : Nat) : (s.frameOut f n).sweep g = (s.frameStopped f).sweep g := by
  obtain ⟨_, _, _, hsweeps, _⟩ := State.fields_of_beside (State.sectionsOut_beside (s := s.frameStopped f) (f := f)
    (l := sectionsInPlan n))
  rw [State.frameOut_keeps_all (fun t => t.sweep g) h (by simp) (by simp) (by simp) (by simp) (by simp) (by simp) (by simp)
    (by simp), State.frameLeft_eq]
  exact State.sweep_of_table hsweeps g

theorem State.frameOut_counts (g : Nat) : (s.frameOut f n).counts g = (s.closeStop f).counts g := by
  obtain ⟨_, houtput, _⟩ := State.fields_of_beside (State.sectionsOut_beside (s := s.frameStopped f) (f := f)
    (l := sectionsInPlan n))
  have hkeeps := State.frameOut_keeps_all (n := n) (fun t => t.output.counts) h (by simp) (by simp) (by simp) (by simp)
    (by simp) (by simp) (by simp) (by simp)
  refine State.counts_of_table (hkeeps.trans ?_) g
  rw [State.frameLeft_eq, houtput, State.frameStopped_output]

theorem State.frameOut_frame_other {g : Nat} (hg : g ≠ f) : (s.frameOut f n).frame g = s.frame g := by
  obtain ⟨hframes, _⟩ := State.fields_of_beside (State.sectionsOut_beside (s := s.frameStopped f) (f := f)
    (l := sectionsInPlan n))
  rw [State.frameOut_eq, State.finishBook_frame, State.poolPiecers_keeps (fun t => t.frame g) (by simp) (by simp),
    State.frameOuted_frame_other hg, State.frameStripped_keeps (fun t => t.frame g) (by simp) (by simp) (by simp) (by simp),
    State.frameLeft_eq, State.frame_of_table hframes,
    State.frameStopped_keeps (fun t => t.frame g) (by simp) (by simp) (by simp)]

theorem State.frameOut_roller_other {g : Nat} (hg : g ≠ f) : (s.frameOut f n).roller g = s.roller g := by
  obtain ⟨_, houtput, _⟩ := State.fields_of_beside (State.sectionsOut_beside (s := s.frameStopped f) (f := f)
    (l := sectionsInPlan n))
  rw [State.frameOut_keeps (fun t => t.roller g) h (by simp) (by simp) (by simp) (by simp), State.frameStripped,
    State.setRoller_other _ _ _ _ hg, State.setFeed_roller, State.sidesEmptied,
    State.each_keeps (fun t => t.roller g) _ _ (by simp), State.spindlesOut_keeps (fun t => t.roller g) (by simp),
    State.frameLeft_eq, State.roller_of_table (congrArg Output.rollers houtput), State.roller_of_table
      (congrArg Output.rollers State.frameStopped_output), (State.closeStop_other hg).1]

theorem State.frameOut_feed_other {g : Nat} (hg : g ≠ f) : (s.frameOut f n).feed g = s.feed g := by
  obtain ⟨_, _, _, _, _, hfeeds, _⟩ := State.fields_of_beside (State.sectionsOut_beside (s := s.frameStopped f) (f := f)
    (l := sectionsInPlan n))
  rw [State.frameOut_keeps (fun t => t.feed g) h (by simp) (by simp) (by simp) (by simp), State.frameStripped,
    State.setRoller_feed, State.setFeed_other _ _ _ _ hg, State.sidesEmptied,
    State.each_keeps (fun t => t.feed g) _ _ (by simp), State.spindlesOut_keeps (fun t => t.feed g) (by simp),
    State.frameLeft_eq, State.feed_of_table hfeeds,
    State.frameStopped_keeps (fun t => t.feed g) (by simp) (by simp) (by simp)]

theorem State.frameOut_spindles (g k : Nat) : (s.frameOut f n).spindle g k =
    ((s.frameLeft f n).spindlesOut f ((s.frameLeft f n).spindlesOfFrame f)).spindle g k := by
  rw [State.frameOut_keeps (fun t => t.spindle g k) h (by simp) (by simp) (by simp) (by simp), State.frameStripped,
    State.setRoller_spindle, State.setFeed_spindle, State.sidesEmptied,
    State.each_keeps (fun t => t.spindle g k) _ _ (by simp)]

theorem State.frameOut_spindle_same {k : Nat} (hk : 1 ≤ k ∧ k ≤ 1824) :
    (s.frameOut f n).spindle f k = ⟨.absent, false, false, 0, none, none, 0#32, 0, none⟩ := by
  have hleft := State.frameLeft_formed (f := f) (n := n) hs
  rw [State.frameOut_spindles hs h]
  by_cases hmem : k ∈ (s.frameLeft f n).spindlesOfFrame f
  · exact State.spindlesOut_same hleft (State.nodup_spindlesOfFrame hleft f) hmem
  · have hout : (s.frameLeft f n).spindle f k = Spindle.reset := by
      by_contra hne
      exact hmem (State.mem_spindlesOfFrame.mpr ⟨hk.1, hk.2, List.mem_map_of_mem (mem_of_tget_ne hne)⟩)
    rw [State.spindlesOut_other fun m hm => spindleKey_ne_of_ne (m := k) (n := m) fun he => hmem (he ▸ hm), hout]
    rfl

theorem State.frameOut_spindle_other {g k : Nat} (hf : 1 ≤ f) (hg : 1 ≤ g) (hgf : g ≠ f) (hk : k ≤ 1824) :
    (s.frameOut f n).spindle g k = s.spindle g k := by
  obtain ⟨_, _, hspindles, _⟩ := State.fields_of_beside (State.sectionsOut_beside (s := s.frameStopped f) (f := f)
    (l := sectionsInPlan n))
  rw [State.frameOut_spindles hs h, State.spindlesOut_other fun m hm => spindleKey_ne_frame hf hg hgf
    (State.mem_spindlesOfFrame.mp hm).2.1 hk, State.frameLeft_eq, State.spindle_of_table hspindles,
    State.frameStopped_keeps (fun t => t.spindle g k) (by simp) (by simp) (by simp)]

/-- The sides of the frame as they are when their piecers go to the pool. -/
theorem State.frameOut_sides (hf : 1 ≤ f) {d : Nat} (hd : d ∈ frameSides f) :
    (((s.frameLeft f n).frameStripped f).frameOuted f).side d = { s.side d with entries := [] } := by
  obtain ⟨_, _, _, _, hsides, _⟩ := State.fields_of_beside (State.sectionsOut_beside (s := s.frameStopped f) (f := f)
    (l := sectionsInPlan n))
  rw [State.frameOuted_keeps (fun t => t.side d) (by simp) (by rwa [State.frameOut_frame_state h]), State.frameStripped,
    State.setRoller_side, State.setFeed_side, State.sidesEmptied_side
      (State.spindlesOut_formed _ _ _ (State.frameLeft_formed hs)) hf hd,
    State.spindlesOut_keeps (fun t => t.side d) (by simp), State.frameLeft_eq, State.side_of_table hsides,
    State.frameStopped_keeps (fun t => t.side d) (by simp) (by simp) (by simp)]

theorem State.frameOut_placement (p : Nat) :
    ((((s.frameLeft f n).frameStripped f).frameOuted f).piecer p).placement = (s.piecer p).placement := by
  have hstopped : (s.frameStopped f).formed = true := State.setSweep_formed _ _ _ (State.closeStop_formed _ _ hs)
  rw [State.frameOuted_keeps (fun t => t.piecer p) (by simp) (by rwa [State.frameOut_frame_state h]),
    State.frameStripped_keeps (fun t => t.piecer p) (by simp) (by simp) (by simp) (by simp), State.frameLeft_eq,
    State.sectionsOut_placement hstopped, State.frameStopped_keeps (fun t => t.piecer p) (by simp) (by simp) (by simp)]

/-- A side of the frame that has left, and its SIDE-placed piecer. -/
theorem frameOut_side_effect (hf : 1 ≤ f) {d : Nat} (hd : d ∈ frameSides f) :
    let u := s.frameOut f n
    u.side d = { s.side d with entries := [] } ∧
    ∀ p, (s.side d).piecer = some p → (s.piecer p).placement = .side → u.Pooled p := by
  intro u
  have hu : u = ((((s.frameLeft f n).frameStripped f).frameOuted f).poolPiecers f).finishBook (orderOn .doffNow f)
      (some .notPresent) [] := State.frameOut_eq s f n
  have hside := State.frameOut_sides (n := n) hs h hf hd
  have hformed := State.frameOuted_formed (f := f) (State.frameStripped_formed (f := f) (State.frameLeft_formed (f := f) (n := n) hs))
  refine ⟨?_, fun p hp hplace => ?_⟩
  · rw [hu, State.finishBook_side, State.poolPiecers_keeps (fun t => t.side d) (by simp) (by simp), hside]
  · have hpooled := State.poolPiecers_pooled hformed hf hd (p := p) (by rw [hside]; exact hp)
      (by rw [State.frameOut_placement hs h]; exact hplace)
    rw [hu, State.Pooled, State.finishBook_piecer, State.finishBook_work]
    exact hpooled

end

end

end Sys2Proof.Machine
end

section
/-! PROOFS. The sections and the orders of a frame that has left the plan (R22, R83, R125). -/

namespace Sys2Proof.Machine

section
variable {s : State} {f n : Nat}

theorem State.frameStopped_sectionView : (s.frameStopped f).sectionView = s.sectionView :=
  State.frameStopped_keeps State.sectionView (by simp [State.sectionView]) (by simp [State.sectionView])
    (by simp [State.sectionView])

theorem State.frameStopped_board : (s.frameStopped f).board = s.board :=
  State.frameStopped_keeps State.board (by simp) (by simp) (by simp)

/-- The stages after the sections leave the book alone, but for a DOFF_NOW. -/
theorem State.frameOut_board (f n : Nat) (s : State) :
    ((((s.frameLeft f n).frameStripped f).frameOuted f).poolPiecers f).board = (s.frameLeft f n).board := by
  rw [State.poolPiecers_keeps State.board (by simp) (by simp), State.frameOuted, State.setFrame_board,
    State.enterState_board,
    State.frameStripped_keeps State.board (by simp) (by simp) (by simp) (by simp)]

theorem State.frameOut_gone (hs : s.formed = true) (hn : (s.desk.book.map BookEntry.cell).Nodup) (hf : 1 ≤ f)
    (hn912 : n ≤ 912)
    (h : (s.frame f).state = .halted ∨ (s.frame f).state = .out) :
    s.SectionsGone (s.frameOut f n) f (sectionsInPlan n) := by
  have hformed : (s.frameStopped f).formed = true := State.setSweep_formed _ _ _ (State.closeStop_formed _ _ hs)
  have hdesk : (s.frameStopped f).desk = s.desk := State.desk_of_board State.frameStopped_board
  have hgone := State.sectionsOut_gone (f := f) hformed (by rw [hdesk]; exact hn) hf (sectionList_sectionsInPlan hn912)
  refine hgone.of_views State.frameStopped_sectionView ?_ (by rw [hdesk]) ?_ fun b r w hended => ?_
  · exact State.frameStopped_keeps State.settings (by simp [State.settings]) (by simp [State.settings]) (by simp [State.settings])
  · exact State.frameOut_keeps_all State.sectionView h (by simp [State.sectionView]) (by simp [State.sectionView])
      (fun _ => rfl) (by simp [State.sectionView]) (by simp [State.sectionView]) (by simp [State.sectionView])
      (by simp [State.sectionView]) (by simp [State.sectionView])
  · rw [State.frameOut_eq]
    exact (hended.of_board (State.frameOut_board f n s)).finishBook _ _ _

/-- A DOFF_NOW on the frame is refused. -/
theorem State.frameOut_doffNow (hn : (s.desk.book.map BookEntry.cell).Nodup) {b : BookEntry} (hb : b ∈ s.desk.book)
    (hkind : b.kind = .doffNow) (hp1 : b.p1 = w32 f) : (s.frameOut f n).finished b.cell (some .notPresent) [] := by
  have helsewhere (k : Nat) : b.Elsewhere f k :=
    ⟨Bool.eq_false_iff.mpr fun he => absurd (hkind.symm.trans (orderOnSection_iff.mp he).1) nofun,
      Bool.eq_false_iff.mpr fun he => absurd (hkind.symm.trans (orderOnSection_iff.mp he).1) nofun⟩
  have hstopped : (s.frameStopped f).Booked b := State.Booked.of_board ⟨hn, hb⟩ State.frameStopped_board
  have hleft : (s.frameLeft f n).Booked b := State.each_keeps_prop (Q := fun t => t.Booked b)
    (fun k t ht => State.sectionOut_booked (helsewhere k) ht) _ hstopped
  have hsel : orderOn .doffNow f b = true := by simp [orderOn, hkind, hp1]
  rw [State.frameOut_eq]
  exact ((hleft.of_board (State.frameOut_board f n s)).finishBook_ends hsel).1

/-- Sections of other frames stand, with their strips. -/
theorem State.frameOut_creel_other (h : (s.frame f).state = .halted ∨ (s.frame f).state = .out) {e : Nat}
    (he : ∀ k ∈ sectionsInPlan n, e ≠ creelNo f k) :
    (s.frameOut f n).creel e = s.creel e ∧ (s.frameOut f n).strip e = s.strip e := by
  have hview : (s.frameOut f n).sectionView = (s.frameLeft f n).sectionView :=
    State.frameOut_keeps_all State.sectionView h (by simp [State.sectionView]) (by simp [State.sectionView])
      (fun _ => rfl) (by simp [State.sectionView]) (by simp [State.sectionView]) (by simp [State.sectionView])
      (by simp [State.sectionView]) (by simp [State.sectionView])
  obtain ⟨_, hcreel, _, hstrip, _⟩ := State.fields_of_sectionView hview
  obtain ⟨_, hcreel', _, hstrip', _⟩ := State.fields_of_sectionView (State.frameStopped_sectionView (s := s) (f := f))
  obtain ⟨hsections, hstrips⟩ := State.sectionsOut_creel_other (s := s.frameStopped f) he
  exact ⟨(hcreel e).trans (hsections.trans (hcreel' e)), (hstrip e).trans (hstrips.trans (hstrip' e))⟩

theorem State.frameOut_rogue : (s.frameOut f n).rogue = s.rogue := (State.frameOut_works f n State.Works.refl).rogue

/-- The records of the frame that leaves the plan, and of the other frames. -/
theorem frameOut_records (hs : s.formed = true) (h : (s.frame f).state = .halted ∨ (s.frame f).state = .out) :
    let u := s.frameOut f n
    u.frame f = { s.frame f with state := .out, doffOwed := false, doffFinish := .none, haltCause := none, buildM := 0 } ∧
    u.roller f = ⟨0, 0#32, 0#32, 0, 0, 0, 0, 0, none⟩ ∧ u.feed f = ⟨0, 0, 0⟩ ∧ u.sweep f = ⟨⟨false, 0⟩, 0, []⟩ ∧
    u.counts f = (match (s.roller f).stopMark, s.output.page with
      | some m, some _ => { s.counts f with stopDs := min 4294967295 ((s.counts f).stopDs + (s.clock - m).toNat) }
      | _, _ => s.counts f) ∧
    ∀ g, g ≠ f → u.frame g = s.frame g ∧ u.roller g = s.roller g ∧ u.feed g = s.feed g ∧ u.sweep g = s.sweep g ∧
      u.counts g = s.counts g := by
  intro u
  refine ⟨State.frameOut_frame_same hs h, State.frameOut_roller_same hs h, State.frameOut_feed_same hs h, ?_, ?_,
    fun g hg => ⟨State.frameOut_frame_other hs h hg, State.frameOut_roller_other hs h hg,
      State.frameOut_feed_other hs h hg,
      ?_, ?_⟩⟩
  · refine (State.frameOut_sweep hs h f).trans ?_
    rw [State.frameStopped, State.setSweep_formed_same _ _ _ (State.closeStop_formed _ _ hs)]
    rfl
  · exact (State.frameOut_counts hs h f).trans (State.closeStop_counts_same hs)
  · refine (State.frameOut_sweep hs h g).trans ?_
    rw [State.frameStopped, State.setSweep_other _ _ _ _ hg]
    exact State.closeStop_keeps (fun t => t.sweep g) (by simp) (by simp)
  · exact (State.frameOut_counts hs h g).trans (State.closeStop_other hg).2

end

end Sys2Proof.Machine
end

section
/-! PROOFS. Sections that come into the plan (R110, R125, R128, R159). -/

namespace Sys2Proof.Machine

/-! ### Sections in ascending remaining -/

section
variable {r : Nat → Nat} {c : Nat} {l : List Nat}

theorem sortByRemaining_insert_perm : (sortByRemaining.insert r c l).Perm (c :: l) := by
  induction l with
  | nil => exact List.Perm.refl _
  | cons d l ih =>
    unfold sortByRemaining.insert
    split
    · exact (ih.cons d).trans (List.Perm.swap c d l)
    · exact List.Perm.refl _

theorem sortByRemaining_perm : (sortByRemaining r l).Perm l := by
  induction l with
  | nil => exact List.Perm.refl _
  | cons d l ih => exact sortByRemaining_insert_perm.trans (ih.cons d)

theorem sortByRemaining_insert_sorted (h : l.Pairwise fun a b => r a ≤ r b) :
    (sortByRemaining.insert r c l).Pairwise fun a b => r a ≤ r b := by
  induction l with
  | nil => exact List.pairwise_singleton _ _
  | cons d l ih =>
    obtain ⟨hd, hl⟩ := List.pairwise_cons.mp h
    unfold sortByRemaining.insert
    split
    · next hlt =>
      refine List.pairwise_cons.mpr ⟨fun e he => ?_, ih hl⟩
      obtain rfl | he := List.mem_cons.mp (sortByRemaining_insert_perm.mem_iff.mp he)
      · exact Nat.le_of_lt hlt
      · exact hd e he
    · next hge =>
      refine List.pairwise_cons.mpr ⟨fun e he => ?_, h⟩
      have hle : r c ≤ r d := Nat.le_of_not_lt hge
      obtain rfl | he := List.mem_cons.mp he
      · exact hle
      · exact hle.trans (hd e he)

theorem sortByRemaining_sorted : (sortByRemaining r l).Pairwise fun a b => r a ≤ r b := by
  induction l with
  | nil => exact List.Pairwise.nil
  | cons d l ih => exact sortByRemaining_insert_sorted ih

end

/-! ### Sections queued while there is room (R110) -/

section
variable {s : State}

/-- A section queued, stamped with the mill clock, while there is room. -/
def State.queueOne (c : Nat) (s : State) : State := if s.queueRoom then s.queueByStamp c s.clock else s

theorem State.mem_queueByStamp_iff (c : Nat) (w : Word) (e : Nat) :
    e ∈ (s.queueByStamp c w).roving.queue ↔ e ∈ s.roving.queue ∨ e = c := by
  obtain ⟨l, r, hqueue, hplace, _⟩ := placeByStamp_split s.queueStampOf c w.toNat s.roving.queue
  rw [State.queueByStamp_queue, hplace, hqueue]
  simp only [List.mem_append, List.mem_cons]
  tauto

theorem State.queueRoom_iff : s.queueRoom = true ↔ s.roving.queue.length < 32 := decide_eq_true_iff

theorem State.queueOne_full (c : Nat) (h : 32 ≤ s.roving.queue.length) : s.queueOne c = s :=
  if_neg fun hroom => absurd (State.queueRoom_iff.mp hroom) (Nat.not_lt.mpr h)

theorem State.queueOne_room (c : Nat) (h : s.roving.queue.length < 32) : s.queueOne c = s.queueByStamp c s.clock :=
  if_pos (State.queueRoom_iff.mpr h)

/-- With no room nothing more is queued. -/
theorem State.each_queueOne_full (l : List Nat) (h : 32 ≤ s.roving.queue.length) : s.each l State.queueOne = s := by
  induction l with
  | nil => rfl
  | cons c l ih =>
    have hstep : s.each (c :: l) State.queueOne = (s.queueOne c).each l State.queueOne := rfl
    rw [hstep, State.queueOne_full c h, ih]

/-- A queueing loop queues the head of its list and leaves the rest, the queue then being full. -/
structure State.Queues (s u : State) (l first rest : List Nat) : Prop where
  split : l = first ++ rest
  full : rest ≠ [] → 32 ≤ u.roving.queue.length
  queued : ∀ c ∈ first, u.creel c = { s.creel c with state := .queued, queueStamp := some s.clock } ∧ c ∈ u.roving.queue
  other : ∀ c, c ∉ first → u.creel c = s.creel c
  queue : ∀ e, e ∈ u.roving.queue ↔ e ∈ s.roving.queue ∨ e ∈ first

theorem State.each_queueOne (hs : s.formed = true) {l : List Nat} (hl : l.Nodup) :
    ∃ first rest, s.Queues (s.each l State.queueOne) l first rest := by
  induction l generalizing s with
  | nil => exact ⟨[], [], rfl, fun h => absurd rfl h, nofun, fun _ _ => rfl, by simp [State.each]⟩
  | cons c l ih =>
    obtain ⟨hc, hl⟩ := List.nodup_cons.mp hl
    obtain hroom | hfull := Nat.lt_or_ge s.roving.queue.length 32
    · have hformed : (s.queueByStamp c s.clock).formed = true :=
        State.queueByStamp_formed _ _ _ hs (State.queueRoom_iff.mpr hroom)
      have hstep : s.each (c :: l) State.queueOne = (s.queueByStamp c s.clock).each l State.queueOne := by
        rw [← State.queueOne_room c hroom]
        rfl
      obtain ⟨first, rest, hsplit, hrest, hqueued, hother, hqueue⟩ := ih hformed hl
      have hnew : c ∉ first := fun h => hc (by rw [hsplit]; exact List.mem_append_left _ h)
      rw [State.queueByStamp_clock] at hqueued
      rw [hstep]
      refine ⟨c :: first, rest, by rw [hsplit]; rfl, hrest, fun d hd => ?_, fun d hd => ?_, fun e => ?_⟩
      · obtain rfl | hd := List.mem_cons.mp hd
        · rw [hother _ hnew, State.queueByStamp_creel_same hs, hqueue]
          exact ⟨rfl, .inl (State.mem_queueByStamp ..)⟩
        · rw [← State.queueByStamp_creel_other (s := s) (k := c) (fun he : d = c => hnew (he ▸ hd)) s.clock]
          exact hqueued d hd
      · obtain ⟨hne, hd⟩ := not_or.mp (mt List.mem_cons.mpr hd)
        rw [hother d hd, State.queueByStamp_creel_other hne]
      · rw [hqueue, State.mem_queueByStamp_iff, List.mem_cons, or_assoc]
    · rw [State.each_queueOne_full _ hfull]
      exact ⟨[], c :: l, rfl, fun _ => hfull, nofun, fun _ _ => rfl, by simp⟩

/-- Sections queued now: the first of them in ascending remaining, as many as there is room for. -/
theorem State.queueNow_queues (hs : s.formed = true) {l : List Nat} (hl : l.Nodup) : ∃ first rest,
    s.Queues (s.queueNow l) (sortByRemaining (fun c => (s.creel c).remaining) l) first rest :=
  State.each_queueOne hs (sortByRemaining_perm.nodup_iff.mpr hl)

end

/-! ### Sections set up from the start table (R125, R128) -/

/-- The sections' records and strips set up. -/
def State.sectionsSet (f : Nat) (l : List Nat) (s : State) : State :=
  s.each l fun k u => (u.setStrip (creelNo f k) Strip.reset).setCreel (creelNo f k)
    (Creel.start ((s.frameSettings f).start k) (s.frameSettings f).lowThreshold)

theorem State.sectionsIn_eq (f : Nat) (l : List Nat) (s : State) : s.sectionsIn f l =
    (s.sectionsSet f l).queueNow ((l.map (creelNo f)).filter fun c => ((s.sectionsSet f l).creel c).state == .low) := rfl

section
variable {s : State} {f : Nat} {l : List Nat}

theorem State.sectionsSet_keeps {β : Type} (P : State → β) (hcreel : ∀ e x t, P (State.setCreel e x t) = P t)
    (hstrip : ∀ e x t, P (State.setStrip e x t) = P t) : P (s.sectionsSet f l) = P s :=
  State.each_keeps P _ _ (fun _ _ => by rw [hcreel, hstrip]) s

theorem State.sectionsIn_keeps {β : Type} (P : State → β) (hqueue : ∀ c w t, P (State.queueByStamp c w t) = P t)
    (hcreel : ∀ e x t, P (State.setCreel e x t) = P t) (hstrip : ∀ e x t, P (State.setStrip e x t) = P t) :
    P (s.sectionsIn f l) = P s := by
  rw [State.sectionsIn_eq, State.queueNow_keeps P hqueue, State.sectionsSet_keeps P hcreel hstrip]

theorem State.sectionsSet_other {e : Nat} (h : ∀ k ∈ l, e ≠ creelNo f k) :
    (s.sectionsSet f l).creel e = s.creel e ∧ (s.sectionsSet f l).strip e = s.strip e :=
  ⟨State.each_keeps_mem (fun t => t.creel e) (fun k hk _ => by
      rw [State.setCreel_other _ _ _ _ (h k hk), State.setStrip_creel]) s,
    State.each_keeps_mem (fun t => t.strip e) (fun k hk _ => by
      rw [State.setCreel_strip, State.setStrip_other _ _ _ _ (h k hk)]) s⟩

theorem State.sectionsSet_formed (hs : s.formed = true) : (s.sectionsSet f l).formed = true :=
  State.each_keeps_prop (Q := fun t => t.formed = true)
    (fun _ _ ht => State.setCreel_formed _ _ _ (State.setStrip_formed _ _ _ ht)) _ hs

theorem State.sectionsSet_same (hs : s.formed = true) (hl : l.Nodup) {k : Nat} (hk : k ∈ l) :
    (s.sectionsSet f l).creel (creelNo f k) =
      Creel.start ((s.frameSettings f).start k) (s.frameSettings f).lowThreshold ∧
    (s.sectionsSet f l).strip (creelNo f k) = ⟨false, 0, 0, none⟩ := by
  obtain ⟨t, ht, _, hafter⟩ := State.each_pass (rec := fun m t => (t.creel (creelNo f m), t.strip (creelNo f m)))
    (g := fun m t => (t.setStrip (creelNo f m) Strip.reset).setCreel (creelNo f m)
      (Creel.start ((s.frameSettings f).start m) (s.frameSettings f).lowThreshold))
    (Q := fun t => t.formed = true) (fun _ _ ht => State.setCreel_formed _ _ _ (State.setStrip_formed _ _ _ ht))
    (fun n m t _ hne => by
      rw [State.setCreel_other _ _ _ _ (creelNo_ne hne), State.setStrip_creel, State.setCreel_strip,
        State.setStrip_other _ _ _ _ (creelNo_ne hne)]) hl hk hs
  rw [State.setCreel_formed_same _ _ _ (State.setStrip_formed _ _ _ ht), State.setCreel_strip,
    State.setStrip_formed_same _ _ _ ht, Prod.mk.injEq] at hafter
  exact hafter

end

end Sys2Proof.Machine
end

section
/-! PROOFS. What sections that come into the plan come to (R125, R128, R159). -/

namespace Sys2Proof.Machine

/-- The record of a section brought into plan with so much roving, LOW. -/
def Creel.cameLow (m : Nat) : Creel := ⟨1000 * m, .low, none, none, .none, .none, false, none⟩

theorem Creel.start_of_low {m low : Nat} (h : m ≤ low) : Creel.start m low = Creel.cameLow m := by
  unfold Creel.start Creel.cameLow Creel.reset
  rw [if_pos h, Nat.mul_comm]

theorem Creel.start_of_not_low {m low : Nat} (h : ¬m ≤ low) :
    Creel.start m low = { Creel.cameLow m with state := .fed } := by
  unfold Creel.start Creel.cameLow Creel.reset
  rw [if_neg h, Nat.mul_comm]

theorem Creel.start_state {m low : Nat} : (Creel.start m low).state = .low ↔ m ≤ low := by
  unfold Creel.start
  dsimp only
  split <;> simp [*]

/-- Sections have come into the plan: set up, the LOW ones queued by ascending remaining while there is room. -/
structure State.SectionsCame (v u : State) (f : Nat) (l : List Nat) : Prop where
  queue : ∀ e, (l.map (creelNo f)).contains e = false → (e ∈ u.roving.queue ↔ e ∈ v.roving.queue)
  strip : ∀ k ∈ l, u.strip (creelNo f k) = ⟨false, 0, 0, none⟩
  fed : ∀ k ∈ l, ¬(v.frameSettings f).start k ≤ (v.frameSettings f).lowThreshold →
    u.creel (creelNo f k) = { Creel.cameLow ((v.frameSettings f).start k) with state := .fed }
  low : ∀ k ∈ l, (v.frameSettings f).start k ≤ (v.frameSettings f).lowThreshold →
    (u.creel (creelNo f k) = { Creel.cameLow ((v.frameSettings f).start k) with
        state := .queued, queueStamp := some v.clock } ∧ creelNo f k ∈ u.roving.queue) ∨
      (u.creel (creelNo f k) = Creel.cameLow ((v.frameSettings f).start k) ∧ 32 ≤ u.roving.queue.length)
  order : ∀ j k, j ∈ l → k ∈ l → (v.frameSettings f).start j ≤ (v.frameSettings f).lowThreshold →
    (v.frameSettings f).start k ≤ (v.frameSettings f).lowThreshold → (u.creel (creelNo f j)).state = .queued →
    (u.creel (creelNo f k)).state = .low → (v.frameSettings f).start j ≤ (v.frameSettings f).start k

theorem State.SectionsCame.remaining {v u : State} {f k : Nat} {l : List Nat} (h : v.SectionsCame u f l) (hk : k ∈ l) :
    (u.creel (creelNo f k)).remaining = 1000 * (v.frameSettings f).start k := by
  by_cases hlow : (v.frameSettings f).start k ≤ (v.frameSettings f).lowThreshold
  · obtain ⟨hcreel, _⟩ | ⟨hcreel, _⟩ := h.low k hk hlow <;> rw [hcreel] <;> rfl
  · rw [h.fed k hk hlow]
    rfl

section
variable {s : State} {f : Nat} {l : List Nat}

theorem nodup_map_creelNo (hl : l.Nodup) : (l.map (creelNo f)).Nodup :=
  hl.map fun _ _ h => Nat.add_left_cancel h

/-- The LOW sections of those set up. -/
def State.lowSet (f : Nat) (l : List Nat) (s : State) : List Nat :=
  (l.map (creelNo f)).filter fun c => ((s.sectionsSet f l).creel c).state == .low

theorem State.mem_lowSet (hs : s.formed = true) (hl : l.Nodup) {k : Nat} (hk : k ∈ l) :
    creelNo f k ∈ s.lowSet f l ↔ (s.frameSettings f).start k ≤ (s.frameSettings f).lowThreshold := by
  rw [State.lowSet, List.mem_filter, (State.sectionsSet_same hs hl hk).1, beq_iff_eq, Creel.start_state,
    and_iff_right (List.mem_map_of_mem hk)]

/-- Only LOW sections of the list are queued. -/
theorem State.sectionsIn_queues (hs : s.formed = true) (hl : l.Nodup) : ∃ first rest,
    (s.sectionsSet f l).Queues (s.sectionsIn f l)
      (sortByRemaining (fun c => ((s.sectionsSet f l).creel c).remaining) (s.lowSet f l)) first rest :=
  State.queueNow_queues (State.sectionsSet_formed hs) ((nodup_map_creelNo hl).filter _)

theorem State.sectionsIn_other (hs : s.formed = true) (hl : l.Nodup) {e : Nat} (h : ∀ k ∈ l, e ≠ creelNo f k) :
    (s.sectionsIn f l).creel e = s.creel e ∧ (s.sectionsIn f l).strip e = s.strip e := by
  obtain ⟨first, rest, hqueues⟩ := State.sectionsIn_queues (f := f) hs hl
  obtain ⟨hcreel, hstrip⟩ := State.sectionsSet_other (s := s) h
  have hnot : e ∉ first := fun he => by
    have hsorted : e ∈ sortByRemaining (fun c => ((s.sectionsSet f l).creel c).remaining) (s.lowSet f l) := by
      rw [hqueues.split]
      exact List.mem_append_left _ he
    have hmem := List.mem_of_mem_filter (sortByRemaining_perm.mem_iff.mp hsorted)
    obtain ⟨k, hk, hek⟩ := List.mem_map.mp hmem
    exact h k hk hek.symm
  refine ⟨(hqueues.other e hnot).trans hcreel, ?_⟩
  rw [State.sectionsIn_eq, State.queueNow_keeps (fun t => t.strip e)]
  · exact hstrip
  · intro c w t
    exact State.strip_of_table (congrArg Watch.strips (State.setCreel_watch ..)) e

/-- The sections brought into plan. -/
theorem State.sectionsIn_came (hs : s.formed = true) (hl : l.Nodup) : s.SectionsCame (s.sectionsIn f l) f l := by
  obtain ⟨first, rest, hqueues⟩ := State.sectionsIn_queues (f := f) hs hl
  have hsplit (c : Nat) : c ∈ s.lowSet f l ↔ c ∈ first ∨ c ∈ rest := by
    rw [← List.mem_append, ← hqueues.split]
    exact sortByRemaining_perm.mem_iff.symm
  have hclock : (s.sectionsSet f l).clock = s.clock := State.sectionsSet_keeps State.clock (by simp) (by simp)
  have hset {k : Nat} (hk : k ∈ l) := (State.sectionsSet_same (f := f) hs hl hk).1
  refine ⟨fun e he => ?_, fun k hk => ?_, fun k hk hlow => ?_, fun k hk hlow => ?_,
    fun j k hj hk hlowj hlowk hqueued hleft => ?_⟩
  · have hout : e ∉ first := fun hf => by
      have hmem := List.mem_of_mem_filter ((hsplit e).mpr (.inl hf))
      rw [List.contains_iff_mem.mpr hmem] at he
      cases he
    rw [hqueues.queue, or_iff_left hout, State.sectionsSet_keeps (fun t => t.roving.queue) (by simp) (by simp)]
  · rw [State.sectionsIn_eq, State.queueNow_keeps (fun t => t.strip (creelNo f k))
      (fun c w t => State.strip_of_table (congrArg Watch.strips (State.setCreel_watch ..)) _)]
    exact (State.sectionsSet_same hs hl hk).2
  · have hout : creelNo f k ∉ first := fun hf => hlow ((State.mem_lowSet hs hl hk).mp ((hsplit _).mpr (.inl hf)))
    rw [hqueues.other _ hout, hset hk, Creel.start_of_not_low hlow]
  · obtain hfirst | hrest := (hsplit _).mp ((State.mem_lowSet hs hl hk).mpr hlow)
    · obtain ⟨hcreel, hmem⟩ := hqueues.queued _ hfirst
      rw [hset hk, Creel.start_of_low hlow, hclock] at hcreel
      exact .inl ⟨hcreel, hmem⟩
    · have hfull := hqueues.full (List.ne_nil_of_mem hrest)
      by_cases hfirst : creelNo f k ∈ first
      · obtain ⟨hcreel, hmem⟩ := hqueues.queued _ hfirst
        rw [hset hk, Creel.start_of_low hlow, hclock] at hcreel
        exact .inl ⟨hcreel, hmem⟩
      · rw [hqueues.other _ hfirst, hset hk, Creel.start_of_low hlow]
        exact .inr ⟨rfl, hfull⟩
  · have hfirst : creelNo f j ∈ first := by
      by_contra hout
      rw [hqueues.other _ hout, hset hj, Creel.start_of_low hlowj] at hqueued
      cases hqueued
    have hrest : creelNo f k ∈ rest := by
      refine ((hsplit _).mp ((State.mem_lowSet hs hl hk).mpr hlowk)).resolve_left fun hin => ?_
      rw [(hqueues.queued _ hin).1] at hleft
      cases hleft
    have hsorted := sortByRemaining_sorted (r := fun c => ((s.sectionsSet f l).creel c).remaining) (l := s.lowSet f l)
    rw [hqueues.split] at hsorted
    have hle := (List.pairwise_append.mp hsorted).2.2 _ hfirst _ hrest
    rw [hset hj, hset hk, Creel.start_of_low hlowj, Creel.start_of_low hlowk] at hle
    exact Nat.le_of_mul_le_mul_left (show 1000 * _ ≤ 1000 * _ from hle) (by decide)

end

end Sys2Proof.Machine
end

section
/-! PROOFS. A frame comes into the plan (R13, R102, R125, R147). -/

namespace Sys2Proof.Machine

section
variable {s t u v : State} {f : Nat} {l : List Nat}

/-- What goes on before and after leaves the sections as they came. -/
theorem State.SectionsCame.of_views (h : t.SectionsCame v f l) (hbefore : t.sectionView = s.sectionView)
    (hsettings : t.frameSettings f = s.frameSettings f) (hclock : t.clock = s.clock) (hafter : u.sectionView = v.sectionView) :
    s.SectionsCame u f l := by
  obtain ⟨hqueue, _⟩ := State.fields_of_sectionView hbefore
  obtain ⟨hqueue', hcreel', _, hstrip', _⟩ := State.fields_of_sectionView hafter
  obtain ⟨hplaces, hstrips, hfed, hlow, horder⟩ := h
  simp only [hsettings, hclock, hqueue] at hplaces hfed hlow horder
  refine ⟨fun e he => ?_, fun k hk => ?_, fun k hk hno => ?_, fun k hk hyes => ?_, fun j k hj hk hj' hk' hq hl => ?_⟩
  · rw [hqueue']
    exact hplaces e he
  · rw [hstrip', hstrips k hk]
  · rw [hcreel', hfed k hk hno]
  · rw [hcreel', hqueue']
    exact hlow k hk hyes
  · rw [hcreel'] at hq hl
    exact horder j k hj hk hj' hk' hq hl

/-- What the write of a spindle leaves, the spindles that come in leave. -/
theorem State.spindlesIn_sectionView : (s.spindlesIn f l).sectionView = s.sectionView :=
  State.spindlesIn_keeps State.sectionView (by simp [State.sectionView])

theorem State.setSweep_sectionView (f : Nat) (x : Sweep) (s : State) : (s.setSweep f x).sectionView = s.sectionView :=
  rfl

/-- A position brought into plan, as its section was. -/
theorem Spindle.start_eq (m : Nat) : Spindle.start (1000 * m) =
    ⟨if m = 0 then .starved else .settling, false, false, 0, none, none, 0#32, 0, none⟩ := by
  unfold Spindle.start Spindle.reset
  have hzero : 1000 * m = 0 ↔ m = 0 := by omega
  simp only [hzero]

/-- The frame HALTED by PLAN with its counter set up. -/
def State.frameSeated (f : Nat) (s : State) : State :=
  ((s.setFrame f { s.frame f with state := .halted, haltCause := some .plan, buildM := 0 }).setRoller f
    (Roller.start (s.frameSettings f) 0)).openStop f

theorem State.frameIn_eq (f : Nat) (s : State) : s.frameIn f =
    let n := (s.frameSettings f).perSide
    let t := ((s.frameSeated f).sectionsIn f (sectionsInPlan n)).spindlesIn f (positions n)
    t.setSweep f ⟨Timer.load t.settings.sweepPeriod, t.settings.sweepPeriod, []⟩ := rfl

theorem State.openStop_keeps {β : Type} (P : State → β) (hroller : ∀ f x t, P (State.setRoller f x t) = P t) :
    P (s.openStop f) = P s := by
  unfold State.openStop
  split
  · exact hroller ..
  · rfl

theorem State.frameSeated_keeps {β : Type} (P : State → β) (hframe : ∀ f x t, P (State.setFrame f x t) = P t)
    (hroller : ∀ f x t, P (State.setRoller f x t) = P t) : P (s.frameSeated f) = P s := by
  rw [State.frameSeated, State.openStop_keeps P hroller, hroller, hframe]

theorem State.queueByStamp_keeps {β : Type} (P : State → β) (hcreel : ∀ e x t, P (State.setCreel e x t) = P t)
    (hqueue : ∀ q t, P { t with roving.queue := q } = P t) (c : Nat) (w : Word) : P (s.queueByStamp c w) = P s := by
  unfold State.queueByStamp
  rw [hqueue, hcreel]

/-- The steps after the frame is HALTED leave what the sections, the spindles and the sweeps do not hold. -/
theorem State.frameIn_keeps {β : Type} (P : State → β) (hcreel : ∀ e x t, P (State.setCreel e x t) = P t)
    (hqueue : ∀ q t, P { t with roving.queue := q } = P t) (hstrip : ∀ e x t, P (State.setStrip e x t) = P t)
    (hspindle : ∀ f n x t, P (State.setSpindle f n x t) = P t) (hsweep : ∀ f x t, P (State.setSweep f x t) = P t) :
    P (s.frameIn f) = P (s.frameSeated f) := by
  rw [State.frameIn_eq]
  dsimp only
  rw [hsweep, State.spindlesIn_keeps P hspindle,
    State.sectionsIn_keeps P (fun c w _ => State.queueByStamp_keeps P hcreel hqueue c w) hcreel hstrip]

theorem State.frameIn_settings (f : Nat) (s : State) : (s.frameSeated f).settings = s.settings :=
  State.frameSeated_keeps State.settings (by simp [State.settings]) (by simp [State.settings])

theorem State.frameIn_spindlesIn_settings {k : List Nat} :
    (((s.frameSeated f).sectionsIn f l).spindlesIn f k).settings = s.settings := by
  rw [State.spindlesIn_keeps State.settings (by simp [State.settings]),
    State.sectionsIn_keeps State.settings (fun c w _ => State.queueByStamp_keeps State.settings (by simp [State.settings])
      (fun _ _ => rfl) c w) (by simp [State.settings]) (by simp [State.settings]), State.frameIn_settings]

section
variable (hs : s.formed = true)
include hs

theorem State.frameSeated_formed : (s.frameSeated f).formed = true :=
  State.openStop_formed _ _ (State.setRoller_formed _ _ _ (State.setFrame_formed _ _ _ hs))

theorem State.frameSeated_frame_same :
    (s.frameSeated f).frame f = { s.frame f with state := .halted, haltCause := some .plan, buildM := 0 } := by
  rw [State.frameSeated, State.openStop_keeps (fun t => t.frame f) (by simp), State.setRoller_frame,
    State.setFrame_formed_same _ _ _ hs]

theorem State.frameSeated_roller_same : (s.frameSeated f).roller f =
    ⟨(s.frameSettings f).pulses, 0#32, 0#32, 0, 0,
      ((s.frameSettings f).doffLength - (s.frameSettings f).nearingMargin) * 1000,
      (s.frameSettings f).doffLength * 1000, 0, if s.output.page = none then none else some s.clock⟩ := by
  rw [State.frameSeated, State.openStop_roller (State.setRoller_formed _ _ _ (State.setFrame_formed _ _ _ hs)),
    State.setRoller_formed_same _ _ _ (State.setFrame_formed _ _ _ hs)]
  simp only [State.setRoller_clock, State.setFrame_clock, State.setRoller_output_page, State.setFrame_output]
  rfl

theorem State.frameSeated_other {g : Nat} (hg : g ≠ f) : (s.frameSeated f).frame g = s.frame g ∧
    (s.frameSeated f).roller g = s.roller g := by
  have hopen (t : State) : (t.openStop f).roller g = t.roller g := by
    unfold State.openStop
    split
    · exact State.setRoller_other _ _ _ _ hg
    · rfl
  refine ⟨?_, ?_⟩
  · rw [State.frameSeated, State.openStop_keeps (fun t => t.frame g) (by simp), State.setRoller_frame,
      State.setFrame_other _ _ _ _ hg]
  · rw [State.frameSeated, hopen, State.setRoller_other _ _ _ _ hg, State.setFrame_roller]

variable (hn : (s.frameSettings f).perSide ≤ 912)
include hn

theorem State.frameIn_came : s.SectionsCame (s.frameIn f) f (sectionsInPlan (s.frameSettings f).perSide) := by
  have hcame := State.sectionsIn_came (f := f) (State.frameSeated_formed (f := f) hs) (nodup_sectionsInPlan hn)
  refine hcame.of_views (State.frameSeated_keeps State.sectionView (by simp [State.sectionView])
    (by simp [State.sectionView])) ?_ (State.frameSeated_keeps State.clock (by simp) (by simp)) ?_
  · rw [State.frameSettings, State.frameIn_settings, State.frameSettings]
  · rw [State.frameIn_eq]
    exact (State.setSweep_sectionView ..).trans State.spindlesIn_sectionView

theorem State.frameIn_sweep_same : (s.frameIn f).sweep f =
    ⟨⟨true, s.settings.sweepPeriod⟩, s.settings.sweepPeriod, []⟩ := by
  rw [State.frameIn_eq]
  dsimp only
  rw [State.setSweep_formed_same _ _ _ (State.spindlesIn_formed _ _ _ (State.sectionsIn_formed _ _ _
    (State.frameSeated_formed hs))), State.frameIn_spindlesIn_settings]
  rfl

theorem State.frameIn_spindle_eq (g k : Nat) : (s.frameIn f).spindle g k =
    (((s.frameSeated f).sectionsIn f (sectionsInPlan (s.frameSettings f).perSide)).spindlesIn f
      (positions (s.frameSettings f).perSide)).spindle g k := State.setSweep_spindle ..

theorem State.frameIn_spindle_before (g k : Nat) :
    ((s.frameSeated f).sectionsIn f (sectionsInPlan (s.frameSettings f).perSide)).spindle g k = s.spindle g k := by
  rw [State.sectionsIn_keeps (fun t => t.spindle g k) (fun c w _ => State.queueByStamp_keeps (fun t => t.spindle g k)
    (by simp) (fun _ _ => rfl) c w) (by simp) (by simp),
      State.frameSeated_keeps (fun t => t.spindle g k) (by simp) (by simp)]

theorem State.frameIn_spindle_same (h24 : (s.frameSettings f).perSide % 24 = 0) {k : Nat}
    (hk : k ∈ positions (s.frameSettings f).perSide) : (s.frameIn f).spindle f k =
      ⟨if (s.frameSettings f).start ((k - 1) / 24 + 1) = 0 then .starved else .settling, false, false, 0, none, none,
        0#32, 0,
        none⟩ := by
  have hformed := State.frameSeated_formed (f := f) hs
  have hcame := State.sectionsIn_came (f := f) hformed (nodup_sectionsInPlan hn)
  have hremaining := hcame.remaining (sectionOf_mem_sectionsInPlan h24 hk)
  have hsettings : (s.frameSeated f).frameSettings f = s.frameSettings f := by
    rw [State.frameSettings, State.frameIn_settings, State.frameSettings]
  rw [State.frameIn_spindle_eq hs hn, State.spindlesIn_same (State.sectionsIn_formed _ _ _ hformed) (nodup_positions hn) hk,
    creelOfSpindle, hremaining, hsettings, Spindle.start_eq]
  rfl

theorem State.frameIn_spindle_other {g k : Nat} (h : ∀ n ∈ positions (s.frameSettings f).perSide,
    spindleKey g k ≠ spindleKey f n) : (s.frameIn f).spindle g k = s.spindle g k := by
  rw [State.frameIn_spindle_eq hs hn, State.spindlesIn_other h, State.frameIn_spindle_before hs hn]

end

/-- A frame that comes into the plan: its own records, and what stands. -/
theorem frameIn_records (hs : s.formed = true) (hn : (s.frameSettings f).perSide ≤ 912) :
    let t := s.frameSettings f
    let u := s.frameIn f
    u.frame f = { s.frame f with state := .halted, haltCause := some .plan, buildM := 0 } ∧
    u.roller f = ⟨t.pulses, 0#32, 0#32, 0, 0, (t.doffLength - t.nearingMargin) * 1000, t.doffLength * 1000, 0,
      if s.output.page = none then none else some s.clock⟩ ∧
    u.sweep f = ⟨⟨true, s.settings.sweepPeriod⟩, s.settings.sweepPeriod, []⟩ ∧
    (∀ g, g ≠ f → u.frame g = s.frame g ∧ u.roller g = s.roller g ∧ u.sweep g = s.sweep g) ∧
    u.disp = s.disp ∧ u.roving.carriers = s.roving.carriers ∧ u.rogue = s.rogue ∧ u.desk = s.desk := by
  intro t u
  have hframe (g : Nat) : u.frame g = (s.frameSeated f).frame g :=
    State.frameIn_keeps (fun t => t.frame g) (by simp) (fun _ _ => rfl) (by simp) (by simp) (by simp)
  have hroller (g : Nat) : u.roller g = (s.frameSeated f).roller g :=
    State.frameIn_keeps (fun t => t.roller g) (by simp) (fun _ _ => rfl) (by simp) (by simp) (by simp)
  refine ⟨(hframe f).trans (State.frameSeated_frame_same hs), (hroller f).trans (State.frameSeated_roller_same hs),
    State.frameIn_sweep_same hs hn, fun g hg => ?_, ?_, ?_, ?_, ?_⟩
  · obtain ⟨hstands, hcounter⟩ := State.frameSeated_other hs hg
    refine ⟨(hframe g).trans hstands, (hroller g).trans hcounter, ?_⟩
    have hsweep : u.sweep g = _ := State.setSweep_other _ _ _ _ hg
    rw [hsweep, State.spindlesIn_keeps (fun t => t.sweep g) (by simp), State.sectionsIn_keeps (fun t => t.sweep g)
      (fun c w _ => State.queueByStamp_keeps (fun t => t.sweep g) (by simp) (fun _ _ => rfl) c w) (by simp) (by simp)]
    exact State.frameSeated_keeps (fun t => t.sweep g) (by simp) (by simp)
  · exact (State.frameIn_keeps State.disp (by simp) (fun _ _ => rfl) (by simp) (by simp) (by simp)).trans
      (State.frameSeated_keeps State.disp (by simp) (by simp))
  · exact (State.frameIn_keeps (fun t => t.roving.carriers) (by simp) (fun _ _ => rfl) (by simp) (by simp) (by simp)).trans
      (State.frameSeated_keeps (fun t => t.roving.carriers) (by simp) (by simp))
  · exact (State.frameIn_works f State.Works.refl).rogue
  · exact (State.frameIn_keeps State.desk (by simp) (fun _ _ => rfl) (by simp) (by simp) (by simp)).trans
      (State.frameSeated_keeps State.desk (by simp) (by simp))

end

end Sys2Proof.Machine
end

section
/-! PROOFS. A frame's spindles per side change (R159). -/

namespace Sys2Proof.Machine

/-! ### Entries that leave the end lists (R39) -/

section
variable {s : State} {f n d : Nat} {l : List Nat}

/-- A side's list without the entry of a spindle of the frame. -/
theorem State.removeEntry_side (hs : s.formed = true) : (s.removeEntry f n).side d =
    { s.side d with entries := (s.side d).entries.filter fun e => !(e.spindle == n && sideOf f n == d) } := by
  unfold State.removeEntry
  dsimp only
  split
  · rw [State.oweRelist_side]
    obtain rfl | hne := eq_or_ne d (sideOf f n)
    · rw [State.setSide_formed_same _ _ _ hs]
      simp only [beq_self_eq_true, Bool.and_true, bne]
    · have hno : (sideOf f n == d) = false := beq_eq_false_iff_ne.mpr hne.symm
      rw [State.setSide_other _ _ _ _ hne]
      simp only [hno, Bool.and_false, Bool.not_false, List.filter_true]
  · next hnone =>
    have hstands : (s.side d).entries.filter (fun e => !(e.spindle == n && sideOf f n == d)) = (s.side d).entries := by
      refine List.filter_eq_self.mpr fun e he => ?_
      rw [Bool.not_eq_true', ← Bool.not_eq_true, Bool.and_eq_true, beq_iff_eq, beq_iff_eq]
      rintro ⟨hsp, rfl⟩
      exact hnone (List.any_eq_true.mpr ⟨e, he, beq_iff_eq.mpr hsp⟩)
    rw [hstands]

/-- The end lists without the entries of spindles of the frame. -/
def State.entriesRemoved (f : Nat) (l : List Nat) (s : State) : State := s.each l fun x t => t.removeEntry f x

theorem State.entriesRemoved_formed (hs : s.formed = true) : (s.entriesRemoved f l).formed = true :=
  State.each_keeps_prop (Q := fun t => t.formed = true) (fun x t ht => State.removeEntry_formed f x t ht) _ hs

theorem State.entriesRemoved_keeps {β : Type} (P : State → β) (hside : ∀ d x t, P (State.setSide d x t) = P t)
    (howe : ∀ d t, P (State.oweRelist d t) = P t) : P (s.entriesRemoved f l) = P s :=
  State.each_keeps P _ _ (fun _ _ => State.removeEntry_keeps _ _ _ P hside howe) s

theorem State.entriesRemoved_side (hs : s.formed = true) : (s.entriesRemoved f l).side d =
    { s.side d with entries := (s.side d).entries.filter fun e => decide ¬(e.spindle ∈ l ∧
      sideOf f e.spindle = d) } := by
  induction l generalizing s with
  | nil => simp [State.entriesRemoved, State.each]
  | cons x l ih =>
    have hstep : (s.entriesRemoved f (x :: l)).side d = _ := ih (State.removeEntry_formed f x s hs)
    rw [hstep, State.removeEntry_side hs]
    dsimp only
    rw [List.filter_filter]
    refine congrArg (fun q => { s.side d with entries := q }) (List.filter_congr fun e _ => ?_)
    rw [Bool.eq_iff_iff]
    simp only [Bool.and_eq_true, decide_eq_true_eq, Bool.not_eq_true', ← Bool.not_eq_true, beq_iff_eq, List.mem_cons]
    constructor
    · rintro ⟨hrest, hown⟩ ⟨rfl | hmem, hd⟩
      · exact hown ⟨rfl, hd⟩
      · exact hrest ⟨hmem, hd⟩
    · intro h
      exact ⟨fun hin => h ⟨.inr hin.1, hin.2⟩, fun hx => h ⟨.inl hx.1, hx.1 ▸ hx.2⟩⟩

/-! ### Relisting owed (R39) -/

theorem State.mem_oweRelist {e : Nat} : e ∈ (s.oweRelist d).work.relist ↔ e ∈ s.work.relist ∨ e = d := by
  unfold State.oweRelist
  dsimp only
  split
  · next h => exact ⟨.inl, fun he => he.elim id fun heq => heq ▸ h⟩
  · rw [List.mem_append, List.mem_singleton]

theorem State.mem_relist_frameSides (hd : d ∈ frameSides f) :
    d ∈ (s.each (frameSides f) State.oweRelist).work.relist := by
  have hlist : s.each (frameSides f) State.oweRelist = (s.oweRelist (2 * f - 1)).oweRelist (2 * f) := rfl
  rw [hlist, State.mem_oweRelist, State.mem_oweRelist]
  rw [mem_frameSides] at hd
  tauto

theorem State.hand_relist (a : Nat) (x : Cmd) (s : State) : (s.hand a x).work.relist = s.work.relist := by
  unfold State.hand State.loseUnit State.journalLost
  dsimp only
  (repeat' split) <;> simp

theorem KeptOut.relist : KeptOut fun t => t.work.relist :=
  ⟨fun _ _ => rfl, fun _ => rfl, by simp, fun _ _ t => State.hand_relist _ _ t, by simp,
    fun _ t => State.hand_relist _ _ t,
    by simp, by simp⟩

/-! ### The stages of a frame resized -/

/-- The entries and the records of the spindles that leave are gone, the frame's sides owed a relisting. -/
def State.spindlesCleared (f : Nat) (l : List Nat) (s : State) : State :=
  ((s.entriesRemoved f l).spindlesOut f l).each (frameSides f) State.oweRelist

/-- The sections that leave are gone besides. -/
def State.frameShrunk (f n m : Nat) (s : State) : State :=
  (s.spindlesCleared f (positionsOnlyIn n m)).sectionsOut f (sectionsOnlyIn n m)

theorem State.frameResized_eq (f n m : Nat) (s : State) : s.frameResized f n m =
    ((s.frameShrunk f n m).sectionsIn f (sectionsOnlyIn m n)).spindlesIn f (positionsOnlyIn m n) := rfl

theorem State.spindlesCleared_keeps {β : Type} (P : State → β) (hside : ∀ d x t, P (State.setSide d x t) = P t)
    (howe : ∀ d t, P (State.oweRelist d t) = P t) (hspindle : ∀ f n x t, P (State.setSpindle f n x t) = P t) :
    P (s.spindlesCleared f l) = P s := by
  rw [State.spindlesCleared, State.each_keeps P _ _ howe, State.spindlesOut_keeps P hspindle,
    State.entriesRemoved_keeps P hside howe]

theorem State.spindlesCleared_formed (hs : s.formed = true) : (s.spindlesCleared f l).formed = true :=
  State.each_keeps_prop (Q := fun t => t.formed = true) (fun d t ht => State.oweRelist_formed d t ht) _
    (State.spindlesOut_formed _ _ _ (State.entriesRemoved_formed hs))

theorem State.frameShrunk_formed {m : Nat} (hs : s.formed = true) : (s.frameShrunk f n m).formed = true :=
  State.sectionsOut_formed (State.spindlesCleared_formed hs)

theorem State.spindlesCleared_settings : (s.spindlesCleared f l).settings = s.settings :=
  State.spindlesCleared_keeps State.settings (by simp [State.settings]) (fun _ _ => rfl) (by simp [State.settings])

theorem State.frameShrunk_frameSettings {m : Nat} : (s.frameShrunk f n m).frameSettings f = s.frameSettings f := by
  rw [State.frameSettings, State.frameShrunk, State.sectionsOut_settings, State.spindlesCleared_settings,
    State.frameSettings]

/-- What the coming in of sections and spindles leaves. -/
theorem State.frameResized_keeps {β : Type} {m : Nat} (P : State → β) (hcreel : ∀ e x t, P (State.setCreel e x t) = P t)
    (hqueue : ∀ q t, P { t with roving.queue := q } = P t) (hstrip : ∀ e x t, P (State.setStrip e x t) = P t)
    (hspindle : ∀ f n x t, P (State.setSpindle f n x t) = P t) : P (s.frameResized f n m) = P (s.frameShrunk f n m) := by
  rw [State.frameResized_eq, State.spindlesIn_keeps P hspindle,
    State.sectionsIn_keeps P (fun c w _ => State.queueByStamp_keeps P hcreel hqueue c w) hcreel hstrip]

/-- The tables that spindles, sides, sections and strips do not hold. -/
theorem frameResized_tables (s : State) (f n m : Nat) :
    let u := s.frameResized f n m
    (∀ g, u.sweep g = s.sweep g) ∧ u.frames = s.frames ∧ u.output = s.output ∧ u.rogue = s.rogue := by
  intro u
  obtain ⟨hframes, houtput, _, hsweeps, _, _, hrogue, _⟩ := State.fields_of_beside (State.sectionsOut_beside
    (s := s.spindlesCleared f (positionsOnlyIn n m)) (f := f) (l := sectionsOnlyIn n m))
  refine ⟨fun g => ?_, ?_, ?_, ?_⟩
  · refine (State.frameResized_keeps (fun t => t.sweep g) (by simp) (fun _ _ => rfl) (by simp) (by simp)).trans ?_
    exact (State.sweep_of_table hsweeps g).trans
      (State.spindlesCleared_keeps (fun t => t.sweep g) (by simp) (fun _ _ => rfl) (by simp))
  · exact (State.frameResized_keeps State.frames (by simp) (fun _ _ => rfl) (by simp) (by simp)).trans (hframes.trans
      (State.spindlesCleared_keeps State.frames (by simp) (fun _ _ => rfl) (by simp)))
  · exact (State.frameResized_keeps State.output (by simp) (fun _ _ => rfl) (by simp) (by simp)).trans (houtput.trans
      (State.spindlesCleared_keeps State.output (by simp) (fun _ _ => rfl) (by simp)))
  · exact (State.frameResized_keeps State.rogue (by simp) (fun _ _ => rfl) (by simp) (by simp)).trans (hrogue.trans
      (State.spindlesCleared_keeps State.rogue (by simp) (fun _ _ => rfl) (by simp)))

/-- The sides of a resized frame (R39, R159). -/
theorem frameResized_side (hs : s.formed = true) (f n m : Nat) (hd : d ∈ frameSides f) :
    let u := s.frameResized f n m
    d ∈ u.work.relist ∧ u.side d = { s.side d with
      entries := (s.side d).entries.filter fun e => decide ¬(e.spindle ∈ positionsOnlyIn n m ∧
        sideOf f e.spindle = d) } := by
  intro u
  obtain ⟨_, _, _, _, hsides, _⟩ := State.fields_of_beside (State.sectionsOut_beside
    (s := s.spindlesCleared f (positionsOnlyIn n m)) (f := f) (l := sectionsOnlyIn n m))
  refine ⟨?_, ?_⟩
  · have hrelist : u.work.relist = (s.spindlesCleared f (positionsOnlyIn n m)).work.relist :=
      (State.frameResized_keeps (fun t => t.work.relist) (by simp) (fun _ _ => rfl) (by simp) (by simp)).trans
        (State.each_keeps (fun t => t.work.relist) _ _ (fun _ _ => State.sectionOut_keeps KeptOut.relist (by simp) (by simp)) _)
    rw [hrelist]
    exact State.mem_relist_frameSides hd
  · have hside : u.side d = (s.spindlesCleared f (positionsOnlyIn n m)).side d :=
      (State.frameResized_keeps (fun t => t.side d) (by simp) (fun _ _ => rfl) (by simp) (by simp)).trans
        (State.side_of_table hsides d)
    rw [hside, State.spindlesCleared, State.each_keeps (fun t => t.side d) _ State.oweRelist (fun _ _ => rfl),
      State.spindlesOut_keeps (fun t => t.side d) (by simp), State.entriesRemoved_side hs]

end

end Sys2Proof.Machine
end

section
/-! PROOFS. Frames enter and leave the plan (R13, R22, R102, R125, R147, R159). -/

namespace Sys2Proof.Machine

section
variable {s : State} {f n m : Nat}

/-! ### The spindles of a resized frame -/

theorem State.frameShrunk_spindle (g k : Nat) : (s.frameShrunk f n m).spindle g k =
    ((s.entriesRemoved f (positionsOnlyIn n m)).spindlesOut f (positionsOnlyIn n m)).spindle g k := by
  obtain ⟨_, _, hspindles, _⟩ := State.fields_of_beside (State.sectionsOut_beside
    (s := s.spindlesCleared f (positionsOnlyIn n m)) (f := f) (l := sectionsOnlyIn n m))
  rw [State.frameShrunk, State.spindle_of_table hspindles, State.spindlesCleared,
    State.each_keeps (fun t => t.spindle g k) _ State.oweRelist (fun _ _ => rfl)]

theorem State.frameShrunk_spindle_other {g k : Nat} (h : ∀ x ∈ positionsOnlyIn n m, spindleKey g k ≠ spindleKey f x) :
    (s.frameShrunk f n m).spindle g k = s.spindle g k := by
  rw [State.frameShrunk_spindle, State.spindlesOut_other h,
    State.entriesRemoved_keeps (fun t => t.spindle g k) (by simp) (fun _ _ => rfl)]

theorem State.frameResized_spindle_before {g k : Nat} :
    ((s.frameShrunk f n m).sectionsIn f (sectionsOnlyIn m n)).spindle g k =
    (s.frameShrunk f n m).spindle g k :=
  State.sectionsIn_keeps (fun t => t.spindle g k) (fun c w _ => State.queueByStamp_keeps (fun t => t.spindle g k)
    (by simp) (fun _ _ => rfl) c w) (by simp) (by simp)

theorem State.frameResized_spindle_other {g k : Nat} (h : ∀ x ∈ positionsOnlyIn m n, spindleKey g k ≠ spindleKey f x) :
    (s.frameResized f n m).spindle g k = (s.frameShrunk f n m).spindle g k := by
  rw [State.frameResized_eq, State.spindlesIn_other h, State.frameResized_spindle_before]

theorem nodup_positionsOnlyIn (hn : n ≤ 912) : (positionsOnlyIn n m).Nodup := (nodup_positions hn).filter _

theorem sectionList_sectionsOnlyIn (hn : n ≤ 912) : SectionList (sectionsOnlyIn n m) :=
  (sectionList_sectionsInPlan hn).filter _

/-- The positions of a frame whose spindles per side change: those that leave, those that come, and the others. -/
theorem frameResized_spindle (hs : s.formed = true) (hn : n ≤ 912) (hm : m ≤ 912) (hn24 : n % 24 = 0)
    (hm24 : m % 24 = 0)
    (k : Nat) :
    let u := s.frameResized f n m
    (k ∈ positionsOnlyIn n m → u.spindle f k = ⟨.absent, false, false, 0, none, none, 0#32, 0, none⟩) ∧
    (k ∈ positionsOnlyIn m n → u.spindle f k =
      ⟨if (s.frameSettings f).start ((k - 1) / 24 + 1) = 0 then .starved else .settling, false, false, 0, none, none,
        0#32, 0,
        none⟩) ∧
    (k ∉ positionsOnlyIn n m → k ∉ positionsOnlyIn m n → u.spindle f k = s.spindle f k) := by
  intro u
  have hkeys {l : List Nat} (hk : k ∉ l) : ∀ x ∈ l, spindleKey f k ≠ spindleKey f x := fun x hx =>
    spindleKey_ne_of_ne fun he => hk (he ▸ hx)
  refine ⟨fun hleaves => ?_, fun hcomes => ?_, fun hstays hnot => ?_⟩
  · have hnot : k ∉ positionsOnlyIn m n := by
      rw [mem_positionsOnlyIn hn hm] at hleaves
      rw [mem_positionsOnlyIn hm hn]
      omega
    have hu : u.spindle f k = _ := State.frameResized_spindle_other (hkeys hnot)
    rw [hu, State.frameShrunk_spindle, State.spindlesOut_same (State.entriesRemoved_formed hs) (nodup_positionsOnlyIn hn) hleaves]
  · have hshrunk := State.frameShrunk_formed (f := f) (n := n) (m := m) hs
    have hcame := State.sectionsIn_came (f := f) hshrunk (sectionList_sectionsOnlyIn (m := n) hm).1
    have hremaining := hcame.remaining (sectionOf_mem_sectionsOnlyIn hm hn hm24 hn24 hcomes)
    have hu : u.spindle f k = _ := State.spindlesIn_same (State.sectionsIn_formed _ _ _ hshrunk)
      (nodup_positionsOnlyIn hm) hcomes
    rw [hu, creelOfSpindle, hremaining, State.frameShrunk_frameSettings, Spindle.start_eq]
    rfl
  · have hu : u.spindle f k = _ := State.frameResized_spindle_other (hkeys hnot)
    rw [hu, State.frameShrunk_spindle_other (hkeys hstays)]

/-! ### The sections of a resized frame -/

theorem State.spindlesCleared_sectionView {l : List Nat} : (s.spindlesCleared f l).sectionView = s.sectionView :=
  State.spindlesCleared_keeps State.sectionView (by simp [State.sectionView]) (fun _ _ => rfl) (by simp [State.sectionView])

/-- With fewer spindles per side sections leave, and none comes. -/
theorem State.frameResized_gone (hs : s.formed = true) (hbook : (s.desk.book.map BookEntry.cell).Nodup) (hf : 1 ≤ f)
    (hn : n ≤ 912) (hm : m ≤ 912) (h : m ≤ n) : s.SectionsGone (s.frameResized f n m) f (sectionsOnlyIn n m) := by
  have hboard : (s.spindlesCleared f (positionsOnlyIn n m)).board = s.board :=
    State.spindlesCleared_keeps State.board (by simp) (fun _ _ => rfl) (by simp)
  have hdesk := State.desk_of_board hboard
  have hgone := State.sectionsOut_gone (f := f) (State.spindlesCleared_formed (l := positionsOnlyIn n m) hs)
    (by rw [hdesk]; exact hbook) hf (sectionList_sectionsOnlyIn (m := m) hn)
  have hu : s.frameResized f n m = s.frameShrunk f n m := by
    rw [State.frameResized_eq, sectionsOnlyIn_eq_nil hm h, positionsOnlyIn_eq_nil hm hn h]
    rfl
  rw [hu]
  exact hgone.of_views State.spindlesCleared_sectionView State.spindlesCleared_settings (by rw [hdesk]) rfl fun _ _ _ he => he

/-- With more spindles per side sections come, and none leaves. -/
theorem State.frameResized_came (hs : s.formed = true) (hn : n ≤ 912) (hm : m ≤ 912) (h : n ≤ m) :
    s.SectionsCame (s.frameResized f n m) f (sectionsOnlyIn m n) := by
  have hshrunk : s.frameShrunk f n m = s.spindlesCleared f (positionsOnlyIn n m) := by
    rw [State.frameShrunk, sectionsOnlyIn_eq_nil hn h]
    rfl
  have hcame := State.sectionsIn_came (f := f) (State.frameShrunk_formed (f := f) (n := n) (m := m) hs)
    (sectionList_sectionsOnlyIn (m := n) hm).1
  refine hcame.of_views ?_ State.frameShrunk_frameSettings ?_ ?_
  · rw [hshrunk, State.spindlesCleared_sectionView]
  · rw [hshrunk]
    exact State.spindlesCleared_keeps State.clock (by simp) (fun _ _ => rfl) (by simp)
  · rw [State.frameResized_eq, State.spindlesIn_sectionView]

/-- The sections that neither leave nor come stand, with their strips. -/
theorem State.frameResized_creel_other (hs : s.formed = true) (hm : m ≤ 912) {e : Nat}
    (hout : ∀ k ∈ sectionsOnlyIn n m, e ≠ creelNo f k) (hin : ∀ k ∈ sectionsOnlyIn m n, e ≠ creelNo f k) :
    (s.frameResized f n m).creel e = s.creel e ∧ (s.frameResized f n m).strip e = s.strip e := by
  obtain ⟨_, hcreel, _, hstrip, _⟩ := State.fields_of_sectionView (State.spindlesCleared_sectionView (s := s) (f := f)
    (l := positionsOnlyIn n m))
  obtain ⟨hcreels, hstrips⟩ := State.sectionsOut_creel_other (s := s.spindlesCleared f (positionsOnlyIn n m)) hout
  obtain ⟨hcreels', hstrips'⟩ := State.sectionsIn_other (f := f) (State.frameShrunk_formed (f := f) (n := n) (m := m) hs)
    (sectionList_sectionsOnlyIn (m := n) hm).1 hin
  obtain ⟨_, hcreel', _, hstrip', _⟩ := State.fields_of_sectionView (State.spindlesIn_sectionView
    (s := (s.frameShrunk f n m).sectionsIn f (sectionsOnlyIn m n)) (f := f) (l := positionsOnlyIn m n))
  exact ⟨(hcreel' e).trans (hcreels'.trans (hcreels.trans (hcreel e))),
    (hstrip' e).trans (hstrips'.trans (hstrips.trans (hstrip e)))⟩

theorem sideOf_mem_frameSides {k : Nat} : sideOf f k ∈ frameSides f := by
  rw [mem_frameSides]
  unfold sideOf
  split
  · exact .inl rfl
  · exact .inr rfl

end

theorem ne_creelNo_of_not_contains {e f k : Nat} {l : List Nat} (h : (l.map (creelNo f)).contains e = false)
    (hk : k ∈ l) :
    e ≠ creelNo f k := by
  rintro rfl
  rw [List.contains_iff_mem.mpr (List.mem_map_of_mem hk)] at h
  cases h

/-- Settles O47: a frame that leaves the plan, comes into it, or has its spindles per side changed. -/
theorem framesEnterAndLeaveThePlan : Obligations.FramesEnterAndLeaveThePlan := by
  unfold Obligations.FramesEnterAndLeaveThePlan
  intro sections gone came fresh
  have hgone {s u : State} {f : Nat} {l : List Nat} (h : s.SectionsGone u f l) : gone s u f l := by
    refine ⟨h.queue, h.refill, fun k hk => ⟨h.creel k hk, h.strip k hk, fun c hc => ?_,
      fun b hb hp1 hp2 => ⟨fun hkind => ?_,
      fun hkind hcheck => ?_⟩⟩⟩
    · obtain ⟨hstate, hcreel, hsent, hchange, hback, hloaded⟩ := h.carrier k hk c hc
      exact ⟨hstate, hcreel, hsent, hchange, hback, hloaded, h.unit k hk c hc⟩
    · exact (h.change k hk b hb hp1 hp2 hkind).1
    · exact (h.check k hk b hb hp1 hp2 hkind hcheck).1
  have hcame {v u : State} {f : Nat} {l : List Nat} (h : v.SectionsCame u f l) : came v u f l :=
    ⟨h.queue, fun k hk => ⟨h.strip k hk, h.fed k hk, h.low k hk⟩, h.order⟩
  refine ⟨fun s f n hs hbook hf _ hn hrest => ?_, fun s f hs hf _ hn => ?_,
    fun s f n m hs hbook hf _ hn hm hn24 hm24 => ?_⟩
  · obtain ⟨hframe, hroller, hfeed, hsweep, hcounts, hothers⟩ := frameOut_records (n := n) hs hrest
    refine ⟨hframe, hroller, hfeed, hsweep, hcounts, fun k hlo hhi => State.frameOut_spindle_same hs hrest ⟨hlo, hhi⟩,
      hgone (State.frameOut_gone hs hbook hf hn hrest),
        fun d hd => frameOut_side_effect hs hrest hf (mem_frameSides.mpr hd),
      fun b hb hkind hp1 => State.frameOut_doffNow hbook hb hkind hp1, hothers, fun e he => ?_,
      fun g k hg hgf _ hk => State.frameOut_spindle_other hs hrest hf hg hgf hk, State.frameOut_rogue⟩
    exact State.frameOut_creel_other hrest fun k hk => ne_creelNo_of_not_contains he hk
  · obtain ⟨hframe, hroller, hsweep, hothers, hstands⟩ := frameIn_records hs hn
    refine ⟨hframe, hroller, hsweep, hcame (State.frameIn_came hs hn),
      fun k hlo _ => ⟨fun hin h24 => ?_, fun hout => ?_⟩,
      hothers, fun g k hg hgf _ hk => ?_, hstands⟩
    · refine State.frameIn_spindle_same hs hn h24 (mem_positions.mpr (hin.imp (fun h => ⟨hlo, h⟩) id))
    · refine State.frameIn_spindle_other hs hn fun x hx => spindleKey_ne_of_ne fun he => hout ?_
      rw [he]
      exact (mem_positions.mp hx).imp And.right id
    · refine State.frameIn_spindle_other hs hn fun x hx => spindleKey_ne_frame hf hg hgf ?_ hk
      have hmem := mem_positions.mp hx
      omega
  · intro t leaves comes out new u
    have hleaves {k : Nat} : k ∈ positionsOnlyIn n m ↔ leaves k := mem_positionsOnlyIn hn hm
    have hcomes {k : Nat} : k ∈ positionsOnlyIn m n ↔ comes k := mem_positionsOnlyIn hm hn
    obtain ⟨hsweep, hframes, houtput, hrogue⟩ := frameResized_tables s f n m
    have hside {d : Nat} (hd : d ∈ frameSides f) := frameResized_side hs f n m hd
    refine ⟨fun k _ _ => ?_, fun h => hgone (State.frameResized_gone hs hbook hf hn hm h),
      fun h => hcame (State.frameResized_came hs hn hm h), fun e hout hnew => ?_, fun d hd => ?_, fun g _ => hsweep g,
        hsweep f,
      hframes, congrArg Output.rollers houtput, congrArg Output.counts houtput, fun g k hg hgf _ hk => ?_, hrogue⟩
    · obtain ⟨hgoes, hcome, hstay⟩ := frameResized_spindle (f := f) hs hn hm hn24 hm24 k
      refine ⟨fun hk => ⟨hgoes (hleaves.mpr hk), fun e he hek => ?_⟩, fun hk => hcome (hcomes.mpr hk),
        fun hno hno' => hstay (mt hleaves.mp hno) (mt hcomes.mp hno')⟩
      obtain ⟨_, hlist⟩ := hside (sideOf_mem_frameSides (f := f) (k := k))
      rw [hlist] at he
      exact of_decide_eq_true (List.mem_filter.mp he).2 ⟨by rw [hek]; exact hleaves.mpr hk, by rw [hek]⟩
    · exact State.frameResized_creel_other hs hm (fun k hk => ne_creelNo_of_not_contains hout hk)
        fun k hk => ne_creelNo_of_not_contains hnew hk
    · obtain ⟨hrelist, hlist⟩ := hside (mem_frameSides.mpr hd)
      refine ⟨hrelist, by rw [hlist], ?_⟩
      rw [hlist]
      refine List.filter_congr fun e _ => ?_
      rw [decide_eq_decide, hleaves]
    · have hkeys {a b : Nat} (ha : a ≤ 912) : ∀ x ∈ positionsOnlyIn a b, spindleKey g k ≠ spindleKey f x := fun x hx =>
        spindleKey_ne_frame hf hg hgf (range_of_mem_positionsOnlyIn ha hx).2 hk
      exact (State.frameResized_spindle_other (hkeys hm)).trans (State.frameShrunk_spindle_other (hkeys hn))

end Sys2Proof.Machine
end
